-- ==== Sys2Proof/Word.lean ====
section
/-!
DEFINITION. The words of the Tanuro and their plainest arithmetic: bytes, little-endian packing,
bit fields, and the sparse table in which every indexed part of the state is kept.
-/
namespace Sys2Proof

/-- One byte. -/
abbrev Byte := BitVec 8

/-- A register value. Registers of 32 bits keep their upper half zero. -/
abbrev Word := BitVec 64

/-- A table keyed by number, kept sorted by key, that lists no entry equal to what an unlisted key reads as. -/
abbrev Sparse (α : Type) := List (Nat × α)

/-- The entry at `k`, or `d` when the table does not list `k`. -/
def sget {α : Type} (d : α) : Sparse α → Nat → α
  | [], _ => d
  | (j, v) :: rest, k => if j = k then v else sget d rest k

/-- The table without what it lists at `k`. -/
def serase {α : Type} : Sparse α → Nat → Sparse α
  | [], _ => []
  | (j, v) :: rest, k => if j = k then serase rest k else (j, v) :: serase rest k

/-- The table with `v` listed at `k`, keys still rising. -/
def sinsert {α : Type} : Sparse α → Nat → α → Sparse α
  | [], k, v => [(k, v)]
  | (j, w) :: rest, k, v =>
    if j < k then (j, w) :: sinsert rest k v
    else if j = k then (k, v) :: rest
    else (k, v) :: (j, w) :: rest

/-- The table after `v` is written at `k`, where an unlisted `k` reads as `d`. -/
def sput {α : Type} [DecidableEq α] (d : α) (m : Sparse α) (k : Nat) (v : α) : Sparse α :=
  if v = d then serase m k else sinsert m k v

/-- Every key of the table lies above `n`. -/
def sabove {α : Type} (n : Nat) : Sparse α → Bool
  | [] => true
  | (j, _) :: _ => decide (n < j)

/-- The canonical form: keys strictly rising, and no entry equal to what its key reads as when unlisted. -/
def swf {α : Type} [DecidableEq α] (d : Nat → α) : Sparse α → Bool
  | [] => true
  | (j, v) :: rest => decide (v ≠ d j) && sabove j rest && swf d rest

/-- `n` bytes of `v`, least significant first (every multi-byte layout of the manual is little-endian). -/
def leBytes : Nat → Nat → List Byte
  | 0, _ => []
  | n + 1, v => BitVec.ofNat 8 v :: leBytes n (v / 256)

/-- The number that a list of bytes spells, least significant first. -/
def leNat : List Byte → Nat
  | [] => 0
  | b :: rest => b.toNat + 256 * leNat rest

/-- Bits `[lo + n - 1 : lo]` of a number. -/
def bits (v lo n : Nat) : Nat := v / 2 ^ lo % 2 ^ n

/-- A number of `n` bits read as two's complement. -/
def signed (n v : Nat) : Int := if v % 2 ^ n < 2 ^ (n - 1) then (v % 2 ^ n : Nat) else (v % 2 ^ n : Nat) - (2 ^ n : Nat)

/-- A signed number as `n` bits of two's complement. -/
def unsign (n : Nat) (v : Int) : Nat := (v % (2 ^ n : Nat)).toNat

/-- Round half away from zero the quotient `a / b`, `b > 0` (R61). -/
def divAway (a : Int) (b : Nat) : Int :=
  if a < 0 then -(((2 * (-a) + b) / (2 * b) : Int)) else (2 * a + b) / (2 * b)

/-- Round half to even the quotient `a / b`, `b > 0` (R175, R181). -/
def divEven (a : Int) (b : Nat) : Int :=
  let q := a / (b : Int)
  let r := a - q * b
  if 2 * r < b then q else if (b : Int) < 2 * r then q + 1 else if q % 2 = 0 then q else q + 1

/-- `⌈a / b⌉` of naturals. -/
def ceilDiv (a b : Nat) : Nat := if b = 0 then 0 else (a + b - 1) / b

/-- `v` held within `lo … hi`. -/
def clampInt (lo hi v : Int) : Int := max lo (min hi v)

/-- Drop a tail of a list beyond `n`. -/
def cut {α : Type} (n : Nat) (l : List α) : List α := l.take n

/-- `l` with exactly `n` bytes: cut, or padded with zeros. -/
def padTo (n : Nat) (l : List Byte) : List Byte := l.take n ++ List.replicate (n - l.length) 0

end Sys2Proof
end

