-- ==== Sys2Proof/Syntax.lean ====
section
/-!
DEFINITION. The commands of the Tanuro: one constructor per row of spec/opcode_table.json, with the
operands the row's event carries, and the names of units, pages and packets that the operands use.
-/
namespace Sys2Proof

/-- A physical field die (R23). -/
abbrev Die := Fin 8
/-- A barn die (R23). -/
abbrev Barn := Fin 2
/-- A lane of a sheaf engine (R75). -/
abbrev Lane := Fin 4
/-- A mailbox channel (R351). -/
abbrev Channel := Fin 128
/-- A control port DJC_0 or DJC_1 (R24). -/
abbrev ControlPort := Fin 2
/-- A Dualjo port by its number p (R300): 0–15 fabric, 16 and 17 control. -/
abbrev Port := Fin 18
/-- A context id (R372). -/
abbrev CtxId := Fin 10240
/-- A stream (R361). -/
abbrev StreamId := Fin 4096
/-- A gleaner register g0–g31 (R238). -/
abbrev GReg := Fin 32
/-- A crib byte address (R204). -/
abbrev CribAddr := BitVec 23

/-- An acre by its physical position (R19). -/
structure AcreId where
  die : Die
  acre : Fin 8
  deriving DecidableEq, Repr

/-- A stook by its physical position, spare included (R19). -/
structure StookId where
  die : Die
  acre : Fin 8
  stook : Fin 17
  deriving DecidableEq, Repr

/-- A sheaf engine by its physical position (R17). -/
structure EngineId where
  st : StookId
  eng : Fin 8
  deriving DecidableEq, Repr

/-- A gleaner core by its physical position (R238). -/
structure CoreId where
  st : StookId
  core : Fin 4
  deriving DecidableEq, Repr

/-- Where a register lies: the host register window (R345) or a unit page (R249, R359). -/
inductive Page where
  | window
  | shf (e : EngineId)
  | hrw (st : StookId)
  | stk (st : StookId)
  | acr (a : AcreId)
  deriving DecidableEq, Repr

/-- Who issues a bank operation: a unit acting for a context, or the Badger (R215). -/
inductive Who where
  | unit (ctx : CtxId)
  | badger
  deriving DecidableEq, Repr

/-- A request to one crib bank. `age` and `port` are its waiting time in cycles and its place in the fixed
port priority of R208 (0 = COPY … 7 = the Badger's service port); `rivals` are the age and port of the
other requests to the same bank in the same cycle, empty in scheduled mode. -/
structure BankReq where
  who : Who
  age : Nat
  port : Nat
  rivals : List (Nat × Nat)
  deriving DecidableEq, Repr

/-- What self-test, training and alignment find at a start-up (R496–R498): facts of the hardware that
no register gives beforehand. `refValid` is a valid reference clock (R515). -/
structure StartUp where
  refValid : Bool
  controlUp : Bool × Bool
  stooks : List StookId
  acreUnits : List AcreId
  dies : List Die
  ringLinks : List Die
  acreLinks : List AcreId
  wires : List (Die × Bool × Fin 16)
  gddr : List (Die × Fin 6)
  granary : List (Die × Fin 4)
  elapsedMs : Nat
  deriving DecidableEq, Repr, Inhabited

/-- A unit's fault report, as the Badger receives it (R415): the fault code (R413) and the LOCATION
fields of R440, with the array row that R423 compares and the context and stream it names. -/
structure FaultRep where
  code : Nat
  die : Die
  acre : Fin 8
  stook : Fin 32
  unit : Fin 32
  index : BitVec 8
  row : Nat
  ctx : Option CtxId
  stream : StreamId
  deriving DecidableEq, Repr

/-- A Dualjo frame (R303): control flit, payload flits 1–62, trailer. -/
structure Frame where
  ctl : BitVec 256
  payload : List Byte
  trailer : BitVec 256
  deriving DecidableEq, Repr

/-- A die on the TAP chain (R519). -/
inductive TapDie where
  | barn (b : Barn)
  | field (d : Die)
  deriving DecidableEq, Repr

/-- The commands. -/
inductive Instr where
  /-- HOST_WRITE (R346). A host access WRITE packet arriving on a control port writes window bytes together and is answered with WRITE_ACK. -/
  | hostWrite (port : ControlPort) (tag : BitVec 16) (addr : Nat) (data : List Byte)
  /-- HOST_READ (R346). A host access READ packet arriving on a control port returns READ_DATA from the register window. -/
  | hostRead (port : ControlPort) (tag : BitVec 16) (addr len : Nat)
  /-- CTX_OPEN (R358). Allocates a context slot and its journal area, moving it from FREE to OPEN. -/
  | ctxOpen (n : Channel)
  /-- CTX_CLOSE (R376). Discards a context's launch, saved state, results and patches, unbinds its streams and makes it FREE. -/
  | ctxClose (n : Channel)
  /-- GRAPH_CREATE (R380). Allocates the lowest free graph id with a block count and module count. -/
  | graphCreate (n : Channel)
  /-- GRAPH_LOAD (R380). Copies one staged part of a graph image and, on FINAL, checks it and creates version 1. -/
  | graphLoad (n : Channel)
  /-- GRAPH_PATCH (R358). Submits change items that create a version patch or a live patch of a FOLLOW launch. -/
  | graphPatch (n : Channel)
  /-- GRAPH_RETIRE (R383). Marks a version or every version of a graph RETIRING and reports its users. -/
  | graphRetire (n : Channel)
  /-- LAUNCH (R384). Takes one staged part of a schedule image and, on FINAL, checks, places and loads the launch. -/
  | launch (n : Channel)
  /-- PAUSE (R379). Clears RUN at the next tick or token boundary so that the context becomes PAUSED after the drain. -/
  | pause (n : Channel)
  /-- SAVE (R277). Captures a launch's whole state at a quiet tick boundary as a saved state. -/
  | save (n : Channel)
  /-- RESUME (R279). Resumes a paused or saved launch, or takes one staged part of a saved state and places it. -/
  | resume (n : Channel)
  /-- READ_BEST (R156). Copies the best state of a replica or of the launch best with its header into the staging window. -/
  | readBest (n : Channel)
  /-- STREAM_SUBMIT (R362). Checks and journals an optional stream input and places a first chain entry in a stook's chain unit. -/
  | streamSubmit (n : Channel)
  /-- FENCE_SIGNAL (R368). Adds a value to a fence counter and returns its new value. -/
  | fenceSignal (n : Channel)
  /-- FENCE_WAIT (R363). Places a wait point in a stream so that later entries start only once the fence reaches a value. -/
  | fenceWait (n : Channel)
  /-- GROUP_JOIN (R397). Announces, compares concord words, aligns ticks and runs a joining barrier to form a group. -/
  | groupJoin (n : Channel)
  /-- GROUP_LEAVE (R410). Floods a LEAVE concord item and dissolves the group on every member. -/
  | groupLeave (n : Channel)
  /-- REPLAY_START (R285). Runs a class E replay launch fed from a reference journal and compares its digests. -/
  | replayStart (n : Channel)
  /-- CAPTURE_READ (R358). Copies part of a capture buffer, journal, digest area or other object into the staging window. -/
  | captureRead (n : Channel)
  /-- CFG_WRITE (R506). Writes a configuration record item or firmware image into the non-winning bank of the store. -/
  | cfgWrite (n : Channel)
  /-- MON_READ (R359). Reads bytes of a unit register page at a physical or logical position. -/
  | monRead (n : Channel)
  /-- ENT_READ (R479). Returns expander output blocks to host software, waiting while the source cannot serve. -/
  | entRead (n : Channel)
  /-- CHANNEL_RESET (R370). A write of RESET to MBX_CTRL_n resets LAST, the history and DROPPED after any message in progress. -/
  | channelReset (n : Channel)
  /-- MODULE_RESET (R500). A write of MODULE_RESET with the unlock code restarts the module from step 3 of start-up. -/
  | moduleReset (unlock : BitVec 16) (found : StartUp)
  /-- CLR_RESET_LIMIT (R441). Clears RESET_LIMIT and RESETS_WINDOW. -/
  | clrResetLimit
  /-- CLR_LOG (R441). Empties the fault log and sets OVERWRITTEN to zero, keeping NEXT_SEQ. -/
  | clrLog
  /-- CLR_AVAIL (R441). Sets FLT_AVAIL to zero. -/
  | clrAvail
  /-- CLR_SLACK (R318). Sets every counter of LNK_SLACK_p to zero. -/
  | clrSlack (p : Port)
  /-- CLR_ERR (R318). Sets every counter of LNK_ERR_p to zero. -/
  | clrErr (p : Port)
  /-- CLR_ALL (R467). Clears CUR, MIN, MAX, SAMPLES and the histogram of every monitor point. -/
  | clrAll
  /-- MON_SEL_WRITE (R464). A write to MON_SEL configures a monitor point and clears it when SOURCE or INDEX changes. -/
  | monSelWrite (i : Fin 512) (v : Word)
  /-- PWR_CEILING_WRITE (R463). Sets the module power ceiling, clamped to range, and resets every bucket for the next decision. -/
  | pwrCeilingWrite (v : BitVec 32)
  /-- ACRE_CAP_WRITE (R457). Sets an acre's leave cap, ignored with CAP_REFUSED when below the reservations. -/
  | acreCapWrite (a : AcreId) (v : BitVec 32)
  /-- LNK_CTRL_WRITE (R319). Changes a Dualjo port's enable, schedule, encryption or spare setting at the next frame boundary. -/
  | lnkCtrlWrite (p : Port) (v : BitVec 32)
  /-- ENT_TEST_WRITE (R480). Opens or closes raw-sample or injection test access of the entropy source in TEST lifecycle only. -/
  | entTestWrite (v : BitVec 32)
  /-- REGISTER_WRITE (R13). A write to a register with no row of its own acts by the field access types, taking effect at the next tick when running. -/
  | registerWrite (page : Page) (addr : Nat) (v : Word)
  /-- ADD (R246). Gleaner instruction: rd = ra + rb modulo 2^64. -/
  | add (k : CoreId) (rd ra rb : GReg)
  /-- SUB (R246). Gleaner instruction: rd = ra − rb modulo 2^64. -/
  | sub (k : CoreId) (rd ra rb : GReg)
  /-- AND (R246). Gleaner instruction: bitwise AND of two registers. -/
  | and (k : CoreId) (rd ra rb : GReg)
  /-- OR (R246). Gleaner instruction: bitwise OR of two registers. -/
  | or (k : CoreId) (rd ra rb : GReg)
  /-- XOR (R246). Gleaner instruction: bitwise XOR of two registers. -/
  | xor (k : CoreId) (rd ra rb : GReg)
  /-- SHL (R246). Gleaner instruction: shift left by rb[5:0]. -/
  | shl (k : CoreId) (rd ra rb : GReg)
  /-- SHR (R246). Gleaner instruction: logical shift right by rb[5:0]. -/
  | shr (k : CoreId) (rd ra rb : GReg)
  /-- SAR (R246). Gleaner instruction: arithmetic shift right by rb[5:0]. -/
  | sar (k : CoreId) (rd ra rb : GReg)
  /-- SLT (R246). Gleaner instruction: signed less-than compare. -/
  | slt (k : CoreId) (rd ra rb : GReg)
  /-- SLTU (R246). Gleaner instruction: unsigned less-than compare. -/
  | sltu (k : CoreId) (rd ra rb : GReg)
  /-- MIN (R246). Gleaner instruction: signed minimum. -/
  | min (k : CoreId) (rd ra rb : GReg)
  /-- MAX (R246). Gleaner instruction: signed maximum. -/
  | max (k : CoreId) (rd ra rb : GReg)
  /-- POPC (R246). Gleaner instruction: count of one bits. -/
  | popc (k : CoreId) (rd ra : GReg)
  /-- CLZ (R246). Gleaner instruction: count of leading zeros. -/
  | clz (k : CoreId) (rd ra : GReg)
  /-- MUL (R246). Gleaner instruction: low 64 bits of a product. -/
  | mul (k : CoreId) (rd ra rb : GReg)
  /-- MULH (R246). Gleaner instruction: high 64 bits of a signed product. -/
  | mulh (k : CoreId) (rd ra rb : GReg)
  /-- MULHU (R246). Gleaner instruction: high 64 bits of an unsigned product. -/
  | mulhu (k : CoreId) (rd ra rb : GReg)
  /-- DIV (R247). Gleaner instruction: signed quotient in 34 cycles on the unpipelined divider. -/
  | div (k : CoreId) (rd ra rb : GReg)
  /-- DIVU (R247). Gleaner instruction: unsigned quotient in 34 cycles. -/
  | divu (k : CoreId) (rd ra rb : GReg)
  /-- REM (R247). Gleaner instruction: signed remainder in 34 cycles. -/
  | rem (k : CoreId) (rd ra rb : GReg)
  /-- REMU (R247). Gleaner instruction: unsigned remainder in 34 cycles. -/
  | remu (k : CoreId) (rd ra rb : GReg)
  /-- JR (R246). Gleaner instruction: jump to the instruction index in a register. -/
  | jr (k : CoreId) (ra : GReg)
  /-- CADD16 (R246). Gleaner instruction: crib ADD16 atomic returning the old value. -/
  | cadd16 (k : CoreId) (rd ra rb : GReg)
  /-- CADD32 (R246). Gleaner instruction: crib ADD32 atomic returning the old value. -/
  | cadd32 (k : CoreId) (rd ra rb : GReg)
  /-- CSWAPW (R246). Gleaner instruction: crib SWAP32 atomic returning the old value. -/
  | cswapw (k : CoreId) (rd ra rb : GReg)
  /-- CSWAPD (R246). Gleaner instruction: crib SWAP64 atomic returning the old value. -/
  | cswapd (k : CoreId) (rd ra rb : GReg)
  /-- ADDI (R246). Gleaner instruction: add a signed immediate. -/
  | addi (k : CoreId) (rd ra : GReg) (imm : BitVec 16)
  /-- ANDI (R246). Gleaner instruction: AND with an immediate. -/
  | andi (k : CoreId) (rd ra : GReg) (imm : BitVec 16)
  /-- ORI (R246). Gleaner instruction: OR with an immediate. -/
  | ori (k : CoreId) (rd ra : GReg) (imm : BitVec 16)
  /-- XORI (R246). Gleaner instruction: XOR with an immediate. -/
  | xori (k : CoreId) (rd ra : GReg) (imm : BitVec 16)
  /-- SLTI (R246). Gleaner instruction: signed compare with an immediate. -/
  | slti (k : CoreId) (rd ra : GReg) (imm : BitVec 16)
  /-- SLTIU (R246). Gleaner instruction: unsigned compare with an immediate. -/
  | sltiu (k : CoreId) (rd ra : GReg) (imm : BitVec 16)
  /-- SHLI (R246). Gleaner instruction: shift left by an immediate. -/
  | shli (k : CoreId) (rd ra : GReg) (imm : BitVec 16)
  /-- SHRI (R246). Gleaner instruction: logical shift right by an immediate. -/
  | shri (k : CoreId) (rd ra : GReg) (imm : BitVec 16)
  /-- SARI (R246). Gleaner instruction: arithmetic shift right by an immediate. -/
  | sari (k : CoreId) (rd ra : GReg) (imm : BitVec 16)
  /-- MOVK (R246). Gleaner instruction: writes a 16-bit immediate into one half-word of a register. -/
  | movk (k : CoreId) (rd : GReg) (hw : Fin 4) (imm : BitVec 16)
  /-- LDB (R246). Gleaner instruction: data memory load of 8 bits. -/
  | ldb (k : CoreId) (rd ra : GReg) (off : BitVec 16)
  /-- LDH (R246). Gleaner instruction: data memory load of 16 bits. -/
  | ldh (k : CoreId) (rd ra : GReg) (off : BitVec 16)
  /-- LDW (R246). Gleaner instruction: data memory load of 32 bits. -/
  | ldw (k : CoreId) (rd ra : GReg) (off : BitVec 16)
  /-- LDD (R246). Gleaner instruction: data memory load of 64 bits. -/
  | ldd (k : CoreId) (rd ra : GReg) (off : BitVec 16)
  /-- STB (R246). Gleaner instruction: data memory store of 8 bits. -/
  | stb (k : CoreId) (rd ra : GReg) (off : BitVec 16)
  /-- STH (R246). Gleaner instruction: data memory store of 16 bits. -/
  | sth (k : CoreId) (rd ra : GReg) (off : BitVec 16)
  /-- STW (R246). Gleaner instruction: data memory store of 32 bits. -/
  | stw (k : CoreId) (rd ra : GReg) (off : BitVec 16)
  /-- STD (R246). Gleaner instruction: data memory store of 64 bits. -/
  | std (k : CoreId) (rd ra : GReg) (off : BitVec 16)
  /-- CLDW (R246). Gleaner instruction: crib read of 32 bits checked against the bank owner and booking. -/
  | cldw (k : CoreId) (rd ra : GReg) (off : BitVec 16)
  /-- CLDD (R246). Gleaner instruction: crib read of 64 bits. -/
  | cldd (k : CoreId) (rd ra : GReg) (off : BitVec 16)
  /-- CSTW (R246). Gleaner instruction: crib write of 32 bits. -/
  | cstw (k : CoreId) (rd ra : GReg) (off : BitVec 16)
  /-- CSTD (R246). Gleaner instruction: crib write of 64 bits. -/
  | cstd (k : CoreId) (rd ra : GReg) (off : BitVec 16)
  /-- BEQ (R246). Gleaner instruction: branch when equal. -/
  | beq (k : CoreId) (ra rb : GReg) (off : BitVec 16)
  /-- BNE (R246). Gleaner instruction: branch when not equal. -/
  | bne (k : CoreId) (ra rb : GReg) (off : BitVec 16)
  /-- BLT (R246). Gleaner instruction: branch on signed less-than. -/
  | blt (k : CoreId) (ra rb : GReg) (off : BitVec 16)
  /-- BGE (R246). Gleaner instruction: branch on signed greater-or-equal. -/
  | bge (k : CoreId) (ra rb : GReg) (off : BitVec 16)
  /-- BLTU (R246). Gleaner instruction: branch on unsigned less-than. -/
  | bltu (k : CoreId) (ra rb : GReg) (off : BitVec 16)
  /-- BGEU (R246). Gleaner instruction: branch on unsigned greater-or-equal. -/
  | bgeu (k : CoreId) (ra rb : GReg) (off : BitVec 16)
  /-- J (R246). Gleaner instruction: relative jump. -/
  | j (k : CoreId) (off : BitVec 26)
  /-- JAL (R246). Gleaner instruction: relative jump writing the return index to g31. -/
  | jal (k : CoreId) (off : BitVec 26)
  /-- HALT (R257). Gleaner instruction: ends the GLEAN operation, which completes the next cycle. -/
  | halt (k : CoreId)
  /-- WAITC (R246). Gleaner instruction: holds issue until a given cycle-in-tick. -/
  | waitc (k : CoreId) (ra : GReg)
  /-- WAITT (R246). Gleaner instruction: holds issue until cycle 0 of a given launch tick. -/
  | waitt (k : CoreId) (ra : GReg)
  /-- TICK (R246). Gleaner instruction: reads the launch tick. -/
  | tick (k : CoreId) (rd : GReg)
  /-- CYC (R246). Gleaner instruction: reads the cycle-in-tick. -/
  | cyc (k : CoreId) (rd : GReg)
  /-- CORE (R246). Gleaner instruction: reads the core's logical identity. -/
  | core (k : CoreId) (rd : GReg)
  /-- QRD (R248). Gleaner instruction: reads one queue word into four registers, stalling when no bank is ready. -/
  | qrd (k : CoreId) (rd ra : GReg)
  /-- QWR (R248). Gleaner instruction: writes four registers as a queue word with tag bits, stalling when no bank is filling. -/
  | qwr (k : CoreId) (rd ra rb : GReg)
  /-- QCLOSE (R246). Gleaner instruction: writes a close word to a queue. -/
  | qclose (k : CoreId) (ra : GReg)
  /-- QPKT (R246). Gleaner instruction: reads PACKETS of a queue. -/
  | qpkt (k : CoreId) (rd ra : GReg)
  /-- QTAG (R246). Gleaner instruction: reads the tag of the last QRD. -/
  | qtag (k : CoreId) (rd : GReg)
  /-- RRD (R249). Gleaner instruction: reads a register of a stook page. -/
  | rrd (k : CoreId) (rd ra : GReg)
  /-- RWR (R249). Gleaner instruction: writes a register of a stook page under that register's rules. -/
  | rwr (k : CoreId) (ra rb : GReg)
  /-- OWN (R250). Gleaner instruction: issues an owner write for a bank of its acre, stalling when the result queue is full. -/
  | own (k : CoreId) (ra rb : GReg)
  /-- OWNR (R250). Gleaner instruction: pops the oldest owner write result. -/
  | ownr (k : CoreId) (rd : GReg)
  /-- CHAIN (R251). Gleaner instruction: hands a chain entry to the stook's chain unit, stalling when it is full. -/
  | chain (k : CoreId) (ra : GReg)
  /-- FSIG (R246). Gleaner instruction: adds 1 to a fence. -/
  | fsig (k : CoreId) (ra : GReg)
  /-- WALL (R252). V gleaner instruction: reads the module tick count in 64 cycles, journalled when declared in class E. -/
  | wall (k : CoreId) (d : Bool) (rd : GReg)
  /-- FRD (R252). V gleaner instruction: reads a fence value. -/
  | frd (k : CoreId) (d : Bool) (rd ra : GReg)
  /-- TEMP (R252). V gleaner instruction: reads the die temperature. -/
  | temp (k : CoreId) (d : Bool) (rd : GReg)
  /-- LSTAT (R252). V gleaner instruction: reads a Dualjo link status word. -/
  | lstat (k : CoreId) (d : Bool) (rd ra : GReg)
  /-- MON (R252). V gleaner instruction: reads a monitor point of its die. -/
  | mon (k : CoreId) (d : Bool) (rd ra : GReg)
  /-- ENT (R252). V gleaner instruction: reads one block from the software entropy port with a status. -/
  | ent (k : CoreId) (d : Bool) (rd rb : GReg)
  /-- CORE_STALL_RELEASE (R241). A core held by a queue, chain, owner, divider or wait condition resumes issue when it clears. -/
  | coreStallRelease (k : CoreId)
  /-- GLEAN_START (R256). A GLEAN operation loads g1–g7 from its program descriptor and issues from ENTRY. -/
  | gleanStart (k : CoreId) (desc : CribAddr)
  /-- CRIB_READ (R205). A bank read of up to 512 bytes of one row, checked against the owner, returns data at c + 4. -/
  | cribRead (q : BankReq) (st : StookId) (addr : CribAddr) (len : Nat)
  /-- CRIB_WRITE (R205). A byte-masked bank write within one row, checked against the owner. -/
  | cribWrite (q : BankReq) (st : StookId) (addr : CribAddr) (data : List (Option Byte))
  /-- SCATTER_WRITE (R212). The exchange unit writes up to 32 slots of delta records into its delta bank. -/
  | scatterWrite (e : EngineId)
  /-- ADD16 (R206). Bank atomic add of a signed 16-bit operand returning the old value. -/
  | add16 (q : BankReq) (st : StookId) (addr : CribAddr) (v : BitVec 16)
  /-- ADD32 (R206). Bank atomic add of a signed 32-bit operand returning the old value. -/
  | add32 (q : BankReq) (st : StookId) (addr : CribAddr) (v : BitVec 32)
  /-- SWAP32 (R206). Bank atomic swap of a 32-bit word returning the old value. -/
  | swap32 (q : BankReq) (st : StookId) (addr : CribAddr) (v : BitVec 32)
  /-- SWAP64 (R206). Bank atomic swap of a 64-bit word returning the old value. -/
  | swap64 (q : BankReq) (st : StookId) (addr : CribAddr) (v : Word)
  /-- OWNER_WRITE_APPLY (R218). At cycle 0 after its owner frame an owner write changes the bank owner if FROM matches, or sets NOT_OWNER. -/
  | ownerWriteApply (a : AcreId)
  /-- OWNER_RESULT_DELIVERY (R218). The result of an owner write reaches its issuer and the Badger at cycle 32 of the applying tick. -/
  | ownerResultDelivery (a : AcreId)
  /-- QUEUE_BANK_RELEASE (R223). A drained queue bank returns to FILLING 2 cycles after its last word is read. -/
  | queueBankRelease (st : StookId) (q : Fin 32) (b : Fin 2)
  /-- QUEUE_CONSUMER_RESUME (R225). A consumer stalled on a queue receives the first word 2 cycles after the bank becomes READY. -/
  | queueConsumerResume (st : StookId) (q : Fin 32)
  /-- QUEUE_PRODUCER_RESUME (R225). A producer stalled on a full queue resumes when a bank returns to FILLING. -/
  | queueProducerResume (st : StookId) (q : Fin 32)
  /-- CHAIN_ENTRY_ARRIVAL (R233). A chain entry reaches a stook's chain unit after its handoff time, or is held while the unit is full. -/
  | chainEntryArrival (st : StookId) (addr : CribAddr)
  /-- CHAIN_ENTRY_START (R234). A chain entry starts its station operation at arrival, when its unit frees, at its timed start or once its fence is reached. -/
  | chainEntryStart (st : StookId) (addr : CribAddr)
  /-- CHAIN_ENTRY_COMPLETE (R235). On completion an entry signals its fence, writes its completion word and hands off its next entry. -/
  | chainEntryComplete (st : StookId) (addr : CribAddr)
  /-- COPY (R231). A COPY station operation moves rows between memories at its route latency and width. -/
  | copy (st : StookId) (desc : CribAddr)
  /-- LANE_START (R202). A SHEAF operation starts lanes of an engine after obtaining leave. -/
  | laneStart (e : EngineId) (mask : BitVec 4)
  /-- LANE_STOP (R202). A SHEAF operation stops lanes and releases their open leave grant. -/
  | laneStop (e : EngineId) (mask : BitVec 4)
  /-- STATE_LOAD (R202). A SHEAF operation loads lane state into an engine. -/
  | stateLoad (e : EngineId) (mask : BitVec 4)
  /-- STATE_CAPTURE (R202). A SHEAF operation captures lane state from an engine. -/
  | stateCapture (e : EngineId) (mask : BitVec 4)
  /-- GEMM (R185). A HARROW kernel with stationary weights computes block-scaled products through the output pipeline. -/
  | gemm (st : StookId) (desc : CribAddr)
  /-- GEMV (R185). A HARROW kernel with streamed weights computes a vector product through the output pipeline. -/
  | gemv (st : StookId) (desc : CribAddr)
  /-- TOKEN_STEP (R193). A generator runs its layers, samples a move token and updates its state at each step start. -/
  | tokenStep (st : StookId) (layers : List (StookId × CribAddr)) (logits : CribAddr) (stateFrom stateTo : CribAddr) (stateLen : Nat)
  /-- GENERATOR_RESTART (R196). A booked restart resets the generator's counters, grammar state and state area at a token boundary. -/
  | generatorRestart (st : StookId) (stateFrom stateTo : CribAddr) (stateLen : Nat)
  /-- GENERATOR_INPUT_COPY (R194). In cycles 100–379 of each tick the snapshot spins of target lanes are copied into the generator input area. -/
  | generatorInputCopy (st : StookId) (buf : CribAddr)
  /-- PROPOSAL_RECORD_ARRIVAL (R93). A proposal record reaching a lane's incoming slot is refused or priced through the narrow port. -/
  | proposalRecordArrival (e : EngineId) (l : Lane) (rec : BitVec 192)
  /-- PROPOSAL_PENDING (R94). A priced record becomes pending at the lane's first decision at least 32 cycles after arrival. -/
  | proposalPending (e : EngineId) (l : Lane)
  /-- COEFFICIENT_PATCH_HANDOVER (R199). At the booked hand-over tick the Badger converts a coefficient area into change items of a patch. -/
  | coefficientPatchHandover (c : CtxId) (area count : Nat) (apply : Int)
  /-- DECISION (R106). At each cycle an engine evaluates and keys all candidates of one lane and takes the winner. -/
  | decision (e : EngineId)
  /-- LINK_WALKER_READ (R104). The link walker reads queued link entries four per cycle and writes delta records into the lane's tiles. -/
  | linkWalkerRead (e : EngineId)
  /-- TICK_BOUNDARY (R136). At each tick boundary T advances and engines compute base, take staged writes and keys, swap undo logs and snapshot lanes. -/
  | tickBoundary
  /-- TICK_WORD (R137). The tick word with the next T and fallow mask arrives at every stook at cycle 1,008. -/
  | tickWord (w : BitVec 96)
  /-- DELTA_TILE_ARRIVAL (R118). Rows of a delta tile arrive and are staged and matched against the flip journal. -/
  | deltaTileArrival (e : EngineId) (slots : List Word)
  /-- TILE_LATE_HOLD (R120). A tile missing at cycle 47 halts the launch's engines at cycle 48 for whole ticks. -/
  | tileLateHold (c : CtxId)
  /-- ROLLBACK_NOTICE_ARRIVAL (R129). A rollback notice arrives in cycles 48–59 and gives the snapshot pair terms. -/
  | rollbackNoticeArrival (e : EngineId) (rank : Fin 64) (block : Fin 8192) (words : List (BitVec 16))
  /-- VOTE_CAST (R132). In cycles 16–23 every engine votes on a patch or switch taking effect in the tick. -/
  | voteCast (e : EngineId)
  /-- VOTE_RESULT (R291). The combined vote result reaches every engine in cycles 56–63. -/
  | voteResult (c : CtxId)
  /-- RESOLUTION_POINT (R119). At the end of cycle 63 + L a lane applies records, corrections, rollbacks and patch items and resolves its snapshot. -/
  | resolutionPoint (e : EngineId) (l : Lane)
  /-- PATCH_OVERLAY_WRITEBACK (R132). In cycles 67–98 the overlay writes its codes into the sheaf store and clears at cycle 99. -/
  | patchOverlayWriteback (e : EngineId)
  /-- CONTEXT_SWITCH (R134). An engine clears RUN at a booked tick, drains two ticks, votes and switches launch at the end of the second. -/
  | contextSwitch (c : CtxId)
  /-- REDUCTION_TICK (R148). Snapshot energies are summed per replica up to the root, which decides exchanges and captures. -/
  | reductionTick (c : CtxId)
  /-- VERDICT_ARRIVAL (R148). Reduction verdicts reach the engines, which capture best states and stage ladder writes at cycle 1,000. -/
  | verdictArrival (c : CtxId)
  /-- VERDICT_LATE_HOLD (R149). A launch whose verdicts have not arrived by cycle 1,000 holds there. -/
  | verdictLateHold (c : CtxId)
  /-- BEST_CAPTURE (R103). A best-capture command copies a lane's snapshot into its best state. -/
  | bestCapture (e : EngineId) (l : Lane)
  /-- AUDIT (R160). At an audit tick TALLY copies snapshot spins and recomputes quantised and exact energies. -/
  | audit (c : CtxId)
  /-- AUDIT_RECORD_EMIT (R162). The audit record of tick u is written at logical tick u + S, or the launch holds until it is complete. -/
  | auditRecordEmit (c : CtxId)
  /-- STATISTICS_SAMPLE (R164). At a sample tick TALLY copies snapshot spins and issues atomic adds to its counters. -/
  | statisticsSample (a : AcreId)
  /-- STREAM_INPUT_APPLY (R268). At cycle 0 of the input apply tick the Badger writes the input into the launch's input area. -/
  | streamInputApply (c : CtxId)
  /-- LAUNCH_START (R373). At wall tick T0 a LOADED context becomes RUNNING, or HELD without its first key. -/
  | launchStart (c : CtxId)
  /-- LAUNCH_END (R375). After the last launch tick the best states and results are copied out and the context becomes OPEN. -/
  | launchEnd (c : CtxId)
  /-- CHECKPOINT (R338). At launch tick 256n a launch drains and writes its state into the checkpoint pool. -/
  | checkpoint (c : CtxId)
  /-- CHECKPOINT_COMPLETE (R340). A generation becomes COMPLETE when its last capture transfer lands. -/
  | checkpointComplete (c : CtxId) (d : Die)
  /-- MIRROR_SEND (R341). The newest unsent COMPLETE generation is sent to the eastward die's mirror pool. -/
  | mirrorSend (d : Die)
  /-- MIRROR_COMPLETE (R341). When the last mirror byte lands both directory records become MIRRORED. -/
  | mirrorComplete (d : Die)
  /-- DIGEST_WRITE (R284). At cycle 1,000 of a digest tick the Badger writes the digest block and a DIGEST record. -/
  | digestWrite (c : CtxId)
  /-- WATCHDOG_EXPIRY (R364). A stream watchdog expiry ends the stream with WATCHDOG or enters the hang path. -/
  | watchdogExpiry (x : StreamId)
  /-- FAULT_REPORT (R415). A unit fault report reaches the Badger, which fixes its code and action and logs it. -/
  | faultReport (r : FaultRep)
  /-- RECOVERY (R417). A concerned launch stops, remaps, restores a checkpoint generation and replays to the fault point. -/
  | recovery (c : CtxId) (cause : FaultRep)
  /-- GRANARY_DIE_LOSS (R327). A lost granary port is marked, its segments remapped and affected launches recovered. -/
  | granaryDieLoss (d : Die) (p : Fin 4)
  /-- GDDR_DEVICE_LOSS (R336). A device is marked LOST and its members are rebuilt on read and left out on write. -/
  | gddrDeviceLoss (d : Die) (p : Fin 6)
  /-- POISONED_ROW_REWRITE (R426). A poisoned row in a KEEP area is rewritten from its mirror in the next refresh window. -/
  | poisonedRowRewrite (d : Die) (row : Nat) (mirror : List Byte)
  /-- LINK_REROUTE (R295). A lost acre or ring link's traffic takes the other path under new slot tables. -/
  | linkReroute (d : Die) (acre : Option (Fin 8))
  /-- WIRE_REPAIR (R295). A faulty die-to-die wire is replaced by a spare at the next tick boundary. -/
  | wireRepair (d : Die) (west : Bool) (g : Fin 16)
  /-- FIELD_DIE_LOSS (R427). A lost field die is isolated and its logical fields folded onto others from mirrored generations. -/
  | fieldDieLoss (d : Die)
  /-- FOLD_FRAME (R273). Each logical tick of a folded launch runs as a 75-wall-tick frame with verdict, slots and swap. -/
  | foldFrame (c : CtxId)
  /-- PSC_LOSS (R429). A lost power stage controller takes down its dies and faults the contexts on them. -/
  | pscLoss (c : Fin 2)
  /-- BARN_BOTH_LOSS (R429). With both barn dies lost the module stops taking work. -/
  | barnBothLoss
  /-- BADGER_TAKEOVER (R432). The standby Badger drives the tick, finishes pending messages and recovers running launches. -/
  | badgerTakeover
  /-- HEARTBEAT_TIMEOUT (R431). A missing heartbeat for 16 ticks or a tick count disagreement triggers takeover or standby retirement. -/
  | heartbeatTimeout (standbyDiffers : Bool)
  /-- COMMIT_RECORD (R430). The standby applies a mailbox journal commit record to its copy of module state. -/
  | commitRecord (n : Channel)
  /-- FRAME_SEND (R303). A port sends the next Dualjo frame with control flit, payload and trailer. -/
  | frameSend (p : Port)
  /-- FRAME_RECEIVE (R307). A received frame is checked, accepted in sequence or dropped, and its contents acted on. -/
  | frameReceive (p : Port) (f : Frame)
  /-- LINK_RESET (R308). An unacknowledged frame leaving the replay buffer resets the link and resends after retraining. -/
  | linkReset (p : Port)
  /-- LANE_FAILURE (R302). A failed data lane is replaced by the spare, or a second failure takes the port down. -/
  | laneFailure (p : Port) (lane : Fin 8)
  /-- FRAME_DEADLINE_MISS (R311). A booked frame that misses its deadline makes the receiver flood a group stall. -/
  | frameDeadlineMiss (p : Port) (c : CtxId) (item : BitVec 240)
  /-- REFERENCE_LOSS (R446). The reference missing for more than 10 pilot cycles sets REF_LOST and PLLs hold frequency. -/
  | referenceLoss
  /-- BARRIER_ARRIVE (R403). A barrier ARRIVE item travels up the tree carrying skew and checkpoint ticks. -/
  | barrierArrive (p : Port) (body : BitVec 240)
  /-- BARRIER_RELEASE (R403). A RELEASE item names the start G and cycle at which every member acts. -/
  | barrierRelease (p : Port) (body : BitVec 240)
  /-- TICK_ALIGNMENT (R400). A child measures an alignment item and adjusts its offset and tick boundary. -/
  | tickAlignment (p : Port) (body : BitVec 240) (arrival : Nat)
  /-- TRIM_TICK (R402). At a trim tick each member removes or adds cycles to cancel its offset. -/
  | trimTick
  /-- REDUCTION_ITEM (R406). Module reduction sums and group totals travel as control items. -/
  | reductionItem (p : Port) (body : BitVec 240)
  /-- VOTE_ITEM (R407). Member patch and switch votes go up the tree and the combined result comes down. -/
  | voteItem (p : Port) (body : BitVec 240)
  /-- CONCORD_ANNOUNCE (R397). An ANNOUNCE concord item is recorded and forwarded on every other group port. -/
  | concordAnnounce (p : Port) (body : BitVec 240)
  /-- CONCORD_READY (R397). A READY concord item records a member's agreement to join. -/
  | concordReady (p : Port) (body : BitVec 240)
  /-- CONCORD_REFUSE (R397). A REFUSE concord item makes the receiving member refuse the join. -/
  | concordRefuse (p : Port) (body : BitVec 240)
  /-- CONCORD_CHECK (R405). A CHECK concord item carries a member's version hash and context state at launch FINAL. -/
  | concordCheck (p : Port) (body : BitVec 240)
  /-- CONCORD_LEAVE (R410). A LEAVE concord item dissolves the group. -/
  | concordLeave (p : Port) (body : BitVec 240)
  /-- JOIN_TIMEOUT (R397). A member whose table is incomplete 2^20 ticks after GROUP_JOIN refuses with ABSENT. -/
  | joinTimeout
  /-- GROUP_STALL (R408). A group stall item makes every member hold at the named hold point until released. -/
  | groupStall (p : Port) (body : BitVec 240)
  /-- GROUP_STALL_TIMEOUT (R408). A group stall lasting 2^20 ticks faults the group. -/
  | groupStallTimeout
  /-- MEMBER_LOST (R411). No frame from a member for 2^10 ticks faults group launches on survivors. -/
  | memberLost (rank : Fin 64)
  /-- HELLO (R487). Session set-up message from the initiator with its ephemeral point and nonce. -/
  | hello (p : Port) (body : List Byte)
  /-- REPLY (R487). Session set-up message from the responder with its point, certificate and signature. -/
  | reply (p : Port) (body : List Byte)
  /-- FINISH (R487). Session set-up message from the initiator with its signature over TH2. -/
  | finish (p : Port) (body : List Byte)
  /-- CONFIRM (R487). Session set-up message giving the first encrypted SEQ in each direction. -/
  | confirm (p : Port) (body : List Byte)
  /-- SETUP_TIMEOUT (R487). A set-up not finished within 2^20 ticks of HELLO is abandoned. -/
  | setupTimeout (p : Port)
  /-- SESSION_END (R489). A session ends when EPOCH would pass 255, its port goes down or at reset. -/
  | sessionEnd (p : Port)
  /-- ENTROPY_STARTUP (R471). The source runs its start-up test, gathers two seeds and instantiates the expander. -/
  | entropyStartup (b : Barn)
  /-- HEALTH_TEST_FAILURE (R472). A health test failure erases the expander and pool and restarts or latches the source. -/
  | healthTestFailure (b : Barn) (rct : Bool)
  /-- SEED_CONDITIONED (R470). 1,024 tested samples are conditioned by SHA-384 into one seed in the pool. -/
  | seedConditioned (b : Barn) (samples : BitVec 1024)
  /-- RESEED (R474). The expander reseeds from the pool when BLOCKS reaches its threshold and a seed is held. -/
  | reseed (b : Barn)
  /-- FIELD_NOISE_KEY_COMMIT (R477). An acre commits its delivered key at cycle 1,008 for the next wall tick. -/
  | fieldNoiseKeyCommit (a : AcreId)
  /-- POWER_MANAGER_DECISION (R459). At cycle 960 the buckets are updated and the fallow mask for the next tick is set. -/
  | powerManagerDecision (temps : List Int)
  /-- ENERGY_REPORT (R458). The power stage controllers report the previous tick's energies at cycle 900. -/
  | energyReport (dies : List Nat) (input vin iin : Nat)
  /-- THERMAL_TRIP (R460). A die at T_TRIP is isolated with DIE_FATAL and treated as lost. -/
  | thermalTrip (d : Die)
  /-- LEAVE_REQUEST (R456). A unit's leave request is granted at once if booked or fitting, or queued. -/
  | leaveRequest (a : AcreId) (item : Word)
  /-- LEAVE_RELEASE (R452). A release removes an open grant from the ledger. -/
  | leaveRelease (a : AcreId) (item : Word)
  /-- LEAVE_GRANT (R454). A grant reaches the unit, which starts its operation. -/
  | leaveGrant (a : AcreId) (item : Word)
  /-- QUEUED_LEAVE_GRANT (R456). The head of the acre's leave queue is granted once it fits. -/
  | queuedLeaveGrant (a : AcreId)
  /-- TIMED_GRANT_EXPIRY (R452). A timed grant leaves the ledger at its grant cycle plus its duration. -/
  | timedGrantExpiry (a : AcreId)
  /-- ACRE_WAKE (R449). An acre wakes over 6 wall ticks for booked or unbooked work. -/
  | acreWake (a : AcreId)
  /-- ACRE_AWAKE (R449). At the end of the sixth wake tick the acre reads AWAKE. -/
  | acreAwake (a : AcreId)
  /-- POWER_UP (R495). Once the input has stayed at or above 48 V for 1 ms the module runs its start-up steps. -/
  | powerUp (found : StartUp)
  /-- REFERENCE_VALID (R515). Start-up passes step 2 once a valid reference has been present for 1 ms. -/
  | referenceValid
  /-- UNDER_VOLTAGE_TRIP (R512). Input below the under-voltage trip for more than 10 ms brings every rail down. -/
  | underVoltageTrip
  /-- OVER_VOLTAGE_TRIP (R512). Input above the over-voltage trip brings every rail down within 50 µs. -/
  | overVoltageTrip
  /-- TEST_EN_N_CHANGE (R520). A change of TEST_EN_N takes effect through a module reset and frees or holds the TAPs. -/
  | testEnNChange (high : Bool) (found : StartUp)
  /-- BYPASS (R519). TAP instruction BYPASS. -/
  | bypass (tdi : Bool) (t : TapDie)
  /-- IDCODE (R519). TAP instruction IDCODE returns the die's identification code. -/
  | idcode (t : TapDie)
  /-- SAMPLE_PRELOAD (R519). TAP instruction SAMPLE/PRELOAD. -/
  | samplePreload (t : TapDie)
  /-- EXTEST (R519). TAP instruction EXTEST. -/
  | extest (t : TapDie)
  /-- I2C_READ (R517). An I2C read of 4 or 8 bytes of a reachable register. -/
  | i2cRead (addr : BitVec 24) (len : Nat)
  /-- I2C_WRITE (R517). An I2C write of 4 bytes to CFG_CTRL. -/
  | i2cWrite (addr : BitVec 24) (v : BitVec 32)
  /-- RECORD_WRITE_COMPLETE (R506). A configuration record or image write finishes with CRC and read-back and becomes the winner. -/
  | recordWriteComplete
  /-- LINK_TRAINING_COMPLETE (R309). A Dualjo port ends link training, measures its one-way delay into LNK_DELAY_p and its peer, and goes from TRAINING to UP, or refuses to train when the delay exceeds 512 cycles. -/
  | linkTrainingComplete (p : Port) (delay : Nat) (peerPort : Fin 18) (peerRank : Fin 64)  deriving DecidableEq, Repr

end Sys2Proof
end

