-- ==== Sys2Proof/Decode.lean ====
section
/-!
DEFINITION. The words of the opcode table. The table gives its rows no bits: the commands of this block arrive as events, not as
words. The one encoding that the manual gives, that of a gleaner instruction, stands in Machine/GleanCode.lean.
-/
namespace Sys2Proof

/-- The command that a word of the opcode table spells: none, since no row has bits. -/
def decodeTableWord (_nbits _w : Nat) : Option Instr := none

end Sys2Proof
end

