-- ==== Sys2Proof/Machine/GleanCode.lean ====
section
/-!
DEFINITION. The 32-bit words of the gleaner instructions (R245, R246): the decoder, which answers none for every reserved OP, FN and SUB
value, and the encoder. Fields that a form does not use are not looked at, and are written as zero.
-/
namespace Sys2Proof

/-- Register field of a word. -/
def gReg (w lo : Nat) : GReg := Fin.ofNat 32 (bits w lo 5)

/-- Class R (R245): OP 0x00, 0x01, 0x1C–0x1F and 0x28, told apart by FN. -/
def decodeR (k : CoreId) (w : Nat) : Option Instr :=
  let rd := gReg w 21
  let ra := gReg w 16
  let rb := gReg w 11
  match bits w 26 6, bits w 0 11 with
  | 0, 0 => some (.add k rd ra rb)
  | 0, 1 => some (.sub k rd ra rb)
  | 0, 2 => some (.and k rd ra rb)
  | 0, 3 => some (.or k rd ra rb)
  | 0, 4 => some (.xor k rd ra rb)
  | 0, 5 => some (.shl k rd ra rb)
  | 0, 6 => some (.shr k rd ra rb)
  | 0, 7 => some (.sar k rd ra rb)
  | 0, 8 => some (.slt k rd ra rb)
  | 0, 9 => some (.sltu k rd ra rb)
  | 0, 10 => some (.min k rd ra rb)
  | 0, 11 => some (.max k rd ra rb)
  | 0, 12 => some (.popc k rd ra)
  | 0, 13 => some (.clz k rd ra)
  | 1, 0 => some (.mul k rd ra rb)
  | 1, 1 => some (.mulh k rd ra rb)
  | 1, 2 => some (.mulhu k rd ra rb)
  | 1, 3 => some (.div k rd ra rb)
  | 1, 4 => some (.divu k rd ra rb)
  | 1, 5 => some (.rem k rd ra rb)
  | 1, 6 => some (.remu k rd ra rb)
  | 40, 0 => some (.jr k ra)
  | 28, 0 => some (.cadd16 k rd ra rb)
  | 29, 0 => some (.cadd32 k rd ra rb)
  | 30, 0 => some (.cswapw k rd ra rb)
  | 31, 0 => some (.cswapd k rd ra rb)
  | _, _ => none

/-- Class S (R245): SUB in bits [10:0]; bit [10] of a V instruction is D. -/
def decodeS (k : CoreId) (w : Nat) : Option Instr :=
  let rd := gReg w 21
  let ra := gReg w 16
  let rb := gReg w 11
  match bits w 0 11 with
  | 0 => some (.halt k)
  | 1 => some (.waitc k ra)
  | 2 => some (.waitt k ra)
  | 3 => some (.tick k rd)
  | 4 => some (.cyc k rd)
  | 5 => some (.core k rd)
  | 8 => some (.qrd k rd ra)
  | 9 => some (.qwr k rd ra rb)
  | 10 => some (.qclose k ra)
  | 11 => some (.qpkt k rd ra)
  | 12 => some (.qtag k rd)
  | 16 => some (.rrd k rd ra)
  | 17 => some (.rwr k ra rb)
  | 18 => some (.own k ra rb)
  | 19 => some (.ownr k rd)
  | 20 => some (.chain k ra)
  | 21 => some (.fsig k ra)
  | 64 => some (.wall k false rd)
  | 1088 => some (.wall k true rd)
  | 65 => some (.frd k false rd ra)
  | 1089 => some (.frd k true rd ra)
  | 66 => some (.temp k false rd)
  | 1090 => some (.temp k true rd)
  | 67 => some (.lstat k false rd ra)
  | 1091 => some (.lstat k true rd ra)
  | 68 => some (.mon k false rd ra)
  | 1092 => some (.mon k true rd ra)
  | 69 => some (.ent k false rd rb)
  | 1093 => some (.ent k true rd rb)
  | _ => none

/-- The instruction that a word spells on a core (R245, R246); none for a reserved word. -/
def gleanDecode (k : CoreId) (v : BitVec 32) : Option Instr :=
  let w := v.toNat
  let rd := gReg w 21
  let ra := gReg w 16
  let imm := BitVec.ofNat 16 (bits w 0 16)
  let off := BitVec.ofNat 26 (bits w 0 26)
  match bits w 26 6 with
  | 2 => some (.addi k rd ra imm)
  | 3 => some (.andi k rd ra imm)
  | 4 => some (.ori k rd ra imm)
  | 5 => some (.xori k rd ra imm)
  | 6 => some (.slti k rd ra imm)
  | 7 => some (.sltiu k rd ra imm)
  | 8 => some (.shli k rd ra imm)
  | 9 => some (.shri k rd ra imm)
  | 10 => some (.sari k rd ra imm)
  | 11 => some (.movk k rd (Fin.ofNat 4 (bits w 19 2)) imm)
  | 16 => some (.ldb k rd ra imm)
  | 17 => some (.ldh k rd ra imm)
  | 18 => some (.ldw k rd ra imm)
  | 19 => some (.ldd k rd ra imm)
  | 20 => some (.stb k rd ra imm)
  | 21 => some (.sth k rd ra imm)
  | 22 => some (.stw k rd ra imm)
  | 23 => some (.std k rd ra imm)
  | 24 => some (.cldw k rd ra imm)
  | 25 => some (.cldd k rd ra imm)
  | 26 => some (.cstw k rd ra imm)
  | 27 => some (.cstd k rd ra imm)
  | 32 => some (.beq k rd ra imm)
  | 33 => some (.bne k rd ra imm)
  | 34 => some (.blt k rd ra imm)
  | 35 => some (.bge k rd ra imm)
  | 36 => some (.bltu k rd ra imm)
  | 37 => some (.bgeu k rd ra imm)
  | 38 => some (.j k off)
  | 39 => some (.jal k off)
  | 48 => decodeS k w
  | _ => decodeR k w

/-- A word of class R or S: OP, three registers, FN or SUB. -/
def wordR (op rd ra rb fn : Nat) : BitVec 32 := BitVec.ofNat 32 (op * 2 ^ 26 + rd * 2 ^ 21 + ra * 2 ^ 16 + rb * 2 ^ 11 + fn)

/-- A word of class I, M, U or B: OP, two five-bit fields, a 16-bit immediate. -/
def wordI (op x y : Nat) (imm : BitVec 16) : BitVec 32 := BitVec.ofNat 32 (op * 2 ^ 26 + x * 2 ^ 21 + y * 2 ^ 16 + imm.toNat)

/-- A word of class J. -/
def wordJ (op : Nat) (off : BitVec 26) : BitVec 32 := BitVec.ofNat 32 (op * 2 ^ 26 + off.toNat)

/-- SUB of a V instruction with its declared bit. -/
def subV (sub : Nat) (d : Bool) : Nat := if d then sub + 1024 else sub

/-- The core of a gleaner instruction and its word (R245, R246); none for a command that is no gleaner instruction. -/
def gleanEncode : Instr → Option (CoreId × BitVec 32)
  | .add k rd ra rb => some (k, wordR 0 rd ra rb 0)
  | .sub k rd ra rb => some (k, wordR 0 rd ra rb 1)
  | .and k rd ra rb => some (k, wordR 0 rd ra rb 2)
  | .or k rd ra rb => some (k, wordR 0 rd ra rb 3)
  | .xor k rd ra rb => some (k, wordR 0 rd ra rb 4)
  | .shl k rd ra rb => some (k, wordR 0 rd ra rb 5)
  | .shr k rd ra rb => some (k, wordR 0 rd ra rb 6)
  | .sar k rd ra rb => some (k, wordR 0 rd ra rb 7)
  | .slt k rd ra rb => some (k, wordR 0 rd ra rb 8)
  | .sltu k rd ra rb => some (k, wordR 0 rd ra rb 9)
  | .min k rd ra rb => some (k, wordR 0 rd ra rb 10)
  | .max k rd ra rb => some (k, wordR 0 rd ra rb 11)
  | .popc k rd ra => some (k, wordR 0 rd ra 0 12)
  | .clz k rd ra => some (k, wordR 0 rd ra 0 13)
  | .mul k rd ra rb => some (k, wordR 1 rd ra rb 0)
  | .mulh k rd ra rb => some (k, wordR 1 rd ra rb 1)
  | .mulhu k rd ra rb => some (k, wordR 1 rd ra rb 2)
  | .div k rd ra rb => some (k, wordR 1 rd ra rb 3)
  | .divu k rd ra rb => some (k, wordR 1 rd ra rb 4)
  | .rem k rd ra rb => some (k, wordR 1 rd ra rb 5)
  | .remu k rd ra rb => some (k, wordR 1 rd ra rb 6)
  | .jr k ra => some (k, wordR 40 0 ra 0 0)
  | .cadd16 k rd ra rb => some (k, wordR 28 rd ra rb 0)
  | .cadd32 k rd ra rb => some (k, wordR 29 rd ra rb 0)
  | .cswapw k rd ra rb => some (k, wordR 30 rd ra rb 0)
  | .cswapd k rd ra rb => some (k, wordR 31 rd ra rb 0)
  | .addi k rd ra imm => some (k, wordI 2 rd ra imm)
  | .andi k rd ra imm => some (k, wordI 3 rd ra imm)
  | .ori k rd ra imm => some (k, wordI 4 rd ra imm)
  | .xori k rd ra imm => some (k, wordI 5 rd ra imm)
  | .slti k rd ra imm => some (k, wordI 6 rd ra imm)
  | .sltiu k rd ra imm => some (k, wordI 7 rd ra imm)
  | .shli k rd ra imm => some (k, wordI 8 rd ra imm)
  | .shri k rd ra imm => some (k, wordI 9 rd ra imm)
  | .sari k rd ra imm => some (k, wordI 10 rd ra imm)
  | .movk k rd hw imm => some (k, wordI 11 rd (8 * hw) imm)
  | .ldb k rd ra off => some (k, wordI 16 rd ra off)
  | .ldh k rd ra off => some (k, wordI 17 rd ra off)
  | .ldw k rd ra off => some (k, wordI 18 rd ra off)
  | .ldd k rd ra off => some (k, wordI 19 rd ra off)
  | .stb k rd ra off => some (k, wordI 20 rd ra off)
  | .sth k rd ra off => some (k, wordI 21 rd ra off)
  | .stw k rd ra off => some (k, wordI 22 rd ra off)
  | .std k rd ra off => some (k, wordI 23 rd ra off)
  | .cldw k rd ra off => some (k, wordI 24 rd ra off)
  | .cldd k rd ra off => some (k, wordI 25 rd ra off)
  | .cstw k rd ra off => some (k, wordI 26 rd ra off)
  | .cstd k rd ra off => some (k, wordI 27 rd ra off)
  | .beq k ra rb off => some (k, wordI 32 ra rb off)
  | .bne k ra rb off => some (k, wordI 33 ra rb off)
  | .blt k ra rb off => some (k, wordI 34 ra rb off)
  | .bge k ra rb off => some (k, wordI 35 ra rb off)
  | .bltu k ra rb off => some (k, wordI 36 ra rb off)
  | .bgeu k ra rb off => some (k, wordI 37 ra rb off)
  | .j k off => some (k, wordJ 38 off)
  | .jal k off => some (k, wordJ 39 off)
  | .halt k => some (k, wordR 48 0 0 0 0)
  | .waitc k ra => some (k, wordR 48 0 ra 0 1)
  | .waitt k ra => some (k, wordR 48 0 ra 0 2)
  | .tick k rd => some (k, wordR 48 rd 0 0 3)
  | .cyc k rd => some (k, wordR 48 rd 0 0 4)
  | .core k rd => some (k, wordR 48 rd 0 0 5)
  | .qrd k rd ra => some (k, wordR 48 rd ra 0 8)
  | .qwr k rd ra rb => some (k, wordR 48 rd ra rb 9)
  | .qclose k ra => some (k, wordR 48 0 ra 0 10)
  | .qpkt k rd ra => some (k, wordR 48 rd ra 0 11)
  | .qtag k rd => some (k, wordR 48 rd 0 0 12)
  | .rrd k rd ra => some (k, wordR 48 rd ra 0 16)
  | .rwr k ra rb => some (k, wordR 48 0 ra rb 17)
  | .own k ra rb => some (k, wordR 48 0 ra rb 18)
  | .ownr k rd => some (k, wordR 48 rd 0 0 19)
  | .chain k ra => some (k, wordR 48 0 ra 0 20)
  | .fsig k ra => some (k, wordR 48 0 ra 0 21)
  | .wall k d rd => some (k, wordR 48 rd 0 0 (subV 64 d))
  | .frd k d rd ra => some (k, wordR 48 rd ra 0 (subV 65 d))
  | .temp k d rd => some (k, wordR 48 rd 0 0 (subV 66 d))
  | .lstat k d rd ra => some (k, wordR 48 rd ra 0 (subV 67 d))
  | .mon k d rd ra => some (k, wordR 48 rd ra 0 (subV 68 d))
  | .ent k d rd rb => some (k, wordR 48 rd 0 rb (subV 69 d))
  | _ => none

end Sys2Proof
end

