-- ==== Sys2Proof/Machine/Float.lean ====
section
/-!
DEFINITION. Binary floating-point numbers as exact dyadic numbers `m × 2 ^ e`, and rounding to nearest, ties to even, into a
binary format.
-/
namespace Sys2Proof.Machine

/-- An exact dyadic number: mantissa and exponent. -/
abbrev Dyadic := Int × Int

/-- The dyadic number that a binary format with `mb` fraction bits and `eb` exponent bits spells; none for NaN and infinity. -/
def ofBinary (mb eb v : Nat) : Option Dyadic :=
  let frac := v % 2 ^ mb
  let ex := bits v mb eb
  let sign : Int := if bits v (mb + eb) 1 = 1 then -1 else 1
  let bias : Int := 2 ^ (eb - 1) - 1
  if ex = 2 ^ eb - 1 then none
  else if ex = 0 then some (sign * frac, 1 - bias - mb)
  else some (sign * (frac + 2 ^ mb : Nat), ex - bias - mb)

/-- `a × 2 ^ k` rounded to nearest, ties to even. -/
def shiftEven (a : Nat) (k : Int) : Nat :=
  if 0 ≤ k then a * 2 ^ k.toNat else (divEven a (2 ^ (-k).toNat)).toNat

/-- A dyadic number rounded into a binary format; beyond its range, infinity. -/
def toBinary (mb eb : Nat) (d : Dyadic) : Nat :=
  let a := d.1.natAbs
  let sign := if d.1 < 0 then 2 ^ (mb + eb) else 0
  if a = 0 then 0 else
  let bias : Int := 2 ^ (eb - 1) - 1
  let unit := max (d.2 + a.log2 - mb) (1 - bias - mb)
  let q := shiftEven a (d.2 - unit)
  let code := ((unit + bias + mb - 1) * (2 ^ mb : Nat) + q).toNat
  sign + min code ((2 ^ eb - 1) * 2 ^ mb)

def ofF32 (v : Nat) : Option Dyadic := ofBinary 23 8 v
def toF32 (d : Dyadic) : Nat := toBinary 23 8 d
def toF64 (d : Dyadic) : Nat := toBinary 52 11 d

/-- Two dyadic numbers brought to one exponent. -/
def dyadicAlign (a b : Dyadic) : Int × Int × Int :=
  let e := min a.2 b.2
  (a.1 * (2 ^ (a.2 - e).toNat : Nat), b.1 * (2 ^ (b.2 - e).toNat : Nat), e)

def dyadicAdd (a b : Dyadic) : Dyadic := let r := dyadicAlign a b; (r.1 + r.2.1, r.2.2)
def dyadicSub (a b : Dyadic) : Dyadic := let r := dyadicAlign a b; (r.1 - r.2.1, r.2.2)
def dyadicMul (a b : Dyadic) : Dyadic := (a.1 * b.1, a.2 + b.2)
def dyadicLe (a b : Dyadic) : Bool := let r := dyadicAlign a b; decide (r.1 ≤ r.2.1)

/-- The quotient of two dyadic numbers rounded to the nearest integer, ties away from zero (R61). The divisor is positive. -/
def dyadicDivAway (a b : Dyadic) : Int := let r := dyadicAlign a b; divAway r.1 r.2.1.toNat

end Sys2Proof.Machine
end

