-- ==== Sys2Proof/Images.lean ====
section
/-!
DEFINITION. The data that host software and the Grenxia compiler hand to the module: graph images,
schedule images, saved states and the records of the replay journal, as the module holds them once read.
The manual gives their contents and not their byte layouts (log 3), so they are structures here.
-/
namespace Sys2Proof

/-- A graph image or the coefficients of a graph version (R41, R48–R60, R65, R158). -/
structure Coeffs where
  /-- Behaviour level of the image header (R380). -/
  level : Nat
  /-- Blocks the header states (R380). -/
  blocks : Nat
  /-- Graph mantissa m (R57). -/
  mantissa : Nat
  /-- Constant K of R46, binary64. -/
  constK : BitVec 64
  /-- Scale words (R56), key `2 * block + plane`. -/
  scale : Sparse (BitVec 16)
  /-- In-block codes (R52), key `((2 * block + plane) * 1024 + row) * 1024 + column`. -/
  codes : Sparse (BitVec 4)
  /-- Bias codes (R60), key `(2 * block + plane) * 1024 + position`. -/
  bias : Sparse (BitVec 16)
  /-- Frozen masks (R49), key `block`. -/
  frozen : Sparse (BitVec 1024)
  /-- Link entries (R65) with the graph spin index of their source, in the order of R66. -/
  links : List (Nat × BitVec 32)
  /-- Far ranks 1–3 of each block's engine (R67), key `block`. -/
  far : Sparse (List (BitVec 6))
  /-- The exact section (R158). -/
  exacts : List (BitVec 128)
  deriving DecidableEq, Repr, Inhabited

/-- A proposal generator that a schedule image declares (R186, R187, R193). -/
structure GenDecl where
  field : Nat
  acre : Nat
  stooks : List Nat
  ctrl : BitVec 32
  start : Nat
  tau : BitVec 16
  targets : List (BitVec 32)
  weightBytes : Nat
  stateBytes : Nat
  /-- Crib addresses of the state area and of the embedding rows in the home stook, and the bytes of one row (R193). -/
  stateAt : Nat
  rowsAt : Nat
  rowLen : Nat
  stepCycles : Nat
  /-- The token log area: GDDR 7 address in the form of R229 (R195). -/
  logAt : Nat
  deriving DecidableEq, Repr

/-- A coefficient patch that a schedule image books (R199). -/
structure CoefDecl where
  handover : Int
  apply : Int
  area : Nat
  entries : Nat
  /-- The report area: GDDR 7 address in the form of R229 (R200). -/
  report : Nat
  deriving DecidableEq, Repr

/-- A configuration write that a schedule image books for an engine in a launch tick; it takes effect at cycle 0 of the next (R108).
`reg` is 0 SHF_STAY, 1 SHF_LADDER, 2 SHF_STUCK_CFG, 3 SHF_CTRL, 4 SHF_SCALE, 5 SHF_SHIFT, 6 SHF_SCHED_CTRL, 7 SHF_SCHED, 8 SHF_KEY;
`index` is the lane, schedule point or key word where the register has several. -/
structure CfgWrite where
  tau : Int
  block : Nat
  reg : Nat
  index : Nat
  value : Word
  deriving DecidableEq, Repr

/-- Where a delta tile lies (R116, R210): source and destination engine as `8192 * rank + block`, offsets in the source's
delta bank for even and odd ticks, and the offset of its staging area in the destination's delta bank. -/
structure TilePlace where
  src : Nat
  dst : Nat
  even : Nat
  odd : Nat
  stage : Nat
  slots : Nat
  /-- Offset of the staging area for the source's notices in the destination's delta bank (R210). -/
  note : Nat
  deriving DecidableEq, Repr

/-- A schedule image (.gxs) as the module half of the loader reads it. What its parts show the loader checks in them; a number counts the
breaks of a rule that lie in parts which the structure leaves out (log 3). -/
structure Sched where
  /-- Behaviour level of the image (R263). -/
  level : Nat
  /-- Class T rather than class E (R264). -/
  classT : Bool
  /-- Logical fields (R270). -/
  fields : Nat
  /-- Graph copies C; of a class T image as many run as fit (R142, R378). -/
  copies : Nat
  /-- Ticks P of the prologue (R140). -/
  prologue : Nat
  /-- Launch ticks to run (R140, R375). -/
  ticks : Nat
  /-- Field noise rather than seeded noise (R85). -/
  fieldNoise : Bool
  /-- Bounded mode (R9). -/
  bounded : Bool
  /-- Hash of the graph image that the schedule is for (R384). -/
  graphHash : BitVec 64
  /-- Blocks of one copy (R384). -/
  graphBlocks : Nat
  /-- Ladder factors by rung (R146). -/
  ladder : List Nat
  /-- Rung permutation at the start (R145). -/
  perm : List Nat
  /-- Base schedule points: launch tick and value (R86). -/
  base : List (Nat × Nat)
  /-- LANE_EN of the engines (R111). -/
  laneEn : BitVec 4
  /-- SHF_STAY of each lane (R111). -/
  stay : List (BitVec 32)
  /-- SHF_STUCK_CFG of each lane (R111). -/
  stuck : List (BitVec 32)
  /-- ACR_WINNOW_CTRL (R168). -/
  winnow : BitVec 32
  /-- ACR_TALLY_CTRL (R168). -/
  tally : BitVec 32
  /-- ACR_HIST_CFG of the root (R167). -/
  hist : BitVec 64
  /-- Replicas of the audit set (R159). -/
  auditSet : List Nat
  /-- Capture ticks of a checkpoint (R338). -/
  captureTicks : Nat
  /-- Chain entries with WAIT = 1 in cribs that the image fills by COPY (R235). -/
  fenceWaits : Nat
  /-- Configuration writes, leave requests, owner writes, bank cycles and wakes that are not booked (R263, R450). -/
  missing : Nat
  /-- Router slots: (logical field, router, direction of the output, cycle-in-tick), numbered as log 126 has them (R293, R296). -/
  slots : List (Nat × Nat × Nat × Nat)
  /-- Crib bank cycles booked for COPY, HARROW and TALLY: (stook number of R229, launch tick, cycle, bank) (R207). -/
  bankBooks : List (Nat × Int × Nat × Nat)
  /-- Granary transfers: (logical field, port, cycle-in-tick), one for each (R324). -/
  granBooks : List (Nat × Nat × Nat)
  /-- GDDR 7 stream slots: (logical field, cycle-in-tick), one for each slot taken (R333). -/
  gddrBooks : List (Nat × Nat)
  /-- Payload frames booked per tick: (fabric port, sends, frames) (R310). -/
  frames : List (Nat × Bool × Nat)
  /-- Accesses of COPY descriptors and cores across fields that break the one-tick rule (R272). -/
  crossField : Nat
  /-- The stooks each logical field uses: (logical field, acre, logical stook). -/
  uses : List (Nat × Nat × Nat)
  /-- Class E leave held at once in an acre: (logical field, acre, LU) (R455). -/
  reserve : List (Nat × Nat × Nat)
  /-- PROP_EN of the engines (R111). -/
  propEn : Bool
  /-- Logical granary segments mapped: (logical field, segment, CLASS) (R326). -/
  granSegs : List (Nat × Nat × Nat)
  /-- Logical GDDR 7 segments mapped: (logical field, segment, 1 for KEEP) (R321, R330). -/
  gddrSegs : List (Nat × Nat × Nat)
  /-- Checkpoint MiB per logical field (R339). -/
  ckptMiB : List (Nat × Nat)
  /-- Links with a booked slot: (logical field, 0 = east ring link, a + 1 = link of acre a) (R419). -/
  bookedLinks : List (Nat × Nat)
  /-- Initial spins of a replica and graph block. -/
  initial : List (Nat × Nat × BitVec 1024)
  /-- Exchange configuration and link region base per logical block index: (block, STK_EXCH_CFG, base) (R66, R210). -/
  exch : List (Nat × BitVec 32 × Nat)
  /-- Delta tiles and their staging areas (R210). -/
  tiles : List TilePlace
  /-- Instruction memories: (field, acre, stook, core, words). -/
  imem : List (Nat × Nat × Nat × Nat × List (BitVec 32))
  /-- Initial data memories: (field, acre, stook, core, bytes). -/
  dmem : List (Nat × Nat × Nat × Nat × List Byte)
  /-- Crib contents placed in the prologue: (stook number of R229, crib byte, bytes). -/
  cribs : List (Nat × Nat × List Byte)
  /-- Crib banks handed to the launch: (stook number of R229, bank). -/
  banks : List (Nat × Nat)
  /-- Crib regions declared as checkpointed (R338): (stook number, crib byte, length). -/
  ckptCribs : List (Nat × Nat × Nat)
  /-- First chain entries: (stook number, crib byte) (R232). -/
  chains : List (Nat × Nat)
  /-- Crib bank cycles booked for cores (R242): core identity, launch tick, cycle, bank. -/
  coreBooks : List (Nat × Int × Nat × Nat)
  /-- Generators (R186). -/
  gens : List GenDecl
  /-- Coefficient patches (R199). -/
  coefs : List CoefDecl
  /-- Booked configuration writes (R108). -/
  writes : List CfgWrite
  /-- Statistics lists: (field, acre, stook of the crib, offset O, entries) (R163). -/
  stats : List (Nat × Nat × Nat × Nat × List Word)
  /-- The input area (R268), the tally area (R162) and the digest area (R284): GDDR 7 addresses in the form of R229. -/
  inputArea : Nat
  tallyArea : Nat
  digestArea : Nat
  /-- Booked frames or reduction items miss their deadlines under the delays measured (R405). -/
  deadlines : Nat
  deriving DecidableEq, Repr

/-- A change item (R385) taken apart. -/
structure Item where
  kind : Nat
  plane : Nat
  hasValue : Bool
  guarded : Bool
  a : Nat
  b : Nat
  new : Nat
  value : BitVec 32
  deriving DecidableEq, Repr

/-- What SAVE keeps of one lane (R110, R277): spins, both planes' fields, energy, low and stuck state, best state
with its tick, and the last digest. -/
structure LaneSave where
  spins : BitVec 1024
  field : Sparse (BitVec 20)
  energy : BitVec 48
  low : BitVec 48
  offset : BitVec 16
  count : BitVec 20
  /-- Ladder factor in force (R145, R108). -/
  lambda : BitVec 16
  bestSpins : BitVec 1024
  bestEnergy : BitVec 48
  bestTick : BitVec 64
  digest : Word
  /-- The chain of a replay window (R285). -/
  windowDigest : Word := 0
  deriving DecidableEq, Repr, Inhabited

/-- What SAVE keeps of one generator (R197), beside its registers. -/
structure GenSave where
  state : BitVec 64
  count : BitVec 64
  positions : List Nat
  area : List Byte
  /-- The input buffers with their launch ticks (R194). -/
  input : List (Int × Nat × List Byte)
  deriving DecidableEq, Repr

/-- What a gleaner core waits for (R241). -/
inductive Wait where
  | none
  /-- WAITC (R246). -/
  | cycle (n : Nat)
  /-- WAITT (R246). -/
  | tick (t : Int)
  /-- QRD on a queue without a bank to read (R225). -/
  | queueRead (q : Nat)
  /-- QWR on a queue without a bank to fill (R225). -/
  | queueWrite (q : Nat)
  /-- CHAIN on a full chain unit (R251). -/
  | chain
  /-- OWN on a full result queue (R250). -/
  | owner
  deriving DecidableEq, Repr, Inhabited

/-- The state of a gleaner core that no register holds (R238). PC, run state and fault stand in the STK_ registers, the
instruction and data memories in the module's memory. -/
structure CoreState where
  /-- The launch the core serves (R243). -/
  ctx : Option Nat := none
  /-- Logical identity (R246 CORE): rank, field, acre, logical stook, core. -/
  ident : Nat := 0
  /-- g1–g31. -/
  g : Sparse Word := []
  poison : BitVec 32 := 0
  wait : Wait := .none
  /-- Queue tag latch (R248). -/
  tag : BitVec 32 := 0
  /-- Owner write results (R250). -/
  results : List (BitVec 9) := []
  /-- Owner writes issued whose result has not come (R250). -/
  owed : Nat := 0
  /-- Logical cycle at which the divider is free (R247). -/
  divFree : Int := 0
  /-- Logical cycle at which the word that a stalled QRD waits for is delivered (R225). -/
  wordAt : Option Int := none
  /-- The GLEAN operation that runs: its stream (R256). -/
  stream : Option Nat := none
  /-- Logical cycle from which the next instruction may issue, and from which each register may be read (R240, R241). -/
  free : Int := 0
  ready : Sparse Int := []
  /-- What registers with a result in flight held before it: value and poison (R260). -/
  before : Sparse (Word × Bool) := []
  /-- Set when HALT has issued: the operation completes at the next cycle (R257). -/
  halted : Bool := false
  deriving DecidableEq, Repr, Inhabited

/-- A chain entry at a chain unit (R233): its crib address; the logical cycle at which it arrived, or from which it may; and, for one on its
way, the unit that hands it off (R234): stook, station and unit. -/
structure Chained where
  addr : Nat
  arrived : Int
  source : Option (Nat × Nat × Nat) := none
  deriving DecidableEq, Repr

/-- A chain entry that runs on a station unit (R234), with the poison it has met (R227). -/
structure Running where
  addr : Nat
  station : Nat
  unit : Nat
  poisoned : Bool
  /-- Row or tile, and byte within it, that a COPY through a queue has reached. -/
  at_ : Nat × Nat := (0, 0)
  /-- Logical cycle of its start (R438). -/
  began : Int := 0
  /-- Logical cycle at which its operation began with its leave (R39), and at which it is complete once it has been carried out. -/
  begun : Option Int := none
  finishes : Option Int := none
  /-- Logical cycle at which a kernel's second pass begins (R179, R201). -/
  second : Option Int := none
  /-- Die and number of the GDDR 7 stream slots that a COPY takes (R333). -/
  streams : Option (Nat × Nat) := none
  deriving DecidableEq, Repr

/-- The state of a stook that no register holds. -/
structure Stook where
  /-- Entries arrived and not started (R233). -/
  chain : List Chained := []
  /-- Hand-offs on their way to the unit, or held while it is full (R233, R234). -/
  offered : List Chained := []
  /-- Entries that run on the stook's units. -/
  running : List Running := []
  /-- Words written in each closed queue bank, 0 once the last has been read, key `2 * queue + bank` (R223). -/
  written : Sparse Nat := []
  /-- Wall cycle of the write that closed a queue bank, and of the read of its last word, keyed alike (R223–R225). -/
  closedAt : Sparse Nat := []
  drained : Sparse Nat := []
  /-- Tiles of closed banks that PACKETS does not count yet: queue, wall cycle from which it does, and tiles (R224). -/
  rises : List (Nat × Nat × Nat) := []
  deriving DecidableEq, Repr, Inhabited

/-- What is kept of a region of memory: the bytes that something has written, by offset, and the slots that carry the poison tag. -/
structure MemSave where
  cells : List (Nat × Byte) := []
  tags : List Nat := []
  deriving DecidableEq, Repr, Inhabited

/-- What SAVE keeps of a stook's chain unit and stream queues (R269): the entries and queue registers of the launch, the registers by queue:
STK_QUEUE_CFG and STK_QUEUE_STATUS. -/
structure StookSave where
  stook : Stook
  queues : List (Nat × Word × Word)
  deriving DecidableEq, Repr

/-- What SAVE keeps of one gleaner core (R244), beside its registers. -/
structure CoreSave where
  core : CoreState
  status : Word
  fault : Word
  dmem : MemSave
  deriving DecidableEq, Repr

/-- A live patch accepted and not yet applied (R389). -/
structure LivePatch where
  apply : Int
  version : Nat
  items : List Item
  booked : Bool
  /-- The report of a booked coefficient patch, written when it has applied (R200). -/
  report : List Byte := []
  /-- First wall tick at whose cycle 0 every engine has its items staged in its stook's crib (R132). -/
  due : Nat := 0
  /-- The exact section of the version, where the items do not say it (R199). -/
  exacts : Option (List (BitVec 128)) := none
  deriving DecidableEq, Repr

/-- An audit in progress (R159–R162): its tick, replica and graph version, the tally buffer with the spins copied for it by graph block,
the acres' parts of E_Q by `8 * field + acre`, and E_Q once the reduction of the tick has formed it. -/
structure Audit where
  tick : Nat
  replica : Nat
  version : Nat
  spins : Sparse (BitVec 1024)
  parts : Sparse Int
  energy : Option Int
  deriving DecidableEq, Repr

/-- A saved state (R277, R278). Everything is keyed by logical identity. -/
structure Saved where
  level : Nat
  classT : Bool
  copies : Nat
  fields : Nat
  schedHash : Word
  tau : Int
  graph : Nat
  version : Nat
  seed : BitVec 128
  journalSeq : Nat
  digestTau : Option Nat
  imageHash : Word
  sched : List Byte
  follow : Bool
  lanes : Sparse LaneSave
  perm : List Nat
  /-- Ladder factors in force, and the copies lost (R153). -/
  ladder : List Nat
  lost : List Nat
  bests : List (Int × Nat)
  winnowCount : Word
  hist : Sparse Nat
  statSamples : Sparse Word
  statCribs : List (Nat × Nat × List Byte)
  /-- Samples in progress, by acre: the buffer, the adds made, and the lanes (R164). -/
  samples : Sparse (Sparse (BitVec 1024) × Nat × List Nat)
  audits : List Audit
  gens : Sparse GenSave
  cores : Sparse CoreSave
  /-- Crib regions: stook number of R229, crib byte, length, contents. A checkpoint carries those that the image declares (R338), SAVE the
  launch's banks (R269). -/
  cribs : List (Nat × Nat × Nat × MemSave)
  /-- Chain entries of a checkpoint, placed and not completed (R418). -/
  entries : List (Nat × Nat)
  /-- Chain units and queues that SAVE keeps, by stook number of R229. -/
  stooks : List (Nat × StookSave)
  /-- It is a checkpoint's, and its restore recomputes the plane fields (R338). -/
  recompute : Bool
  patches : List LivePatch
  /-- Live patches applied (R389). -/
  past : List LivePatch
  /-- Stream inputs journalled and not yet applied: apply tick and data (R268, R269). -/
  inputs : List (Int × List Byte)
  deriving DecidableEq, Repr

/-- Payloads of journal records (R281). -/
inductive JBody where
  | start (classT : Bool) (level fields copies : Nat) (schedHash : Word) (seed : BitVec 128) (graph version : Nat)
      (imageHash : Word) (window : Option (Option (Nat × Nat)))
  | patch (items : List Item)
  | input (data : List Byte)
  /-- An INPUT record of a COPY from the staging window (R203). -/
  | staged (data : List Byte)
  | vresult (core : Nat) (sub : Nat) (result : Word) (status : Nat)
  | digest (d : Word)
  | host (opcode seq : Nat)
  | recovery (cause : Nat) (tick : Int)
  | fin (tick : Int)
  deriving DecidableEq, Repr

/-- A record of the replay journal (R280). -/
structure JRec where
  body : JBody
  seq : Nat
  tau : Int
  cycle : Nat
  wall : Nat
  deriving DecidableEq, Repr

end Sys2Proof
end

