-- ==== Sys2Proof/Config.lean ====
section
/-!
DEFINITION. What the manual leaves open or gives only by the name of an outside standard: opaque
constants with no body, so that no proof can see their values (logs 2–6).
-/
namespace Sys2Proof.Config

/-- FREE VALUE. The n-th value that the manual leaves open; `State.free` counts the draws. -/
opaque freeNat : Nat → Nat

/-- The SHA-384 digest of a list of bytes, byte 0 of the digest in the most significant byte (R381, R470, R481, R488). -/
opaque sha384 : List Byte → BitVec 384

/-- FREE VALUE. The coefficients of a version that a malformed patch made: R10 and R11 leave them open. -/
opaque anyCoeffs : Nat → Coeffs

/-- FREE VALUE. The spins of blocks that other members of a group carry, in an audit, by `replica * 2 ^ 20 + block`; how the tally units come
by them is not given (R159, R160). -/
opaque remoteSpins : Nat → Nat → BitVec 1024

/-- Reads a staged graph image; none when the bytes are not a graph image at all (R380). -/
opaque readGraph : List Byte → Option Coeffs

/-- Reads a staged schedule image; none when the bytes are not a schedule image at all (R384). -/
opaque readSched : List Byte → Option Sched

/-- Reads a staged saved state (R278). -/
opaque readSaved : List Byte → Option Saved

/-- The bytes of a saved state from the end of its spin vectors up to the copy of the schedule image (R278). -/
opaque savedBody : Saved → List Byte

/-- The payload bytes of a journal record (R281 names its fields and gives no layout). -/
opaque journalPayload : JBody → List Byte

/-- CTR_DRBG instantiation: seed and personalization string to the internal state (R473). -/
opaque drbgInit : BitVec 384 → List Byte → BitVec 384

/-- CTR_DRBG reseed (R474). -/
opaque drbgReseed : BitVec 384 → BitVec 384 → BitVec 384

/-- One CTR_DRBG output block and the internal state after it (R473). -/
opaque drbgNext : BitVec 384 → BitVec 128 × BitVec 384

/-- AES-256-GCM encryption: key, nonce, additional data, plaintext to ciphertext and tag (R314). -/
opaque gcmSeal : BitVec 256 → BitVec 96 → List Byte → List Byte → List Byte × BitVec 128

/-- AES-256-GCM decryption: none when the tag fails (R316). -/
opaque gcmOpen : BitVec 256 → BitVec 96 → List Byte → List Byte → BitVec 128 → Option (List Byte)

/-- The public point of an ephemeral or identity scalar on P-384, uncompressed, 97 bytes (R487). -/
opaque p384Public : BitVec 384 → List Byte

/-- The x-coordinate of the ECDH shared point; none when the point is not on the curve (R487, R488). -/
opaque p384Shared : BitVec 384 → List Byte → Option (BitVec 384)

/-- ECDSA P-384 signature of a digest: private scalar, nonce, digest (R487, R491). -/
opaque ecdsaSign : BitVec 384 → BitVec 384 → BitVec 384 → List Byte

/-- ECDSA P-384 verification: public key, digest, signature (R481, R487). -/
opaque ecdsaVerify : List Byte → BitVec 384 → List Byte → Bool

/-- The public key that a certificate binds, once the certificate chains to the root key (R481, R487). -/
opaque certKey : List Byte → Option (List Byte)

/-- The secure-boot result of a firmware image: FIRST_RESULT of R493, FW_SVN, FW_VERSION and the behaviour level it
takes for stepping A (R481, R508). -/
opaque imageCheck : List Byte → Nat × Nat × Nat × Nat

/-- Whether a signed configuration item verifies: kind, body (R503). -/
opaque itemVerifies : Nat → List Byte → Bool

/-- The secret bits of a barn die's device-bound key, from its helper data (R484). -/
opaque deviceKey : Nat → List Byte → BitVec 256

/-- A value the module measures and the manual does not derive (a monitor source that no unit of the state gives): monitor
point and tick (R465). -/
opaque sensor : Nat → Nat → Int

/-- FREE VALUE. The granary slots that a port's reads and scrubs have corrected, by wall tick: which bits flip in a memory the manual does not
say (R325, R343). -/
opaque corrected : Nat → Word → Nat

/-- FREE VALUE. The binary32 value that the output pipeline takes an infinity or a NaN of a host-written constant for; R181 gives none. -/
opaque oddFloat : Nat → Nat

/-- FREE VALUE. The input vector of a token step: embedding row of the previous token, state area and input area to the elements and the
scale bytes of operand A. R193 names its parts and gives no layout. -/
opaque inputVector : List Byte → List Byte → List Byte → List Byte × List Byte

/-- The order in which the loader tries the field dies in service for a logical field; the manual leaves the choice to the
loader (R378). The die tried at step i is `(placeFrom context field + i) mod 8`. -/
opaque placeFrom : Nat → Nat → Nat

/-- The cabling of a group as its members know it (R394; how a member learns it is not given): of a group and a rank, the rank's parent
in the alignment tree, its hops to rank 0 and its path latency H. -/
opaque treeOf : Nat → Nat → Nat × Nat × Nat

/-- The cumulative offset of another member at the joining barrier, as a member's report states it: how it learns it is not given (R398). -/
opaque memberOffset : Nat → Nat

/-- The identity private key out of an IDKEY_WRAP body, under the device-bound key of a barn die (R484). -/
opaque unwrapKey : Nat → BitVec 256 → List Byte → Option (BitVec 384)

/-- The body of an IDKEY_WRAP item: the two device-bound keys and the private key (R484). -/
opaque wrapKey : BitVec 256 → BitVec 256 → BitVec 384 → List Byte

/-- The identity certificate in an IDENT body (R503). -/
opaque identCert : List Byte → List Byte

/-- The stepping in an IDENT body, and that of the barn die's mask ROM (R503, R508). -/
opaque identStepping : List Byte → Nat
opaque romStepping : Nat

/-- The state that a LIFECYCLE body names (R485), and the version of a MIN_SVN body (R483). -/
opaque lifecycleOf : List Byte → Nat
opaque minSvnOf : List Byte → Nat

/-- The values of a DEFAULTS body: PWR_CEILING, PWR_CFG, HUB_WATCHDOG (R503). -/
opaque defaultsOf : List Byte → Nat × Nat × Nat

/-- FREE VALUE. What self-test and training find at a start-up that a bare register write begins (R497, R498, R500). -/
opaque selfTest : Nat → StartUp

/-- RECORD_KIND of a CFG_WRITE that carries a firmware image (R506); the manual gives no code. -/
opaque imageKind : Nat

end Sys2Proof.Config
end

