-- ==== Sys2Proof/Machine/Regs.lean ====
section
/-!
DEFINITION. The registers of the Tanuro as the manual's register tables list them (R111, R168, R201, R236, R262, R318,
R343, R344, R370, R412, R441, R466, R467, R492, R493, R509): one name per register, its size, reset value
and access masks (R13), where it lies, and one name per field.
-/
namespace Sys2Proof.Machine

/-- The registers, by name. A register with an index stands here once. -/
inductive Reg where
  | shfCtrl
  | shfStatus
  | shfScale
  | shfShift
  | shfSchedCtrl
  | shfTick
  | shfKey
  | shfSched
  | shfStay
  | shfLadder
  | shfStuckCfg
  | shfUndo
  | shfStuckState
  | shfEnergy
  | shfLow
  | shfSnapEnergy
  | shfSat
  | shfProp
  | acrWinnowCtrl
  | acrWinnowCount
  | acrTallyCtrl
  | acrTallyStatus
  | acrStatSamples
  | acrHistCfg
  | hrwCtrl
  | hrwStatus
  | hrwRange
  | hrwSatCount
  | hrwKernels
  | hrwActCfg
  | hrwActTab
  | hrwGenCtrl
  | hrwGenStart
  | hrwGenTau
  | hrwGenState
  | hrwGenCount
  | hrwGenTarget
  | stkChainStatus
  | stkBankOwner
  | stkBankStatus
  | stkExchCfg
  | stkQueueCfg
  | stkQueueStatus
  | stkCoreStatus
  | stkCoreFault
  | lnkCtrl
  | lnkStatus
  | lnkDelay
  | lnkSeq
  | lnkErr
  | lnkSlack
  | lnkClear
  | grnStatus
  | grnEcc
  | grnPool
  | grnSeg
  | gddStatus
  | gddErr
  | gddSeg
  | hubIdent
  | hubStatus
  | hubTick
  | hubCapacity
  | hubWatchdog
  | mbxStatus
  | mbxCtrl
  | doneWord
  | fncValue
  | hubGroupStatus
  | hubGroupTick
  | hubGroupOffset
  | hubGroupSkew
  | hubGroupPath
  | fltStatus
  | fltLogHead
  | fltHang
  | fltAvail
  | fltCapture
  | fltSpare
  | fltClear
  | pwrCeiling
  | pwrCfg
  | pwrStatus
  | pwrBucket
  | pwrFallow
  | pwrEnergy
  | pwrInput
  | pwrAcreCap
  | pwrAcreState
  | monSel
  | monCur
  | monMinmax
  | monCount
  | monHist
  | monCtrl
  | entStatus
  | entCtrl
  | entReseed
  | entOutput
  | entHealth
  | entTest
  | entPattern
  | entRaw
  | secBoot
  | secLifecycle
  | secIdent
  | secSession
  | secAuthFail
  | cfgStatus
  | cfgBank
  | cfgImage
  | cfgAperture
  | cfgStart
  | cfgCtrl
  deriving DecidableEq, Repr

/-- The number of a register, for its key in the register file. -/
def Reg.code (r : Reg) : Nat := r.ctorIdx

/-- Bytes of a register: 4 or 8. -/
def Reg.bytes : Reg → Nat
  | .shfTick => 8
  | .shfSched => 8
  | .shfStuckState => 8
  | .shfEnergy => 8
  | .shfLow => 8
  | .shfSnapEnergy => 8
  | .shfProp => 8
  | .acrWinnowCount => 8
  | .acrStatSamples => 8
  | .acrHistCfg => 8
  | .hrwActCfg => 8
  | .hrwActTab => 8
  | .hrwGenStart => 8
  | .hrwGenState => 8
  | .hrwGenCount => 8
  | .stkQueueCfg => 8
  | .stkQueueStatus => 8
  | .stkCoreStatus => 8
  | .stkCoreFault => 8
  | .lnkStatus => 8
  | .lnkSeq => 8
  | .lnkErr => 8
  | .lnkSlack => 8
  | .grnEcc => 8
  | .grnPool => 8
  | .grnSeg => 8
  | .gddErr => 8
  | .gddSeg => 8
  | .hubIdent => 8
  | .hubTick => 8
  | .hubCapacity => 8
  | .mbxStatus => 8
  | .doneWord => 8
  | .fncValue => 8
  | .hubGroupTick => 8
  | .hubGroupOffset => 8
  | .hubGroupSkew => 8
  | .fltLogHead => 8
  | .fltHang => 8
  | .fltAvail => 8
  | .fltCapture => 8
  | .fltSpare => 8
  | .pwrStatus => 8
  | .pwrBucket => 8
  | .pwrFallow => 8
  | .pwrEnergy => 8
  | .pwrAcreState => 8
  | .monSel => 8
  | .monMinmax => 8
  | .entReseed => 8
  | .entOutput => 8
  | .entHealth => 8
  | .entPattern => 8
  | .secIdent => 8
  | .secSession => 8
  | .cfgBank => 8
  | .cfgImage => 8
  | .cfgStart => 8
  | _ => 4

/-- Reset value of a register. -/
def Reg.reset : Reg → Word
  | .shfSchedCtrl => 0x1
  | .shfLadder => 0x1000
  | .shfStuckCfg => 0xa000000
  | .hubIdent => 0x1410000
  | .hubCapacity => 0x8004002800
  | .hubWatchdog => 0x64
  | .mbxStatus => 0xffffffff00000000
  | .fltSpare => 0x1f1f1f1f1f1f1f1f
  | .pwrCeiling => 0x15e0
  | .pwrCfg => 0x5f6e01
  | .pwrAcreCap => 0x600
  | .monMinmax => 0x800000007fffffff
  | .entCtrl => 0xc00
  | .secSession => 0xff00
  | _ => 0

/-- The RW bits of a register (R13). -/
def Reg.rw : Reg → Word
  | .shfCtrl => 0xf311
  | .shfScale => 0xffffffff
  | .shfShift => 0x7fff
  | .shfSchedCtrl => 0x1ff
  | .shfSched => 0xffffffffffffffff
  | .shfStay => 0xffffffff
  | .shfLadder => 0xffff
  | .shfStuckCfg => 0x3fffffff
  | .acrWinnowCtrl => 0xff0307
  | .acrTallyCtrl => 0xffffff0e
  | .acrHistCfg => 0xffffffffffff003f
  | .hrwCtrl => 0x1
  | .hrwActCfg => 0xffffffff000000ff
  | .hrwActTab => 0xffffffffffffffff
  | .hrwGenCtrl => 0xfffff01
  | .hrwGenStart => 0xffffffffff
  | .hrwGenTau => 0xffff
  | .hrwGenTarget => 0xffffffff
  | .stkExchCfg => 0x1fff7
  | .stkQueueCfg => 0xfffffffff0003
  | .lnkCtrl => 0xf
  | .hubWatchdog => 0xffff
  | .pwrCeiling => 0x1fff
  | .pwrCfg => 0xff00ff
  | .pwrAcreCap => 0xfff
  | .monSel => 0x9fffffffffffffff
  | .monCtrl => 0x2
  | .entCtrl => 0x1f00
  | .entTest => 0x3
  | .entPattern => 0xffffffffffffffff
  | .cfgAperture => 0x7
  | _ => 0

/-- The W1C bits of a register (R13). -/
def Reg.w1c : Reg → Word
  | .shfStatus => 0xe00
  | .acrTallyStatus => 0x8
  | .hrwStatus => 0xe0
  | .stkChainStatus => 0x8000
  | .stkBankStatus => 0xe
  | .stkQueueStatus => 0x4
  | .stkCoreStatus => 0x80000000
  | .stkCoreFault => 0x10
  | .hubGroupStatus => 0x8
  | .pwrStatus => 0x2
  | .pwrAcreCap => 0x1000
  | .pwrAcreState => 0x100000000
  | _ => 0

/-- The WO bits of a register, which read as zero (R13). -/
def Reg.wo : Reg → Word
  | .shfKey => 0xffffffff
  | .lnkClear => 0x3
  | .mbxCtrl => 0x2
  | .fltClear => 0x7
  | .monCtrl => 0x1
  | .cfgCtrl => 0xffff0001
  | _ => 0

/-- The page a register lies in. -/
inductive PageKind where
  | window | shf | hrw | stk | acr
  deriving DecidableEq, Repr

/-- Where the copies of a register lie in its page: copy (o, i) at `base + outStep * o + inStep * i`. -/
structure RegRow where
  reg : Reg
  page : PageKind
  base : Nat
  outStep : Nat
  outN : Nat
  inStep : Nat
  inN : Nat
  deriving DecidableEq, Repr

/-- The SHF_ registers. -/
def rowsShf : List RegRow := [
  ⟨.shfCtrl, .shf, 0x0, 0x0, 1, 0x0, 1⟩,
  ⟨.shfStatus, .shf, 0x4, 0x0, 1, 0x0, 1⟩,
  ⟨.shfScale, .shf, 0x8, 0x0, 1, 0x0, 1⟩,
  ⟨.shfShift, .shf, 0xc, 0x0, 1, 0x0, 1⟩,
  ⟨.shfSchedCtrl, .shf, 0x10, 0x0, 1, 0x0, 1⟩,
  ⟨.shfTick, .shf, 0x18, 0x0, 1, 0x0, 1⟩,
  ⟨.shfKey, .shf, 0x20, 0x0, 1, 0x4, 4⟩,
  ⟨.shfSched, .shf, 0x800, 0x0, 1, 0x8, 256⟩,
  ⟨.shfStay, .shf, 0x100, 0x0, 1, 0x40, 4⟩,
  ⟨.shfLadder, .shf, 0x104, 0x0, 1, 0x40, 4⟩,
  ⟨.shfStuckCfg, .shf, 0x108, 0x0, 1, 0x40, 4⟩,
  ⟨.shfUndo, .shf, 0x10c, 0x0, 1, 0x40, 4⟩,
  ⟨.shfStuckState, .shf, 0x110, 0x0, 1, 0x40, 4⟩,
  ⟨.shfEnergy, .shf, 0x118, 0x0, 1, 0x40, 4⟩,
  ⟨.shfLow, .shf, 0x120, 0x0, 1, 0x40, 4⟩,
  ⟨.shfSnapEnergy, .shf, 0x128, 0x0, 1, 0x40, 4⟩,
  ⟨.shfSat, .shf, 0x130, 0x0, 1, 0x40, 4⟩,
  ⟨.shfProp, .shf, 0x138, 0x0, 1, 0x40, 4⟩]

/-- The ACR_ registers. -/
def rowsAcr : List RegRow := [
  ⟨.acrWinnowCtrl, .acr, 0x0, 0x0, 1, 0x0, 1⟩,
  ⟨.acrWinnowCount, .acr, 0x8, 0x0, 1, 0x0, 1⟩,
  ⟨.acrTallyCtrl, .acr, 0x10, 0x0, 1, 0x0, 1⟩,
  ⟨.acrTallyStatus, .acr, 0x18, 0x0, 1, 0x0, 1⟩,
  ⟨.acrStatSamples, .acr, 0x20, 0x0, 1, 0x0, 1⟩,
  ⟨.acrHistCfg, .acr, 0x28, 0x0, 1, 0x0, 1⟩]

/-- The HRW_ registers. -/
def rowsHrw : List RegRow := [
  ⟨.hrwCtrl, .hrw, 0x0, 0x0, 1, 0x0, 1⟩,
  ⟨.hrwStatus, .hrw, 0x4, 0x0, 1, 0x0, 1⟩,
  ⟨.hrwRange, .hrw, 0x8, 0x0, 1, 0x0, 1⟩,
  ⟨.hrwSatCount, .hrw, 0xc, 0x0, 1, 0x0, 1⟩,
  ⟨.hrwKernels, .hrw, 0x10, 0x0, 1, 0x0, 1⟩,
  ⟨.hrwActCfg, .hrw, 0x20, 0x0, 1, 0x8, 4⟩,
  ⟨.hrwActTab, .hrw, 0x800, 0x0, 1, 0x8, 256⟩,
  ⟨.hrwGenCtrl, .hrw, 0x40, 0x0, 1, 0x0, 1⟩,
  ⟨.hrwGenStart, .hrw, 0x48, 0x0, 1, 0x0, 1⟩,
  ⟨.hrwGenTau, .hrw, 0x50, 0x0, 1, 0x0, 1⟩,
  ⟨.hrwGenState, .hrw, 0x58, 0x0, 1, 0x0, 1⟩,
  ⟨.hrwGenCount, .hrw, 0x60, 0x0, 1, 0x0, 1⟩,
  ⟨.hrwGenTarget, .hrw, 0x80, 0x0, 1, 0x4, 16⟩]

/-- The STK_ registers. -/
def rowsStk : List RegRow := [
  ⟨.stkChainStatus, .stk, 0x0, 0x0, 1, 0x0, 1⟩,
  ⟨.stkBankOwner, .stk, 0x100, 0x0, 1, 0x4, 16⟩,
  ⟨.stkBankStatus, .stk, 0x140, 0x0, 1, 0x4, 16⟩,
  ⟨.stkExchCfg, .stk, 0x180, 0x0, 1, 0x4, 8⟩,
  ⟨.stkQueueCfg, .stk, 0x200, 0x0, 1, 0x8, 32⟩,
  ⟨.stkQueueStatus, .stk, 0x300, 0x0, 1, 0x8, 32⟩,
  ⟨.stkCoreStatus, .stk, 0x400, 0x0, 1, 0x10, 4⟩,
  ⟨.stkCoreFault, .stk, 0x408, 0x0, 1, 0x10, 4⟩]

/-- The LNK_ registers. -/
def rowsLnk : List RegRow := [
  ⟨.lnkCtrl, .window, 0x8000, 0x0, 1, 0x100, 18⟩,
  ⟨.lnkStatus, .window, 0x8008, 0x0, 1, 0x100, 18⟩,
  ⟨.lnkDelay, .window, 0x8010, 0x0, 1, 0x100, 18⟩,
  ⟨.lnkSeq, .window, 0x8018, 0x0, 1, 0x100, 18⟩,
  ⟨.lnkErr, .window, 0x8020, 0x0, 1, 0x100, 18⟩,
  ⟨.lnkSlack, .window, 0x8028, 0x0, 1, 0x100, 18⟩,
  ⟨.lnkClear, .window, 0x8030, 0x0, 1, 0x100, 18⟩]

/-- The GRN_ registers. -/
def rowsGrn : List RegRow := [
  ⟨.grnStatus, .window, 0x18000, 0x1000, 8, 0x0, 1⟩,
  ⟨.grnEcc, .window, 0x18010, 0x1000, 8, 0x8, 4⟩,
  ⟨.grnPool, .window, 0x18040, 0x1000, 8, 0x0, 1⟩,
  ⟨.grnSeg, .window, 0x18800, 0x1000, 8, 0x8, 256⟩]

/-- The GDD_ registers. -/
def rowsGdd : List RegRow := [
  ⟨.gddStatus, .window, 0x10000, 0x1000, 8, 0x0, 1⟩,
  ⟨.gddErr, .window, 0x10010, 0x1000, 8, 0x8, 6⟩,
  ⟨.gddSeg, .window, 0x10800, 0x1000, 8, 0x8, 256⟩]

/-- The HUB_ registers. -/
def rowsHub : List RegRow := [
  ⟨.hubIdent, .window, 0x0, 0x0, 1, 0x0, 1⟩,
  ⟨.hubStatus, .window, 0x8, 0x0, 1, 0x0, 1⟩,
  ⟨.hubTick, .window, 0x10, 0x0, 1, 0x0, 1⟩,
  ⟨.hubCapacity, .window, 0x18, 0x0, 1, 0x0, 1⟩,
  ⟨.hubWatchdog, .window, 0x20, 0x0, 1, 0x0, 1⟩]

/-- The MBX_ registers. -/
def rowsMbx : List RegRow := [
  ⟨.mbxStatus, .window, 0x100200, 0x0, 1, 0x1000, 128⟩,
  ⟨.mbxCtrl, .window, 0x100208, 0x0, 1, 0x1000, 128⟩]

/-- The DONE_ registers. -/
def rowsDone : List RegRow := [
  ⟨.doneWord, .window, 0x200000, 0x0, 1, 0x8, 4096⟩]

/-- The FNC_ registers. -/
def rowsFnc : List RegRow := [
  ⟨.fncValue, .window, 0x300000, 0x0, 1, 0x8, 16384⟩]

/-- The HUB_ registers. -/
def rowsHub2 : List RegRow := [
  ⟨.hubGroupStatus, .window, 0x100, 0x0, 1, 0x0, 1⟩,
  ⟨.hubGroupTick, .window, 0x108, 0x0, 1, 0x0, 1⟩,
  ⟨.hubGroupOffset, .window, 0x110, 0x0, 1, 0x0, 1⟩,
  ⟨.hubGroupSkew, .window, 0x118, 0x0, 1, 0x0, 1⟩,
  ⟨.hubGroupPath, .window, 0x120, 0x0, 1, 0x0, 1⟩]

/-- The FLT_ registers. -/
def rowsFlt : List RegRow := [
  ⟨.fltStatus, .window, 0x700000, 0x0, 1, 0x0, 1⟩,
  ⟨.fltLogHead, .window, 0x700008, 0x0, 1, 0x0, 1⟩,
  ⟨.fltHang, .window, 0x700010, 0x0, 1, 0x0, 1⟩,
  ⟨.fltAvail, .window, 0x700018, 0x0, 1, 0x0, 1⟩,
  ⟨.fltCapture, .window, 0x700020, 0x0, 1, 0x0, 1⟩,
  ⟨.fltSpare, .window, 0x700040, 0x0, 1, 0x8, 8⟩,
  ⟨.fltClear, .window, 0x700080, 0x0, 1, 0x0, 1⟩]

/-- The PWR_ registers. -/
def rowsPwr : List RegRow := [
  ⟨.pwrCeiling, .window, 0x500000, 0x0, 1, 0x0, 1⟩,
  ⟨.pwrCfg, .window, 0x500008, 0x0, 1, 0x0, 1⟩,
  ⟨.pwrStatus, .window, 0x500010, 0x0, 1, 0x0, 1⟩,
  ⟨.pwrBucket, .window, 0x500040, 0x0, 1, 0x8, 9⟩,
  ⟨.pwrFallow, .window, 0x500100, 0x0, 1, 0x8, 8⟩,
  ⟨.pwrEnergy, .window, 0x500180, 0x0, 1, 0x8, 9⟩,
  ⟨.pwrInput, .window, 0x5001c8, 0x0, 1, 0x0, 1⟩,
  ⟨.pwrAcreCap, .window, 0x500200, 0x0, 1, 0x4, 64⟩,
  ⟨.pwrAcreState, .window, 0x500300, 0x0, 1, 0x8, 64⟩]

/-- The MON_ registers. -/
def rowsMon : List RegRow := [
  ⟨.monSel, .window, 0x400000, 0x0, 1, 0x200, 512⟩,
  ⟨.monCur, .window, 0x400008, 0x0, 1, 0x200, 512⟩,
  ⟨.monMinmax, .window, 0x400010, 0x0, 1, 0x200, 512⟩,
  ⟨.monCount, .window, 0x400018, 0x0, 1, 0x200, 512⟩,
  ⟨.monHist, .window, 0x400040, 0x200, 512, 0x4, 16⟩,
  ⟨.monCtrl, .window, 0x440000, 0x0, 1, 0x0, 1⟩]

/-- The ENT_ registers. -/
def rowsEnt : List RegRow := [
  ⟨.entStatus, .window, 0x600000, 0x0, 1, 0x0, 1⟩,
  ⟨.entCtrl, .window, 0x600008, 0x0, 1, 0x0, 1⟩,
  ⟨.entReseed, .window, 0x600010, 0x0, 1, 0x0, 1⟩,
  ⟨.entOutput, .window, 0x600018, 0x0, 1, 0x0, 1⟩,
  ⟨.entHealth, .window, 0x600020, 0x0, 1, 0x0, 1⟩,
  ⟨.entTest, .window, 0x600028, 0x0, 1, 0x0, 1⟩,
  ⟨.entPattern, .window, 0x600030, 0x0, 1, 0x0, 1⟩,
  ⟨.entRaw, .window, 0x601000, 0x0, 1, 0x4, 1024⟩]

/-- The SEC_ registers. -/
def rowsSec : List RegRow := [
  ⟨.secBoot, .window, 0x608000, 0x0, 1, 0x0, 1⟩,
  ⟨.secLifecycle, .window, 0x608008, 0x0, 1, 0x0, 1⟩,
  ⟨.secIdent, .window, 0x608010, 0x0, 1, 0x8, 6⟩,
  ⟨.secSession, .window, 0x608040, 0x0, 1, 0x8, 2⟩,
  ⟨.secAuthFail, .window, 0x608050, 0x0, 1, 0x0, 1⟩]

/-- The CFG_ registers. -/
def rowsCfg : List RegRow := [
  ⟨.cfgStatus, .window, 0x800000, 0x0, 1, 0x0, 1⟩,
  ⟨.cfgBank, .window, 0x800010, 0x0, 1, 0x8, 2⟩,
  ⟨.cfgImage, .window, 0x800020, 0x0, 1, 0x8, 2⟩,
  ⟨.cfgAperture, .window, 0x800030, 0x0, 1, 0x0, 1⟩,
  ⟨.cfgStart, .window, 0x800040, 0x0, 1, 0x0, 1⟩,
  ⟨.cfgCtrl, .window, 0x800048, 0x0, 1, 0x0, 1⟩]

/-- Every register with its place. -/
def regRows : List RegRow :=
  rowsShf ++ rowsAcr ++ rowsHrw ++ rowsStk ++ rowsLnk ++ rowsGrn ++ rowsGdd ++ rowsHub ++ rowsMbx ++ rowsDone ++ rowsFnc ++ rowsHub2 ++ rowsFlt ++ rowsPwr ++ rowsMon ++ rowsEnt ++ rowsSec ++ rowsCfg

/-- A field of a register: bits `[lo + w - 1 : lo]`. -/
structure Fld where
  reg : Reg
  lo : Nat
  w : Nat
  deriving DecidableEq, Repr

namespace F
/-- SHF_CTRL.LANE_EN -/
abbrev shfCtrlLaneEn : Fld := ⟨.shfCtrl, 12, 4⟩
/-- SHF_CTRL.NOISE_MODE -/
abbrev shfCtrlNoiseMode : Fld := ⟨.shfCtrl, 8, 2⟩
/-- SHF_CTRL.PROP_EN -/
abbrev shfCtrlPropEn : Fld := ⟨.shfCtrl, 4, 1⟩
/-- SHF_CTRL.RUN -/
abbrev shfCtrlRun : Fld := ⟨.shfCtrl, 0, 1⟩
/-- SHF_STATUS.ESAT -/
abbrev shfStatusEsat : Fld := ⟨.shfStatus, 11, 1⟩
/-- SHF_STATUS.EVSAT -/
abbrev shfStatusEvsat : Fld := ⟨.shfStatus, 10, 1⟩
/-- SHF_STATUS.FSAT -/
abbrev shfStatusFsat : Fld := ⟨.shfStatus, 9, 1⟩
/-- SHF_STATUS.NOISE_HELD -/
abbrev shfStatusNoiseHeld : Fld := ⟨.shfStatus, 8, 1⟩
/-- SHF_STATUS.MOVE_BUSY -/
abbrev shfStatusMoveBusy : Fld := ⟨.shfStatus, 4, 4⟩
/-- SHF_STATUS.LANE_RUN -/
abbrev shfStatusLaneRun : Fld := ⟨.shfStatus, 0, 4⟩
/-- SHF_SCALE.SCALE_Q -/
abbrev shfScaleScaleQ : Fld := ⟨.shfScale, 16, 16⟩
/-- SHF_SCALE.SCALE_P -/
abbrev shfScaleScaleP : Fld := ⟨.shfScale, 0, 16⟩
/-- SHF_SHIFT.SH_Q -/
abbrev shfShiftShQ : Fld := ⟨.shfShift, 10, 5⟩
/-- SHF_SHIFT.SH_P -/
abbrev shfShiftShP : Fld := ⟨.shfShift, 5, 5⟩
/-- SHF_SHIFT.DB -/
abbrev shfShiftDb : Fld := ⟨.shfShift, 0, 5⟩
/-- SHF_SCHED_CTRL.POINTS -/
abbrev shfSchedCtrlPoints : Fld := ⟨.shfSchedCtrl, 0, 9⟩
/-- SHF_TICK.TAU -/
abbrev shfTickTau : Fld := ⟨.shfTick, 0, 64⟩
/-- SHF_KEY.KEY -/
abbrev shfKeyKey : Fld := ⟨.shfKey, 0, 32⟩
/-- SHF_SCHED.BASE -/
abbrev shfSchedBase : Fld := ⟨.shfSched, 40, 24⟩
/-- SHF_SCHED.TICK -/
abbrev shfSchedTick : Fld := ⟨.shfSched, 0, 40⟩
/-- SHF_STAY.STAY -/
abbrev shfStayStay : Fld := ⟨.shfStay, 0, 32⟩
/-- SHF_LADDER.LAMBDA -/
abbrev shfLadderLambda : Fld := ⟨.shfLadder, 0, 16⟩
/-- SHF_STUCK_CFG.HALVE -/
abbrev shfStuckCfgHalve : Fld := ⟨.shfStuckCfg, 29, 1⟩
/-- SHF_STUCK_CFG.WEXP -/
abbrev shfStuckCfgWexp : Fld := ⟨.shfStuckCfg, 24, 5⟩
/-- SHF_STUCK_CFG.STEP -/
abbrev shfStuckCfgStep : Fld := ⟨.shfStuckCfg, 16, 8⟩
/-- SHF_STUCK_CFG.CAP -/
abbrev shfStuckCfgCap : Fld := ⟨.shfStuckCfg, 0, 16⟩
/-- SHF_UNDO.FULL_TICKS -/
abbrev shfUndoFullTicks : Fld := ⟨.shfUndo, 16, 8⟩
/-- SHF_UNDO.USED -/
abbrev shfUndoUsed : Fld := ⟨.shfUndo, 0, 7⟩
/-- SHF_STUCK_STATE.OFFSET -/
abbrev shfStuckStateOffset : Fld := ⟨.shfStuckState, 48, 16⟩
/-- SHF_STUCK_STATE.COUNT -/
abbrev shfStuckStateCount : Fld := ⟨.shfStuckState, 0, 20⟩
/-- SHF_ENERGY.ENERGY -/
abbrev shfEnergyEnergy : Fld := ⟨.shfEnergy, 0, 48⟩
/-- SHF_LOW.LOW -/
abbrev shfLowLow : Fld := ⟨.shfLow, 0, 48⟩
/-- SHF_SNAP_ENERGY.SNAP -/
abbrev shfSnapEnergySnap : Fld := ⟨.shfSnapEnergy, 0, 48⟩
/-- SHF_SAT.SAT_Q -/
abbrev shfSatSatQ : Fld := ⟨.shfSat, 16, 16⟩
/-- SHF_SAT.SAT_P -/
abbrev shfSatSatP : Fld := ⟨.shfSat, 0, 16⟩
/-- SHF_PROP.REFUSED -/
abbrev shfPropRefused : Fld := ⟨.shfProp, 32, 16⟩
/-- SHF_PROP.WITHDRAWN -/
abbrev shfPropWithdrawn : Fld := ⟨.shfProp, 16, 16⟩
/-- SHF_PROP.TAKEN -/
abbrev shfPropTaken : Fld := ⟨.shfProp, 0, 16⟩
/-- ACR_WINNOW_CTRL.EXCH_EXP -/
abbrev acrWinnowCtrlExchExp : Fld := ⟨.acrWinnowCtrl, 20, 4⟩
/-- ACR_WINNOW_CTRL.RED_EXP -/
abbrev acrWinnowCtrlRedExp : Fld := ⟨.acrWinnowCtrl, 16, 4⟩
/-- ACR_WINNOW_CTRL.EXCH_MODE -/
abbrev acrWinnowCtrlExchMode : Fld := ⟨.acrWinnowCtrl, 8, 2⟩
/-- ACR_WINNOW_CTRL.HIST_EN -/
abbrev acrWinnowCtrlHistEn : Fld := ⟨.acrWinnowCtrl, 2, 1⟩
/-- ACR_WINNOW_CTRL.BEST_EN -/
abbrev acrWinnowCtrlBestEn : Fld := ⟨.acrWinnowCtrl, 1, 1⟩
/-- ACR_WINNOW_CTRL.EN -/
abbrev acrWinnowCtrlEn : Fld := ⟨.acrWinnowCtrl, 0, 1⟩
/-- ACR_WINNOW_COUNT.ACCEPTED -/
abbrev acrWinnowCountAccepted : Fld := ⟨.acrWinnowCount, 32, 32⟩
/-- ACR_WINNOW_COUNT.TRIED -/
abbrev acrWinnowCountTried : Fld := ⟨.acrWinnowCount, 0, 32⟩
/-- ACR_TALLY_CTRL.AUDIT_EXP -/
abbrev acrTallyCtrlAuditExp : Fld := ⟨.acrTallyCtrl, 27, 5⟩
/-- ACR_TALLY_CTRL.SAMPLE_EXP -/
abbrev acrTallyCtrlSampleExp : Fld := ⟨.acrTallyCtrl, 22, 5⟩
/-- ACR_TALLY_CTRL.AUDIT_SPAN -/
abbrev acrTallyCtrlAuditSpan : Fld := ⟨.acrTallyCtrl, 12, 10⟩
/-- ACR_TALLY_CTRL.SAMPLE_LANES -/
abbrev acrTallyCtrlSampleLanes : Fld := ⟨.acrTallyCtrl, 8, 4⟩
/-- ACR_TALLY_CTRL.CNT32 -/
abbrev acrTallyCtrlCnt32 : Fld := ⟨.acrTallyCtrl, 3, 1⟩
/-- ACR_TALLY_CTRL.STAT_EN -/
abbrev acrTallyCtrlStatEn : Fld := ⟨.acrTallyCtrl, 2, 1⟩
/-- ACR_TALLY_CTRL.AUDIT_EN -/
abbrev acrTallyCtrlAuditEn : Fld := ⟨.acrTallyCtrl, 1, 1⟩
/-- ACR_TALLY_STATUS.MISMATCH -/
abbrev acrTallyStatusMismatch : Fld := ⟨.acrTallyStatus, 3, 1⟩
/-- ACR_TALLY_STATUS.STAT_FULL -/
abbrev acrTallyStatusStatFull : Fld := ⟨.acrTallyStatus, 2, 1⟩
/-- ACR_TALLY_STATUS.SAMPLE_BUSY -/
abbrev acrTallyStatusSampleBusy : Fld := ⟨.acrTallyStatus, 1, 1⟩
/-- ACR_TALLY_STATUS.AUDIT_BUSY -/
abbrev acrTallyStatusAuditBusy : Fld := ⟨.acrTallyStatus, 0, 1⟩
/-- ACR_STAT_SAMPLES.N -/
abbrev acrStatSamplesN : Fld := ⟨.acrStatSamples, 0, 32⟩
/-- ACR_HIST_CFG.LO -/
abbrev acrHistCfgLo : Fld := ⟨.acrHistCfg, 16, 48⟩
/-- ACR_HIST_CFG.SHIFT -/
abbrev acrHistCfgShift : Fld := ⟨.acrHistCfg, 0, 6⟩
/-- HRW_CTRL.EN -/
abbrev hrwCtrlEn : Fld := ⟨.hrwCtrl, 0, 1⟩
/-- HRW_STATUS.POISON -/
abbrev hrwStatusPoison : Fld := ⟨.hrwStatus, 7, 1⟩
/-- HRW_STATUS.OSAT -/
abbrev hrwStatusOsat : Fld := ⟨.hrwStatus, 6, 1⟩
/-- HRW_STATUS.ASAT -/
abbrev hrwStatusAsat : Fld := ⟨.hrwStatus, 5, 1⟩
/-- HRW_STATUS.PASS2 -/
abbrev hrwStatusPass2 : Fld := ⟨.hrwStatus, 4, 1⟩
/-- HRW_STATUS.BUSY -/
abbrev hrwStatusBusy : Fld := ⟨.hrwStatus, 0, 1⟩
/-- HRW_RANGE.OVF_KERNELS -/
abbrev hrwRangeOvfKernels : Fld := ⟨.hrwRange, 16, 16⟩
/-- HRW_RANGE.PEAK -/
abbrev hrwRangePeak : Fld := ⟨.hrwRange, 0, 6⟩
/-- HRW_SAT_COUNT.OSAT_N -/
abbrev hrwSatCountOsatN : Fld := ⟨.hrwSatCount, 16, 16⟩
/-- HRW_SAT_COUNT.ASAT_N -/
abbrev hrwSatCountAsatN : Fld := ⟨.hrwSatCount, 0, 16⟩
/-- HRW_KERNELS.DONE -/
abbrev hrwKernelsDone : Fld := ⟨.hrwKernels, 0, 32⟩
/-- HRW_ACT_CFG.X0 -/
abbrev hrwActCfgX0 : Fld := ⟨.hrwActCfg, 32, 32⟩
/-- HRW_ACT_CFG.WEXP -/
abbrev hrwActCfgWexp : Fld := ⟨.hrwActCfg, 0, 8⟩
/-- HRW_ACT_TAB.A -/
abbrev hrwActTabA : Fld := ⟨.hrwActTab, 32, 32⟩
/-- HRW_ACT_TAB.B -/
abbrev hrwActTabB : Fld := ⟨.hrwActTab, 0, 32⟩
/-- HRW_GEN_CTRL.VOCAB -/
abbrev hrwGenCtrlVocab : Fld := ⟨.hrwGenCtrl, 16, 12⟩
/-- HRW_GEN_CTRL.P_TOK -/
abbrev hrwGenCtrlPTok : Fld := ⟨.hrwGenCtrl, 11, 5⟩
/-- HRW_GEN_CTRL.GEN_ID -/
abbrev hrwGenCtrlGenId : Fld := ⟨.hrwGenCtrl, 9, 2⟩
/-- HRW_GEN_CTRL.LOG_EN -/
abbrev hrwGenCtrlLogEn : Fld := ⟨.hrwGenCtrl, 8, 1⟩
/-- HRW_GEN_CTRL.EN -/
abbrev hrwGenCtrlEn : Fld := ⟨.hrwGenCtrl, 0, 1⟩
/-- HRW_GEN_START.T0 -/
abbrev hrwGenStartT0 : Fld := ⟨.hrwGenStart, 0, 40⟩
/-- HRW_GEN_TAU.TAU -/
abbrev hrwGenTauTau : Fld := ⟨.hrwGenTau, 0, 16⟩
/-- HRW_GEN_STATE.TAG -/
abbrev hrwGenStateTag : Fld := ⟨.hrwGenState, 48, 16⟩
/-- HRW_GEN_STATE.LAST -/
abbrev hrwGenStateLast : Fld := ⟨.hrwGenState, 37, 11⟩
/-- HRW_GEN_STATE.OPEN -/
abbrev hrwGenStateOpen : Fld := ⟨.hrwGenState, 36, 1⟩
/-- HRW_GEN_STATE.GROUP -/
abbrev hrwGenStateGroup : Fld := ⟨.hrwGenState, 35, 1⟩
/-- HRW_GEN_STATE.NPOS -/
abbrev hrwGenStateNpos : Fld := ⟨.hrwGenState, 30, 5⟩
/-- HRW_GEN_STATE.TARGET -/
abbrev hrwGenStateTarget : Fld := ⟨.hrwGenState, 21, 9⟩
/-- HRW_GEN_STATE.DONE -/
abbrev hrwGenStateDone : Fld := ⟨.hrwGenState, 20, 1⟩
/-- HRW_GEN_STATE.N -/
abbrev hrwGenStateN : Fld := ⟨.hrwGenState, 0, 20⟩
/-- HRW_GEN_COUNT.RECORDS -/
abbrev hrwGenCountRecords : Fld := ⟨.hrwGenCount, 32, 32⟩
/-- HRW_GEN_COUNT.CANCELS -/
abbrev hrwGenCountCancels : Fld := ⟨.hrwGenCount, 16, 16⟩
/-- HRW_GEN_COUNT.DROPPED -/
abbrev hrwGenCountDropped : Fld := ⟨.hrwGenCount, 0, 16⟩
/-- HRW_GEN_TARGET.MASK -/
abbrev hrwGenTargetMask : Fld := ⟨.hrwGenTarget, 0, 32⟩
/-- STK_CHAIN_STATUS.DISPATCHED -/
abbrev stkChainStatusDispatched : Fld := ⟨.stkChainStatus, 16, 16⟩
/-- STK_CHAIN_STATUS.LATE -/
abbrev stkChainStatusLate : Fld := ⟨.stkChainStatus, 15, 1⟩
/-- STK_CHAIN_STATUS.PENDING -/
abbrev stkChainStatusPending : Fld := ⟨.stkChainStatus, 0, 6⟩
/-- STK_BANK_OWNER.KIND -/
abbrev stkBankOwnerKind : Fld := ⟨.stkBankOwner, 14, 2⟩
/-- STK_BANK_OWNER.CTX -/
abbrev stkBankOwnerCtx : Fld := ⟨.stkBankOwner, 0, 14⟩
/-- STK_BANK_STATUS.HANDOVERS -/
abbrev stkBankStatusHandovers : Fld := ⟨.stkBankStatus, 16, 16⟩
/-- STK_BANK_STATUS.ECC_POISON -/
abbrev stkBankStatusEccPoison : Fld := ⟨.stkBankStatus, 3, 1⟩
/-- STK_BANK_STATUS.DENIED -/
abbrev stkBankStatusDenied : Fld := ⟨.stkBankStatus, 2, 1⟩
/-- STK_BANK_STATUS.NOT_OWNER -/
abbrev stkBankStatusNotOwner : Fld := ⟨.stkBankStatus, 1, 1⟩
/-- STK_BANK_STATUS.EXCH -/
abbrev stkBankStatusExch : Fld := ⟨.stkBankStatus, 0, 1⟩
/-- STK_EXCH_CFG.PHASE -/
abbrev stkExchCfgPhase : Fld := ⟨.stkExchCfg, 16, 1⟩
/-- STK_EXCH_CFG.DELTA_BANK -/
abbrev stkExchCfgDeltaBank : Fld := ⟨.stkExchCfg, 12, 4⟩
/-- STK_EXCH_CFG.LINK_B -/
abbrev stkExchCfgLinkB : Fld := ⟨.stkExchCfg, 8, 4⟩
/-- STK_EXCH_CFG.LINK_A -/
abbrev stkExchCfgLinkA : Fld := ⟨.stkExchCfg, 4, 4⟩
/-- STK_EXCH_CFG.DELTA_EN -/
abbrev stkExchCfgDeltaEn : Fld := ⟨.stkExchCfg, 2, 1⟩
/-- STK_EXCH_CFG.LINK_B_EN -/
abbrev stkExchCfgLinkBEn : Fld := ⟨.stkExchCfg, 1, 1⟩
/-- STK_EXCH_CFG.LINK_A_EN -/
abbrev stkExchCfgLinkAEn : Fld := ⟨.stkExchCfg, 0, 1⟩
/-- STK_QUEUE_CFG.CONS_UNIT -/
abbrev stkQueueCfgConsUnit : Fld := ⟨.stkQueueCfg, 49, 3⟩
/-- STK_QUEUE_CFG.CONS -/
abbrev stkQueueCfgCons : Fld := ⟨.stkQueueCfg, 45, 4⟩
/-- STK_QUEUE_CFG.PROD_UNIT -/
abbrev stkQueueCfgProdUnit : Fld := ⟨.stkQueueCfg, 42, 3⟩
/-- STK_QUEUE_CFG.PROD -/
abbrev stkQueueCfgProd : Fld := ⟨.stkQueueCfg, 38, 4⟩
/-- STK_QUEUE_CFG.BANK_B -/
abbrev stkQueueCfgBankB : Fld := ⟨.stkQueueCfg, 34, 4⟩
/-- STK_QUEUE_CFG.BLK_B -/
abbrev stkQueueCfgBlkB : Fld := ⟨.stkQueueCfg, 27, 7⟩
/-- STK_QUEUE_CFG.BANK_A -/
abbrev stkQueueCfgBankA : Fld := ⟨.stkQueueCfg, 23, 4⟩
/-- STK_QUEUE_CFG.BLK_A -/
abbrev stkQueueCfgBlkA : Fld := ⟨.stkQueueCfg, 16, 7⟩
/-- STK_QUEUE_CFG.CLOSE_AT_END -/
abbrev stkQueueCfgCloseAtEnd : Fld := ⟨.stkQueueCfg, 1, 1⟩
/-- STK_QUEUE_CFG.EN -/
abbrev stkQueueCfgEn : Fld := ⟨.stkQueueCfg, 0, 1⟩
/-- STK_QUEUE_STATUS.PAR_ERR -/
abbrev stkQueueStatusParErr : Fld := ⟨.stkQueueStatus, 48, 16⟩
/-- STK_QUEUE_STATUS.PACKETS -/
abbrev stkQueueStatusPackets : Fld := ⟨.stkQueueStatus, 40, 8⟩
/-- STK_QUEUE_STATUS.WR_IDX -/
abbrev stkQueueStatusWrIdx : Fld := ⟨.stkQueueStatus, 33, 7⟩
/-- STK_QUEUE_STATUS.WR_BANK -/
abbrev stkQueueStatusWrBank : Fld := ⟨.stkQueueStatus, 32, 1⟩
/-- STK_QUEUE_STATUS.RD_IDX -/
abbrev stkQueueStatusRdIdx : Fld := ⟨.stkQueueStatus, 25, 7⟩
/-- STK_QUEUE_STATUS.RD_BANK -/
abbrev stkQueueStatusRdBank : Fld := ⟨.stkQueueStatus, 24, 1⟩
/-- STK_QUEUE_STATUS.STATE_B -/
abbrev stkQueueStatusStateB : Fld := ⟨.stkQueueStatus, 20, 4⟩
/-- STK_QUEUE_STATUS.STATE_A -/
abbrev stkQueueStatusStateA : Fld := ⟨.stkQueueStatus, 16, 4⟩
/-- STK_QUEUE_STATUS.POISON_SEEN -/
abbrev stkQueueStatusPoisonSeen : Fld := ⟨.stkQueueStatus, 2, 1⟩
/-- STK_QUEUE_STATUS.PROD_STALL -/
abbrev stkQueueStatusProdStall : Fld := ⟨.stkQueueStatus, 1, 1⟩
/-- STK_QUEUE_STATUS.CONS_STALL -/
abbrev stkQueueStatusConsStall : Fld := ⟨.stkQueueStatus, 0, 1⟩
/-- STK_CORE_STATUS.PC -/
abbrev stkCoreStatusPc : Fld := ⟨.stkCoreStatus, 34, 14⟩
/-- STK_CORE_STATUS.STATE -/
abbrev stkCoreStatusState : Fld := ⟨.stkCoreStatus, 32, 2⟩
/-- STK_CORE_STATUS.BOOK_MISS -/
abbrev stkCoreStatusBookMiss : Fld := ⟨.stkCoreStatus, 31, 1⟩
/-- STK_CORE_STATUS.VOPS -/
abbrev stkCoreStatusVops : Fld := ⟨.stkCoreStatus, 16, 15⟩
/-- STK_CORE_STATUS.GLEANS -/
abbrev stkCoreStatusGleans : Fld := ⟨.stkCoreStatus, 0, 16⟩
/-- STK_CORE_FAULT.FPC -/
abbrev stkCoreFaultFpc : Fld := ⟨.stkCoreFault, 36, 14⟩
/-- STK_CORE_FAULT.VALID -/
abbrev stkCoreFaultValid : Fld := ⟨.stkCoreFault, 4, 1⟩
/-- STK_CORE_FAULT.CAUSE -/
abbrev stkCoreFaultCause : Fld := ⟨.stkCoreFault, 0, 4⟩
/-- LNK_CTRL.SPARE_EN -/
abbrev lnkCtrlSpareEn : Fld := ⟨.lnkCtrl, 3, 1⟩
/-- LNK_CTRL.ENC_REQ -/
abbrev lnkCtrlEncReq : Fld := ⟨.lnkCtrl, 2, 1⟩
/-- LNK_CTRL.SCHED -/
abbrev lnkCtrlSched : Fld := ⟨.lnkCtrl, 1, 1⟩
/-- LNK_CTRL.EN -/
abbrev lnkCtrlEn : Fld := ⟨.lnkCtrl, 0, 1⟩
/-- LNK_STATUS.PEER_PORT -/
abbrev lnkStatusPeerPort : Fld := ⟨.lnkStatus, 36, 6⟩
/-- LNK_STATUS.PEER_RANK -/
abbrev lnkStatusPeerRank : Fld := ⟨.lnkStatus, 30, 6⟩
/-- LNK_STATUS.EPOCH -/
abbrev lnkStatusEpoch : Fld := ⟨.lnkStatus, 22, 8⟩
/-- LNK_STATUS.ENC_ON -/
abbrev lnkStatusEncOn : Fld := ⟨.lnkStatus, 21, 1⟩
/-- LNK_STATUS.SPARE_IN_USE -/
abbrev lnkStatusSpareInUse : Fld := ⟨.lnkStatus, 20, 1⟩
/-- LNK_STATUS.FAILED_LANE -/
abbrev lnkStatusFailedLane : Fld := ⟨.lnkStatus, 16, 4⟩
/-- LNK_STATUS.LANES_UP -/
abbrev lnkStatusLanesUp : Fld := ⟨.lnkStatus, 8, 8⟩
/-- LNK_STATUS.STATE -/
abbrev lnkStatusState : Fld := ⟨.lnkStatus, 0, 3⟩
/-- LNK_DELAY.DELAY -/
abbrev lnkDelayDelay : Fld := ⟨.lnkDelay, 0, 10⟩
/-- LNK_SEQ.TX_SEQ -/
abbrev lnkSeqTxSeq : Fld := ⟨.lnkSeq, 32, 32⟩
/-- LNK_SEQ.RX_EXPECT -/
abbrev lnkSeqRxExpect : Fld := ⟨.lnkSeq, 0, 32⟩
/-- LNK_ERR.RETRIES -/
abbrev lnkErrRetries : Fld := ⟨.lnkErr, 48, 16⟩
/-- LNK_ERR.CHECK_FAIL -/
abbrev lnkErrCheckFail : Fld := ⟨.lnkErr, 32, 16⟩
/-- LNK_ERR.AUTH_FAIL -/
abbrev lnkErrAuthFail : Fld := ⟨.lnkErr, 16, 16⟩
/-- LNK_ERR.LINK_RESETS -/
abbrev lnkErrLinkResets : Fld := ⟨.lnkErr, 0, 16⟩
/-- LNK_SLACK.DEADLINE_MISS -/
abbrev lnkSlackDeadlineMiss : Fld := ⟨.lnkSlack, 32, 16⟩
/-- LNK_SLACK.MAX_SLACK -/
abbrev lnkSlackMaxSlack : Fld := ⟨.lnkSlack, 24, 8⟩
/-- LNK_SLACK.SLACK_USED -/
abbrev lnkSlackSlackUsed : Fld := ⟨.lnkSlack, 0, 24⟩
/-- LNK_CLEAR.CLR_SLACK -/
abbrev lnkClearClrSlack : Fld := ⟨.lnkClear, 1, 1⟩
/-- LNK_CLEAR.CLR_ERR -/
abbrev lnkClearClrErr : Fld := ⟨.lnkClear, 0, 1⟩
/-- GRN_STATUS.LOST -/
abbrev grnStatusLost : Fld := ⟨.grnStatus, 8, 4⟩
/-- GRN_STATUS.SEGS_MAPPED -/
abbrev grnStatusSegsMapped : Fld := ⟨.grnStatus, 1, 7⟩
/-- GRN_STATUS.MIRROR_BUSY -/
abbrev grnStatusMirrorBusy : Fld := ⟨.grnStatus, 0, 1⟩
/-- GRN_ECC.UNCORR -/
abbrev grnEccUncorr : Fld := ⟨.grnEcc, 48, 16⟩
/-- GRN_ECC.CORR -/
abbrev grnEccCorr : Fld := ⟨.grnEcc, 18, 30⟩
/-- GRN_ECC.SCRUB_ROW -/
abbrev grnEccScrubRow : Fld := ⟨.grnEcc, 0, 17⟩
/-- GRN_POOL.MIRROR_LAG -/
abbrev grnPoolMirrorLag : Fld := ⟨.grnPool, 48, 16⟩
/-- GRN_POOL.MIRROR_USED -/
abbrev grnPoolMirrorUsed : Fld := ⟨.grnPool, 16, 16⟩
/-- GRN_POOL.OWN_USED -/
abbrev grnPoolOwnUsed : Fld := ⟨.grnPool, 0, 16⟩
/-- GRN_SEG.CTX -/
abbrev grnSegCtx : Fld := ⟨.grnSeg, 50, 14⟩
/-- GRN_SEG.FIELD -/
abbrev grnSegField : Fld := ⟨.grnSeg, 41, 9⟩
/-- GRN_SEG.CLASS -/
abbrev grnSegClass : Fld := ⟨.grnSeg, 9, 1⟩
/-- GRN_SEG.VALID -/
abbrev grnSegValid : Fld := ⟨.grnSeg, 8, 1⟩
/-- GRN_SEG.PORT -/
abbrev grnSegPort : Fld := ⟨.grnSeg, 6, 2⟩
/-- GRN_SEG.PSEG -/
abbrev grnSegPseg : Fld := ⟨.grnSeg, 0, 5⟩
/-- GDD_STATUS.STALE_USED -/
abbrev gddStatusStaleUsed : Fld := ⟨.gddStatus, 13, 7⟩
/-- GDD_STATUS.SELF_REFRESH -/
abbrev gddStatusSelfRefresh : Fld := ⟨.gddStatus, 12, 1⟩
/-- GDD_STATUS.SLOTS_BUSY -/
abbrev gddStatusSlotsBusy : Fld := ⟨.gddStatus, 8, 4⟩
/-- GDD_STATUS.DEGRADED -/
abbrev gddStatusDegraded : Fld := ⟨.gddStatus, 7, 1⟩
/-- GDD_STATUS.LOST -/
abbrev gddStatusLost : Fld := ⟨.gddStatus, 0, 6⟩
/-- GDD_ERR.POISONED -/
abbrev gddErrPoisoned : Fld := ⟨.gddErr, 48, 16⟩
/-- GDD_ERR.LINK_ERR -/
abbrev gddErrLinkErr : Fld := ⟨.gddErr, 32, 16⟩
/-- GDD_ERR.REBUILT -/
abbrev gddErrRebuilt : Fld := ⟨.gddErr, 0, 32⟩
/-- GDD_SEG.CTX -/
abbrev gddSegCtx : Fld := ⟨.gddSeg, 50, 14⟩
/-- GDD_SEG.FIELD -/
abbrev gddSegField : Fld := ⟨.gddSeg, 41, 9⟩
/-- GDD_SEG.LSEG -/
abbrev gddSegLseg : Fld := ⟨.gddSeg, 33, 8⟩
/-- GDD_SEG.OWNER -/
abbrev gddSegOwner : Fld := ⟨.gddSeg, 2, 2⟩
/-- GDD_SEG.MIRROR -/
abbrev gddSegMirror : Fld := ⟨.gddSeg, 1, 1⟩
/-- GDD_SEG.KEEP -/
abbrev gddSegKeep : Fld := ⟨.gddSeg, 0, 1⟩
/-- HUB_IDENT.FW_VERSION -/
abbrev hubIdentFwVersion : Fld := ⟨.hubIdent, 32, 16⟩
/-- HUB_IDENT.LEVEL -/
abbrev hubIdentLevel : Fld := ⟨.hubIdent, 24, 8⟩
/-- HUB_IDENT.STEPPING -/
abbrev hubIdentStepping : Fld := ⟨.hubIdent, 16, 8⟩
/-- HUB_STATUS.ACTIVE_BARN -/
abbrev hubStatusActiveBarn : Fld := ⟨.hubStatus, 7, 1⟩
/-- HUB_STATUS.STANDBY_READY -/
abbrev hubStatusStandbyReady : Fld := ⟨.hubStatus, 6, 1⟩
/-- HUB_STATUS.DJC_1_UP -/
abbrev hubStatusDjc1Up : Fld := ⟨.hubStatus, 5, 1⟩
/-- HUB_STATUS.DJC_0_UP -/
abbrev hubStatusDjc0Up : Fld := ⟨.hubStatus, 4, 1⟩
/-- HUB_STATUS.READY -/
abbrev hubStatusReady : Fld := ⟨.hubStatus, 0, 1⟩
/-- HUB_TICK.T -/
abbrev hubTickT : Fld := ⟨.hubTick, 0, 64⟩
/-- HUB_CAPACITY.FREE_STREAMS -/
abbrev hubCapacityFreeStreams : Fld := ⟨.hubCapacity, 27, 13⟩
/-- HUB_CAPACITY.FREE_GRAPHS -/
abbrev hubCapacityFreeGraphs : Fld := ⟨.hubCapacity, 14, 13⟩
/-- HUB_CAPACITY.FREE_CTX -/
abbrev hubCapacityFreeCtx : Fld := ⟨.hubCapacity, 0, 14⟩
/-- HUB_WATCHDOG.DEFAULT_MS -/
abbrev hubWatchdogDefaultMs : Fld := ⟨.hubWatchdog, 0, 16⟩
/-- MBX_STATUS.LAST -/
abbrev mbxStatusLast : Fld := ⟨.mbxStatus, 32, 32⟩
/-- MBX_STATUS.DROPPED -/
abbrev mbxStatusDropped : Fld := ⟨.mbxStatus, 16, 16⟩
/-- MBX_STATUS.HISTORY -/
abbrev mbxStatusHistory : Fld := ⟨.mbxStatus, 1, 8⟩
/-- MBX_STATUS.BUSY -/
abbrev mbxStatusBusy : Fld := ⟨.mbxStatus, 0, 1⟩
/-- MBX_CTRL.RESET -/
abbrev mbxCtrlReset : Fld := ⟨.mbxCtrl, 1, 1⟩
/-- MBX_CTRL.HISTORY_VALID -/
abbrev mbxCtrlHistoryValid : Fld := ⟨.mbxCtrl, 0, 1⟩
/-- DONE_WORD.SEQ -/
abbrev doneWordSeq : Fld := ⟨.doneWord, 32, 32⟩
/-- DONE_WORD.STATUS -/
abbrev doneWordStatus : Fld := ⟨.doneWord, 24, 8⟩
/-- DONE_WORD.TICK -/
abbrev doneWordTick : Fld := ⟨.doneWord, 0, 24⟩
/-- FNC_VALUE.VALUE -/
abbrev fncValueValue : Fld := ⟨.fncValue, 0, 64⟩
/-- HUB_GROUP_STATUS.RANK -/
abbrev hubGroupStatusRank : Fld := ⟨.hubGroupStatus, 26, 6⟩
/-- HUB_GROUP_STATUS.MEMBERS -/
abbrev hubGroupStatusMembers : Fld := ⟨.hubGroupStatus, 19, 7⟩
/-- HUB_GROUP_STATUS.SKEW_EXC -/
abbrev hubGroupStatusSkewExc : Fld := ⟨.hubGroupStatus, 3, 1⟩
/-- HUB_GROUP_STATUS.STALLED -/
abbrev hubGroupStatusStalled : Fld := ⟨.hubGroupStatus, 2, 1⟩
/-- HUB_GROUP_STATUS.STATE -/
abbrev hubGroupStatusState : Fld := ⟨.hubGroupStatus, 0, 2⟩
/-- HUB_GROUP_TICK.G -/
abbrev hubGroupTickG : Fld := ⟨.hubGroupTick, 0, 64⟩
/-- HUB_GROUP_OFFSET.OFFSET -/
abbrev hubGroupOffsetOffset : Fld := ⟨.hubGroupOffset, 0, 64⟩
/-- HUB_GROUP_SKEW.LAST -/
abbrev hubGroupSkewLast : Fld := ⟨.hubGroupSkew, 48, 16⟩
/-- HUB_GROUP_SKEW.WORST -/
abbrev hubGroupSkewWorst : Fld := ⟨.hubGroupSkew, 32, 16⟩
/-- HUB_GROUP_SKEW.OWN -/
abbrev hubGroupSkewOwn : Fld := ⟨.hubGroupSkew, 16, 16⟩
/-- HUB_GROUP_SKEW.BARRIERS -/
abbrev hubGroupSkewBarriers : Fld := ⟨.hubGroupSkew, 0, 16⟩
/-- HUB_GROUP_PATH.H -/
abbrev hubGroupPathH : Fld := ⟨.hubGroupPath, 16, 16⟩
/-- HUB_GROUP_PATH.HOPS -/
abbrev hubGroupPathHops : Fld := ⟨.hubGroupPath, 8, 8⟩
/-- HUB_GROUP_PATH.PARENT -/
abbrev hubGroupPathParent : Fld := ⟨.hubGroupPath, 0, 5⟩
/-- FLT_STATUS.DIE_LOST -/
abbrev fltStatusDieLost : Fld := ⟨.fltStatus, 16, 8⟩
/-- FLT_STATUS.PSC_LOST -/
abbrev fltStatusPscLost : Fld := ⟨.fltStatus, 8, 2⟩
/-- FLT_STATUS.CAPTURE_BUSY -/
abbrev fltStatusCaptureBusy : Fld := ⟨.fltStatus, 3, 1⟩
/-- FLT_STATUS.RESET_LIMIT -/
abbrev fltStatusResetLimit : Fld := ⟨.fltStatus, 2, 1⟩
/-- FLT_STATUS.RESET_ACTIVE -/
abbrev fltStatusResetActive : Fld := ⟨.fltStatus, 1, 1⟩
/-- FLT_STATUS.RECOVERING -/
abbrev fltStatusRecovering : Fld := ⟨.fltStatus, 0, 1⟩
/-- FLT_LOG_HEAD.NEXT_SEQ -/
abbrev fltLogHeadNextSeq : Fld := ⟨.fltLogHead, 32, 32⟩
/-- FLT_LOG_HEAD.OVERWRITTEN -/
abbrev fltLogHeadOverwritten : Fld := ⟨.fltLogHead, 16, 16⟩
/-- FLT_LOG_HEAD.NEXT_INDEX -/
abbrev fltLogHeadNextIndex : Fld := ⟨.fltLogHead, 0, 10⟩
/-- FLT_HANG.RESETS_WINDOW -/
abbrev fltHangResetsWindow : Fld := ⟨.fltHang, 48, 16⟩
/-- FLT_HANG.QUARANTINES -/
abbrev fltHangQuarantines : Fld := ⟨.fltHang, 32, 16⟩
/-- FLT_HANG.RESETS -/
abbrev fltHangResets : Fld := ⟨.fltHang, 0, 32⟩
/-- FLT_AVAIL.INTERRUPT_US -/
abbrev fltAvailInterruptUs : Fld := ⟨.fltAvail, 0, 64⟩
/-- FLT_CAPTURE.RECORDS -/
abbrev fltCaptureRecords : Fld := ⟨.fltCapture, 32, 32⟩
/-- FLT_CAPTURE.LAST_DIE -/
abbrev fltCaptureLastDie : Fld := ⟨.fltCapture, 29, 3⟩
/-- FLT_CAPTURE.LAST_OFFSET -/
abbrev fltCaptureLastOffset : Fld := ⟨.fltCapture, 0, 26⟩
/-- FLT_CLEAR.CLR_RESET_LIMIT -/
abbrev fltClearClrResetLimit : Fld := ⟨.fltClear, 2, 1⟩
/-- FLT_CLEAR.CLR_LOG -/
abbrev fltClearClrLog : Fld := ⟨.fltClear, 1, 1⟩
/-- FLT_CLEAR.CLR_AVAIL -/
abbrev fltClearClrAvail : Fld := ⟨.fltClear, 0, 1⟩
/-- PWR_CEILING.WATTS -/
abbrev pwrCeilingWatts : Fld := ⟨.pwrCeiling, 0, 13⟩
/-- PWR_CFG.T_THROTTLE -/
abbrev pwrCfgTThrottle : Fld := ⟨.pwrCfg, 16, 8⟩
/-- PWR_CFG.T_TRIP -/
abbrev pwrCfgTTrip : Fld := ⟨.pwrCfg, 8, 8⟩
/-- PWR_CFG.BURST_TICKS -/
abbrev pwrCfgBurstTicks : Fld := ⟨.pwrCfg, 0, 8⟩
/-- PWR_STATUS.FALLOW_NEXT -/
abbrev pwrStatusFallowNext : Fld := ⟨.pwrStatus, 56, 8⟩
/-- PWR_STATUS.THERMAL -/
abbrev pwrStatusThermal : Fld := ⟨.pwrStatus, 48, 8⟩
/-- PWR_STATUS.DIE_LIMIT -/
abbrev pwrStatusDieLimit : Fld := ⟨.pwrStatus, 40, 8⟩
/-- PWR_STATUS.AWAKE -/
abbrev pwrStatusAwake : Fld := ⟨.pwrStatus, 32, 8⟩
/-- PWR_STATUS.MODULE_LIMIT -/
abbrev pwrStatusModuleLimit : Fld := ⟨.pwrStatus, 2, 1⟩
/-- PWR_STATUS.REF_LOST -/
abbrev pwrStatusRefLost : Fld := ⟨.pwrStatus, 1, 1⟩
/-- PWR_STATUS.GROUP_POWER -/
abbrev pwrStatusGroupPower : Fld := ⟨.pwrStatus, 0, 1⟩
/-- PWR_BUCKET.BUCKET -/
abbrev pwrBucketBucket : Fld := ⟨.pwrBucket, 0, 32⟩
/-- PWR_FALLOW.TICKS -/
abbrev pwrFallowTicks : Fld := ⟨.pwrFallow, 0, 64⟩
/-- PWR_ENERGY.EU -/
abbrev pwrEnergyEu : Fld := ⟨.pwrEnergy, 0, 64⟩
/-- PWR_INPUT.VIN -/
abbrev pwrInputVin : Fld := ⟨.pwrInput, 16, 16⟩
/-- PWR_INPUT.IIN -/
abbrev pwrInputIin : Fld := ⟨.pwrInput, 0, 16⟩
/-- PWR_ACRE_CAP.CAP_REFUSED -/
abbrev pwrAcreCapCapRefused : Fld := ⟨.pwrAcreCap, 12, 1⟩
/-- PWR_ACRE_CAP.CAP -/
abbrev pwrAcreCapCap : Fld := ⟨.pwrAcreCap, 0, 12⟩
/-- PWR_ACRE_STATE.RES -/
abbrev pwrAcreStateRes : Fld := ⟨.pwrAcreState, 52, 12⟩
/-- PWR_ACRE_STATE.HELD -/
abbrev pwrAcreStateHeld : Fld := ⟨.pwrAcreState, 40, 12⟩
/-- PWR_ACRE_STATE.QUEUE -/
abbrev pwrAcreStateQueue : Fld := ⟨.pwrAcreState, 33, 7⟩
/-- PWR_ACRE_STATE.OVERBOOK -/
abbrev pwrAcreStateOverbook : Fld := ⟨.pwrAcreState, 32, 1⟩
/-- PWR_ACRE_STATE.WAKE_LEFT -/
abbrev pwrAcreStateWakeLeft : Fld := ⟨.pwrAcreState, 8, 8⟩
/-- PWR_ACRE_STATE.STATE -/
abbrev pwrAcreStateState : Fld := ⟨.pwrAcreState, 0, 2⟩
/-- MON_SEL.EN -/
abbrev monSelEn : Fld := ⟨.monSel, 63, 1⟩
/-- MON_SEL.SHIFT -/
abbrev monSelShift : Fld := ⟨.monSel, 56, 5⟩
/-- MON_SEL.SOURCE -/
abbrev monSelSource : Fld := ⟨.monSel, 48, 8⟩
/-- MON_SEL.INDEX -/
abbrev monSelIndex : Fld := ⟨.monSel, 32, 16⟩
/-- MON_SEL.LO -/
abbrev monSelLo : Fld := ⟨.monSel, 0, 32⟩
/-- MON_CUR.VALUE -/
abbrev monCurValue : Fld := ⟨.monCur, 0, 32⟩
/-- MON_MINMAX.MAX -/
abbrev monMinmaxMax : Fld := ⟨.monMinmax, 32, 32⟩
/-- MON_MINMAX.MIN -/
abbrev monMinmaxMin : Fld := ⟨.monMinmax, 0, 32⟩
/-- MON_COUNT.SAMPLES -/
abbrev monCountSamples : Fld := ⟨.monCount, 0, 32⟩
/-- MON_HIST.COUNT -/
abbrev monHistCount : Fld := ⟨.monHist, 0, 32⟩
/-- MON_CTRL.FREEZE -/
abbrev monCtrlFreeze : Fld := ⟨.monCtrl, 1, 1⟩
/-- MON_CTRL.CLR_ALL -/
abbrev monCtrlClrAll : Fld := ⟨.monCtrl, 0, 1⟩
/-- ENT_STATUS.STATE -/
abbrev entStatusState : Fld := ⟨.entStatus, 28, 4⟩
/-- ENT_STATUS.STBY_STATE -/
abbrev entStatusStbyState : Fld := ⟨.entStatus, 24, 4⟩
/-- ENT_STATUS.RESTARTS -/
abbrev entStatusRestarts : Fld := ⟨.entStatus, 22, 2⟩
/-- ENT_STATUS.POOL -/
abbrev entStatusPool : Fld := ⟨.entStatus, 20, 2⟩
/-- ENT_STATUS.LAST_RCT -/
abbrev entStatusLastRct : Fld := ⟨.entStatus, 19, 1⟩
/-- ENT_STATUS.LAST_APT -/
abbrev entStatusLastApt : Fld := ⟨.entStatus, 18, 1⟩
/-- ENT_CTRL.RESEED_EXP -/
abbrev entCtrlReseedExp : Fld := ⟨.entCtrl, 8, 5⟩
/-- ENT_RESEED.RESEEDS -/
abbrev entReseedReseeds : Fld := ⟨.entReseed, 32, 32⟩
/-- ENT_RESEED.BLOCKS -/
abbrev entReseedBlocks : Fld := ⟨.entReseed, 0, 21⟩
/-- ENT_OUTPUT.BLOCKS -/
abbrev entOutputBlocks : Fld := ⟨.entOutput, 0, 64⟩
/-- ENT_HEALTH.RCT_FAILS -/
abbrev entHealthRctFails : Fld := ⟨.entHealth, 48, 16⟩
/-- ENT_HEALTH.APT_FAILS -/
abbrev entHealthAptFails : Fld := ⟨.entHealth, 32, 16⟩
/-- ENT_HEALTH.RCT_MAX -/
abbrev entHealthRctMax : Fld := ⟨.entHealth, 16, 16⟩
/-- ENT_HEALTH.APT_MAX -/
abbrev entHealthAptMax : Fld := ⟨.entHealth, 0, 16⟩
/-- ENT_TEST.INJECT -/
abbrev entTestInject : Fld := ⟨.entTest, 1, 1⟩
/-- ENT_TEST.RAW_EN -/
abbrev entTestRawEn : Fld := ⟨.entTest, 0, 1⟩
/-- ENT_PATTERN.PATTERN -/
abbrev entPatternPattern : Fld := ⟨.entPattern, 0, 64⟩
/-- ENT_RAW.SAMPLES -/
abbrev entRawSamples : Fld := ⟨.entRaw, 0, 32⟩
/-- SEC_BOOT.FW_SVN -/
abbrev secBootFwSvn : Fld := ⟨.secBoot, 16, 16⟩
/-- SEC_BOOT.MIN_SVN -/
abbrev secBootMinSvn : Fld := ⟨.secBoot, 8, 8⟩
/-- SEC_BOOT.STBY_BOOTED -/
abbrev secBootStbyBooted : Fld := ⟨.secBoot, 5, 1⟩
/-- SEC_BOOT.BANK -/
abbrev secBootBank : Fld := ⟨.secBoot, 4, 1⟩
/-- SEC_BOOT.FIRST_RESULT -/
abbrev secBootFirstResult : Fld := ⟨.secBoot, 0, 4⟩
/-- SEC_LIFECYCLE.OWNER_KEYS -/
abbrev secLifecycleOwnerKeys : Fld := ⟨.secLifecycle, 8, 8⟩
/-- SEC_LIFECYCLE.STATE -/
abbrev secLifecycleState : Fld := ⟨.secLifecycle, 0, 2⟩
/-- SEC_IDENT.DIGEST -/
abbrev secIdentDigest : Fld := ⟨.secIdent, 0, 64⟩
/-- SEC_SESSION.SETUPS -/
abbrev secSessionSetups : Fld := ⟨.secSession, 32, 32⟩
/-- SEC_SESSION.OWNER_INDEX -/
abbrev secSessionOwnerIndex : Fld := ⟨.secSession, 8, 8⟩
/-- SEC_SESSION.REKEY_DUE -/
abbrev secSessionRekeyDue : Fld := ⟨.secSession, 4, 1⟩
/-- SEC_SESSION.HOST_AUTH -/
abbrev secSessionHostAuth : Fld := ⟨.secSession, 3, 1⟩
/-- SEC_SESSION.STATE -/
abbrev secSessionState : Fld := ⟨.secSession, 0, 3⟩
/-- SEC_AUTH_FAIL.SETUP_FAILS -/
abbrev secAuthFailSetupFails : Fld := ⟨.secAuthFail, 16, 16⟩
/-- SEC_AUTH_FAIL.RECORD_FAILS -/
abbrev secAuthFailRecordFails : Fld := ⟨.secAuthFail, 0, 16⟩
/-- CFG_STATUS.BUSY -/
abbrev cfgStatusBusy : Fld := ⟨.cfgStatus, 31, 1⟩
/-- CFG_STATUS.WIN_BANK -/
abbrev cfgStatusWinBank : Fld := ⟨.cfgStatus, 30, 1⟩
/-- CFG_STATUS.NONE -/
abbrev cfgStatusNone : Fld := ⟨.cfgStatus, 29, 1⟩
/-- CFG_STATUS.LAST_RESULT -/
abbrev cfgStatusLastResult : Fld := ⟨.cfgStatus, 16, 8⟩
/-- CFG_STATUS.WRITES -/
abbrev cfgStatusWrites : Fld := ⟨.cfgStatus, 0, 16⟩
/-- CFG_BANK.SEQ -/
abbrev cfgBankSeq : Fld := ⟨.cfgBank, 32, 32⟩
/-- CFG_BANK.LENGTH -/
abbrev cfgBankLength : Fld := ⟨.cfgBank, 11, 21⟩
/-- CFG_BANK.VALID -/
abbrev cfgBankValid : Fld := ⟨.cfgBank, 0, 1⟩
/-- CFG_IMAGE.SEQ -/
abbrev cfgImageSeq : Fld := ⟨.cfgImage, 32, 32⟩
/-- CFG_IMAGE.FW_SVN -/
abbrev cfgImageFwSvn : Fld := ⟨.cfgImage, 16, 16⟩
/-- CFG_IMAGE.FW_VERSION -/
abbrev cfgImageFwVersion : Fld := ⟨.cfgImage, 0, 16⟩
/-- CFG_APERTURE.BANK -/
abbrev cfgApertureBank : Fld := ⟨.cfgAperture, 2, 1⟩
/-- CFG_APERTURE.PAGE -/
abbrev cfgAperturePage : Fld := ⟨.cfgAperture, 0, 2⟩
/-- CFG_START.PHASE -/
abbrev cfgStartPhase : Fld := ⟨.cfgStart, 56, 8⟩
/-- CFG_START.ELAPSED_MS -/
abbrev cfgStartElapsedMs : Fld := ⟨.cfgStart, 16, 16⟩
/-- CFG_START.RETIRED -/
abbrev cfgStartRetired : Fld := ⟨.cfgStart, 8, 8⟩
/-- CFG_START.DIES_LOST -/
abbrev cfgStartDiesLost : Fld := ⟨.cfgStart, 0, 8⟩
/-- CFG_CTRL.UNLOCK -/
abbrev cfgCtrlUnlock : Fld := ⟨.cfgCtrl, 16, 16⟩
/-- CFG_CTRL.MODULE_RESET -/
abbrev cfgCtrlModuleReset : Fld := ⟨.cfgCtrl, 0, 1⟩
end F

end Sys2Proof.Machine
end

