-- ==== Sys2Proof/Machine/State.lean ====
section
/-!
DEFINITION. The state of the Tanuro: every register, memory, buffer, slot, queue and pin that the manual
gives the module, as plain data, and the module right after power is applied and before it starts up.
-/
namespace Sys2Proof.Machine

/-- Why a step stops with a fault. There is no reason: the manual stops the module nowhere. It answers errors with states, marks and
messages, and what it calls unpredictable ends no service (R10). -/
inductive Fault where
  deriving DecidableEq, Repr

/-- Why a step is refused. -/
inductive Refusal where
  /-- A command that has no meaning yet. Raised by the arms of `exec` only; safe. -/
  | notModelled (mnemonic : String)
  deriving DecidableEq, Repr

/-- A register write taken and not yet in effect (R108, R237): register, copy, value, and whether it waits for the next token
boundary (R201) rather than the next tick. -/
structure Staged where
  reg : Reg
  idx : Nat
  value : Word
  token : Bool
  deriving DecidableEq, Repr

/-! ## Sheaf engines -/

/-- A proposal in a slot of a lane (R92, R94): the record, its pair term, and the logical cycle from which it may become pending. -/
structure Proposal where
  record : BitVec 192
  pair : Int
  ready : Int
  /-- It arrived before cycle 99 of an apply tick, so its pair term is formed from cycle 99 on (R96). -/
  late : Bool := false
  deriving DecidableEq, Repr

/-- An undo log entry (R125): one tentative flip. -/
structure Undo where
  pos : Nat
  before : Bool
  cycle : Nat
  group : Bool
  tag : BitVec 16
  de : Int
  deriving DecidableEq, Repr

/-- A flip journal entry (R121). -/
structure Flip where
  pos : Nat
  cycle : Nat
  post : Bool
  deriving DecidableEq, Repr

/-- A run of link entries in the walker queue (R104): entries `next … stop - 1` of the source spin `src`. -/
structure Walk where
  next : Nat
  stop : Nat
  lane : Nat
  src : Nat
  cycle : Nat
  post : Bool
  roll : Bool
  tent : Bool
  undo : Nat
  tag : BitVec 16
  de : Int
  /-- Logical cycle from which the walker finds it in its queue (R105, R106). -/
  ready : Int
  deriving DecidableEq, Repr

/-- A delta record read by the walker and not yet written, with its destination engine (R113–R115). -/
structure OutRec where
  far : Nat
  dest : Nat
  slots : List Word
  deriving DecidableEq, Repr

/-- The state of one lane that no register holds (R77). Its energy, low register, stuck state and snapshot energy stand in
the SHF_ registers. -/
structure LaneState where
  /-- Spin vector. -/
  spins : BitVec 1024 := 0
  /-- Plane fields, key `1024 * plane + position`. -/
  field : Sparse (BitVec 20) := []
  /-- Tick snapshot spins. -/
  snap : BitVec 1024 := 0
  /-- Launch tick of the snapshot. -/
  snapTau : Int := 0
  /-- Best state. -/
  bestSpins : BitVec 1024 := 0
  bestEnergy : BitVec 48 := 0
  bestTau : BitVec 64 := 0
  /-- Proposal slots. -/
  active : Option Proposal := none
  incoming : Option Proposal := none
  /-- Rows of a taken move still to be applied, one per decision slot: position and spin before the move (R97). -/
  moveRows : List (Nat × Bool) := []
  /-- Undo logs of the current and of the previous tick. -/
  undo : List Undo := []
  undoPrev : List Undo := []
  /-- Fields latched at cycle L for the spins of the previous log (R118), key as `field`. -/
  latched : Sparse (BitVec 20) := []
  /-- Flip journal: flips of the current tick, of the one before and of the one before that, whose pairs R122 still forms (R121). -/
  flips : List Flip := []
  flipsPrev : List Flip := []
  flipsOld : List Flip := []
  /-- Positions rolled back in this tick, which its notice names (R129). -/
  rolled : List Nat := []
  /-- The lane's resolution point of this tick has passed (R119). -/
  resolved : Bool := true
  /-- Lane digest (R283), and the chain of the per-tick digests of a replay window (R285, log 150). -/
  digest : Word := 0
  windowDigest : Word := 0
  deriving DecidableEq, Repr

/-- The state of one sheaf engine that no register holds (R77). -/
structure Engine where
  /-- The launch that owns the engine (R33). -/
  ctx : Option Nat := none
  /-- Logical module rank and logical block index (R82). -/
  rank : Nat := 0
  block : Nat := 0
  frozen : BitVec 1024 := 0
  guarded : BitVec 1024 := 0
  /-- Link index (R67): 1,025 offsets. -/
  linkIndex : List (BitVec 19) := []
  /-- Far ranks 1–3 (R67). -/
  far : List (BitVec 6) := []
  /-- Crib address of the link region (R66). -/
  linkBase : Nat := 0
  /-- Base value of the current tick (R86). -/
  base : Nat := 0
  /-- First cycle-in-tick at which the engine has not decided in this tick (R75). -/
  slot : Nat := 0
  /-- The walker queue (R104) and the records it holds. -/
  queue : List Walk := []
  heldRecs : List OutRec := []
  /-- Logical cycle before which the walker has used its reads (R104). -/
  walked : Int := 0
  /-- Wall cycles before which the exchange unit has used the scatter cycles and the receive cycles of its delta bank (R212). -/
  scattered : Nat := 0
  received : Nat := 0
  /-- Slots used after the header and records in the current tick's tiles, key `8192 * rank + block` of the destination
  (R116). -/
  outUsed : Sparse (Nat × Nat) := []
  /-- Tiles of the previous tick as they arrived, and those of the tick before (R121). -/
  tiles : List (List Word) := []
  tilesPrev : List (List Word) := []
  /-- Rollback notices received in this tick (R129): rank, block, words; and those of the tick before. -/
  notices : List (Nat × Nat × List (BitVec 16)) := []
  noticesPrev : List (Nat × Nat × List (BitVec 16)) := []
  /-- Change items of a live patch that applies in this tick (R132). -/
  items : List Item := []
  /-- The vote of this tick has been cast (R132). -/
  voted : Bool := false
  /-- Patch overlay: plane, row, column, code (R132). -/
  overlay : List (Nat × Nat × Nat × BitVec 4) := []
  /-- Decisions of this wall tick whose winner was not the stay candidate (R465), and lanes that wait for leave to start (R451). -/
  accept : Nat := 0
  want : Nat := 0
  deriving DecidableEq, Repr

/-! ## Stooks, cribs and gleaner cores -/

/-- A harrow tile's generator state that no register holds (R193). -/
structure Gen where
  ctx : Option Nat := none
  /-- Positions emitted by the open move (R190). -/
  positions : List Nat := []
  /-- The declaration the schedule image makes (R186). -/
  decl : Option GenDecl := none
  /-- Logical identity of the generator (R191). -/
  ident : Nat := 0
  /-- Step period, counted from T0, whose step has run (R193). -/
  stepped : Option Int := none
  /-- The two input buffers: launch tick that filled them, crib address, bytes (R194). -/
  input : List (Int × Nat × Nat) := []
  /-- Field-noise key of the tick in which the present step period began (R191). -/
  key : Option (BitVec 128) := none
  /-- Records on the acre router: lane and record (R192). -/
  onWay : List (Nat × BitVec 192) := []
  deriving DecidableEq, Repr

/-! ## Acres -/

/-- An owner write (R216): issuer, target stook (logical), bank, FROM, TO. `slot` orders the frame (R217). -/
structure OwnerWrite where
  core : Option CoreId
  stook : Nat
  bank : Nat
  fromWord : BitVec 16
  toWord : BitVec 16
  slot : Nat
  /-- Wall tick whose frame carries it. -/
  tick : Nat
  deriving DecidableEq, Repr

/-- A result of an owner write on its way (R218): issuer and the wall tick in which it was applied. -/
structure OwnerResult where
  core : Option CoreId
  ok : Bool
  tick : Nat
  deriving DecidableEq, Repr

/-- A leave grant in the ledger (R452): unit, LU, class E share, and the wall cycle at which a timed grant ends. -/
structure Grant where
  unit : Nat
  lu : Nat
  classE : Bool
  ends : Option Nat
  /-- The operation that asked for it has begun. -/
  used : Bool := false
  deriving DecidableEq, Repr

/-- A leave request on its way or queued (R454, R456). -/
structure LeaveReq where
  unit : Nat
  lu : Nat
  duration : Nat
  /-- Wall cycle at which it was issued. -/
  since : Nat
  deriving DecidableEq, Repr

/-- The state of an acre: its tally unit, warden and hedgerow node (R19). -/
structure Acre where
  /-- Launch whose WINNOW and TALLY state the tally unit holds. -/
  ctx : Option Nat := none
  /-- Field-noise keys: in force, committed for the next wall tick, and delivered and not committed (R85, R477). -/
  key : Option (BitVec 128) := none
  keyNext : Option (BitVec 128) := none
  keyWire : Option (BitVec 128) := none
  /-- Owner writes issued and not applied, in issue order (R217), and results on their way (R218). -/
  writes : List OwnerWrite := []
  results : List OwnerResult := []
  /-- Leave ledger and queue, and the requests on their way to the warden (R452, R454, R456). -/
  grants : List Grant := []
  queue : List LeaveReq := []
  asks : List LeaveReq := []
  /-- Statistics list (R163). -/
  stats : List Word := []
  /-- Crib of the statistics area (stook) and its offset O. -/
  statStook : Nat := 0
  statOff : Nat := 0
  /-- Per-replica parts of the last reduction (R161): replica and sum. -/
  parts : Sparse Int := []
  /-- Retired physical stooks: the acre's part of the repair map (R30, R31). -/
  retired : List Nat := []
  /-- The second tally buffer: spins of the sampled lanes by logical block and lane, and the adds of the sample made so far, of the lanes
sampled (R164). -/
  sample : Sparse (BitVec 1024) := []
  added : Nat := 0
  sampled : List Nat := []
  /-- Longest wait of a request granted in this wall tick (R465), cycles. -/
  waitMax : Nat := 0
  deriving DecidableEq, Repr

/-! ## Contexts, graphs and streams -/

/-- States of a context (R373). -/
inductive CtxState where
  | free | opened | loaded | running | held | paused | saved | faulted
  deriving DecidableEq, Repr

/-- Causes of a hold (R138). -/
inductive Hold where
  | fallow | tile | patch | key | verdict | tally | group | port | stop
  deriving DecidableEq, Repr

/-- Where a hold stands in a wall tick (R139): none; it begins in this tick at `holdAt`; it holds the whole tick; it ends in this
tick at `holdAt`. -/
inductive HoldPhase where
  | none | begins | whole | ends
  deriving DecidableEq, Repr

/-- The outcome of a reduction tick on its way to the engines (R148). -/
structure Verdict where
  tick : Nat
  captures : List Nat
  ladder : List (Nat × Nat)
  perm : List Nat
  bests : List (Int × Nat)
  deriving DecidableEq, Repr

/-- A replay in progress (R285). -/
structure Replay where
  ref : Nat
  records : List JRec
  windowStart : Nat
  windowEnd : Nat
  traceTick : Nat
  traceLane : Nat
  stop : Bool
  firstBad : Option Nat
  lastGood : Nat
  badSeq : Option Nat
  badLanes : Nat
  trace : List Word
  deriving DecidableEq, Repr

/-- A stream input waiting for its apply tick (R268). -/
structure StreamInput where
  apply : Int
  data : List Byte
  deriving DecidableEq, Repr

/-- Why a launch drains (R134): the message that waits for the end of the drain. -/
inductive DrainFor where
  | pause | save | evict | switch | ckpt
  deriving DecidableEq, Repr

/-- A fault that interrupts a launch (R417, R440): the ring index of its log entry, its wall cycle, the hold ticks of the recovery
before it, and the acre and stook it lies in. -/
structure Caught where
  entry : Nat
  since : Nat
  held : Nat
  place : Option (Nat × Nat)
  deriving DecidableEq, Repr

/-- A recovery (R417, R422): the latest logical time of the faults it covers, up to which the launch replays; the logical time at
which the interruption ends; the hold ticks that do not count; and the faults whose interruption has not ended. -/
structure Recovery where
  tau : Int
  cyc : Nat
  untilTau : Int
  untilCyc : Nat
  held : Nat
  faults : List Caught
  deriving DecidableEq, Repr

/-- A launch that an action interrupts, from the report of its fault to its recovery (R416, R417): the fault code, the wall cycle and the logical
time of the fault, and the whole ticks held since for other causes. -/
structure Stopped where
  code : Nat
  since : Nat
  tau : Int
  cyc : Nat
  held : Nat
  deriving DecidableEq, Repr

/-- A launch (R372, R384). -/
structure Launch where
  sched : Sched
  /-- The schedule image as staged, for the copy that a saved state carries (R278). -/
  image : List Byte
  schedHash : Word
  graph : Nat
  version : Nat
  imageHash : Word
  seed : BitVec 128
  follow : Bool
  stream : Nat
  /-- SEQ that the completion word of the launch carries (R365). -/
  seq : Nat
  copies : Nat
  /-- First logical field g that this module carries (R270, R405), and whether the launch is a group launch. -/
  first : Nat
  group : Bool
  /-- Physical field die of each logical field from `first` on (R378); 8 more for the field of a folded die whose state is parked
  (R273). -/
  dies : List Nat
  /-- Fold slot of each of those fields in the segment map of its die (R326). -/
  slots : List Nat
  /-- The wall tick at which it starts (R379). -/
  t0 : Nat
  /-- Launch tick τ (R82). -/
  tau : Int
  /-- Number of the tick whose exchange window runs or ran last: its parity is that of the delta tiles (R116, log 129). It counts the ticks of a
drain too. -/
  turn : Int
  /-- Causes that hold it now, and the cycle-in-tick at which it holds (R138). -/
  holds : List Hold
  holdAt : Nat
  /-- Where the hold stands in this wall tick (R139). -/
  phase : HoldPhase
  /-- Cycle-in-tick of a second hold, in a wall tick in which the first ends (R139). -/
  again : Option Nat := none
  /-- Field-noise keys of the acres for the present launch tick, taken where it begins (R85, R477). -/
  keys : Sparse (Option (BitVec 128)) := []
  /-- A fault keeps an engine from taking part in the resolution of the present tick: no verdict is applied (R135). -/
  void : Bool := false
  /-- The present wall tick runs an exchange window but no decisions and counts in no τ: a tick of a drain (R134) or a tick
  held for a key (R109). -/
  windowOnly : Bool
  /-- Permutation π (R145), best energies with their ticks (R154), energies of the last reduction (R147). -/
  perm : List Nat
  bests : List (Int × Nat)
  energies : List Int
  verdict : Option Verdict
  /-- Histogram (R167): bins 0–255, 256 UNDER, 257 OVER. -/
  hist : Sparse Nat
  audits : List Audit
  /-- Live patches accepted and not applied (R389). -/
  patches : List LivePatch
  /-- The combined vote of this tick, once known (R132). -/
  vote : Option Bool
  /-- Drain of R134: what for, the channel that waits, and the tick of the sequence (1 before u, 2 in u, 3 in u + 1). -/
  drain : Option (DrainFor × Option Nat × Nat)
  /-- First wall tick at which a resumed launch decides (R379). -/
  resumeAt : Option Nat
  inputs : List StreamInput
  replay : Option Replay
  /-- Module digests already written since the last restore, for R276. -/
  checkUntil : Option Int
  /-- Latest checkpoint tick (R338). -/
  ckpt : Int
  /-- Wall tick of its fold frame that ran last, 0–74, and the module tick in which it ran (R273). -/
  frame : Nat
  framed : Option Nat
  /-- Another member of the group carries two of its fields on a die, so that every logical tick is a fold frame here too (R273, R405). -/
  frames : Bool := false
  /-- The frame to come is the first with decisions after a stop. -/
  fresh : Bool := false
  /-- The state it was placed from, when it was resumed (R279). -/
  origin : Option Saved
  /-- Copies that a class T launch lost with a field die (R275, R428). -/
  lost : List Nat
  /-- Live patches applied (R389): a restore to an earlier tick applies them again (R418). -/
  past : List LivePatch
  /-- Results of V instructions that a replay after a restore re-injects (R276). -/
  vres : List JRec
  recover : Option Recovery
  /-- It stops at the next tick boundary until its recovery (R416). -/
  stopped : Option Stopped := none
  deriving DecidableEq, Repr

/-- Results of an ended launch (R375). -/
structure Results where
  graph : Nat
  version : Nat
  sched : Sched
  image : List Byte
  copies : Nat
  bests : List (Int × Nat)
  /-- Best spins per replica and graph block, key `replica * 2 ^ 20 + block`. -/
  spins : Sparse (BitVec 1024)
  audits : List Audit
  hist : Sparse Nat
  perm : List Nat
  /-- Copies lost (R153). -/
  lost : List Nat
  /-- The final launch tick. -/
  last : Int
  /-- The rest of the WINNOW and TALLY state (R157): exchange counter, sample counts per acre and counters of their cribs, as in `Saved`. -/
  winnowCount : Word
  statSamples : Sparse Word
  statCribs : List (Nat × Nat × List Byte)
  deriving DecidableEq, Repr

/-- A context slot (R372). -/
structure Ctx where
  state : CtxState := .free
  journal : List JRec := []
  journalMiB : Nat := 0
  /-- SEQ of the next journal record (R280). -/
  journalNext : Nat := 0
  /-- GDDR 7 segments of the journal area, and of the saved state or the results: `256 * die + segment` (R330). -/
  segs : List Nat := []
  objSegs : List Nat := []
  launch : Option Launch := none
  saved : Option Saved := none
  /-- Stream and SEQ of the launch that was saved, under which a member of a group that takes no RESUME of its own resumes it (R409). -/
  savedAs : Nat × Nat := (0, 0)
  results : Option Results := none
  /-- Staged parts of an image on their way (R360): the kind and the bytes so far. -/
  staged : List Byte := []
  /-- Digest area: tick and bytes of each block (R284). -/
  digests : List (Nat × List Byte) := []
  /-- Tally area: audit records emitted (R162). -/
  tally : List (List Byte) := []
  /-- Token logs by generator identity (R191, R195) and coefficient patch reports (R200). -/
  tokens : Sparse (List Byte) := []
  coefReports : List (List Byte) := []
  /-- Replay report (R287) and trace (R286). -/
  report : List Byte := []
  trace : List Word := []
  /-- Suspect entry: stream and SEQ of a hung descriptor (R433, R435). -/
  suspect : Option (Nat × Nat) := none
  deriving DecidableEq, Repr

/-- States of a graph version (R382). -/
inductive VerState where
  | live | retiring | retired
  deriving DecidableEq, Repr

/-- A graph version (R381). -/
structure Version where
  num : Nat
  parent : Nat
  state : VerState
  hash : Word
  coeffs : Coeffs
  /-- GDDR 7 segments it took: `256 * die + segment` (R330). -/
  segs : List Nat
  deriving DecidableEq, Repr

/-- A graph (R380). -/
structure Graph where
  blocks : Nat
  modules : Nat
  staged : List Byte
  versions : List Version
  deriving DecidableEq, Repr

/-- An entry of a stream that waits in order (R362, R363). -/
inductive StreamEnt where
  /-- A fence wait point. -/
  | fence (f : Nat) (value : Word)
  /-- A first chain entry on its way: stook number and crib address. -/
  | chain (stook : Nat) (addr : Nat) (seq : Nat)
  deriving DecidableEq, Repr

/-- A stream (R361). -/
structure Stream where
  ctx : Option Nat := none
  waiting : List StreamEnt := []
  /-- Wall tick at which the watchdog ends it (R364). -/
  deadline : Option Nat := none
  /-- Its watchdog limit in ms, once given (R364); 0 before. -/
  limit : Nat := 0
  /-- SEQ of the last entry that completed (R365). -/
  seq : Nat := 0
  /-- The wall cycle of the last writes to its completion word, the word before them, and the writes: SEQ and status (R366). -/
  writes : Option (Nat × Word × List (Nat × Nat)) := none
  deriving DecidableEq, Repr

/-! ## Mailboxes and the host -/

/-- A mailbox channel (R351). LAST, DROPPED and BUSY stand in MBX_STATUS_n, the slots in memory. -/
structure Chan where
  /-- The message in progress: the 256 bytes of the slot (R353). -/
  msg : Option (List Byte) := none
  /-- Wall tick from which a waiting READ_BEST may copy (R156). -/
  due : Nat := 0
  /-- It has been executed and waits for its end: a drain, a boundary, an entropy source (R374). -/
  waits : Bool := false
  /-- A channel reset waits for the end of the message (R370). -/
  resetAsked : Bool := false
  /-- The control port that carried the message in progress (R24, R486). -/
  port : Nat := 0
  /-- Responses held, oldest first: SEQ and the response slot (R356). -/
  history : List (Nat × List Byte) := []
  deriving DecidableEq, Repr

/-- An answer packet on its way to host software (R346): WRITE_ACK without data, READ_DATA with. -/
structure Answer where
  port : Nat
  tag : BitVec 16
  addr : Nat
  data : Option (List Byte)
  deriving DecidableEq, Repr

/-! ## Checkpoints, faults and the standby -/

/-- A directory record of a checkpoint generation (R340), with the state it stands for. `state`: 1 WRITING, 2 COMPLETE, 3 MIRRORED;
`mirror` marks the copy in the mirror pool of the die `die`. -/
structure PoolRec where
  ctx : Nat
  die : Nat
  gen : Nat
  state : Nat
  mirror : Bool
  len : Nat
  tau : Int
  /-- Offset of the state within its pool (R340). -/
  base : Nat
  journalSeq : Nat
  saved : Saved
  deriving DecidableEq, Repr

/-- The standby Badger's copy of module state (R430). -/
structure Standby where
  ctxs : Sparse Ctx := []
  graphs : Sparse (Option Graph) := []
  streams : Sparse Stream := []
  chans : Sparse Chan := []
  /-- Fences, completion words, LAST, repair map and session registers, as keys of the register file. -/
  regs : Sparse Word := []
  deriving DecidableEq, Repr

/-! ## Entropy -/

/-- The entropy source of one barn die (R468–R475, R478). -/
structure Source where
  /-- State, coded as ENT_STATUS.STATE. -/
  state : Nat := 0
  restarts : Nat := 0
  pool : List (BitVec 384) := []
  /-- Internal state of the expander. -/
  drbg : Option (BitVec 384) := none
  lastRct : Bool := false
  lastApt : Bool := false
  /-- Blocks since the last instantiation or reseed, since module reset, and in this tick; reseeds. -/
  blocks : Nat := 0
  output : Nat := 0
  inTick : Nat := 0
  reseeds : Nat := 0
  rctFails : Nat := 0
  aptFails : Nat := 0
  rctMax : Nat := 0
  aptMax : Nat := 0
  /-- Value and length of the run of equal samples that the last tested sample ends (R469). -/
  run : Bool × Nat := (false, 0)
  deriving DecidableEq, Repr

/-! ## Ports and sessions -/

/-- A session set-up in progress on a port (R487): this side's part, its ephemeral scalar, HELLO and REPLY as sent or received (REPLY
without its signature), the owner index that HELLO names, and the wall tick of HELLO. `answered` says that this side has sent its
REPLY, or its FINISH. -/
structure Setup where
  initiator : Bool
  scalar : BitVec 384
  hello : List Byte
  reply : List Byte
  /-- TH2, once FINISH has been sent or received. -/
  th2 : BitVec 384
  owner : Nat
  since : Nat
  answered : Bool
  deriving DecidableEq, Repr

/-- A live session (R487–R489): its secret, whether this side sends in direction 0 (R314), the first encrypted SEQ in each direction, and the
epoch of the last frame received, whose keys and the next one's the receiver holds (R315). -/
structure Session where
  secret : BitVec 384
  dirZero : Bool
  txFrom : Nat
  rxFrom : Nat
  rxEpoch : Nat := 0
  deriving DecidableEq, Repr

/-- The state of a Dualjo port that no register holds (R303–R317). -/
structure PortState where
  /-- A write of LNK_CTRL_p that waits for the next frame boundary (R319). -/
  ctrlNext : Option (BitVec 32) := none
  /-- Replay buffer, oldest first (R308), and the SEQ up to which the peer has acknowledged. -/
  replay : List Frame := []
  acked : Nat := 2 ^ 32 - 1
  /-- Frames still to be resent, in order. -/
  resend : List Frame := []
  /-- The next trailer carries NAK (R305). -/
  nakDue : Bool := false
  /-- The last frame sent. -/
  wire : Option Frame := none
  /-- Set-up messages that wait for a frame (R487). -/
  messages : List (List Byte) := []
  /-- Frames received, and the numbers of those whose TAG failed among the last 1,024 (R316). -/
  received : Nat := 0
  tagFails : List Nat := []
  /-- Slack frames that retries used in a wall tick (R311): the tick and the count. -/
  slack : Nat × Nat := (0, 0)
  /-- New frames begun in a wall tick (R310, R312): the tick and the count. -/
  begun : Nat × Nat := (0, 0)
  setup : Option Setup := none
  session : Option Session := none
  deriving DecidableEq, Repr

/-! ## The on-module networks -/

/-- A packet on the cartway (R290, R297): its context, its virtual channel (0 DELTA, 1 HARROW, 2 COPY, 3 SERVICE), the router outputs it
has still to pass, the one it waits at first, and the wall cycle from which it waits there. -/
structure Cart where
  ctx : Option Nat
  channel : Nat
  path : List Nat
  since : Nat
  deriving DecidableEq, Repr

/-- A router output (R297, R298, R465): the packets that wait, oldest first, at most 8 of a channel; the cycles that DELTA, HARROW and
COPY have been granted in the present frame of 16 cycles, and its number; and, for the present tick, the slots used, the most packets that
waited, and the longest wait of a SERVICE item. -/
structure CartOut where
  waits : List Cart := []
  used : Nat × Nat × Nat := (0, 0, 0)
  frame : Nat := 0
  occ : Nat := 0
  peak : Nat := 0
  service : Nat := 0
  deriving DecidableEq, Repr

/-- A barrier release on the DOWN channel (R292): the launch it starts, the start tick and cycle-in-tick that it names, and the wall cycle
of its injection. -/
structure Release where
  ctx : Nat
  tick : Nat
  cycle : Nat
  injected : Nat
  deriving DecidableEq, Repr

/-! ## Groups -/

/-- What a member knows of another from its concord items (R395–R398, R405). -/
structure Member where
  rank : Nat
  word : Nat
  groupId : Nat
  members : Nat
  enc : Bool
  mask : Nat
  ready : Bool
  /-- Body bits [111:0] of its CHECK item. -/
  check : Option Nat
  deriving DecidableEq, Repr

/-- A group stall (R408): hold point, cause, wall tick of its start, and whether this member waits for a late item of its own. -/
structure Stall where
  tau : Int
  late : Bool
  cause : Nat
  since : Nat
  mine : Bool
  deriving DecidableEq, Repr

/-- What a group barrier is for (R403, R409). -/
inductive Meeting where
  | join
  | start (ctx : Nat)
  | stall
  | ended (ctx : Nat)
  deriving DecidableEq, Repr

/-- An ARRIVE item received (R403, R404): port, smallest and largest cumulative offset, CKPT_TAU. -/
structure Arrival where
  port : Nat
  least : Int
  most : Int
  ckpt : Nat
  deriving DecidableEq, Repr

/-- What a module vote is about (R407): a switch or a patch, and the launch tick in which it takes effect. -/
structure Ballot where
  switch : Bool
  tau : Int
  deriving DecidableEq, Repr

/-- The group that the module joins or has joined (R393–R411). RANK, MEMBERS and STATE stand in HUB_GROUP_STATUS. -/
structure Group where
  id : Nat
  mask : Nat
  enc : Bool
  schedHash : Word
  config : Word
  /-- The channel of GROUP_JOIN while it waits, and where its report goes. -/
  chan : Option Nat
  joinAt : Nat
  table : List Member
  /-- Barriers: the number, the one this member has reached and whether it has sent ARRIVE, and the arrivals of its children. -/
  number : Nat
  meet : Option Meeting
  sent : Bool
  arrived : List Arrival
  /-- A release that has been received: start G, cycle, trim, CKPT_TAU. -/
  release : Option (Nat × Nat × Bool × Nat)
  stalls : List Stall
  /-- Group tick of a trim tick to come, and whether the next wall tick is an alignment tick (R400, R402). -/
  trimAt : Option Nat
  alignDue : Bool
  /-- A power stall that this member asked for has not seen b ≥ 0 yet (R462): the dies. -/
  powerDies : List Nat
  /-- Votes received from below, by port; the votes that this member has cast or combined; and the combined results (R407). -/
  votes : List (Nat × Ballot × Bool)
  cast : List (Ballot × Bool)
  results : List (Ballot × Bool)
  /-- Start G of the sequence that a release of rank 0 has named and that has not begun (R409). -/
  sequence : Option Nat
  /-- Sums received from below, by port and replica, and totals received from above (R406). -/
  sums : List (Nat × Nat × Int)
  totals : List (Nat × Int)
  sumsSent : Option Int
  /-- Wall tick of the last frame from each rank (R411). -/
  heard : Sparse Nat
  deriving DecidableEq, Repr

/-! ## The configuration store and the test connector -/

/-- A record or image write (R506): the channel of CFG_WRITE, none for the Badger's own write of the repair map; image or record; the
item's KIND and INDEX; its body, or the image. -/
structure StoreJob where
  chan : Option Nat
  image : Bool
  kind : Nat
  index : Nat
  body : List Byte
  deriving DecidableEq, Repr

/-- A TAP of the chain (R519): instruction (0 BYPASS, 1 IDCODE, 2 SAMPLE/PRELOAD, 3 EXTEST), data register, and the bit that it drives
on. -/
structure Tap where
  ir : Nat := 0
  dr : Nat := 0
  tdo : Bool := false
  deriving DecidableEq, Repr

/-! ## The module -/

/-- The state of the module. Every indexed part is a sparse table in canonical form; what an unlisted key reads as is the
default of its type (for a register, its reset value). -/
structure State where
  /-- Commands that wait, first in, first out. -/
  pending : List Instr := []
  /-- The register file: key `index * 1024 + code` (R13). -/
  regs : Sparse Word := []
  /-- Register writes taken while RUN is 1, which take effect at cycle 0 of the next tick (R108, R237). -/
  staged : List Staged := []
  /-- All byte-addressed memories, in disjoint spaces (see `Space`). -/
  mem : List Host.Cell := []
  /-- Poison tags, one per 8-byte slot of `mem` (R204), key `address / 8`. -/
  poison : Sparse Bool := []
  /-- Data and poison that the last bank read returned (R205): the result on its way to the issuer. -/
  latch : List Byte × Bool := ([], false)
  /-- Cycle-in-tick of the wall tick, 0–1,023 (R136). -/
  cyc : Nat := 0
  engines : Sparse Engine := []
  /-- Key `4 * engine + lane`. -/
  lanes : Sparse LaneState := []
  stooks : Sparse Stook := []
  cores : Sparse CoreState := []
  gens : Sparse Gen := []
  acres : Sparse Acre := []
  ctxs : Sparse Ctx := []
  graphs : Sparse (Option Graph) := []
  streams : Sparse Stream := []
  /-- Fault reports that units have raised and the Badger has not received (R415). -/
  reports : List FaultRep := []
  /-- Losses whose report the Badger has logged and whose step has not come: code, die or 0, and the acre, port or controller (R415). -/
  announced : List (Nat × Nat × Nat) := []
  chans : Sparse Chan := []
  /-- Parts of the images on their way (R360): whether the image is a graph's or a context's, and whose; offset; length. -/
  parts : List ((Bool × Nat) × Nat × Nat) := []
  /-- Answer packets that wait for a frame, oldest first, both control ports. -/
  answers : List Answer := []
  /-- Directory records of the checkpoint pools (R340). -/
  pools : List PoolRec := []
  /-- Slot tables of the router outputs (R293, R296): the launch that a cycle-in-tick of an output belongs to, key
  `1024 * output + cycle`; an output is `8 * (12 * die + router) + direction` (log 126). -/
  slotTable : Sparse (Option Nat) := []
  /-- Router outputs with packets or counts (R297, R298), packets that wait at their sources, and the wall cycle up to which the
  outputs have granted. -/
  outs : Sparse CartOut := []
  carts : List Cart := []
  cartAt : Nat := 0
  /-- Barrier releases injected and not acted on (R292). -/
  releases : List Release := []
  /-- Stale tables of the field dies (R332): die, controller, stripe row. -/
  stale : List (Nat × Nat × Nat) := []
  /-- Uncorrectable reads of sheaf stores and cribs seen (R423): code, stook, unit, index, row, tick. -/
  eccHits : List (Nat × Nat × Nat × Nat × Nat × Nat) := []
  /-- Next write offset of each die's capture buffer (R437). -/
  capNext : Sparse Nat := []
  /-- Wall tick at which the current window of R436 began. -/
  hangStart : Nat := 0
  /-- Lost links: die, and acre or none for its east ring link (R295). -/
  lostLinks : List (Nat × Option Nat) := []
  /-- Spare wires in use: die of the link, direction, group (R295). -/
  wires : List (Nat × Bool × Nat) := []
  /-- Barn dies lost (R429, R431). -/
  barnLost : List Nat := []
  standby : Standby := {}
  /-- Tick counter of the other barn die (R25). -/
  standbyTick : Word := 0
  /-- Control items that wait for a control flit: port, kind, body (R305). -/
  sendq : List (Nat × Nat × BitVec 240) := []
  /-- Entropy sources of the two barn dies. -/
  sources : Sparse Source := []
  /-- Gleaner ENT requests taken in this tick (R479). -/
  entAsked : Nat := 0
  /-- Wall tick for which the last field-noise keys were drawn (R473, R477). -/
  keysFor : Nat := 0
  /-- ENT_READ messages that wait for blocks: channel, blocks still needed, bytes so far (R479). -/
  entWaits : List (Nat × Nat × List Byte) := []
  /-- Next word of the raw sample ring (R480). -/
  rawNext : Nat := 0
  /-- Fallow mask of the present wall tick (R461), and the tick word that has arrived for the next (R137). -/
  fallow : Nat := 0
  arrived : Option (BitVec 96) := none
  /-- Hottest sensor of each die at the last decision, units of 0.0625 °C (R460, R465), and energies of the last tick reported, EU: dies,
  then input (R458). -/
  temps : List Int := []
  energies : List Nat := []
  /-- Lane states that STATE_CAPTURE has taken, by lane (R202). -/
  captured : List (Nat × LaneSave) := []
  ports : Sparse PortState := []
  group : Option Group := none
  /-- Per-member report of the last join (R398). -/
  groupReport : List Byte := []
  /-- Record and image writes in progress and waiting, oldest first (R507). -/
  jobs : List StoreJob := []
  /-- The rails of the control and data planes are up; a valid reference has been present for 1 ms (R495, R512, R515). -/
  powered : Bool := false
  refValid : Bool := false
  /-- Pin TEST_EN_N (R520); it is pulled up inside. -/
  testEnN : Bool := true
  /-- A start-up that waits at step 2 for a reference (R515). -/
  startWaits : Option StartUp := none
  taps : Sparse Tap := []
  /-- Values that the manual leaves open which the model has drawn so far (the model's own counter, no part of the module). -/
  free : Nat := 0
  deriving DecidableEq, Repr

/-- The module when power is applied, before POWER_UP: every register at its reset value, nothing stored, no rail up. -/
def State.reset : State := {}

end Sys2Proof.Machine
end

