-- ==== Sys2Proof/Machine/Ops.lean ====
section
/-!
DEFINITION. The named operations over the state: the register file, the memories, the tables of units, time, free values
and the two ways a command ends.
-/
namespace Sys2Proof.Machine

/-- What a command answers. -/
abbrev Out := Host.Outcome State Fault Refusal

/-! ## Numbers of units -/

end Sys2Proof.Machine

namespace Sys2Proof

/-- Number of an acre, 0–63. -/
def AcreId.ix (a : AcreId) : Nat := a.die.val * 8 + a.acre.val
/-- Number of a stook, 0–1,087. -/
def StookId.ix (x : StookId) : Nat := (x.die.val * 8 + x.acre.val) * 17 + x.stook.val
/-- Number of a sheaf engine, 0–8,703. -/
def EngineId.ix (e : EngineId) : Nat := e.st.ix * 8 + e.eng.val
/-- Number of a gleaner core, 0–4,351. -/
def CoreId.ix (k : CoreId) : Nat := k.st.ix * 4 + k.core.val

end Sys2Proof

namespace Sys2Proof.Machine

/-! ## The register file -/

/-- Key of copy `i` of a register. No two copies share one. -/
def Reg.key (r : Reg) (i : Nat) : Nat := i * 1024 + r.code

/-- Code of the register and number of the copy that a key stands for. -/
def keyCode (key : Nat) : Nat := key % 1024
def keyCopy (key : Nat) : Nat := key / 1024

/-- A register as held. -/
def State.reg (s : State) (r : Reg) (i : Nat) : Word := sget r.reset s.regs (r.key i)

/-- The state with a register set. -/
def State.setReg (s : State) (r : Reg) (i : Nat) (v : Word) : State := { s with regs := sput r.reset s.regs (r.key i) v }

/-- A number with bits `[lo + n - 1 : lo]` replaced. -/
def putBits (x lo n v : Nat) : Nat := x / 2 ^ (lo + n) * 2 ^ (lo + n) + v % 2 ^ n * 2 ^ lo + x % 2 ^ lo

/-- A field of a register. -/
def State.fld (s : State) (f : Fld) (i : Nat) : Nat := bits (s.reg f.reg i).toNat f.lo f.w

/-- The state with a field of a register set. -/
def State.setFld (s : State) (f : Fld) (i v : Nat) : State :=
  s.setReg f.reg i (BitVec.ofNat 64 (putBits (s.reg f.reg i).toNat f.lo f.w v))

/-- A one-bit field read as a flag. -/
def State.flag (s : State) (f : Fld) (i : Nat) : Bool := s.fld f i != 0

/-- The field as a two's complement number. -/
def State.sfld (s : State) (f : Fld) (i : Nat) : Int := signed f.w (s.fld f i)

/-- Set bit `k` of a field, or clear it. -/
def State.setBitOf (s : State) (f : Fld) (i k : Nat) (b : Bool) : State :=
  s.setFld f i (putBits (s.fld f i) k 1 (if b then 1 else 0))

/-! ## The memories -/

/-- The byte-addressed memories. -/
inductive Space where
  /-- Cribs (R204), 8 MiB per physical stook. -/
  | crib
  /-- Sheaf stores (R52), 1 MiB per engine. -/
  | sheaf
  /-- Granary (R320), 8 GiB per field die. -/
  | granary
  /-- GDDR 7 (R330), 20 GiB usable per field die. -/
  | gddr
  /-- Staging window (R350). -/
  | staging
  /-- Mailbox message and response slots (R353), 512 bytes each, 1 KiB per channel. -/
  | mailbox
  /-- Instruction memories (R238), 64 KiB per core. -/
  | imem
  /-- Data memories (R238), 64 KiB per core. -/
  | dmem
  /-- Configuration store (R501), 16 MiB per bank. -/
  | store
  /-- Fault log (R440). -/
  | log
  /-- Capture buffer (R437). -/
  | capture
  deriving DecidableEq, Repr

/-- Where a memory begins in `State.mem`: 2 ^ 44 bytes apart. -/
def Space.base (p : Space) : Nat := p.ctorIdx * 2 ^ 44

/-- Address of a crib byte of a stook, by the stook's number. -/
def cribAt (stook byte : Nat) : Nat := Space.crib.base + stook * 2 ^ 23 + byte
/-- Address of a sheaf store byte of an engine, by the engine's number. -/
def sheafAt (engine byte : Nat) : Nat := Space.sheaf.base + engine * 2 ^ 20 + byte
/-- Address of a granary byte of a die. -/
def granaryAt (die byte : Nat) : Nat := Space.granary.base + die * 2 ^ 33 + byte
/-- Address of a GDDR 7 byte of a die. -/
def gddrAt (die byte : Nat) : Nat := Space.gddr.base + die * 2 ^ 35 + byte
/-- Address of a byte of the staging window. -/
def stagingAt (byte : Nat) : Nat := Space.staging.base + byte
/-- Address of an instruction word of a core, by the core's number. -/
def imemAt (core index : Nat) : Nat := Space.imem.base + core * 2 ^ 16 + 4 * index
/-- Address of a data memory byte of a core. -/
def dmemAt (core byte : Nat) : Nat := Space.dmem.base + core * 2 ^ 16 + byte
/-- Address of entry `n` of the fault log ring (R440). -/
def logAt (n : Nat) : Nat := Space.log.base + 32 * n

/-- The canonical form of the memory: addresses strictly rising, and no entry that reads as an unlisted byte does. -/
def Memory.wf (m : List Host.Cell) : Bool := swf (fun _ => 0) m

/-- One byte of memory. A byte that nothing has written reads as zero (log 1). -/
def State.rd (s : State) (a : Nat) : Byte := sget 0 s.mem a

/-- `n` bytes of memory from an address. -/
def State.rdN (s : State) (a n : Nat) : List Byte := (List.range n).map fun k => s.rd (a + k)

/-- `n` bytes of memory as a number, little-endian. -/
def State.rdNat (s : State) (a n : Nat) : Nat := leNat (s.rdN a n)

/-- Bytes written to a memory from an address. -/
def memPut : List Host.Cell → Nat → List Byte → List Host.Cell
  | m, _, [] => m
  | m, a, b :: rest => memPut (sput 0 m a b) (a + 1) rest

/-- The state with bytes written to memory. Poison tags stay. -/
def State.wrN (s : State) (a : Nat) (v : List Byte) : State := { s with mem := memPut s.mem a v }

/-- The state with a number written to memory in `n` bytes, little-endian. -/
def State.wrNat (s : State) (a n v : Nat) : State := s.wrN a (leBytes n v)

/-- Whether any 8-byte slot under `n` bytes at `a` carries the poison tag (R204). -/
def State.poisoned (s : State) (a n : Nat) : Bool :=
  (List.range ((a + n - 1) / 8 - a / 8 + 1)).any fun k => sget false s.poison (a / 8 + k)

/-- The state with the poison tags of the slots under `n` bytes at `a` set; or, when `p` is false, with the tags of the slots
that the bytes cover whole cleared. A slot written in part keeps its tag (log 7). -/
def State.tag (s : State) (a n : Nat) (p : Bool) : State :=
  { s with poison := (List.range ((a + n - 1) / 8 - a / 8 + 1)).foldl (fun m k =>
      let slot := a / 8 + k
      if p then sput false m slot true
      else if decide (a ≤ 8 * slot) && decide (8 * slot + 8 ≤ a + n) then sput false m slot false else m) s.poison }

/-- Bytes written to memory with their poison tag. -/
def State.store (s : State) (a : Nat) (v : List Byte) (p : Bool) : State :=
  if v.isEmpty then s else (s.wrN a v).tag a v.length p

/-! ## The tables of units -/

def State.engine (s : State) (n : Nat) : Engine := sget {} s.engines n
def State.setEngine (s : State) (n : Nat) (v : Engine) : State := { s with engines := sput {} s.engines n v }
def State.lane (s : State) (n : Nat) : LaneState := sget {} s.lanes n
def State.setLane (s : State) (n : Nat) (v : LaneState) : State := { s with lanes := sput {} s.lanes n v }
def State.stook (s : State) (n : Nat) : Stook := sget {} s.stooks n
def State.setStook (s : State) (n : Nat) (v : Stook) : State := { s with stooks := sput {} s.stooks n v }
def State.core (s : State) (n : Nat) : CoreState := sget {} s.cores n
def State.setCore (s : State) (n : Nat) (v : CoreState) : State := { s with cores := sput {} s.cores n v }
def State.gen (s : State) (n : Nat) : Gen := sget {} s.gens n
def State.setGen (s : State) (n : Nat) (v : Gen) : State := { s with gens := sput {} s.gens n v }
def State.acre (s : State) (n : Nat) : Acre := sget {} s.acres n
def State.setAcre (s : State) (n : Nat) (v : Acre) : State := { s with acres := sput {} s.acres n v }
def State.ctx (s : State) (n : Nat) : Ctx := sget {} s.ctxs n
def State.setCtx (s : State) (n : Nat) (v : Ctx) : State := { s with ctxs := sput {} s.ctxs n v }
def State.graph (s : State) (n : Nat) : Option Graph := sget none s.graphs n
def State.setGraph (s : State) (n : Nat) (v : Option Graph) : State := { s with graphs := sput none s.graphs n v }
def State.stream (s : State) (n : Nat) : Stream := sget {} s.streams n
def State.setStream (s : State) (n : Nat) (v : Stream) : State := { s with streams := sput {} s.streams n v }

/-- The launch of a context. -/
def State.launch (s : State) (c : Nat) : Option Launch := (s.ctx c).launch

/-- The state with the launch of a context changed, where it has one. -/
def State.modLaunch (s : State) (c : Nat) (f : Launch → Launch) : State :=
  match (s.ctx c).launch with
  | some l => s.setCtx c { s.ctx c with launch := some (f l) }
  | none => s

/-- Keys of a table whose entries hold a property. -/
def keysWhere {α : Type} (m : Sparse α) (p : α → Bool) : List Nat := (m.filter fun e => p e.2).map (·.1)

/-- The engines that a launch owns (R33), in rising order of number. -/
def State.enginesOf (s : State) (c : Nat) : List Nat := keysWhere s.engines fun e => e.ctx == some c
/-- The cores that serve a launch (R243). -/
def State.coresOf (s : State) (c : Nat) : List Nat := keysWhere s.cores fun k => k.ctx == some c
/-- The generators of a launch. -/
def State.gensOf (s : State) (c : Nat) : List Nat := keysWhere s.gens fun g => g.ctx == some c
/-- The acres whose tally unit serves a launch. -/
def State.acresOf (s : State) (c : Nat) : List Nat := keysWhere s.acres fun a => a.ctx == some c

/-- A change made for each number of a list, in order. -/
def State.each (s : State) (l : List Nat) (f : State → Nat → State) : State := l.foldl f s

/-! ## Time -/

/-- The module tick count T (R136). -/
def State.tick (s : State) : Nat := (s.reg .hubTick 0).toNat

/-- Wall cycles since T was 0. -/
def State.now (s : State) : Nat := s.tick * 1024 + s.cyc

/-- The first wall tick that starts at least `n` ticks from now (R156, R379). -/
def State.tickAfter (s : State) (n : Nat) : Nat := ceilDiv (s.now + 1024 * n) 1024

/-- The clock moved up to a cycle-in-tick that a command needs; it never moves back (log 11). -/
def State.upTo (s : State) (c : Nat) : State := { s with cyc := max s.cyc c }

/-- A command's effect at the cycles the manual gives it: the clock moves up to `lo`, and nothing happens after `hi`. -/
def State.within (s : State) (lo hi : Nat) (f : State → State) : State := if s.cyc ≤ hi then f (s.upTo lo) else s

/-- A command's effect at a wall cycle or later: the clock moves up to it within its tick, and before that tick nothing happens. -/
def State.fromWall (s : State) (t : Nat) (f : State → State) : State :=
  if s.tick < t / 1024 then s else f (if t / 1024 = s.tick then s.upTo (t % 1024) else s)

/-- The first cycle at or after `c` that is `r` modulo `m`. -/
def nextCycle (c m r : Nat) : Nat := c + (r + m - c % m) % m

/-- The launch tick τ of a launch; 0 without one. -/
def State.tau (s : State) (c : Nat) : Int := match s.launch c with | some l => l.tau | none => 0

/-- The logical cycle τ × 1,024 + c of a launch (R138). -/
def State.logical (s : State) (c : Nat) : Int := s.tau c * 1024 + s.cyc

/-- Whether a launch's logical time advances at this cycle of the wall tick (R138, R139). -/
def Launch.advances (l : Launch) (cyc : Nat) : Bool :=
  match l.phase with
  | .none => true
  | .begins => decide (cyc < l.holdAt)
  | .whole => false
  | .ends => decide (l.holdAt ≤ cyc) && l.again.all (decide <| cyc < ·)

/-- Whether a launch still replays logical time that it had reached before a fault (R276). -/
def Launch.repeats (l : Launch) (cyc : Nat) : Bool := l.recover.any fun r => decide (l.tau * 1024 + cyc < r.tau * 1024 + r.cyc)

/-- Whether a launch moves at this cycle: its context is RUNNING, or HELD in a tick that still runs its exchange window
(R109), and no hold stops it. -/
def State.moving (s : State) (c : Nat) : Bool :=
  match (s.ctx c).state, s.launch c with
  | .running, some l => l.advances s.cyc
  | .held, some l => l.windowOnly && l.advances s.cyc
  | _, _ => false

/-- Dies of a launch that carry two of its fields (R271). -/
def Launch.foldedDies (l : Launch) : List Nat := (l.dies.filter fun d => decide (8 ≤ d) && decide (d < 16)).map (· - 8)

/-- A launch with a folded die (R271, R273): some field of it is parked, on this module or on another of its group. -/
def Launch.folded (l : Launch) : Bool := l.frames || l.dies.any fun d => decide (8 ≤ d) && decide (d < 16)

/-- Whether the units of a die hold in the present wall tick of a fold frame (R273): in its last one, those of a die that carries one field. -/
def Launch.rests (l : Launch) (die : Nat) : Bool := l.folded && l.frame == 74 && !l.foldedDies.contains die

/-- Whether a launch moves on a stook: it moves, and the stook's die does not hold for the rest of a fold frame. -/
def State.movingOn (s : State) (c stook : Nat) : Bool := s.moving c && !(s.launch c).any (·.rests (stook / 136))

/-- A command's effect at a logical cycle of a launch or later (R138): the clock moves up to it within its launch tick, while the launch
moves; before that nothing happens. -/
def State.fromLogical (s : State) (c : Nat) (t : Int) (f : State → State) : State :=
  if t ≤ s.logical c then f s
  else if t / 1024 = s.tau c ∧ (s.upTo (t % 1024).toNat).moving c then f (s.upTo (t % 1024).toNat)
  else s

/-- Whether decisions fall in a launch's present wall tick (R134, R140). -/
def State.decides (s : State) (c : Nat) : Bool :=
  match s.launch c with
  | some l => !l.windowOnly && decide (0 ≤ l.tau) && decide (l.tau < l.sched.ticks)
  | none => false

/-! ## Free values -/

/-- A value that the manual leaves open: the next one, and the state that has drawn it. -/
def State.draw (s : State) : Nat × State := (Config.freeNat s.free, { s with free := s.free + 1 })

end Sys2Proof.Machine
end

