-- ==== Sys2Proof/Machine/Flags.lean ====
section
/-!
DEFINITION. Flag and counter computations: sticky status bits, saturating counters, and the register write of R13.
-/
namespace Sys2Proof.Machine

/-- A status bit set. -/
def State.raise (s : State) (f : Fld) (i : Nat) : State := s.setFld f i 1

/-- A counter that rises by `n` and stays at its highest value. -/
def State.bump (s : State) (f : Fld) (i n : Nat) : State := s.setFld f i (min (s.fld f i + n) (2 ^ f.w - 1))

/-- A counter that rises by `n` and wraps. -/
def State.wrap (s : State) (f : Fld) (i n : Nat) : State := s.setFld f i (s.fld f i + n)

/-- What a register holds after a write of `v` (R13): RW bits take `v`, W1C bits clear where `v` is 1, RO and reserved bits
keep their value (log 8), WO bits act elsewhere and are not held here. -/
def Reg.written (r : Reg) (old v : Word) : Word :=
  ((old &&& ~~~r.rw) ||| (v &&& r.rw)) &&& ~~~(v &&& r.w1c)

/-- What a register's WO bits leave to a read: they read as zero (R13). -/
def Reg.shown (r : Reg) (v : Word) : Word := v &&& ~~~r.wo

/-- A fault report on its way to the Badger (R415): code, die, acre, stook (31 = none) and unit of the LOCATION word, index,
array row, context. -/
def State.reportAt (s : State) (code die acre stook unit index row : Nat) (ctx : Option Nat) : State :=
  { s with reports := s.reports ++ [{
      code := code, die := Fin.ofNat 8 die, acre := Fin.ofNat 8 acre, stook := Fin.ofNat 32 stook,
      unit := Fin.ofNat 32 unit, index := BitVec.ofNat 8 index, row := row,
      ctx := ctx.map (Fin.ofNat 10240), stream := Fin.ofNat 4096 ((ctx.bind fun c => (s.launch c).map (·.stream)).getD 0) }] }

/-- A fault report of a unit of a stook, by the stook's number. -/
def State.report (s : State) (code stook unit index row : Nat) (ctx : Option Nat) : State :=
  s.reportAt code (stook / 17 / 8) (stook / 17) (stook % 17) unit index row ctx

/-- A fault report of an acre's own unit. -/
def State.reportAcre (s : State) (code a : Nat) (ctx : Option Nat) : State := s.reportAt code (a / 8) a 31 31 0 0 ctx

/-- The entropy source of the active barn die serves keys: READY or STRETCHED (R475). -/
def State.keysServed (s : State) : Bool := s.fld F.entStatusState 0 == 3 || s.fld F.entStatusState 0 == 4

end Sys2Proof.Machine
end

