-- ==== Sys2Proof/Machine/Open.lean ====
section
/-!
DEFINITION. Unpredictable results (R10, R11): what belongs to a context, and what a host-made error leaves of it. The module goes on, and
no other context, stream or module sees any effect.
-/
namespace Sys2Proof.Config

/-- FREE VALUE. The n-th unpredictable result (R10): bytes with their poison tags, by flat address; the lanes and the cores of the
context concerned, by number. -/
opaque anyBytes : Nat → List (Nat × Byte × Bool)
opaque anyLane : Nat → Nat → LaneSave
opaque anyCore : Nat → Nat → CoreState

end Sys2Proof.Config

namespace Sys2Proof.Machine

/-! ## What belongs to a context -/

/-- Bank of a crib byte address (R204). -/
def bankOf (addr : Nat) : Nat := addr / 2 ^ 19 % 16

/-- Register index of a bank of a stook. -/
def bankIx (stook bank : Nat) : Nat := stook * 16 + bank

/-- The owner word of a bank (R214). -/
def State.ownerWord (s : State) (stook bank : Nat) : Nat := s.fld ⟨.stkBankOwner, 0, 16⟩ (bankIx stook bank)

/-- Bytes of a GDDR 7 segment (R330). -/
def gddrSegBytes : Nat := 83886080

/-- Whether a flat memory address belongs to a context: its crib banks (R214), the sheaf stores of its engines (R33), its granary and
GDDR 7 segments (R326, R330), the memories of its cores (R243). -/
def State.owns (s : State) (c a : Nat) : Bool :=
  let off := a % 2 ^ 44
  match a / 2 ^ 44 with
  | 0 => s.ownerWord (off / 2 ^ 23) (bankOf (off % 2 ^ 23)) == 0x4000 + c
  | 1 => (s.engine (off / 2 ^ 20)).ctx == some c
  | 2 => (List.range 256).any fun i =>
    let n := off / 2 ^ 33 * 256 + i
    s.flag F.grnSegValid n && s.fld F.grnSegCtx n == c && s.fld F.grnSegPort n == off % 2 ^ 33 / 2 ^ 31 &&
      s.fld F.grnSegPseg n == off % 2 ^ 31 / 2 ^ 26
  | 3 =>
    let n := off / 2 ^ 35 * 256 + off % 2 ^ 35 / gddrSegBytes
    s.fld F.gddSegOwner n == 1 && s.fld F.gddSegCtx n == c
  | 6 => (s.core (off / 2 ^ 16)).ctx == some c
  | 7 => (s.core (off / 2 ^ 16)).ctx == some c
  | _ => false

/-- A sparse table put in canonical form, entry by entry. -/
def canon {α : Type} [DecidableEq α] (d : α) (m : Sparse α) : Sparse α := m.foldl (fun m x => sput d m x.1 x.2) []

/-! ## Unpredictable results -/

/-- The operations of a context on a stook's units, with a status that nothing fixes (R10). -/
def State.anyEnds (s : State) (c n k : Nat) (x : Stook) : Stook :=
  let any := fun (r : Running) =>
    if s.ownerWord k (bankOf r.addr) = 0x4000 + c then { r with poisoned := n.testBit (r.addr / 64) } else r
  { x with running := x.running.map any }

/-- An unpredictable result of a context (R10): its bytes, the spins, fields and energies of its lanes, the registers of its cores and
the status with which its operations end may be anything. Nothing else changes (log 124). -/
def State.anything (s : State) (c : Nat) : State :=
  let n := Config.freeNat s.free
  let t : State := { s with free := s.free + 1 }
  let t := (Config.anyBytes n).foldl (fun t x => if s.owns c x.1 then t.store x.1 [x.2.1] x.2.2 else t) t
  let t := (s.enginesOf c).foldl (fun t e => (List.range 4).foldl (fun t j =>
    let i := 4 * e + j
    let v := Config.anyLane n i
    (t.setLane i { t.lane i with spins := v.spins, field := canon 0 v.field, bestSpins := v.bestSpins, bestEnergy := v.bestEnergy }).setFld
      F.shfEnergyEnergy i v.energy.toNat) t) t
  let t := (s.coresOf c).foldl (fun t k =>
    let v := Config.anyCore n k
    t.setCore k { t.core k with g := canon 0 v.g, poison := v.poison &&& ~~~1 }) t
  { t with stooks := t.stooks.map fun x => (x.1, s.anyEnds c n x.1 x.2) }

/-- What a command answers that takes the state to `t` where its operands have their form. Where they have not, the host or the compiler
has erred: the module goes on with an unpredictable result of the context concerned, if any (R10, R11). -/
def State.formed (s : State) (c : Option Nat) (ok : Bool) (t : State) : Out :=
  .next (if ok then t else match c with
    | some c => s.anything c
    | none => s)

/-- `n` bytes that nothing fixes, and the state that has drawn them. -/
def State.openBytes (s : State) (n : Nat) : List Byte × State := (leBytes n s.draw.1, s.draw.2)

end Sys2Proof.Machine
end

