-- ==== Sys2Proof/Machine/Cartway.lean ====
section
/-!
DEFINITION. The cartway (R288–R299): the routers of a field die and their outputs, paths in dimension order, slot tables, and the virtual
channels of the bounded mode with their frames of 16 cycles.
-/
namespace Sys2Proof.Machine

/-! ## Routers and outputs (R288, R290, R465; log 126) -/

/-- Directions of an output, numbered as in R465, and the one to the acre's own ports. -/
def dirN : Nat := 0
def dirE : Nat := 1
def dirS : Nat := 2
def dirW : Nat := 3
def dirPort : Nat := 4

/-- Routers of a die: the acre routers 0–7, then the edge routers north, east, south, west. -/
def edgeRouter (dir : Nat) : Nat := 8 + dir

/-- An output of a router. Dies 8–15 stand for the parked field of a folded die. -/
def outKey (die router dir : Nat) : Nat := 8 * (12 * die + router) + dir

/-- Whether an output is one of an edge router. -/
def isEdge (out : Nat) : Bool := decide (8 ≤ out / 8 % 12)

/-- The acre at a row (0–1) and a column (0–3) of the mesh. -/
def acreAt (row col : Nat) : Nat := 4 * row + col

/-- Key of a cycle of an output in the slot tables. -/
def slotKey (out cycle : Nat) : Nat := 1024 * out + cycle

/-- Cycles from one output to the next on a path (R290): an edge router and, out to the ring, its die-to-die link; an acre router and a mesh
wire. -/
def hopCycles (out : Nat) : Nat :=
  if isEdge out then 6 + (if out % 8 == out / 8 % 12 - 8 && out % 2 == 1 then 24 else 0) else 6

/-! ## Paths (R290, R295) -/

/-- Where a path begins or ends: an acre; the north or the south edge of a die (GDDR 7, optical engine, barn dies); a granary. -/
inductive Spot where
  | acre (die acre : Nat)
  | north (die : Nat)
  | south (die : Nat)
  | granary (die : Nat)
  deriving DecidableEq, Repr

/-- Die of a place. -/
def Spot.die : Spot → Nat
  | .acre d _ => d
  | .north d => d
  | .south d => d
  | .granary d => d

/-- Outputs passed along a row from one column to another. -/
def rowPath (die row x y : Nat) : List Nat :=
  if x ≤ y then (List.range (y - x)).map fun k => outKey die (acreAt row (x + k)) dirE
  else (List.range (x - y)).map fun k => outKey die (acreAt row (x - k)) dirW

/-- The output passed from one row to another in a column. -/
def colPath (die col r q : Nat) : List Nat :=
  if r = q then [] else [outKey die (acreAt r col) (if r < q then dirS else dirN)]

/-- Outputs passed inside a die, along the row first; along the column first where the row's way passes a router whose link is lost. -/
def State.meshPath (s : State) (die r x q y : Nat) : List Nat :=
  let first := rowPath die r x y ++ colPath die y r q
  let other := colPath die x r q ++ rowPath die q x y
  if first.any fun o => s.lostLinks.contains (die, some (o / 8 % 12)) then other else first

/-- Whether a ring path over `n` links from a die is whole, eastward or westward. -/
def State.ringWhole (s : State) (die n : Nat) (east : Bool) : Bool :=
  (List.range n).all fun k => !s.lostLinks.contains ((if east then die + k else die + 7 - k) % 8, none)

/-- Outputs passed from a router over the ring, with the row and column of the last router: row to the edge, the link, the next die. -/
def ringPath (row : Nat) (east : Bool) : Nat → Nat → Nat → List Nat × Nat × Nat
  | 0, die, col => ([], die, col)
  | n + 1, die, col =>
    let edge := if east then 3 else 0
    let dir := if east then dirE else dirW
    let next := if east then (die + 1) % 8 else (die + 7) % 8
    let here := rowPath die row col edge ++ [outKey die (acreAt row edge) dir, outKey die (edgeRouter dir) dir]
    let rest := ringPath row east n next (if east then 0 else 3)
    (here ++ outKey next (edgeRouter (if east then dirW else dirE)) dir :: rest.1, rest.2)

/-- The path of a packet (R290, R295): into the mesh, over the ring the shorter way, or the other way where a link of it is lost, and to
its end. -/
def State.cartPath (s : State) (a b : Spot) : List Nat :=
  let east := (b.die + 8 - a.die) % 8
  let goEast := if east ≤ 4 then s.ringWhole a.die east true || !s.ringWhole a.die (8 - east) false
    else !(s.ringWhole a.die (8 - east) false) && s.ringWhole a.die east true
  let hops := if east = 0 then 0 else if goEast then east else 8 - east
  let col := match b with
    | .acre d x => if d = a.die then x % 4 else if goEast then 3 else 0
    | _ => 0
  let start : List Nat × Nat × Nat := match a with
    | .acre _ x => ([], x / 4, x % 4)
    | .north d => ([outKey d (edgeRouter dirN) dirS], 0, col)
    | .south d => ([outKey d (edgeRouter dirS) dirN], 1, col)
    | .granary _ => ([], 0, col)
  let ring := ringPath start.2.1 goEast hops a.die start.2.2
  let die := ring.2.1
  let x := ring.2.2
  start.1 ++ ring.1 ++ match b with
    | .acre _ y => s.meshPath die start.2.1 x (y / 4) (y % 4) ++ [outKey die y dirPort]
    | .north _ => s.meshPath die start.2.1 x 0 x ++ [outKey die (acreAt 0 x) dirN, outKey die (edgeRouter dirN) dirN]
    | .south _ => s.meshPath die start.2.1 x 1 x ++ [outKey die (acreAt 1 x) dirS, outKey die (edgeRouter dirS) dirS]
    | .granary _ => []

/-! ## Virtual channels (R297, R298) -/

/-- Virtual channels in order of priority. -/
def chDelta : Nat := 0
def chHarrow : Nat := 1
def chCopy : Nat := 2
def chService : Nat := 3

def State.out (s : State) (o : Nat) : CartOut := sget {} s.outs o
def State.setOut (s : State) (o : Nat) (x : CartOut) : State := { s with outs := sput {} s.outs o x }

/-- Packets that wait at an output in a channel; each channel buffers 8 (R298). -/
def CartOut.depth (x : CartOut) (ch : Nat) : Nat := (x.waits.filter (·.channel == ch)).length

/-- The packet at the head of a channel, once it has arrived. -/
def CartOut.head (x : CartOut) (ch t : Nat) : Option Cart := (x.waits.find? (·.channel == ch)).filter fun p => decide (p.since ≤ t)

/-- Cycles granted to a channel in the present frame, and its cap. -/
def CartOut.usedBy (x : CartOut) (ch : Nat) : Nat := if ch = 0 then x.used.1 else if ch = 1 then x.used.2.1 else x.used.2.2
def cartCap (ch : Nat) : Nat := if ch = 0 then 8 else if ch = 1 then 4 else 15

/-- The channel that an output grants in a wall cycle (R293, R297): nothing in a cycle that a launch has booked; a SERVICE item in the
reserved cycle; else the highest channel that waits below its cap, else the highest that waits, else SERVICE. A packet whose next output
has no room in its channel does not wait here for a grant (R298). -/
def State.cartGrant (s : State) (o t : Nat) (x : CartOut) : Option Cart :=
  let ready := fun ch => (x.head ch t).filter fun p => match p.path with
    | _ :: next :: _ => decide ((s.out next).depth ch < 8)
    | _ => true
  if (sget none s.slotTable (slotKey o (t % 1024))).isSome then none
  else
    let low := ([chDelta, chHarrow, chCopy].filter fun ch => decide (x.usedBy ch < cartCap ch)).findSome? ready
    let any := [chDelta, chHarrow, chCopy, chService].findSome? ready
    if t % 16 = 15 then ready chService <|> low <|> any else low <|> any

/-- A packet taken from the list of an output. -/
def dropCart (p : Cart) : List Cart → List Cart
  | [] => []
  | q :: rest => if q = p then rest else q :: dropCart p rest

/-- The counts of an output in a wall cycle: a new frame begins with none granted. -/
def CartOut.inFrame (x : CartOut) (t : Nat) : CartOut := if x.frame = t / 16 then x else { x with frame := t / 16, used := (0, 0, 0) }

/-- One wall cycle of an output: a grant, and the packet goes to its next output, or leaves the cartway. -/
def State.outCycle (s : State) (t o : Nat) : State :=
  let x := (s.out o).inFrame t
  let x := { x with peak := max x.peak x.waits.length }
  match s.cartGrant o t x with
  | none => s.setOut o x
  | some p =>
    let u := x.used
    let s := s.setOut o { x with
      waits := dropCart p x.waits, occ := x.occ + 1
      used := if p.channel = 0 then (u.1 + 1, u.2.1, u.2.2) else if p.channel = 1 then (u.1, u.2.1 + 1, u.2.2)
        else if p.channel = 2 then (u.1, u.2.1, u.2.2 + 1) else u
      service := if p.channel = 3 then max x.service (t - p.since) else x.service }
    match p.path with
    | _ :: next :: rest => s.setOut next { s.out next with
        waits := (s.out next).waits ++ [{ p with path := next :: rest, since := t + hopCycles o }] }
    | _ => s

/-- Packets at their sources enter their first output while its channel has room, in order (R298). -/
def State.enterCarts (s : State) : State :=
  s.carts.foldl (fun s p => match p.path with
    | o :: _ =>
      if (s.out o).depth p.channel < 8 && s.carts.all fun q => !(q.channel == p.channel && q.path.head? == some o) then
        s.setOut o { s.out o with waits := (s.out o).waits ++ [p] }
      else { s with carts := s.carts ++ [p] }
    | [] => s) { s with carts := [] }

/-- Whether any packet is on the cartway. -/
def State.cartIdle (s : State) : Bool := s.carts.isEmpty && s.outs.all fun x => x.2.waits.isEmpty

/-- Wall cycles of the cartway, until one passes with nothing on its way. -/
def State.cartCycles (s : State) : Nat → State
  | 0 => s
  | n + 1 =>
    if s.cartIdle then s
    else
      let t := ((keysWhere s.outs fun x => !x.waits.isEmpty).foldl (fun t o => t.outCycle s.cartAt o) s).enterCarts
      { t with cartAt := s.cartAt + 1 }.cartCycles n

/-- The cartway run up to a wall cycle. -/
def State.cartTo (s : State) (t : Nat) : State := { s.cartCycles (t - s.cartAt) with cartAt := t }

/-! ## Traffic of commands -/

/-- A launch of the bounded mode (R9, R296). -/
def State.boundedCtx (s : State) (c : Nat) : Bool := (s.launch c).any (·.sched.bounded)

/-- `n` packets put on the cartway now. Those of a launch in scheduled mode pass in its booked slots and wait nowhere (R296): only the
slots they use are counted. -/
def State.cart (s : State) (ctx : Option Nat) (channel n : Nat) (a b : Spot) : State :=
  let path := s.cartPath a b
  if ctx.any fun c => !s.boundedCtx c then
    (path.filter isEdge).foldl (fun s o => s.setOut o { s.out o with occ := (s.out o).occ + n }) s
  else
    let s := s.cartTo s.now
    let p : Cart := { ctx := ctx, channel := channel, path := path, since := s.now }
    if path.isEmpty then s else ({ s with carts := s.carts ++ List.replicate n p } : State).enterCarts

/-- The place of a stook on the cartway. -/
def stookSpot (k : Nat) : Spot := .acre (k / 136 % 8) (k / 17 % 8)

/-- Packets of a number of bytes (R288). -/
def cartPackets (bytes : Nat) : Nat := max 1 (ceilDiv bytes 512)

/-- Traffic of a launch between two stooks: none on the cartway where one acre holds both. -/
def State.cartStooks (s : State) (c channel bytes k n : Nat) : State :=
  if k / 17 = n / 17 then s else s.cart (some c) channel (cartPackets bytes) (stookSpot k) (stookSpot n)

/-- SERVICE traffic to the active barn die (R293). -/
def State.serviceCart (s : State) (a : Spot) (bytes : Nat) : State := s.cart none chService (cartPackets bytes) a (.south a.die)

/-- The counts of the tick that ends are cleared for the next (R465). -/
def State.clearOuts (s : State) : State :=
  (s.outs.map (·.1)).foldl (fun s o => s.setOut o { s.out o with occ := 0, peak := 0, service := 0 }) s

/-! ## Slot tables (R293, R294, R296) -/

/-- The slots of a launch taken out of the tables. -/
def State.dropSlots (s : State) (c : Nat) : State := { s with slotTable := s.slotTable.filter fun x => x.2 != some c }

/-- A slot that has no owner and is not reserved (R293, R341). -/
def State.slotFree (s : State) (out cycle : Nat) : Bool :=
  (sget none s.slotTable (slotKey out cycle)).isNone && !(isEdge out && cycle % 16 == 15) &&
    !(out / 8 % 12 == edgeRouter dirE && out % 8 == dirE && cycle % 4 == 1)

/-- The bookings of a lost ring link go the other way round under a new slot table (R295): each to the first free cycle at or after its own
of the opposite ring output of the same die (log 127). -/
def State.reslot (s : State) (die : Nat) : State :=
  let lost := [(outKey die (edgeRouter dirE) dirE, outKey die (edgeRouter dirW) dirW),
    (outKey ((die + 1) % 8) (edgeRouter dirW) dirW, outKey ((die + 1) % 8) (edgeRouter dirE) dirE)]
  let moved := lost.flatMap fun o => (s.slotTable.filter fun x => x.1 / 1024 == o.1).map fun x => (o.2, x.1 % 1024, x.2)
  let s : State := { s with slotTable := s.slotTable.filter fun x => !lost.any fun o => x.1 / 1024 == o.1 }
  moved.foldl (fun s m => match ((List.range 1024).map fun k => (m.2.1 + k) % 1024).find? (s.slotFree m.1) with
    | some c => { s with slotTable := sput none s.slotTable (slotKey m.1 c) m.2.2 }
    | none => s) s

/-! ## Barriers (R291, R292) -/

/-- Wall cycle at which an item of the DOWN channel's last row is injected: the first from now on whose cycle-in-tick carries no planned
item, after the items already queued (R291). -/
def State.downCycle (s : State) : Nat :=
  let first := (s.releases.map fun (r : Release) => r.injected + 1).foldl max s.now
  let free := fun t => let c := t % 1024; !((decide (40 ≤ c) && decide (c ≤ 47)) || (decide (936 ≤ c) && decide (c ≤ 983)) || c == 992 || c == 993)
  (((List.range 64).map (first + ·)).find? free).getD first

/-- A barrier release injected for a launch: it starts at a wall tick, at cycle 0, at least 32 cycles after the injection (R292). -/
def State.release32 (s : State) (c tick : Nat) : State :=
  let at_ := s.downCycle
  let tick := max tick (ceilDiv (at_ + 32) 1024)
  { s with releases := (s.releases.filter (·.ctx != c)) ++ [{ ctx := c, tick := tick, cycle := 0, injected := at_ }] }

/-- The start tick and cycle that a launch's release names. -/
def State.releaseOf (s : State) (c : Nat) : Option Release := s.releases.find? (·.ctx == c)

/-- A release that every stook has acted on. -/
def State.acted (s : State) (c : Nat) : State := { s with releases := s.releases.filter (·.ctx != c) }

end Sys2Proof.Machine
end

