-- ==== Sys2Proof/Machine/Crib.lean ====
section
/-!
DEFINITION. Crib banks (R204–R219): bank operations with their owner check, arbitration, atomics, and owner writes.
-/
namespace Sys2Proof.Machine

/-- The owner check (R215): the Badger passes; a unit passes where its context owns the bank. -/
def State.ownerPass (s : State) (stook bank : Nat) : Who → Bool
  | .badger => true
  | .unit c => s.ownerWord stook bank == 0x4000 + c.val

/-- An owner write on a bank (R218): it takes effect where its FROM is the bank's owner. Answers whether it did. -/
def State.handBank (s : State) (i f t : Nat) : Bool × State :=
  if s.ownerWord (i / 16) (i % 16) = f then (true, (s.setFld ⟨.stkBankOwner, 0, 16⟩ i t).bump F.stkBankStatusHandovers i 1)
  else (false, s.raise F.stkBankStatusNotOwner i)

/-- Whether a bank is a link bank of a running engine of the stook (R209). -/
def State.isLinkBank (s : State) (stook bank : Nat) : Bool :=
  (List.range 8).any fun e =>
    let i := stook * 8 + e
    s.flag F.shfCtrlRun i &&
      ((s.flag F.stkExchCfgLinkAEn i && s.fld F.stkExchCfgLinkA i == bank) ||
       (s.flag F.stkExchCfgLinkBEn i && s.fld F.stkExchCfgLinkB i == bank))

/-- Whether engine `i` runs with `bank` as its delta bank (R210). -/
def State.deltaOf (s : State) (i bank : Nat) : Bool :=
  s.flag F.shfCtrlRun i && s.flag F.stkExchCfgDeltaEn i && s.fld F.stkExchCfgDeltaBank i == bank

/-- Whether a bank is a delta bank of a running engine of the stook (R210). -/
def State.isDeltaBank (s : State) (stook bank : Nat) : Bool :=
  (List.range 8).any fun e => s.deltaOf (stook * 8 + e) bank

/-- Whether the fixed pattern of R212 leaves a delta bank free for other units at a cycle-in-tick: odd cycles from 64 on, and
the even cycles of a phase that no running engine of the bank uses. -/
def State.deltaFree (s : State) (stook bank cyc : Nat) : Bool :=
  if cyc % 2 = 1 then decide (64 ≤ cyc)
  else !(List.range 8).any fun e =>
    let i := stook * 8 + e
    s.deltaOf i bank && s.fld F.stkExchCfgPhase i * 2 == cyc % 4

/-- EXCH of STK_BANK_STATUS_n (R236). -/
def State.exch (s : State) (stook bank : Nat) : Bool := s.isLinkBank stook bank || s.isDeltaBank stook bank

/-- A dropped operation sets DENIED (R215). -/
def State.deny (s : State) (stook bank : Nat) : State := s.raise F.stkBankStatusDenied (bankIx stook bank)

/-- Whether a bank operation of `who` passes: the owner check, and no link bank of a running engine (R208, R215). -/
def State.bankPass (s : State) (stook addr : Nat) (who : Who) : Bool :=
  s.ownerPass stook (bankOf addr) who && !s.isLinkBank stook (bankOf addr)

/-- What a bank read returns: the bytes and whether a slot was poisoned (R204). -/
def State.cribBytes (s : State) (stook addr n : Nat) : List Byte × Bool :=
  (s.rdN (cribAt stook addr) n, s.poisoned (cribAt stook addr) n)

/-- A bank read that met a poisoned slot sets ECC_POISON (R204, R236). -/
def State.eccSeen (s : State) (stook addr : Nat) (p : Bool) : State :=
  if p then s.raise F.stkBankStatusEccPoison (bankIx stook (bankOf addr)) else s

/-- A bank read: the data with its poison, and the state after it. A denied read returns zeros with the poison tag (R215). -/
def State.bankRead (s : State) (stook addr n : Nat) (who : Who) : (List Byte × Bool) × State :=
  if s.bankPass stook addr who then
    (s.cribBytes stook addr n, s.eccSeen stook addr (s.cribBytes stook addr n).2)
  else ((List.replicate n 0, true), s.deny stook (bankOf addr))

/-- Bytes under a mask: where the mask leaves a byte out, the byte in memory stays. -/
def State.masked (s : State) (a : Nat) (v : List (Option Byte)) : List Byte :=
  (List.range v.length).map fun k => ((v[k]?).join).getD (s.rd (a + k))

/-- A bank write, byte-masked, with its poison tag. A denied write changes nothing but DENIED (R215). -/
def State.bankWrite (s : State) (stook addr : Nat) (who : Who) (v : List (Option Byte)) (p : Bool) : State :=
  if s.bankPass stook addr who then s.store (cribAt stook addr) (s.masked (cribAt stook addr) v) p
  else s.deny stook (bankOf addr)

/-- A bank atomic on a word of `n` bytes (R206): the old word with its poison, and the state after. `f` gives the new
word; `mix` says that it depends on the old one, whose poison it then takes. -/
def State.bankAtomic (s : State) (stook addr n : Nat) (who : Who) (f : Nat → Nat) (mix p : Bool) :
    (List Byte × Bool) × State :=
  if s.bankPass stook addr who then
    let old := s.cribBytes stook addr n
    (old, (s.store (cribAt stook addr) (leBytes n (f (leNat old.1))) (p || (mix && old.2))).eccSeen stook addr old.2)
  else ((List.replicate n 0, true), s.deny stook (bankOf addr))

/-- Whether a request wins its bank in this cycle (R208): the oldest wins, ties by the fixed port order. -/
def reqWins (q : BankReq) : Bool :=
  q.rivals.all fun r => decide (r.1 < q.age) || (r.1 == q.age && decide (q.port < r.2))

/-- Whether a bank serves a request in this cycle: it wins, and a delta bank of a running engine serves others only in its
free cycles (R208, R212). A request that is not served is presented again by its issuer. -/
def State.served (s : State) (q : BankReq) (stook addr : Nat) : Bool :=
  reqWins q && (!s.isDeltaBank stook (bankOf addr) || s.deltaFree stook (bankOf addr) s.cyc)

/-- Whether `n` bytes at `addr` lie in one row (R205). -/
def inRow (addr n : Nat) : Bool := decide (1 ≤ n) && decide (addr % 512 + n ≤ 512)

/-- The state with the result of a bank read in the latch. -/
def State.latched (r : (List Byte × Bool) × State) : State := { r.2 with latch := r.1 }

/-- The context that a bank request acts for: its issuer, or for the Badger the owner of the bank. -/
def State.reqCtx (s : State) (q : BankReq) (stook addr : Nat) : Option Nat := match q.who with
  | .unit c => some c.val
  | .badger => let w := s.ownerWord stook (bankOf addr); if w / 2 ^ 14 = 1 then some (w % 2 ^ 14) else none

/-- A bank request, where its form is kept; one across a row or off its alignment is a host-made error, whose result and whose
answer are open (R10, R11, R205, R206). -/
def State.request (s : State) (q : BankReq) (stook addr n : Nat) (ok : Bool) (t : State) : Out :=
  if ok then .next t else
    let r := s.openBytes n
    { r.2 with latch := (r.1, s.draw.1 % 2 == 1) }.formed (s.reqCtx q stook addr) false t

/-- CRIB_READ (R205). -/
def execCribRead (q : BankReq) (st : StookId) (addr : CribAddr) (len : Nat) (s : State) : Out :=
  s.request q st.ix addr.toNat len (inRow addr.toNat len)
    (if s.served q st.ix addr.toNat then State.latched (s.bankRead st.ix addr.toNat len q.who) else s)

/-- CRIB_WRITE (R205). -/
def execCribWrite (q : BankReq) (st : StookId) (addr : CribAddr) (data : List (Option Byte)) (s : State) : Out :=
  s.formed (s.reqCtx q st.ix addr.toNat) (inRow addr.toNat data.length)
    (if s.served q st.ix addr.toNat then s.bankWrite st.ix addr.toNat q.who data false else s)

/-- The four atomics: an operation on a naturally aligned word of `n` bytes. -/
def State.atomic (s : State) (q : BankReq) (stook addr n : Nat) (f : Nat → Nat) (mix : Bool) : Out :=
  s.request q stook addr n (decide (addr % n = 0))
    (if s.served q stook addr then State.latched (s.bankAtomic stook addr n q.who f mix false) else s)

/-- ADD16 (R206). -/
def execAdd16 (q : BankReq) (st : StookId) (addr : CribAddr) (v : BitVec 16) (s : State) : Out :=
  s.atomic q st.ix addr.toNat 2 (fun old => (old + v.toNat) % 2 ^ 16) true

/-- ADD32 (R206). -/
def execAdd32 (q : BankReq) (st : StookId) (addr : CribAddr) (v : BitVec 32) (s : State) : Out :=
  s.atomic q st.ix addr.toNat 4 (fun old => (old + v.toNat) % 2 ^ 32) true

/-- SWAP32 (R206). -/
def execSwap32 (q : BankReq) (st : StookId) (addr : CribAddr) (v : BitVec 32) (s : State) : Out :=
  s.atomic q st.ix addr.toNat 4 (fun _ => v.toNat) false

/-- SWAP64 (R206). -/
def execSwap64 (q : BankReq) (st : StookId) (addr : CribAddr) (v : Word) (s : State) : Out :=
  s.atomic q st.ix addr.toNat 8 (fun _ => v.toNat) false

end Sys2Proof.Machine
end

