-- ==== Sys2Proof/Machine/Tables.lean ====
section
/-!
DEFINITION. The two fixed noise tables, computed from their formulas: gumbel (R84) and expo (R151).
-/
namespace Sys2Proof.Machine

/-- Entries 0–255 of the Gumbel table of R84: round(256 × (2.25 − ln(−ln((n + 0.5) / 4,096)))), 12 bits each, the first lowest. -/
def gumbel0 : Nat := 0x13b13a13a13a13913913913813813713713713613613613513513413413413313313313213213113113113013012f12f12f12e12e12e12d12d12c12c12c12b12b12a12a12912912912812812712712712612612512512412412412312312212212112112112012011f11f11e11e11d11d11d11c11c11b11b11a11a11911911811811711711611611611511511411411311311211211111111011010f10f10e10e10d10d10c10b10b10a10a1091091081081071071061051051041041031031021021011001000ff0ff0fe0fd0fd0fc0fc0fb0fa0fa0f90f80f80f70f70f60f50f50f40f30f30f20f10f10f00ef0ee0ee0ed0ec0ec0eb0ea0e90e90e80e70e60e60e50e40e30e20e20e10e00df0de0de0dd0dc0db0da0d90d80d70d60d60d50d40d30d20d10d00cf0ce0cd0cc0cb0c90c80c70c60c50c40c30c10c00bf0be0bc0bb0ba0b80b70b60b40b30b10b00ae0ac0ab0a90a70a60a40a20a009e09c09a09809509309008e08b08808508207e07b07707206e06906305c05504b04002e00d

/-- Entries 256–511 of the Gumbel table of R84: round(256 × (2.25 − ln(−ln((n + 0.5) / 4,096)))), 12 bits each, the first lowest. -/
def gumbel1 : Nat := 0x18418418418418318318318318318218218218218118118118118018018018017f17f17f17f17e17e17e17e17d17d17d17d17c17c17c17c17b17b17b17b17a17a17a17a17917917917917817817817817717717717717617617617617517517517517417417417317317317317217217217217117117117117017017017016f16f16f16e16e16e16e16d16d16d16d16c16c16c16c16b16b16b16a16a16a16a16916916916916816816816716716716716616616616616516516516416416416416316316316216216216216116116116016016016015f15f15f15e15e15e15e15d15d15d15c15c15c15b15b15b15b15a15a15a15915915915915815815815715715715615615615615515515515415415415315315315215215215215115115115015015014f14f14f14e14e14e14d14d14d14c14c14c14b14b14b14b14a14a14a14914914914814814814714714714614614614514514514414414414314314214214214114114114014014013f13f13f13e13e13e13d13d13d13c13c13b13b

/-- Entries 512–767 of the Gumbel table of R84: round(256 × (2.25 − ln(−ln((n + 0.5) / 4,096)))), 12 bits each, the first lowest. -/
def gumbel2 : Nat := 0x1bc1bc1bc1bb1bb1bb1bb1bb1ba1ba1ba1ba1ba1b91b91b91b91b91b81b81b81b81b81b71b71b71b71b71b61b61b61b61b61b51b51b51b51b51b41b41b41b41b41b31b31b31b31b31b21b21b21b21b21b11b11b11b11b01b01b01b01b01af1af1af1af1af1ae1ae1ae1ae1ae1ad1ad1ad1ad1ad1ac1ac1ac1ac1ac1ab1ab1ab1ab1aa1aa1aa1aa1aa1a91a91a91a91a91a81a81a81a81a81a71a71a71a71a61a61a61a61a61a51a51a51a51a51a41a41a41a41a31a31a31a31a31a21a21a21a21a21a11a11a11a11a01a01a01a01a019f19f19f19f19f19e19e19e19e19d19d19d19d19d19c19c19c19c19b19b19b19b19b19a19a19a19a19919919919919919819819819819719719719719719619619619619519519519519519419419419419319319319319219219219219219119119119119019019019019018f18f18f18f18e18e18e18e18d18d18d18d18d18c18c18c18c18b18b18b18b18a18a18a18a189189189189189188188188188187187187187186186186186185185185185

/-- Entries 768–1023 of the Gumbel table of R84: round(256 × (2.25 − ln(−ln((n + 0.5) / 4,096)))), 12 bits each, the first lowest. -/
def gumbel3 : Nat := 0x1ec1ec1ec1ec1ec1eb1eb1eb1eb1eb1ea1ea1ea1ea1ea1ea1e91e91e91e91e91e81e81e81e81e81e81e71e71e71e71e71e61e61e61e61e61e61e51e51e51e51e51e41e41e41e41e41e41e31e31e31e31e31e21e21e21e21e21e21e11e11e11e11e11e01e01e01e01e01e01df1df1df1df1df1de1de1de1de1de1de1dd1dd1dd1dd1dd1dc1dc1dc1dc1dc1db1db1db1db1db1db1da1da1da1da1da1d91d91d91d91d91d81d81d81d81d81d81d71d71d71d71d71d61d61d61d61d61d51d51d51d51d51d51d41d41d41d41d41d31d31d31d31d31d21d21d21d21d21d21d11d11d11d11d11d01d01d01d01d01cf1cf1cf1cf1cf1cf1ce1ce1ce1ce1ce1cd1cd1cd1cd1cd1cc1cc1cc1cc1cc1cb1cb1cb1cb1cb1ca1ca1ca1ca1ca1ca1c91c91c91c91c91c81c81c81c81c81c71c71c71c71c71c61c61c61c61c61c51c51c51c51c51c41c41c41c41c41c41c31c31c31c31c31c21c21c21c21c21c11c11c11c11c11c01c01c01c01c01bf1bf1bf1bf1bf1be1be1be1be1be1bd1bd1bd1bd1bd1bc1bc

/-- Entries 1024–1279 of the Gumbel table of R84: round(256 × (2.25 − ln(−ln((n + 0.5) / 4,096)))), 12 bits each, the first lowest. -/
def gumbel4 : Nat := 0x21921921921921921821821821821821821721721721721721621621621621621621521521521521521521421421421421421421321321321321321321221221221221221121121121121121121021021021021021020f20f20f20f20f20f20e20e20e20e20e20d20d20d20d20d20d20c20c20c20c20c20c20b20b20b20b20b20b20a20a20a20a20a2092092092092092092082082082082082082072072072072072072062062062062062052052052052052052042042042042042042032032032032032022022022022022022012012012012012012002002002002002001ff1ff1ff1ff1ff1fe1fe1fe1fe1fe1fe1fd1fd1fd1fd1fd1fd1fc1fc1fc1fc1fc1fb1fb1fb1fb1fb1fb1fa1fa1fa1fa1fa1fa1f91f91f91f91f91f81f81f81f81f81f81f71f71f71f71f71f61f61f61f61f61f61f51f51f51f51f51f51f41f41f41f41f41f31f31f31f31f31f31f21f21f21f21f21f21f11f11f11f11f11f01f01f01f01f01f01ef1ef1ef1ef1ef1ee1ee1ee1ee1ee1ee1ed1ed1ed1ed1ed1ec

/-- Entries 1280–1535 of the Gumbel table of R84: round(256 × (2.25 − ln(−ln((n + 0.5) / 4,096)))), 12 bits each, the first lowest. -/
def gumbel5 : Nat := 0x24524524524424424424424424424324324324324324224224224224224224124124124124124124024024024024024023f23f23f23f23f23f23e23e23e23e23e23e23d23d23d23d23d23d23c23c23c23c23c23c23b23b23b23b23b23b23a23a23a23a23a23923923923923923923823823823823823823723723723723723723623623623623623623523523523523523523423423423423423423323323323323323323223223223223223123123123123123123023023023023023022f22f22f22f22f22f22e22e22e22e22e22e22d22d22d22d22d22d22c22c22c22c22c22c22b22b22b22b22b22b22a22a22a22a22a22922922922922922922822822822822822822722722722722722722622622622622622622522522522522522522422422422422422422322322322322322222222222222222222122122122122122122022022022022022021f21f21f21f21f21f21e21e21e21e21e21e21d21d21d21d21d21c21c21c21c21c21c21b21b21b21b21b21b21a21a21a21a21a21a219

/-- Entries 1536–1791 of the Gumbel table of R84: round(256 × (2.25 − ln(−ln((n + 0.5) / 4,096)))), 12 bits each, the first lowest. -/
def gumbel6 : Nat := 0x27127027027027027027026f26f26f26f26f26f26e26e26e26e26e26e26d26d26d26d26d26c26c26c26c26c26c26b26b26b26b26b26b26a26a26a26a26a26a26926926926926926926826826826826826826726726726726726626626626626626626526526526526526526426426426426426426326326326326326326226226226226226226126126126126126026026026026026025f25f25f25f25f25f25e25e25e25e25e25e25d25d25d25d25d25d25c25c25c25c25c25c25b25b25b25b25b25a25a25a25a25a25a25925925925925925925825825825825825825725725725725725725625625625625625625525525525525525525425425425425425325325325325325325225225225225225225125125125125125125025025025025025024f24f24f24f24f24f24e24e24e24e24e24e24d24d24d24d24d24d24c24c24c24c24c24b24b24b24b24b24b24a24a24a24a24a24a249249249249249249248248248248248248247247247247247247246246246246246246245245245

/-- Entries 1792–2047 of the Gumbel table of R84: round(256 × (2.25 − ln(−ln((n + 0.5) / 4,096)))), 12 bits each, the first lowest. -/
def gumbel7 : Nat := 0x29e29e29d29d29d29d29d29c29c29c29c29c29c29b29b29b29b29b29a29a29a29a29a29a29929929929929929929829829829829829729729729729729729629629629629629529529529529529529429429429429429429329329329329329229229229229229229129129129129129029029029029029028f28f28f28f28f28f28e28e28e28e28e28d28d28d28d28d28d28c28c28c28c28c28c28b28b28b28b28b28a28a28a28a28a28a28928928928928928928828828828828828728728728728728728628628628628628628528528528528528428428428428428428328328328328328328228228228228228228128128128128128028028028028028027f27f27f27f27f27f27e27e27e27e27e27d27d27d27d27d27d27c27c27c27c27c27c27b27b27b27b27b27b27a27a27a27a27a279279279279279279278278278278278278277277277277277277276276276276276275275275275275275274274274274274274273273273273273273272272272272272272271271271271

/-- Entries 2048–2303 of the Gumbel table of R84: round(256 × (2.25 − ln(−ln((n + 0.5) / 4,096)))), 12 bits each, the first lowest. -/
def gumbel8 : Nat := 0x2cd2cd2cd2cd2cd2cc2cc2cc2cc2cc2cb2cb2cb2cb2cb2cb2ca2ca2ca2ca2ca2c92c92c92c92c92c82c82c82c82c82c72c72c72c72c72c62c62c62c62c62c62c52c52c52c52c52c42c42c42c42c42c32c32c32c32c32c22c22c22c22c22c22c12c12c12c12c12c02c02c02c02c02bf2bf2bf2bf2bf2bf2be2be2be2be2be2bd2bd2bd2bd2bd2bc2bc2bc2bc2bc2bc2bb2bb2bb2bb2bb2ba2ba2ba2ba2ba2b92b92b92b92b92b92b82b82b82b82b82b72b72b72b72b72b62b62b62b62b62b62b52b52b52b52b52b42b42b42b42b42b32b32b32b32b32b32b22b22b22b22b22b12b12b12b12b12b12b02b02b02b02b02af2af2af2af2af2af2ae2ae2ae2ae2ae2ad2ad2ad2ad2ad2ac2ac2ac2ac2ac2ac2ab2ab2ab2ab2ab2aa2aa2aa2aa2aa2aa2a92a92a92a92a92a82a82a82a82a82a82a72a72a72a72a72a62a62a62a62a62a62a52a52a52a52a52a42a42a42a42a42a42a32a32a32a32a32a22a22a22a22a22a22a12a12a12a12a12a02a02a02a02a02a029f29f29f29f29f29e29e29e29e

/-- Entries 2304–2559 of the Gumbel table of R84: round(256 × (2.25 − ln(−ln((n + 0.5) / 4,096)))), 12 bits each, the first lowest. -/
def gumbel9 : Nat := 0x3013013013013003003003002ff2ff2ff2ff2ff2fe2fe2fe2fe2fe2fd2fd2fd2fd2fd2fc2fc2fc2fc2fb2fb2fb2fb2fb2fa2fa2fa2fa2fa2f92f92f92f92f92f82f82f82f82f72f72f72f72f72f62f62f62f62f62f52f52f52f52f52f42f42f42f42f42f32f32f32f32f32f22f22f22f22f12f12f12f12f12f02f02f02f02f02ef2ef2ef2ef2ef2ee2ee2ee2ee2ee2ed2ed2ed2ed2ed2ec2ec2ec2ec2ec2eb2eb2eb2eb2eb2ea2ea2ea2ea2ea2e92e92e92e92e82e82e82e82e82e72e72e72e72e72e62e62e62e62e62e52e52e52e52e52e42e42e42e42e42e32e32e32e32e32e22e22e22e22e22e12e12e12e12e12e02e02e02e02e02df2df2df2df2df2de2de2de2de2de2dd2dd2dd2dd2dd2dc2dc2dc2dc2dc2db2db2db2db2db2da2da2da2da2da2da2d92d92d92d92d92d82d82d82d82d82d72d72d72d72d72d62d62d62d62d62d52d52d52d52d52d42d42d42d42d42d32d32d32d32d32d22d22d22d22d22d12d12d12d12d12d12d02d02d02d02d02cf2cf2cf2cf2cf2ce2ce2ce2ce2ce

/-- Entries 2560–2815 of the Gumbel table of R84: round(256 × (2.25 − ln(−ln((n + 0.5) / 4,096)))), 12 bits each, the first lowest. -/
def gumbel10 : Nat := 0x33b33b33b33a33a33a33a33933933933933933833833833833733733733733633633633633533533533533433433433433333333333333333233233233233133133133133033033033032f32f32f32f32f32e32e32e32e32d32d32d32d32c32c32c32c32b32b32b32b32b32a32a32a32a32932932932932832832832832832732732732732632632632632532532532532532432432432432332332332332232232232232232132132132132032032032031f31f31f31f31f31e31e31e31e31d31d31d31d31d31c31c31c31c31b31b31b31b31b31a31a31a31a31931931931931931831831831831731731731731631631631631631531531531531431431431431431331331331331331231231231231131131131131131031031031030f30f30f30f30f30e30e30e30e30d30d30d30d30d30c30c30c30c30b30b30b30b30b30a30a30a30a30a309309309309308308308308308307307307307307306306306306305305305305305304304304304304303303303303302302302302302301

/-- Entries 2816–3071 of the Gumbel table of R84: round(256 × (2.25 − ln(−ln((n + 0.5) / 4,096)))), 12 bits each, the first lowest. -/
def gumbel11 : Nat := 0x37f37f37e37e37e37d37d37d37c37c37c37c37b37b37b37a37a37a37a37937937937837837837837737737737737637637637537537537537437437437337337337337237237237137137137137037037036f36f36f36f36e36e36e36e36d36d36d36c36c36c36c36b36b36b36b36a36a36a36936936936936836836836836736736736636636636636536536536536436436436336336336336236236236236136136136136036036035f35f35f35f35e35e35e35e35d35d35d35d35c35c35c35b35b35b35b35a35a35a35a35935935935935835835835835735735735735635635635535535535535435435435435335335335335235235235235135135135135035035035034f34f34f34f34e34e34e34e34d34d34d34d34c34c34c34c34b34b34b34b34a34a34a34934934934934834834834834734734734734634634634634534534534534534434434434434334334334334234234234234134134134134034034034033f33f33f33f33e33e33e33e33d33d33d33d33c33c33c33c33b

/-- Entries 3072–3327 of the Gumbel table of R84: round(256 × (2.25 − ln(−ln((n + 0.5) / 4,096)))), 12 bits each, the first lowest. -/
def gumbel12 : Nat := 0x3d23d23d13d13d13d03d03d03cf3cf3cf3ce3ce3cd3cd3cd3cc3cc3cc3cb3cb3cb3ca3ca3c93c93c93c83c83c83c73c73c73c63c63c63c53c53c43c43c43c33c33c33c23c23c23c13c13c13c03c03c03bf3bf3be3be3be3bd3bd3bd3bc3bc3bc3bb3bb3bb3ba3ba3ba3b93b93b93b83b83b83b73b73b73b63b63b63b53b53b53b43b43b43b33b33b33b23b23b13b13b13b03b03b03af3af3af3ae3ae3ae3ad3ad3ad3ad3ac3ac3ac3ab3ab3ab3aa3aa3aa3a93a93a93a83a83a83a73a73a73a63a63a63a53a53a53a43a43a43a33a33a33a23a23a23a13a13a13a13a03a03a039f39f39f39e39e39e39d39d39d39c39c39c39b39b39b39a39a39a39a39939939939839839839739739739639639639639539539539439439439339339339239239239239139139139039039038f38f38f38e38e38e38e38d38d38d38c38c38c38b38b38b38b38a38a38a38938938938838838838838738738738638638638638538538538438438438338338338338238238238138138138138038038037f37f

/-- Entries 3328–3583 of the Gumbel table of R84: round(256 × (2.25 − ln(−ln((n + 0.5) / 4,096)))), 12 bits each, the first lowest. -/
def gumbel13 : Nat := 0x44344344244244144144043f43f43e43e43d43d43c43c43b43b43a43a43943943843843743743643643543543443443343343243243143143043042f42f42e42e42d42d42c42c42b42b42a42a42942942842842742742642642542542442442342342242242142142042041f41f41f41e41e41d41d41c41c41b41b41a41a41941941841841741741741641641541541441441341341241241241141141041040f40f40e40e40d40d40d40c40c40b40b40a40a40a4094094084084074074064064064054054044044034034034024024014014004004003ff3ff3fe3fe3fd3fd3fd3fc3fc3fb3fb3fa3fa3fa3f93f93f83f83f83f73f73f63f63f53f53f53f43f43f33f33f33f23f23f13f13f13f03f03ef3ef3ee3ee3ee3ed3ed3ec3ec3ec3eb3eb3ea3ea3ea3e93e93e83e83e83e73e73e63e63e63e53e53e53e43e43e33e33e33e23e23e13e13e13e03e03df3df3df3de3de3de3dd3dd3dc3dc3dc3db3db3da3da3da3d93d93d93d83d83d73d73d73d63d63d63d53d53d43d43d43d33d33d3

/-- Entries 3584–3839 of the Gumbel table of R84: round(256 × (2.25 − ln(−ln((n + 0.5) / 4,096)))), 12 bits each, the first lowest. -/
def gumbel14 : Nat := 0x4fd4fc4fb4fa4f94f84f74f64f54f44f34f24f14f04ef4ee4ed4ec4eb4ea4e94e84e74e64e54e44e34e34e24e14e04df4de4dd4dc4db4da4d94d84d84d74d64d54d44d34d24d14d04d04cf4ce4cd4cc4cb4ca4c94c94c84c74c64c54c44c44c34c24c14c04bf4bf4be4bd4bc4bb4bb4ba4b94b84b74b64b64b54b44b34b34b24b14b04af4af4ae4ad4ac4ac4ab4aa4a94a84a84a74a64a54a54a44a34a24a24a14a049f49f49e49d49d49c49b49a49a49949849849749649549549449349349249149049048f48e48e48d48c48c48b48a48a48948848848748648548548448348348248148148048047f47e47e47d47c47c47b47a47a47947847847747647647547547447347347247147147047046f46e46e46d46c46c46b46b46a46946946846846746646646546546446346346246246146046045f45f45e45d45d45c45c45b45b45a45945945845845745645645545545445445345345245145145045044f44f44e44e44d44c44c44b44b44a44a449449448447447446446445445444444

/-- Entries 3840–4095 of the Gumbel table of R84: round(256 × (2.25 − ln(−ln((n + 0.5) / 4,096)))), 12 bits each, the first lowest. -/
def gumbel15 : Nat := 0xb43a2a9a79519108dd8b288d86d85183782080a7f77e47d37c37b47a679878b77f77476875e75374a74073772e72571d71570d7066fe6f76f06ea6e36dd6d66d06ca6c46bf6b96b46ae6a96a469f69a69569068b68768267e67967567166d66966566165d65965565164e64a64664363f63c63963563262f62b62862562261f61c61961661361060d60a6076056025ff5fc5fa5f75f55f25ef5ed5ea5e85e55e35e15de5dc5d95d75d55d25d05ce5cc5c95c75c55c35c15bf5bc5ba5b85b65b45b25b05ae5ac5aa5a85a65a45a25a159f59d59b59959759559459259058e58c58b58958758658458258057f57d57b57a57857757557357257056f56d56b56a56856756556456256155f55e55c55b55955855755555455255155054e54d54b54a54954754654554354254153f53e53d53b53a53953753653553453253153052f52d52c52b52a52952752652552452352152051f51e51d51c51a51951851751651551451251151050f50e50d50c50b50a5095085065055045035025015004ff4fe

/-- The Gumbel table of R84: round(256 × (2.25 − ln(−ln((n + 0.5) / 4,096)))). -/
def gumbel (n : Nat) : Nat :=
  let row := match n / 256 with
    | 0 => gumbel0
    | 1 => gumbel1
    | 2 => gumbel2
    | 3 => gumbel3
    | 4 => gumbel4
    | 5 => gumbel5
    | 6 => gumbel6
    | 7 => gumbel7
    | 8 => gumbel8
    | 9 => gumbel9
    | 10 => gumbel10
    | 11 => gumbel11
    | 12 => gumbel12
    | 13 => gumbel13
    | 14 => gumbel14
    | _ => gumbel15
  row / 2 ^ (12 * (n % 256)) % 4096

/-- Entries 0–255 of the exponential table of R151: round(256 × (−ln((n + 0.5) / 4,096))), 12 bits each, the first lowest. -/
def expo0 : Nat := 0x2c62c72c82c92ca2cb2cc2cd2ce2cf2d12d22d32d42d52d62d72d82d92da2db2dc2dd2de2e02e12e22e32e42e52e62e72e92ea2eb2ec2ed2ee2f02f12f22f32f42f52f72f82f92fa2fc2fd2fe2ff30130230330430630730830930b30c30d30f31031131331431631731831a31b31c31e31f32132232432532632832932b32c32e32f33133233433533733933a33c33d33f34134234434534734934a34c34e34f35135335535635835a35c35e35f36136336536736936b36c36e37037237437637837a37c37e38038238538738938b38d38f39239439639839b39d39f3a23a43a63a93ab3ae3b03b33b53b83ba3bd3c03c23c53c83ca3cd3d03d33d63d93dc3df3e23e53e83eb3ee3f13f43f83fb3fe40240540940c41041441741b41f42342742b42f43343743b44044444944d45245745b46046546a47047547a48048648c49149849e4a44ab4b24b84c04c74ce4d64de4e64ef4f850150a51451e52953454054c5595665755845945a55b75cb5e05f761162d64e67269d6d07117677ea903

/-- Entries 256–511 of the exponential table of R151: round(256 × (−ln((n + 0.5) / 4,096))), 12 bits each, the first lowest. -/
def expo1 : Nat := 0x21521521621621721721821821921921a21a21b21b21c21c21d21d21e21e21f21f22022022122122222222322422422522522622622722722822822922922a22b22b22c22c22d22d22e22e22f22f23023123123223223323323423523523623623723723823923923a23a23b23b23c23d23d23e23e23f24024024124124224324324424424524624624724724824924924a24a24b24c24c24d24e24e24f24f25025125125225325325425425525625625725825825925a25a25b25c25c25d25e25e25f26026026126226226326426426526626626726826926926a26b26b26c26d26d26e26f27027027127227227327427527527627727827827927a27b27b27c27d27e27e27f28028128128228328428428528628728828828928a28b28b28c28d28e28f28f29029129229329429429529629729829929929a29b29c29d29e29e29f2a02a12a22a32a42a52a52a62a72a82a92aa2ab2ac2ad2ad2ae2af2b02b12b22b32b42b52b62b72b82b92ba2bb2bb2bc2bd2be2bf2c02c12c22c32c42c5

/-- Entries 512–767 of the exponential table of R151: round(256 × (−ln((n + 0.5) / 4,096))), 12 bits each, the first lowest. -/
def expo2 : Nat := 0x1ad1ad1ad1ae1ae1ae1af1af1af1b01b01b01b11b11b11b21b21b21b31b31b31b41b41b41b51b51b61b61b61b71b71b71b81b81b81b91b91b91ba1ba1ba1bb1bb1bb1bc1bc1bd1bd1bd1be1be1be1bf1bf1bf1c01c01c01c11c11c21c21c21c31c31c31c41c41c41c51c51c61c61c61c71c71c71c81c81c91c91c91ca1ca1ca1cb1cb1cc1cc1cc1cd1cd1cd1ce1ce1cf1cf1cf1d01d01d01d11d11d21d21d21d31d31d41d41d41d51d51d51d61d61d71d71d71d81d81d91d91d91da1da1db1db1db1dc1dc1dd1dd1dd1de1de1df1df1df1e01e01e11e11e11e21e21e31e31e41e41e41e51e51e61e61e61e71e71e81e81e91e91e91ea1ea1eb1eb1ec1ec1ec1ed1ed1ee1ee1ef1ef1ef1f01f01f11f11f21f21f21f31f31f41f41f51f51f61f61f61f71f71f81f81f91f91fa1fa1fa1fb1fb1fc1fc1fd1fd1fe1fe1ff1ff1ff20020020120120220220320320420420520520620620620720720820820920920a20a20b20b20c20c20d20d20e20e20f20f210210211211212212213213214214

/-- Entries 768–1023 of the exponential table of R151: round(256 × (−ln((n + 0.5) / 4,096))), 12 bits each, the first lowest. -/
def expo3 : Nat := 0x16316316416416416416516516516516616616616616716716716716816816816816916916916916a16a16a16a16b16b16b16b16c16c16c16c16d16d16d16d16e16e16e16f16f16f16f17017017017017117117117117217217217217317317317417417417417517517517517617617617617717717717817817817817917917917917a17a17a17b17b17b17b17c17c17c17d17d17d17d17e17e17e17e17f17f17f18018018018018118118118218218218218318318318418418418418518518518618618618618718718718818818818818918918918a18a18a18a18b18b18b18c18c18c18c18d18d18d18e18e18e18f18f18f18f19019019019119119119219219219219319319319419419419519519519519619619619719719719819819819919919919919a19a19a19b19b19b19c19c19c19d19d19d19d19e19e19e19f19f19f1a01a01a01a11a11a11a21a21a21a31a31a31a41a41a41a41a51a51a51a61a61a61a71a71a71a81a81a81a91a91a91aa1aa1aa1ab1ab1ab1ac1ac1ac

/-- Entries 1024–1279 of the exponential table of R151: round(256 × (−ln((n + 0.5) / 4,096))), 12 bits each, the first lowest. -/
def expo4 : Nat := 0x12a12a12a12a12b12b12b12b12b12c12c12c12c12c12d12d12d12d12d12e12e12e12e12f12f12f12f12f13013013013013013113113113113113213213213213213313313313313313413413413413413513513513513613613613613613713713713713713813813813813813913913913913a13a13a13a13a13b13b13b13b13b13c13c13c13c13d13d13d13d13d13e13e13e13e13e13f13f13f13f14014014014014014114114114114214214214214214314314314314414414414414414514514514514614614614614614714714714714814814814814814914914914914a14a14a14a14a14b14b14b14b14c14c14c14c14d14d14d14d14d14e14e14e14e14f14f14f14f15015015015015015115115115115215215215215315315315315315415415415415515515515515615615615615715715715715815815815815815915915915915a15a15a15a15b15b15b15b15c15c15c15c15d15d15d15d15e15e15e15e15f15f15f15f160160160160161161161161162162162162163163

/-- Entries 1280–1535 of the exponential table of R151: round(256 × (−ln((n + 0.5) / 4,096))), 12 bits each, the first lowest. -/
def expo5 : Nat := 0xfb0fb0fc0fc0fc0fc0fc0fc0fd0fd0fd0fd0fd0fd0fe0fe0fe0fe0fe0fe0ff0ff0ff0ff0ff0ff10010010010010010010110110110110110110210210210210210210310310310310310310410410410410410510510510510510510610610610610610610710710710710710710810810810810810910910910910910910a10a10a10a10a10a10b10b10b10b10b10c10c10c10c10c10c10d10d10d10d10d10d10e10e10e10e10e10f10f10f10f10f10f11011011011011011111111111111111111211211211211211311311311311311311411411411411411511511511511511511611611611611611711711711711711811811811811811811911911911911911a11a11a11a11a11b11b11b11b11b11b11c11c11c11c11c11d11d11d11d11d11e11e11e11e11e11f11f11f11f11f11f12012012012012012112112112112112212212212212212312312312312312412412412412412512512512512512612612612612612612712712712712712812812812812812912912912912912a

/-- Entries 1536–1791 of the exponential table of R151: round(256 × (−ln((n + 0.5) / 4,096))), 12 bits each, the first lowest. -/
def expo6 : Nat := 0xd40d40d40d40d40d40d50d50d50d50d50d50d50d60d60d60d60d60d60d60d70d70d70d70d70d70d70d80d80d80d80d80d80d80d90d90d90d90d90d90d90da0da0da0da0da0da0db0db0db0db0db0db0db0dc0dc0dc0dc0dc0dc0dc0dd0dd0dd0dd0dd0dd0dd0de0de0de0de0de0de0df0df0df0df0df0df0df0e00e00e00e00e00e00e00e10e10e10e10e10e10e10e20e20e20e20e20e20e30e30e30e30e30e30e30e40e40e40e40e40e40e50e50e50e50e50e50e50e60e60e60e60e60e60e70e70e70e70e70e70e70e80e80e80e80e80e80e90e90e90e90e90e90e90ea0ea0ea0ea0ea0ea0eb0eb0eb0eb0eb0eb0eb0ec0ec0ec0ec0ec0ec0ed0ed0ed0ed0ed0ed0ee0ee0ee0ee0ee0ee0ee0ef0ef0ef0ef0ef0ef0f00f00f00f00f00f00f10f10f10f10f10f10f20f20f20f20f20f20f20f30f30f30f30f30f30f40f40f40f40f40f40f50f50f50f50f50f50f60f60f60f60f60f60f70f70f70f70f70f70f80f80f80f80f80f80f90f90f90f90f90f90fa0fa0fa0fa0fa0fa0fb0fb0fb0fb

/-- Entries 1792–2047 of the exponential table of R151: round(256 × (−ln((n + 0.5) / 4,096))), 12 bits each, the first lowest. -/
def expo7 : Nat := 0xb20b20b20b20b20b20b20b20b30b30b30b30b30b30b30b30b40b40b40b40b40b40b40b40b50b50b50b50b50b50b50b50b60b60b60b60b60b60b60b60b70b70b70b70b70b70b70b70b80b80b80b80b80b80b80b80b90b90b90b90b90b90b90ba0ba0ba0ba0ba0ba0ba0ba0bb0bb0bb0bb0bb0bb0bb0bb0bc0bc0bc0bc0bc0bc0bc0bc0bd0bd0bd0bd0bd0bd0bd0be0be0be0be0be0be0be0be0bf0bf0bf0bf0bf0bf0bf0c00c00c00c00c00c00c00c00c10c10c10c10c10c10c10c20c20c20c20c20c20c20c20c30c30c30c30c30c30c30c40c40c40c40c40c40c40c40c50c50c50c50c50c50c50c60c60c60c60c60c60c60c60c70c70c70c70c70c70c70c80c80c80c80c80c80c80c90c90c90c90c90c90c90c90ca0ca0ca0ca0ca0ca0ca0cb0cb0cb0cb0cb0cb0cb0cc0cc0cc0cc0cc0cc0cc0cd0cd0cd0cd0cd0cd0cd0cd0ce0ce0ce0ce0ce0ce0ce0cf0cf0cf0cf0cf0cf0cf0d00d00d00d00d00d00d00d10d10d10d10d10d10d10d20d20d20d20d20d20d20d30d30d30d30d30d30d30d4

/-- Entries 2048–2303 of the exponential table of R151: round(256 × (−ln((n + 0.5) / 4,096))), 12 bits each, the first lowest. -/
def expo8 : Nat := 0x9309309409409409409409409409409409509509509509509509509509509609609609609609609609609609709709709709709709709709709809809809809809809809809909909909909909909909909909a09a09a09a09a09a09a09a09a09b09b09b09b09b09b09b09b09b09c09c09c09c09c09c09c09c09d09d09d09d09d09d09d09d09d09e09e09e09e09e09e09e09e09e09f09f09f09f09f09f09f09f0a00a00a00a00a00a00a00a00a00a10a10a10a10a10a10a10a10a20a20a20a20a20a20a20a20a20a30a30a30a30a30a30a30a30a40a40a40a40a40a40a40a40a40a50a50a50a50a50a50a50a50a60a60a60a60a60a60a60a60a60a70a70a70a70a70a70a70a70a80a80a80a80a80a80a80a80a90a90a90a90a90a90a90a90aa0aa0aa0aa0aa0aa0aa0aa0aa0ab0ab0ab0ab0ab0ab0ab0ab0ac0ac0ac0ac0ac0ac0ac0ac0ad0ad0ad0ad0ad0ad0ad0ad0ae0ae0ae0ae0ae0ae0ae0ae0af0af0af0af0af0af0af0af0b00b00b00b00b00b00b00b00b10b10b10b10b10b10b10b1

/-- Entries 2304–2559 of the exponential table of R151: round(256 × (−ln((n + 0.5) / 4,096))), 12 bits each, the first lowest. -/
def expo9 : Nat := 0x7807807907907907907907907907907907907a07a07a07a07a07a07a07a07a07a07b07b07b07b07b07b07b07b07b07b07c07c07c07c07c07c07c07c07c07d07d07d07d07d07d07d07d07d07d07e07e07e07e07e07e07e07e07e07e07f07f07f07f07f07f07f07f07f07f08008008008008008008008008008108108108108108108108108108108208208208208208208208208208208308308308308308308308308308408408408408408408408408408408508508508508508508508508508608608608608608608608608608608708708708708708708708708708808808808808808808808808808808908908908908908908908908908a08a08a08a08a08a08a08a08a08b08b08b08b08b08b08b08b08b08b08c08c08c08c08c08c08c08c08c08d08d08d08d08d08d08d08d08d08e08e08e08e08e08e08e08e08e08f08f08f08f08f08f08f08f08f08f090090090090090090090090090091091091091091091091091091092092092092092092092092092093093093093093093093

/-- Entries 2560–2815 of the exponential table of R151: round(256 × (−ln((n + 0.5) / 4,096))), 12 bits each, the first lowest. -/
def expo10 : Nat := 0x6006006006006006006106106106106106106106106106106106206206206206206206206206206206206306306306306306306306306306306306406406406406406406406406406406406506506506506506506506506506506506606606606606606606606606606606706706706706706706706706706706706806806806806806806806806806806806906906906906906906906906906906a06a06a06a06a06a06a06a06a06a06a06b06b06b06b06b06b06b06b06b06b06b06c06c06c06c06c06c06c06c06c06c06d06d06d06d06d06d06d06d06d06d06e06e06e06e06e06e06e06e06e06e06e06f06f06f06f06f06f06f06f06f06f070070070070070070070070070070070071071071071071071071071071071072072072072072072072072072072073073073073073073073073073073074074074074074074074074074074074075075075075075075075075075075076076076076076076076076076076077077077077077077077077077077078078078078078078078078

/-- Entries 2816–3071 of the exponential table of R151: round(256 × (−ln((n + 0.5) / 4,096))), 12 bits each, the first lowest. -/
def expo11 : Nat := 0x4a04a04a04a04a04a04a04a04a04a04b04b04b04b04b04b04b04b04b04b04b04b04c04c04c04c04c04c04c04c04c04c04c04c04d04d04d04d04d04d04d04d04d04d04d04d04e04e04e04e04e04e04e04e04e04e04e04e04f04f04f04f04f04f04f04f04f04f04f05005005005005005005005005005005005005105105105105105105105105105105105105205205205205205205205205205205205305305305305305305305305305305305305405405405405405405405405405405405405505505505505505505505505505505505605605605605605605605605605605605705705705705705705705705705705705705805805805805805805805805805805805905905905905905905905905905905905a05a05a05a05a05a05a05a05a05a05a05a05b05b05b05b05b05b05b05b05b05b05b05c05c05c05c05c05c05c05c05c05c05c05d05d05d05d05d05d05d05d05d05d05d05e05e05e05e05e05e05e05e05e05e05e05f05f05f05f05f05f05f05f05f05f05f060060060060060

/-- Entries 3072–3327 of the exponential table of R151: round(256 × (−ln((n + 0.5) / 4,096))), 12 bits each, the first lowest. -/
def expo12 : Nat := 0x3503503503503603603603603603603603603603603603603603703703703703703703703703703703703703703803803803803803803803803803803803803803903903903903903903903903903903903903903a03a03a03a03a03a03a03a03a03a03a03a03a03b03b03b03b03b03b03b03b03b03b03b03b03c03c03c03c03c03c03c03c03c03c03c03c03c03d03d03d03d03d03d03d03d03d03d03d03d03d03e03e03e03e03e03e03e03e03e03e03e03e03f03f03f03f03f03f03f03f03f03f03f03f03f04004004004004004004004004004004004004104104104104104104104104104104104104104204204204204204204204204204204204204304304304304304304304304304304304304404404404404404404404404404404404404404504504504504504504504504504504504504604604604604604604604604604604604604704704704704704704704704704704704704804804804804804804804804804804804804904904904904904904904904904904904904a04a

/-- Entries 3328–3583 of the exponential table of R151: round(256 × (−ln((n + 0.5) / 4,096))), 12 bits each, the first lowest. -/
def expo13 : Nat := 0x2202202202202302302302302302302302302302302302302302302402402402402402402402402402402402402402402502502502502502502502502502502502502502502602602602602602602602602602602602602602602702702702702702702702702702702702702702702802802802802802802802802802802802802802902902902902902902902902902902902902902902a02a02a02a02a02a02a02a02a02a02a02a02a02a02b02b02b02b02b02b02b02b02b02b02b02b02b02c02c02c02c02c02c02c02c02c02c02c02c02c02c02d02d02d02d02d02d02d02d02d02d02d02d02d02e02e02e02e02e02e02e02e02e02e02e02e02e02f02f02f02f02f02f02f02f02f02f02f02f02f02f030030030030030030030030030030030030030031031031031031031031031031031031031031032032032032032032032032032032032032032033033033033033033033033033033033033033034034034034034034034034034034034034034035035035035035035035035035

/-- Entries 3584–3839 of the exponential table of R151: round(256 × (−ln((n + 0.5) / 4,096))), 12 bits each, the first lowest. -/
def expo14 : Nat := 0x1101101101101101101101101101101101101101101101201201201201201201201201201201201201201201201301301301301301301301301301301301301301301401401401401401401401401401401401401401401401501501501501501501501501501501501501501501501601601601601601601601601601601601601601601601701701701701701701701701701701701701701701801801801801801801801801801801801801801801801901901901901901901901901901901901901901901a01a01a01a01a01a01a01a01a01a01a01a01a01a01a01b01b01b01b01b01b01b01b01b01b01b01b01b01b01c01c01c01c01c01c01c01c01c01c01c01c01c01c01c01d01d01d01d01d01d01d01d01d01d01d01d01d01d01e01e01e01e01e01e01e01e01e01e01e01e01e01e01f01f01f01f01f01f01f01f01f01f01f01f01f01f020020020020020020020020020020020020020020021021021021021021021021021021021021021021022022022022022022022022022022

/-- Entries 3840–4095 of the exponential table of R151: round(256 × (−ln((n + 0.5) / 4,096))), 12 bits each, the first lowest. -/
def expo15 : Nat := 0x100100100100100100100100100100100100100100100100200200200200200200200200200200200200200200200200300300300300300300300300300300300300300300300300400400400400400400400400400400400400400400400500500500500500500500500500500500500500500500500600600600600600600600600600600600600600600600600700700700700700700700700700700700700700700700800800800800800800800800800800800800800800800800900900900900900900900900900900900900900900900a00a00a00a00a00a00a00a00a00a00a00a00a00a00a00a00b00b00b00b00b00b00b00b00b00b00b00b00b00b00b00c00c00c00c00c00c00c00c00c00c00c00c00c00c00c00d00d00d00d00d00d00d00d00d00d00d00d00d00d00d00e00e00e00e00e00e00e00e00e00e00e00e00e00e00e00e00f00f00f00f00f00f00f00f00f00f00f00f00f00f00f010010010010010010010010010010010010010010010

/-- The exponential table of R151: round(256 × (−ln((n + 0.5) / 4,096))). -/
def expo (n : Nat) : Nat :=
  let row := match n / 256 with
    | 0 => expo0
    | 1 => expo1
    | 2 => expo2
    | 3 => expo3
    | 4 => expo4
    | 5 => expo5
    | 6 => expo6
    | 7 => expo7
    | 8 => expo8
    | 9 => expo9
    | 10 => expo10
    | 11 => expo11
    | 12 => expo12
    | 13 => expo13
    | 14 => expo14
    | _ => expo15
  row / 2 ^ (12 * (n % 256)) % 4096

end Sys2Proof.Machine
end

