-- ==== Sys2Proof/Machine/Sheaf.lean ====
section
/-!
DEFINITION. The sheaf engine (R75–R111): noise, temperature, evaluations, keys, selection, the stay and proposal candidates,
the stuck rule, the energy register, the link walker and best capture.
-/
namespace Sys2Proof.Machine

/-! ## Noise (R82–R84) -/

/-- A 64-bit word rotated left by `n`. -/
def rotl64 (x n : Nat) : Nat := x * 2 ^ n % 2 ^ 64 + x / 2 ^ (64 - n)

/-- One round of the decision hash (R83). -/
def noiseRound (a b : Nat) : Nat × Nat :=
  let a' := (a + b) % 2 ^ 64
  (a' * 0xA4F13C5B96D2E871 % 2 ^ 64, (rotl64 b 23 ^^^ a') * 0x6B2ED9174C835AF5 % 2 ^ 64)

/-- The decision hash h of (K, lane identity, τ, c) (R83). -/
def noiseHash (k : BitVec 128) (ident : Nat) (tau : Int) (c : Nat) : Nat :=
  let r := noiseRound (k.toNat % 2 ^ 64 ^^^ unsign 64 tau) (k.toNat / 2 ^ 64 ^^^ (ident * 1024 + c) % 2 ^ 64)
  let q := noiseRound r.1 r.2
  q.1 ^^^ rotl64 q.2 32

/-- The 16-bit mix of candidate `j` (R83). -/
def noiseMix (h j : Nat) : Nat :=
  let u := j ^^^ h % 2 ^ 16
  let p := u * (bits h 16 16 ||| 1) % 2 ^ 32
  let q := p / 2 ^ 16 ^^^ p % 2 ^ 16 ^^^ bits h 32 16
  let r := q * (bits h 48 16 ||| 1) % 2 ^ 32
  bits r 8 16

/-- The noise value g_j (R83). -/
def noiseG (h j : Nat) : Nat := gumbel (noiseMix h j / 16)

/-- The logical lane identity (R82). -/
def laneIdent (rank block lane : Nat) : Nat := rank * 2 ^ 15 + block * 4 + lane

/-! ## Scales and codes -/

/-- A plane's scale word of an engine (R56). -/
def State.scaleWord (s : State) (e plane : Nat) : Nat :=
  if plane = 0 then s.fld F.shfScaleScaleP e else s.fld F.shfScaleScaleQ e

/-- EMPTY of a scale word (R56). -/
def scaleEmpty (w : Nat) : Bool := w.testBit 14

/-- A plane of an engine is marked EMPTY. -/
def State.emptyPlane (s : State) (e plane : Nat) : Bool := scaleEmpty (s.scaleWord e plane)

/-- The graph mantissa an engine works with (R57): that of a scale word not marked EMPTY, where there is one. -/
def State.mant (s : State) (e : Nat) : Nat :=
  bits (if s.emptyPlane e 0 then s.scaleWord e 1 else s.scaleWord e 0) 0 8

/-- The plane shift SH_P or SH_Q (R59). -/
def State.shift (s : State) (e plane : Nat) : Nat :=
  if plane = 0 then s.fld F.shfShiftShP e else s.fld F.shfShiftShQ e

/-- DB = e_min,b − e_G (R59). -/
def State.db (s : State) (e : Nat) : Nat := s.fld F.shfShiftDb e

/-- Value of a 4-bit code; 0b1000 reads as zero (R50, R51). -/
def codeValue (c : BitVec 4) : Int := if c = 8 then 0 else c.toInt

/-- The stored code at row `i`, column `j` of a plane (R52). -/
def State.storedCode (s : State) (e plane i j : Nat) : BitVec 4 :=
  BitVec.ofNat 4 ((s.rd (sheafAt e (plane * 0x80000 + i * 512 + j / 2))).toNat / (if j % 2 = 0 then 1 else 16))

/-- The code a row read takes: the patch overlay's where it holds the position and the read falls at cycle 67 or later, that is
for a decision started at cycle 64 or later; else the stored one (R132). -/
def State.code (s : State) (e plane i j : Nat) (late : Bool) : Int :=
  match (if late then (s.engine e).overlay.find? fun o => o.1 == plane &&
      ((o.2.1 == i && o.2.2.1 == j) || (o.2.1 == j && o.2.2.1 == i)) else none) with
  | some o => codeValue o.2.2.2
  | none => codeValue (s.storedCode e plane i j)

/-- Spin `i` of a spin vector as ±1 (R42). -/
def spinOf (v : BitVec 1024) (i : Nat) : Int := if v.getLsbD i then 1 else -1

/-- A spin vector with bit `i` set to `b`. -/
def setSpin (v : BitVec 1024) (i : Nat) (b : Bool) : BitVec 1024 :=
  if b then v ||| BitVec.ofNat 1024 (2 ^ i) else v &&& ~~~(BitVec.ofNat 1024 (2 ^ i))

/-- A plane field of a lane's table of fields. -/
def fieldOf (f : Sparse (BitVec 20)) (plane i : Nat) : Int := (sget 0 f (1024 * plane + i)).toInt

/-! ## Fields and energy -/

/-- A field update with its saturation (R80). -/
def satField (v : Int) : Int × Bool :=
  if 524287 < v then (524287, true) else if v < -524288 then (-524288, true) else (v, false)

/-- A lane's field changed by `d`; a saturation counts, sets FSAT and is reported (R80). -/
def State.addField (s : State) (e l plane i : Nat) (d : Int) : State :=
  if d = 0 then s else
  let n := 4 * e + l
  let r := satField (fieldOf (s.lane n).field plane i + d)
  let s := s.setLane n { s.lane n with field := sput 0 (s.lane n).field (1024 * plane + i) (BitVec.ofInt 20 r.1) }
  if r.2 then
    ((s.bump (if plane = 0 then F.shfSatSatP else F.shfSatSatQ) n 1).raise F.shfStatusFsat e).report
      0x03 (e / 8) (e % 8) l 0 (s.engine e).ctx
  else s

/-- The fields of a lane changed as a flip of spin `i` from the value `v` changes them (R79). -/
def State.applyRow (s : State) (e l i : Nat) (v : Int) (late : Bool) : State :=
  [0, 1].foldl (fun s plane =>
    if s.emptyPlane e plane then s else
      s.each (List.range 1024) fun s j =>
        if j = i then s else s.addField e l plane j (-2 * s.code e plane i j late * v)) s

/-- The energy register changed by `d` graph energy units; a wrap sets ESAT and is reported (R101). -/
def State.addEnergy (s : State) (e l : Nat) (d : Int) : State :=
  let v := s.sfld F.shfEnergyEnergy (4 * e + l) + d
  let s := s.setFld F.shfEnergyEnergy (4 * e + l) (unsign 48 v)
  if v < -(2 ^ 47 : Int) ∨ (2 ^ 47 : Int) ≤ v then
    (s.raise F.shfStatusEsat e).report 0x03 (e / 8) (e % 8) l 0 (s.engine e).ctx
  else s

/-! ## Evaluations -/

/-- The evaluation of spin `i` from given spins and fields, in block energy units (R59), before any saturation. -/
def State.evaluateWide (s : State) (e : Nat) (v : BitVec 1024) (f : Sparse (BitVec 20)) (i : Nat) : Int :=
  let term := fun plane => if s.emptyPlane e plane then 0 else fieldOf f plane i * (2 ^ s.shift e plane : Nat)
  2 * spinOf v i * s.mant e * (term 0 + term 1)

/-- Whether an evaluation lies in the 32-bit signed range (R81). -/
def fits32 (v : Int) : Bool := decide (-(2 ^ 31 : Int) ≤ v) && decide (v < 2 ^ 31)

/-- The evaluation of spin `i` as the engine holds it: saturated to the 32-bit signed range (R81). -/
def State.evaluate (s : State) (e : Nat) (v : BitVec 1024) (f : Sparse (BitVec 20)) (i : Nat) : Int :=
  clampInt (-2 ^ 31) (2 ^ 31 - 1) (s.evaluateWide e v f i)

/-- The pair term P_S over positions (R94), from given spins. -/
def State.pairTerm (s : State) (e : Nat) (v : BitVec 1024) (late : Bool) : List Nat → Int
  | [] => 0
  | i :: rest =>
    (rest.map fun k =>
      let c := fun plane => if s.emptyPlane e plane then 0 else s.code e plane i k late * (2 ^ s.shift e plane : Nat)
      4 * s.mant e * (c 0 + c 1) * spinOf v i * spinOf v k).sum + s.pairTerm e v late rest

/-- Link entries of a source position (R67). -/
def Engine.linkCount (g : Engine) (i : Nat) : Nat :=
  ((g.linkIndex[i + 1]?).getD 0).toNat - ((g.linkIndex[i]?).getD 0).toNat

/-- Fields of a proposal record (R92). -/
def recCount (r : BitVec 192) : Nat := bits r.toNat 164 5
def recGroup (r : BitVec 192) : Bool := r.getLsbD 175
def recTag (r : BitVec 192) : BitVec 16 := BitVec.ofNat 16 (bits r.toNat 176 16)
def recPositions (r : BitVec 192) : List Nat := (List.range (recCount r)).map fun k => bits r.toNat (10 * k) 10

/-! ## Temperature and keys -/

/-- The temperature θ of a lane (R87). -/
def State.theta (s : State) (e l : Nat) : Nat :=
  min ((s.engine e).base * s.fld F.shfLadderLambda (4 * e + l) / 2 ^ 12 + s.fld F.shfStuckStateOffset (4 * e + l)) (2 ^ 24 - 1)

/-- The key of a candidate (R88). -/
def keyOf (de : Int) (theta g db : Nat) : Int := de - (theta * g / 2 ^ (8 + db) : Nat)

/-- KEY_MAX (R89). -/
def keyMax : Int := 2 ^ 33 - 1

/-- The field-noise key of an acre for the present launch tick of a launch: that of the wall tick in which the launch tick began (R85,
R477; log 80). -/
def State.launchKey (s : State) (c a : Nat) : BitVec 128 := ((s.launch c).bind fun l => sget none l.keys a).getD 0

/-- The generator key K of an engine (R85): the seeded key of its SHF_KEY registers, or the field-noise key of its acre. -/
def State.noiseKey (s : State) (e : Nat) : BitVec 128 :=
  if s.fld F.shfCtrlNoiseMode e = 1 then (match (s.engine e).ctx with
    | some c => s.launchKey c (e / 8 / 17)
    | none => 0)
  else BitVec.ofNat 128 ((List.range 4).foldl (fun k n => k + s.fld F.shfKeyKey (4 * e + n) * 2 ^ (32 * n)) 0)

/-- Bq of R105 for a decision that starts at cycle c: the entries that stand in the walker queue at the start of cycle c + 1. -/
def State.backlog (s : State) (e : Nat) (at_ : Int) : Nat :=
  ((s.engine e).queue.map fun w => if w.ready ≤ at_ + 1 then w.stop - w.next else 0).sum

/-- The link backlog rule (R105): `n` further entries do not fit. -/
def backlogRefuses (bq n c : Nat) : Bool := n != 0 && decide (4 * (1015 - (c : Int)) < (bq + n : Nat))

/-- Whether the key of spin `i` is forced for a reason other than its evaluation (R89). -/
def State.forced (s : State) (e l c bq i : Nat) : Bool :=
  let g := s.engine e
  let ln := s.lane (4 * e + l)
  g.frozen.getLsbD i ||
  (g.guarded.getLsbD i && decide (64 ≤ ln.undo.length)) ||
  (decide (c < 64) && !ln.resolved && ln.undoPrev.any (·.pos == i)) ||
  backlogRefuses bq (g.linkCount i) c

/-- The better of two candidates: the smaller key, and on a tie the lower index (R90). -/
def better (best : Nat × Int) (j : Nat) (k : Int) : Nat × Int :=
  if k < best.2 ∨ (k = best.2 ∧ j < best.1) then (j, k) else best

/-- ΔE_S of a pending proposal (R95). -/
def State.moveEval (s : State) (e l : Nat) (p : Proposal) : Int :=
  let ln := s.lane (4 * e + l)
  ((recPositions p.record).map fun i => s.evaluate e ln.spins ln.field i).sum - p.pair

/-- Spins of a move that are guarded. -/
def Engine.guardedOf (g : Engine) (r : BitVec 192) : List Nat := (recPositions r).filter fun i => g.guarded.getLsbD i

/-- Undo entries that must be free for a move (R95): all its spins when GROUP is 1, else those that are guarded. -/
def Engine.moveUndo (g : Engine) (r : BitVec 192) : Nat := if recGroup r then recCount r else (g.guardedOf r).length

/-- Spins of a move whose flips enter an undo log with `room` free entries: all of them when GROUP is 1 or one is guarded (R97, R124). With
GROUP = 0 R95 asks room for the guarded ones alone; they enter first, and what finds no room after them stays out (log 128). -/
def Engine.moveLogs (g : Engine) (r : BitVec 192) (room : Nat) : List Nat :=
  if recGroup r || !(g.guardedOf r).isEmpty then
    (g.guardedOf r ++ (recPositions r).filter fun i => !g.guarded.getLsbD i).take room
  else []

/-- Whether candidate 1025 is forced (R95). -/
def State.moveForced (s : State) (e l c bq : Nat) (p : Proposal) : Bool :=
  let g := s.engine e
  let n := recCount p.record
  !fits32 (s.moveEval e l p) ||
  decide (1023 < c + 4 * (n - 1)) ||
  decide (64 < (s.lane (4 * e + l)).undo.length + g.moveUndo p.record) ||
  backlogRefuses bq ((recPositions p.record).map g.linkCount).sum c

/-- The choice of a decision of lane `l` at cycle `c`: winner and key (R81–R90). -/
def State.choose (s : State) (e l c : Nat) (bq : Nat) : Nat × Int :=
  let g := s.engine e
  let n := 4 * e + l
  let ln := s.lane n
  let h := noiseHash (s.noiseKey e) (laneIdent g.rank g.block l) (match g.ctx with | some x => s.tau x | none => 0) c
  let theta := s.theta e l
  let db := s.db e
  let stay := (1024, keyOf (s.sfld F.shfStayStay n) theta (noiseG h 1024) db)
  let best := (List.range 1024).foldl (fun b i =>
    let de := s.evaluate e ln.spins ln.field i
    better b i (if s.forced e l c bq i || !fits32 (s.evaluateWide e ln.spins ln.field i) then keyMax else keyOf de theta (noiseG h i) db)) stay
  match ln.active with
  | some p => better best 1025
      (if s.moveForced e l c bq p then keyMax else keyOf (s.moveEval e l p) theta (noiseG h 1025) db)
  | none => best

/-! ## What a decision does -/

/-- The stuck rule (R98). -/
def State.stuck (s : State) (e l : Nat) : State :=
  let n := 4 * e + l
  let offset := s.fld F.shfStuckStateOffset n
  let count := s.fld F.shfStuckStateCount n
  if s.sfld F.shfEnergyEnergy n < s.sfld F.shfLowLow n then
    ((s.setFld F.shfLowLow n (s.fld F.shfEnergyEnergy n)).setFld F.shfStuckStateCount n 0).setFld F.shfStuckStateOffset n
      (if s.flag F.shfStuckCfgHalve n then offset / 2 else 0)
  else if 2 ^ s.fld F.shfStuckCfgWexp n - 1 ≤ count then
    (s.setFld F.shfStuckStateCount n 0).setFld F.shfStuckStateOffset n
      (min (offset + s.fld F.shfStuckCfgStep n) (s.fld F.shfStuckCfgCap n))
  else s.setFld F.shfStuckStateCount n (count + 1)

/-- A proposal withdrawn from a slot of a lane is counted (R96). -/
def State.countWithdrawn (s : State) (n k : Nat) : State := if k = 0 then s else s.bump F.shfPropWithdrawn n k

/-- The proposals of a lane that hold a property are withdrawn (R96). -/
def State.withdraw (s : State) (n : Nat) (p : Proposal → Bool) : State :=
  let ln := s.lane n
  let gone := fun (o : Option Proposal) => o.any p
  let k := (if gone ln.active then 1 else 0) + (if gone ln.incoming then 1 else 0)
  (s.setLane n { ln with
    active := if gone ln.active then none else ln.active
    incoming := if gone ln.incoming then none else ln.incoming }).countWithdrawn n k

/-- The proposals that hold spin `i` are withdrawn, since it flipped (R96). -/
def State.withdrawSpin (s : State) (n i : Nat) : State := s.withdraw n fun p => (recPositions p.record).contains i

/-- USED of SHF_UNDO follows the current log; a log that fills counts a tick and withdraws GROUP proposals (R111, R131). -/
def State.logged (s : State) (n : Nat) (u : Undo) : State :=
  let ln := s.lane n
  let s := (s.setLane n { ln with undo := ln.undo ++ [u] }).setFld F.shfUndoUsed n (ln.undo.length + 1)
  if ln.undo.length + 1 = 64 then
    (s.bump F.shfUndoFullTicks n 1).withdraw n fun p => recGroup p.record
  else s

/-- What a flip of spin `i` at cycle `c` leaves behind besides fields and energy: the spin bit, the flip journal and the walker
queue where it has outside links, and its undo entry where it is tentative (R104, R121, R124, R125). -/
def State.flip (s : State) (e l i c : Nat) (tent : Option (Bool × BitVec 16 × Int)) : State :=
  let g := s.engine e
  let n := 4 * e + l
  let ln := s.lane n
  let post := !ln.spins.getLsbD i
  let undoIx := ln.undo.length
  let at_ : Int := (match g.ctx with | some x => s.tau x | none => 0) * 1024 + c
  let links := g.linkCount i
  let first := ((g.linkIndex[i]?).getD 0).toNat
  let s := s.setLane n { ln with
    spins := setSpin ln.spins i post
    flips := if links = 0 then ln.flips else ln.flips ++ [⟨i, c, post⟩] }
  let s := if links = 0 then s else s.setEngine e { g with queue := g.queue ++ [{
      next := first, stop := first + links, lane := l, src := i, cycle := c, post := post, roll := false,
      tent := tent.isSome, undo := if tent.isSome then undoIx else 0
      tag := match tent with | some t => if t.1 then t.2.1 else 0 | none => 0
      de := match tent with | some t => t.2.2 | none => 0
      ready := at_ + 3 }] }
  match tent with
  | some t => s.logged n ⟨i, !post, c, t.1, t.2.1, t.2.2⟩
  | none => s

/-- A single flip is taken (R79, R106). -/
def State.takeSpin (s : State) (e l c i : Nat) : State :=
  let n := 4 * e + l
  let v := spinOf (s.lane n).spins i
  let de := s.evaluate e (s.lane n).spins (s.lane n).field i * (2 ^ s.db e : Nat)
  let tent := if (s.engine e).guarded.getLsbD i then some (false, (0 : BitVec 16), de) else none
  ((((s.flip e l i c tent).addEnergy e l de).stuck e l).withdrawSpin n i).applyRow e l i v (decide (64 ≤ c))

/-- A proposal move is taken (R97). Its first row is applied now, the others in the lane's next slots. -/
def State.takeMove (s : State) (e l c : Nat) (p : Proposal) : State :=
  let n := 4 * e + l
  let ln := s.lane n
  let spins := recPositions p.record
  let de := s.moveEval e l p * (2 ^ s.db e : Nat)
  let logs := (s.engine e).moveLogs p.record (64 - ln.undo.length)
  let s := (s.setLane n { ln with active := none }).bump F.shfPropTaken n 1
  let s := s.each spins fun s i =>
    (s.flip e l i c (if logs.contains i then some (recGroup p.record, recTag p.record, de) else none)).withdrawSpin n i
  let s := (s.addEnergy e l de).stuck e l
  match spins with
  | [] => s
  | i :: rest =>
    let s := s.applyRow e l i (spinOf ln.spins i) (decide (64 ≤ c))
    (s.setLane n { s.lane n with moveRows := rest.map fun k => (k, ln.spins.getLsbD k) }).setBitOf F.shfStatusMoveBusy e l
      (!rest.isEmpty)

/-- A lane's slot that carries a row of a taken move (R97). -/
def State.moveSlot (s : State) (e l c : Nat) : State :=
  let n := 4 * e + l
  match (s.lane n).moveRows with
  | [] => s
  | (i, before) :: rest =>
    let s := s.applyRow e l i (if before then 1 else -1) (decide (64 ≤ c))
    (s.setLane n { s.lane n with moveRows := rest }).setBitOf F.shfStatusMoveBusy e l (!rest.isEmpty)

/-- A trace record (R286): cycle, winner, key. -/
def traceRec (c winner : Nat) (key : Int) : Word :=
  BitVec.ofNat 64 (c * 2 ^ 54 + winner * 2 ^ 43 + unsign 34 key * 2 ^ 9)

/-- The decision of a traced lane in the traced tick adds its record (R285, R286). -/
def State.traced (s : State) (e l c winner : Nat) (key : Int) : State :=
  let g := s.engine e
  match g.ctx with
  | none => s
  | some x => s.modLaunch x fun ln => match ln.replay with
    | some r =>
      if (r.traceTick : Int) = ln.tau ∧ (r.traceLane = laneIdent g.rank g.block l ∨ r.traceLane = 2 ^ 31 + laneIdent g.rank g.block 0 / 4) then
        { ln with replay := some { r with trace := r.trace ++ [traceRec c winner key] } }
      else ln
    | none => ln

/-- Whether an engine starts a decision of a lane in this cycle (R75, R109, R111): its launch moves and has reached τ = 0, RUN is
1, the lane is enabled, and no missing key holds it. -/
def State.deciding (s : State) (e l : Nat) : Bool :=
  match (s.engine e).ctx with
  | some c => s.movingOn c (e / 8) && s.decides c && s.flag F.shfCtrlRun e && (s.fld F.shfCtrlLaneEn e).testBit l &&
      !s.flag F.shfStatusNoiseHeld e
  | none => false

/-- Some spin's evaluation saturates (R81). -/
def State.evalSaturates (s : State) (e l : Nat) : Bool :=
  (List.range 1024).any fun i => !fits32 (s.evaluateWide e (s.lane (4 * e + l)).spins (s.lane (4 * e + l)).field i)

/-- One decision of lane `l` that starts at cycle `c` (R106). -/
def State.decision (s : State) (e l c : Nat) : State :=
  let n := 4 * e + l
  let bq := s.backlog e ((match (s.engine e).ctx with | some x => s.tau x | none => 0) * 1024 + c)
  let w := s.choose e l c bq
  let s := if s.evalSaturates e l then s.raise F.shfStatusEvsat e else s
  let s := s.traced e l c w.1 w.2
  let s := if w.1 = 1024 then s else s.setEngine e { s.engine e with accept := (s.engine e).accept + 1 }
  if w.1 < 1024 then s.takeSpin e l c w.1
  else if w.1 = 1025 then match (s.lane n).active with
    | some p => s.takeMove e l c p
    | none => s
  else s.stuck e l

/-- DECISION (R75, R106): the engine's next slot, at this cycle or at the one after its last decision, for lane c mod 4. -/
def execDecision (e : EngineId) (s : State) : Out :=
  let n := e.ix
  let c := max s.cyc (s.engine n).slot
  let s' := s.upTo c
  .next (if 1023 < c ∨ s'.deciding n (c % 4) = false then s
    else
      let s' := s'.setEngine n { s.engine n with slot := c + 1 }
      if (s.lane (4 * n + c % 4)).moveRows.isEmpty then s'.decision n (c % 4) c else s'.moveSlot n (c % 4) c)

/-! ## Proposals -/

/-- Whether a record is refused (R93). -/
def Engine.refusesRec (g : Engine) (r : BitVec 192) : Bool :=
  recCount r == 0 || decide (16 < recCount r) || !decide (recPositions r).Nodup ||
  (recPositions r).any fun i => g.frozen.getLsbD i

/-- Whether a live patch of a launch applies in its present tick. -/
def State.applyTick (s : State) (c : Nat) : Bool :=
  match s.launch c with
  | some l => l.patches.any fun p => p.apply == l.tau
  | none => false

/-- A record that has reached its lane has left the acre router (R192). -/
def State.offRouter (s : State) (n : Nat) (r : BitVec 192) : State :=
  match keysWhere s.gens fun g => g.onWay.contains (n, r) with
  | [] => s
  | k :: _ => s.setGen k { s.gen k with onWay := (s.gen k).onWay.erase (n, r) }

/-- PROPOSAL_RECORD_ARRIVAL (R93, R94, R96). A record that arrives while the incoming slot holds another takes its place (log 9). -/
def execProposalRecordArrival (e : EngineId) (l : Lane) (rec : BitVec 192) (s : State) : Out :=
  let n := 4 * e.ix + l.val
  let s := s.offRouter n rec
  let g := s.engine e.ix
  .next (match g.ctx with
  | none => s
  | some c =>
    if !s.flag F.shfCtrlPropEn e.ix || g.refusesRec rec then s.bump F.shfPropRefused n 1
    else
      let ln := s.lane n
      let late := s.applyTick c && decide (s.cyc < 99)
      let s := s.countWithdrawn n (if ln.incoming.isSome then 1 else 0)
      s.setLane n { ln with incoming := some {
        record := rec
        pair := s.pairTerm e.ix ln.spins (s.applyTick c) (recPositions rec)
        ready := s.tau c * 1024 + (if late then 131 else s.cyc + 32)
        late := late } })

/-- The cycle-in-tick of the first decision that a lane can start at or after cycle `c`: at its slot, once the slots that carry rows of a
taken move have passed (R75, R97). -/
def State.decisionFrom (s : State) (e l c : Nat) : Nat :=
  max (nextCycle c 4 l) (nextCycle (s.engine e).slot 4 l + 4 * (s.lane (4 * e + l)).moveRows.length)

/-- PROPOSAL_PENDING (R94): a priced record becomes pending at the first decision of its lane from which it may; an earlier one is
withdrawn (R96). -/
def execProposalPending (e : EngineId) (l : Lane) (s : State) : Out :=
  let n := 4 * e.ix + l.val
  .next (match (s.engine e.ix).ctx, (s.lane n).incoming with
  | some c, some p =>
    let at_ := s.decisionFrom e.ix l.val (max s.cyc (p.ready - s.tau c * 1024).toNat)
    if at_ ≤ 1023 ∧ (s.upTo at_).deciding e.ix l.val then
      let ln := s.lane n
      let p := if p.late then { p with pair := s.pairTerm e.ix ln.spins true (recPositions p.record) } else p
      ((s.upTo at_).setLane n { ln with active := some p, incoming := none }).countWithdrawn n (if ln.active.isSome then 1 else 0)
    else s
  | _, _ => s)

/-! ## Link walker -/

/-- A delta record (R114). -/
def deltaRec (w : Walk) (entry : Nat) : Word :=
  BitVec.ofNat 64 ((if w.tent then 1 else 0) * 2 ^ 63 + (if w.roll then 1 else 0) * 2 ^ 62 + w.lane * 2 ^ 60 + w.src * 2 ^ 50 +
    w.cycle * 2 ^ 40 + (if w.post then 1 else 0) * 2 ^ 39 + bits entry 23 1 * 2 ^ 38 + bits entry 24 4 * 2 ^ 34 +
    bits entry 0 10 * 2 ^ 24 + (if w.tent then w.undo else 0) * 2 ^ 18)

/-- The flip word of a tentative flip (R115). -/
def flipWord (w : Walk) : Word := BitVec.ofNat 64 (w.tag.toNat * 2 ^ 48 + unsign 48 w.de)

/-- Rank of the module that a link entry of an engine targets (R65, R67). -/
def Engine.farRank (g : Engine) (far : Nat) : Nat :=
  if far = 0 then g.rank else ((g.far[far - 1]?).getD 0).toNat

/-- The walker's record of one link entry (R104, R112). -/
def Engine.outRec (g : Engine) (w : Walk) (entry : Nat) : OutRec where
  far := g.farRank (bits entry 28 2)
  dest := bits entry 10 13
  slots := if w.tent then [deltaRec w entry, flipWord w] else [deltaRec w entry]

/-- Up to `n` link entries read from the queue, in order, as far as they stand in it at logical cycle `at_`. An entry that the
owner check denies delivers no record (log 10); a poisoned one is not used, and faults the launch's context (R227). -/
def State.walk (s : State) (e : Nat) (at_ : Int) : Nat → State
  | 0 => s
  | n + 1 =>
    let g := s.engine e
    match g.queue with
    | [] => s
    | w :: rest =>
      if at_ < w.ready then s else
      let addr := g.linkBase + 4 * w.next
      let pass := match g.ctx with
        | some c => s.ownerPass (e / 8) (bankOf addr) (.unit (Fin.ofNat 10240 c))
        | none => false
      let got := s.cribBytes (e / 8) addr 4
      let queue := if w.next + 1 < w.stop then { w with next := w.next + 1 } :: rest else rest
      let s := if pass then s.eccSeen (e / 8) addr got.2 else s.deny (e / 8) (bankOf addr)
      let s := if pass && got.2 then s.report 0x05 (e / 8) (e % 8) 0 0 g.ctx else s
      let s := s.setEngine e { g with
        queue := queue
        heldRecs := if pass && !got.2 then g.heldRecs ++ [g.outRec w (leNat got.1)] else g.heldRecs }
      s.walk e at_ n

/-- LINK_WALKER_READ (R104, R139): four entries per cycle, at the first cycle at which the queue holds one and the launch moves. -/
def execLinkWalkerRead (e : EngineId) (s : State) : Out :=
  let g := s.engine e.ix
  .next (match g.ctx, g.queue with
  | some c, w :: _ =>
    let at_ := max s.cyc (max w.ready g.walked - s.tau c * 1024).toNat
    if at_ ≤ 1023 ∧ (s.upTo at_).movingOn c (e.ix / 8) then
      ((s.upTo at_).setEngine e.ix { g with walked := s.tau c * 1024 + at_ + 1 }).walk e.ix (s.tau c * 1024 + at_) 4
    else s
  | _, _ => s)

/-! ## Best states -/

/-- BEST_CAPTURE (R103): a lane's tick snapshot becomes its best state. -/
def State.captureBest (s : State) (n : Nat) : State :=
  let ln := s.lane n
  s.setLane n { ln with
    bestSpins := ln.snap
    bestEnergy := BitVec.ofNat 48 (s.fld F.shfSnapEnergySnap n)
    bestTau := BitVec.ofInt 64 ln.snapTau }

/-- BEST_CAPTURE (R103): at a cycle from 68 on. -/
def execBestCapture (e : EngineId) (l : Lane) (s : State) : Out := .next (s.within 68 1023 fun s => s.captureBest (4 * e.ix + l.val))

end Sys2Proof.Machine
end

