-- ==== Sys2Proof/Machine/Exchange.lean ====
section
/-!
DEFINITION. The exchange window (R112–R135): delta tiles, cross-term corrections, guarded verdicts, rollbacks, live patches at
the resolution point, votes, and the lane digest.
-/
namespace Sys2Proof.Machine

/-! ## Tiles -/

/-- Key of an engine's logical position: `8192 * rank + block`. -/
def Engine.pos (g : Engine) : Nat := 8192 * g.rank + g.block

/-- Header of a delta tile (R113). -/
def tileHeader (rank block count : Nat) (tau : Int) : Word :=
  BitVec.ofNat 64 (rank * 2 ^ 58 + block * 2 ^ 45 + count * 2 ^ 32 + unsign 32 tau)

/-- Crib address of a byte of an engine's delta bank (R210). -/
def State.deltaAddr (s : State) (e off : Nat) : Nat := s.fld F.stkExchCfgDeltaBank e * 2 ^ 19 + off

/-- The place of the tile from one position to another in a launch's schedule image (R210). -/
def State.tilePlace (s : State) (c src dst : Nat) : Option TilePlace :=
  (s.launch c).bind fun l => l.sched.tiles.find? fun p => p.src == src && p.dst == dst

/-- The bytes of a list of 64-bit slots. -/
def slotBytes (l : List Word) : List Byte := l.flatMap fun w => leBytes 8 w.toNat

/-- Crib address of an engine's outgoing tile of a tick, by its number (R210). -/
def State.tileAt (s : State) (e : Nat) (p : TilePlace) (turn : Int) : Nat :=
  cribAt (e / 8) (s.deltaAddr e (if turn % 2 = 0 then p.even else p.odd))

/-- Number of the tick of a launch whose exchange window runs. -/
def State.turn (s : State) (c : Nat) : Int := match s.launch c with | some l => l.turn | none => 0

/-- Whether the exchange unit of an engine passes the owner check of its delta bank: it acts for the launch that owns the engine (R215). -/
def State.exchangePass (s : State) (n c : Nat) : Bool :=
  s.ownerPass (n / 8) (s.fld F.stkExchCfgDeltaBank n) (.unit (Fin.ofNat 10240 c))

/-- The tiles of a tick of an engine begun: a header with COUNT 0 for each place (R113). -/
def State.openTiles (s : State) (c e : Nat) (l : Launch) (turn : Int) : State :=
  if !s.flag F.stkExchCfgDeltaEn e || !s.exchangePass e c then s else
  (l.sched.tiles.filter fun p => p.src == (s.engine e).pos).foldl (fun s p =>
    s.store (s.tileAt e p turn) (leBytes 8 (tileHeader (s.engine e).rank (s.engine e).block 0 l.tau).toNat) false) s

/-- No record is in flight (R134): the tiles of both parities are empty. -/
def State.emptyTiles (s : State) (c : Nat) (l : Launch) : State :=
  s.each (s.enginesOf c) fun s e => (s.openTiles c e l 0).openTiles c e l 1

/-- One delta record with its flip word written into its tile of the current tick, with the tile's header (R113, R212). A record
for which the image places no tile, or no room in it, is dropped: the image is malformed (R116, R11). In a tick that does not count in τ TICK is
that of the next one that does (log 129). -/
def State.scatterRec (s : State) (e : Nat) (r : OutRec) : State :=
  let g := s.engine e
  match g.ctx with
  | none => s
  | some c =>
    let dst := 8192 * r.far + r.dest
    match s.tilePlace c g.pos dst with
    | none => s
    | some p =>
      let used := sget (0, 0) g.outUsed dst
      if p.slots < 1 + used.1 + r.slots.length then s else
      let base := s.tileAt e p (s.turn c)
      let s := s.store base (leBytes 8 (tileHeader g.rank g.block (used.2 + 1) (s.tau c)).toNat) false
      let s := s.store (base + 8 * (1 + used.1)) (slotBytes r.slots) false
      s.setEngine e { s.engine e with outUsed := sput (0, 0) g.outUsed dst (used.1 + r.slots.length, used.2 + 1) }

/-- SCATTER_WRITE (R139, R212): up to 16 records of the current tick, at the next cycle of the engine's phase of the pattern. -/
def execScatterWrite (e : EngineId) (s : State) : Out :=
  let n := e.ix
  let g := s.engine n
  let c := nextCycle (max s.cyc (g.scattered - 1024 * s.tick)) 4 (s.fld F.stkExchCfgPhase n * 2)
  .next (match g.ctx with
  | none => s
  | some x =>
    if c ≤ 1023 ∧ s.flag F.stkExchCfgDeltaEn n ∧ (s.upTo c).movingOn x (n / 8) then
      let s' := (s.upTo c).setEngine n { g with heldRecs := g.heldRecs.drop 16, scattered := 1024 * s.tick + c + 1 }
      if s.ownerPass (n / 8) (s.fld F.stkExchCfgDeltaBank n) (.unit (Fin.ofNat 10240 x)) then
        (g.heldRecs.take 16).foldl (fun s r => s.scatterRec n r) s'
      else s'.deny (n / 8) (s.fld F.stkExchCfgDeltaBank n)
    else s)

/-- Source position of a tile, from its header (R113). -/
def tileSource (t : List Word) : Nat := match t with
  | h :: _ => 8192 * bits h.toNat 58 6 + bits h.toNat 45 13
  | [] => 0

/-- The engine of a launch on this module at a logical position. -/
def State.engineOfPos (s : State) (c pos : Nat) : Option Nat := (s.enginesOf c).find? fun x => (s.engine x).pos == pos

/-- The first `n` records of a list of slots, with their flip words. -/
def takeRecs : Nat → List Word → List Word
  | 0, _ => []
  | _, [] => []
  | n + 1, w :: rest => if w.getLsbD 63 then w :: rest.take 1 ++ takeRecs n rest.tail else w :: takeRecs n rest

/-- The tile of the last tick that an engine sends to a place (R118, R212): its header and the records that it counts, from its delta bank. -/
def State.sentTile (s : State) (x : Nat) (p : TilePlace) (turn : Int) : List Word :=
  let at_ := s.tileAt x p (turn - 1)
  let slot := fun k => BitVec.ofNat 64 (s.rdNat (at_ + 8 * k) 8)
  slot 0 :: takeRecs (bits (slot 0).toNat 32 13) ((List.range (p.slots - 1)).map fun k => slot (k + 1))

/-- A tile staged in the delta bank of an engine and taken by the correction unit (R118, R210), or dropped by the owner check (R215). -/
def State.takeTile (s : State) (n c : Nat) (p : TilePlace) (tile : List Word) : State :=
  if s.exchangePass n c then
    (s.store (cribAt (n / 8) (s.deltaAddr n p.stage)) (slotBytes tile) false).setEngine n { s.engine n with tiles := (s.engine n).tiles ++ [tile] }
  else s.deny (n / 8) (s.fld F.stkExchCfgDeltaBank n)

/-- The engine that a tile for an engine's place goes to: in a fold frame the tiles for the parked field come to the same die (R273), and one
whose tile from that source is in takes no second. -/
def State.receiver (s : State) (n src : Nat) : Option Nat :=
  [n, n + 8704].find? fun e => (s.engine e).ctx.any fun c => (s.tilePlace c src (s.engine e).pos).isSome &&
    !(s.engine e).tiles.any fun t => tileSource t == src

/-- The cycle-in-tick at which a delta bank has received `rows` rows: one in each of its receive cycles, c ≡ 3 modulo 4 (R212). -/
def State.receiveEnd (s : State) (n rows : Nat) : Nat :=
  nextCycle (max s.cyc ((s.engine n).received - 1024 * s.tick)) 4 3 + 4 * (rows - 1)

/-- DELTA_TILE_ARRIVAL (R118, R212, R213, R215): in cycles 0–47 of a wall tick a tile of the last tick is staged in the receiving delta bank,
a row of 64 slots in each receive cycle, and taken by the correction unit. The tile of an engine of this module is the one that it
sends; `slots` is that of another module's engine. The owner check drops it as a whole. -/
def execDeltaTileArrival (e : EngineId) (slots : List Word) (s : State) : Out :=
  .next (match s.receiver e.ix (tileSource slots) with
  | none => s
  | some n => match (s.engine n).ctx with
    | none => s
    | some c => match s.tilePlace c (tileSource slots) (s.engine n).pos with
      | none => s
      | some p =>
        let from_ := s.engineOfPos c p.src
        let tile := match from_ with
          | some x => s.sentTile x p (s.turn c)
          | none => slots
        let at_ := s.receiveEnd n (ceilDiv tile.length 64)
        if 47 < at_ then s
        else
        let s := match from_ with
          | some x => s.cartStooks c chDelta (8 * tile.length) (x / 8) (n / 8)
          | none => s
        let s := (s.upTo at_).takeTile n c p tile
        s.setEngine n { s.engine n with received := 1024 * s.tick + at_ + 1 })

/-- The tiles that the engines of a folded launch send to each other, staged and taken (R273). -/
def State.frameTiles (s : State) (c : Nat) (l : Launch) : State :=
  s.each (s.enginesOf c) fun s e =>
    (l.sched.tiles.filter fun p => p.dst == (s.engine e).pos).foldl (fun s p => match s.engineOfPos c p.src with
      | some x => s.takeTile e c p (s.sentTile x p l.turn)
      | none => s) s

/-- Whether every tile that an engine expects of the last tick has arrived (R120). -/
def State.tilesIn (s : State) (c e : Nat) : Bool :=
  let g := s.engine e
  match s.launch c with
  | some l => (l.sched.tiles.filter fun p => p.dst == g.pos).all fun p => g.tiles.any fun t => tileSource t == p.src
  | none => true

/-- A launch begins a hold at a cycle-in-tick of this wall tick (R138, R139). -/
def Launch.hold (l : Launch) (h : Hold) (at_ : Nat) : Launch :=
  if l.phase = .none then { l with holds := [h], holdAt := at_, phase := .begins }
  else if l.phase = .ends ∧ l.again = none then { l with holds := [h], again := some at_ }
  else { l with holds := if l.holds.contains h then l.holds else l.holds ++ [h] }

/-- TILE_LATE_HOLD (R120): a tile missing at cycle 47 halts the launch's engines at cycle 48. -/
def execTileLateHold (c : CtxId) (s : State) : Out :=
  .next (s.within 47 47 fun s' =>
    if s'.moving c.val && (s.enginesOf c.val).any fun e => !s.tilesIn c.val e then
      s'.modLaunch c.val (·.hold .tile 48) else s)

/-! ## Received records -/

/-- A record as received (R114, R115), with its source engine. -/
structure InRec where
  src : Nat
  pos : Nat
  lane : Nat
  cycle : Nat
  post : Bool
  plane : Nat
  code : BitVec 4
  target : Nat
  tent : Bool
  de : Int
  deriving DecidableEq, Repr

/-- A record of a tile taken apart; `word` is the slot after it. -/
def inRec (src : Nat) (w : Word) (word : Word) : InRec where
  src := src
  pos := bits w.toNat 50 10
  lane := bits w.toNat 60 2
  cycle := bits w.toNat 40 10
  post := w.getLsbD 39
  plane := bits w.toNat 38 1
  code := BitVec.ofNat 4 (bits w.toNat 34 4)
  target := bits w.toNat 24 10
  tent := w.getLsbD 63
  de := if w.getLsbD 63 then signed 48 (bits word.toNat 0 48) else 0

/-- The records of a tile's slots after its header. -/
def tileRecs (src : Nat) : List Word → List InRec
  | [] => []
  | [w] => [inRec src w 0]
  | w :: x :: rest => if w.getLsbD 63 then inRec src w x :: tileRecs src rest else inRec src w x :: tileRecs src (x :: rest)

/-- The records of a list of tiles for one lane. COUNT of a header bounds the records taken. -/
def recsOf (tiles : List (List Word)) (lane : Nat) : List InRec :=
  (tiles.flatMap fun t => (tileRecs (tileSource t) t.tail).take (bits (t.headD 0).toNat 32 13)).filter (·.lane == lane)

/-- 1 or −1 for a spin value. -/
def pm (b : Bool) : Int := if b then 1 else -1

/-- One code unit of a plane in graph energy units: m × 2^(SH_p + DB) (R122, R133). -/
def State.unit (s : State) (e plane : Nat) : Int := (s.mant e * 2 ^ (s.shift e plane + s.db e) : Nat)

/-- The cross-term C of R122. -/
def State.crossTerm (s : State) (e plane : Nat) (code : BitVec 4) (a b : Bool) : Int :=
  if s.emptyPlane e plane then 0 else -4 * codeValue code * s.unit e plane * pm a * pm b

/-- The correction that an engine adds at a lane's resolution point: every coinciding pair whose later flip lies in the tick of
`recs`, on a link to a higher block (R121, R122). -/
def State.correction (s : State) (e : Nat) (ln : LaneState) (recs prev : List InRec) : Int :=
  let pair := fun (f : Flip) (r : InRec) =>
    if f.pos = r.target ∧ (s.engine e).pos < r.src then s.crossTerm e r.plane r.code f.post r.post else 0
  let sum := fun (fs : List Flip) (rs : List InRec) => (fs.map fun f => (rs.map (pair f)).sum).sum
  sum ln.flipsPrev recs + sum ln.flipsOld (recs.filter fun r => decide (r.cycle < 64)) +
    sum (ln.flipsPrev.filter fun f => decide (f.cycle < 64)) prev

/-! ## Verdicts and rollbacks -/

/-- Whether the engine's link from its spin `i` to spin `j` of the engine at `src` on a plane is guarded (R65, R126). -/
def State.guardedLink (s : State) (e i src j plane : Nat) : Bool :=
  let g := s.engine e
  let first := ((g.linkIndex[i]?).getD 0).toNat
  (List.range (g.linkCount i)).any fun k =>
    let w := s.rdNat (cribAt (e / 8) (g.linkBase + 4 * (first + k))) 4
    bits w 31 1 == 1 && bits w 23 1 == plane && bits w 0 10 == j && 8192 * g.farRank (bits w 28 2) + bits w 10 13 == src

/-- Sum of the evaluations of a spin's tentative flips in a log (R126). -/
def undoSum (log : List Undo) (i : Nat) : Int := ((log.filter (·.pos == i)).map (·.de)).sum

/-- Sum of the evaluations of a partner's tentative flips, from the records of one link (R126). -/
def partnerSum (recs : List InRec) (r : InRec) : Int :=
  ((recs.filter fun q => q.tent && q.src == r.src && q.pos == r.pos && q.plane == r.plane && q.target == r.target).map (·.de)).sum

/-- Whether the engine's own end of a guarded conflict loses: the larger corrected ΔE, on a tie the higher global index. The pair
corrections of the link are the same for both ends (R126). -/
def State.losesTo (s : State) (e : Nat) (ln : LaneState) (recs : List InRec) (r : InRec) : Bool :=
  let own := undoSum ln.undoPrev r.target
  let other := partnerSum recs r
  decide (other < own) || (decide (own = other) &&
    decide (1024 * r.src + r.pos < 1024 * (s.engine e).pos + r.target))

/-- Whether a notice list names position `j` of a lane of the engine at `src` (R129). -/
def noticed (notices : List (Nat × Nat × List (BitVec 16))) (src lane j : Nat) : Bool :=
  notices.any fun x => 8192 * x.1 + x.2.1 == src && x.2.2.any fun w => bits w.toNat 14 2 == lane && bits w.toNat 0 10 == j

/-- Whether a tentative spin loses a conflict of R126 or under R127. -/
def State.loses (s : State) (e lane : Nat) (ln : LaneState) (recs prev : List InRec) (i : Nat) : Bool :=
  (recs.any fun r => r.tent && r.target == i && s.guardedLink e i r.src r.pos r.plane && s.losesTo e ln recs r) ||
  ((ln.undoPrev.any fun u => u.pos == i && decide (u.cycle < 64)) &&
    prev.any fun r => r.tent && r.target == i && s.guardedLink e i r.src r.pos r.plane &&
      !noticed (s.engine e).noticesPrev r.src lane r.pos)

/-- One round of R128's third case: with a spin of a GROUP move every spin of the move. -/
def spreadGroup (log : List Undo) (lost : List Nat) : List Nat :=
  (log.filter fun u => lost.contains u.pos || (u.group && log.any fun v => v.group && v.tag == u.tag && v.cycle == u.cycle &&
    lost.contains v.pos)).map (·.pos) |>.eraseDups

/-- The spins to be rolled back at a lane's resolution point (R128). -/
def State.losers (s : State) (e lane : Nat) (ln : LaneState) (recs prev : List InRec) : List Nat :=
  let spins := (ln.undoPrev.map (·.pos)).eraseDups
  let lost := spins.filter (s.loses e lane ln recs prev)
  (List.range 64).foldl (fun lost _ => spreadGroup ln.undoPrev lost) lost

/-- The value a spin held before its first tentative flip of the tick (R128). -/
def beforeFirst (log : List Undo) (i : Nat) (now : Bool) : Bool := match log.find? (·.pos == i) with
  | some u => u.before
  | none => now

/-- The rolled-back spins that change value (R128). -/
def changers (ln : LaneState) (lost : List Nat) : List Nat :=
  lost.filter fun i => ln.spins.getLsbD i != beforeFirst ln.undoPrev i (ln.spins.getLsbD i)

/-- The notice of an engine (R129): a word for each spin that its verdicts roll back and that changes value, lane by lane, at most 256. They
stand from cycle 48 on, when every record is in, and the forced keys of R89 keep them until the resolution points. -/
def State.noticeOf (s : State) (e : Nat) : List (BitVec 16) :=
  ((List.range 4).flatMap fun l =>
    let ln := s.lane (4 * e + l)
    let lost := s.losers e l ln (recsOf (s.engine e).tiles l) (recsOf (s.engine e).tilesPrev l)
    (changers ln lost).map fun i => BitVec.ofNat 16 (l * 2 ^ 14 + i)).take 256

/-- A notice from a logical position staged in the delta bank of an engine and taken (R129, R210), or dropped by the owner check (R215). -/
def State.takeNotice (s : State) (n c : Nat) (p : TilePlace) (words : List (BitVec 16)) : State :=
  if s.exchangePass n c then
    (s.store (cribAt (n / 8) (s.deltaAddr n p.note)) (words.flatMap fun w => leBytes 2 w.toNat) false).setEngine n
      { s.engine n with notices := (s.engine n).notices ++ [(p.src / 8192, p.src % 8192, words)] }
  else s.deny (n / 8) (s.fld F.stkExchCfgDeltaBank n)

/-- The engine that a notice for an engine's place goes to: that of the parked field in a fold frame, where the notice is not for the resident
field or is in there (R273). -/
def State.noticeTaker (s : State) (n src : Nat) : Nat :=
  (([n, n + 8704].find? fun e => (s.engine e).ctx.any fun c => (s.tilePlace c src (s.engine e).pos).isSome &&
    !(s.engine e).notices.any fun m => 8192 * m.1 + m.2.1 == src)).getD n

/-- ROLLBACK_NOTICE_ARRIVAL (R129, R210, R212, R215): in a receive cycle of cycles 48–59 a notice is staged in the delta bank and taken. It comes
along the fixed path of a tile; that of an engine of this module is the one that it sends, `words` that of another module's. -/
def execRollbackNoticeArrival (e : EngineId) (rank : Fin 64) (block : Fin 8192) (words : List (BitVec 16)) (s : State) : Out :=
  let n := s.noticeTaker e.ix (8192 * rank.val + block.val)
  let g := s.engine n
  .next (s.within 48 59 fun s' => match g.ctx with
  | none => s
  | some c => match s.tilePlace c (8192 * rank.val + block.val) g.pos with
    | none => s
    | some p =>
      let sent := match s.engineOfPos c p.src with
        | some x => s.noticeOf x
        | none => words.take 256
      let at_ := s'.receiveEnd n 1
      if 59 < at_ ∨ sent.isEmpty then s
      else
      let s := match s.engineOfPos c p.src with
        | some x => s.cartStooks c chDelta (2 * sent.length) (x / 8) (n / 8)
        | none => s
      let s := (s.upTo at_).takeNotice n c p sent
      s.setEngine n { s.engine n with received := 1024 * s.tick + at_ + 1 })

/-- The notices that the engines of a folded launch send to each other, formed from all the tiles of the last tick, staged and taken (R273). -/
def State.frameNotices (s : State) (c : Nat) (l : Launch) : State :=
  let sent := (s.enginesOf c).map fun x => ((s.engine x).pos, s.noticeOf x)
  s.each (s.enginesOf c) fun s e =>
    (l.sched.tiles.filter fun p => p.dst == (s.engine e).pos).foldl (fun s p => match sent.find? (·.1 == p.src) with
      | some x => if x.2.isEmpty then s else s.takeNotice e c p x.2
      | none => s) s

/-- Whether a notice that an engine of this module sends has not come to an engine of its launch (R135). -/
def State.noticeMissing (s : State) (c : Nat) : Bool := (s.launch c).any fun l =>
  (s.enginesOf c).any fun e => l.sched.tiles.any fun p => p.dst == (s.engine e).pos && (s.engineOfPos c p.src).any fun x =>
    !(s.noticeOf x).isEmpty && !(s.engine e).notices.any fun m => 8192 * m.1 + m.2.1 == p.src

/-- A lane's snapshot energy changed by `d` (R123). -/
def State.addSnap (s : State) (n : Nat) (d : Int) : State :=
  s.setFld F.shfSnapEnergySnap n (unsign 48 (s.sfld F.shfSnapEnergySnap n + d))

/-- The fields that ρ_snap is formed from: latched at cycle L, plus the records of the tick (R128). -/
def snapFields (ln : LaneState) (recs : List InRec) : Sparse (BitVec 20) :=
  recs.foldl (fun f r => sput 0 f (1024 * r.plane + r.target)
    (BitVec.ofInt 20 (satField (fieldOf f r.plane r.target + 2 * codeValue r.code * pm r.post)).1)) ln.latched

/-- The snapshot terms of links whose two ends are both rolled back and change value (R129): once per link, by the lower block. -/
def State.noticeTerms (s : State) (e lane : Nat) (ln : LaneState) (recs : List InRec) (changed : List Nat) : Int :=
  let g := s.engine e
  let both := recs.filter fun r => changed.contains r.target && decide (g.pos < r.src) && noticed g.notices r.src lane r.pos
  let links := (both.map fun r => (r.src, r.pos, r.plane, r.target)).eraseDups
  (links.map fun k =>
    match (both.filter fun r => (r.src, r.pos, r.plane, r.target) == k).getLast? with
    | some r => s.crossTerm e r.plane r.code (ln.snap.getLsbD r.target) r.post
    | none => 0).sum

/-- A rolled-back spin set to the value it held before, in the lane and in its snapshot, with its journal entry and its links
queued (R128 steps 1 and 5). -/
def State.rollSpin (s : State) (e l i : Nat) : State :=
  let n := 4 * e + l
  let ln := s.lane n
  let g := s.engine e
  let post := !ln.spins.getLsbD i
  let first := ((g.linkIndex[i]?).getD 0).toNat
  let links := g.linkCount i
  let at_ : Int := (match g.ctx with | some x => s.tau x | none => 0) * 1024 + 64 + l
  let s := s.setLane n { ln with
    spins := setSpin ln.spins i post
    snap := setSpin ln.snap i post
    flips := if links = 0 then ln.flips else ln.flips ++ [⟨i, 64, post⟩]
    rolled := ln.rolled ++ [i] }
  if links = 0 then s else s.setEngine e { g with queue := g.queue ++ [{
    next := first, stop := first + links, lane := l, src := i, cycle := 64, post := post, roll := true, tent := false,
    undo := 0, tag := 0, de := 0, ready := at_ }] }

/-- The rollbacks of a lane's resolution point (R128, R129). -/
def State.rollback (s : State) (e l : Nat) (recs : List InRec) (lost : List Nat) : State :=
  let n := 4 * e + l
  let ln := s.lane n
  let changed := changers ln lost
  if changed.isEmpty then s else
  let rho := (changed.map fun i => s.evaluate e ln.spins ln.field i).sum - s.pairTerm e ln.spins false changed
  let f := snapFields ln recs
  let rhoSnap := (changed.map fun i => s.evaluate e ln.snap f i).sum - s.pairTerm e ln.snap false changed
  let notice := s.noticeTerms e l ln recs changed
  let s := s.each changed fun s i => (s.rollSpin e l i).withdrawSpin n i
  let s := s.each changed fun s i => s.applyRow e l i (spinOf ln.spins i) false
  (s.addEnergy e l (rho * (2 ^ s.db e : Nat))).addSnap n (rhoSnap * (2 ^ s.db e : Nat) + notice)

/-! ## Live patches at the resolution point -/

/-- Position in its block of a spin index. -/
def posOf (a : Nat) : Nat := a % 1024

/-- Whether two items name one coefficient (R386). -/
def sameCoef (x y : Item) : Bool :=
  x.kind == y.kind && x.plane == y.plane &&
    ((x.a == y.a && x.b == y.b) || (x.kind == 1 && x.a == y.b && x.b == y.a))

/-- The graph version that a launch holds. -/
def State.versionOf (s : State) (c : Nat) : Option Version :=
  (s.launch c).bind fun l => (s.graph l.graph).bind fun g => g.versions.find? fun v => v.num == l.version

/-- Graph block that an engine's logical block carries: `block mod B` (R141). -/
def State.graphBlock (s : State) (c e : Nat) : Nat := match s.versionOf c with
  | some v => if v.coeffs.blocks = 0 then (s.engine e).block else (s.engine e).pos % v.coeffs.blocks
  | none => (s.engine e).block

/-- The bias code in force of a spin of an engine (R60). -/
def State.biasOf (s : State) (c e plane i : Nat) : Int := match s.versionOf c with
  | some v => (sget 0 v.coeffs.bias ((2 * s.graphBlock c e + plane) * 1024 + i)).toInt
  | none => 0

/-- The value that an item replaces: what the last item before it on the same coefficient left, else the one in force. -/
def State.oldOf (s : State) (c e : Nat) (earlier : List Item) (x : Item) : Int :=
  match (earlier.filter (sameCoef x)).getLast? with
  | some y => if x.kind = 1 then codeValue (BitVec.ofNat 4 y.new) else signed 16 y.new
  | none =>
    if x.kind = 1 then codeValue (s.storedCode e x.plane (posOf x.a) (posOf x.b))
    else s.biasOf c e x.plane (posOf x.a)

/-- One change item taken by a lane (R133). A proposal that holds a spin which it freezes is withdrawn (log 130); an item of a plane marked EMPTY
changes nothing in the engine (log 131). -/
def State.takeItem (s : State) (c e l : Nat) (earlier : List Item) (x : Item) : State :=
  let ln := s.lane (4 * e + l)
  let i := posOf x.a
  let j := posOf x.b
  if x.kind = 3 then
    let s := s.setEngine e { s.engine e with frozen := setSpin (s.engine e).frozen i (x.new % 2 == 1) }
    if x.new % 2 = 1 then s.withdrawSpin (4 * e + l) i else s
  else if s.emptyPlane e x.plane then s
  else if x.kind = 1 then
    let d := codeValue (BitVec.ofNat 4 x.new) - s.oldOf c e earlier x
    ((s.addField e l x.plane i (d * spinOf ln.spins j)).addField e l x.plane j (d * spinOf ln.spins i)).addEnergy e l
      (-d * s.unit e x.plane * spinOf ln.spins i * spinOf ln.spins j)
  else
    let d := signed 16 x.new - s.oldOf c e earlier x
    (s.addField e l x.plane i d).addEnergy e l (-d * s.unit e x.plane * spinOf ln.spins i)

/-- The items of a patch taken in order. -/
def State.takeItems (s : State) (c e l : Nat) : List Item → List Item → State
  | _, [] => s
  | earlier, x :: rest => (s.takeItem c e l earlier x).takeItems c e l (earlier ++ [x]) rest

/-- The overlay after a code item: the later item on a position wins (R132, R386). -/
def overlayPut (o : List (Nat × Nat × Nat × BitVec 4)) (x : Item) : List (Nat × Nat × Nat × BitVec 4) :=
  if x.kind = 1 then
    (o.filter fun q => !(q.1 == x.plane && ((q.2.1 == posOf x.a && q.2.2.1 == posOf x.b) ||
      (q.2.1 == posOf x.b && q.2.2.1 == posOf x.a)))) ++ [(x.plane, posOf x.a, posOf x.b, BitVec.ofNat 4 x.new)]
  else o

/-- The patch of a lane's resolution point (R119, R132): only when all votes are present, and no fault makes the tick's verdicts void (R135). -/
def State.patchLane (s : State) (c e l : Nat) : State :=
  let g := s.engine e
  match s.launch c with
  | some ln =>
    if ln.vote = some true && !ln.void && !ln.windowOnly && !g.items.isEmpty then
      let s := s.takeItems c e l [] g.items
      s.setEngine e { s.engine e with overlay := g.items.foldl overlayPut g.overlay }
    else s
  | none => s

/-! ## The lane digest (R283) -/

/-- One word folded into a digest. -/
def digestFold (x : Nat) (w : Nat) : Nat :=
  let y := (x ^^^ w) * 0x9E6C63D0676A9A99 % 2 ^ 64
  y ^^^ y / 2 ^ 29

/-- The words that a lane folds in at digest tick `u`. -/
def State.digestWords (s : State) (n : Nat) (u : Int) : List Nat :=
  let ln := s.lane n
  [unsign 64 u] ++ ((List.range 16).map fun w => bits ln.snap.toNat (64 * w) 64) ++
    [unsign 64 (s.sfld F.shfSnapEnergySnap n), unsign 64 (s.sfld F.shfLowLow n), unsign 64 ln.bestEnergy.toInt,
      s.fld F.shfStuckStateOffset n * 2 ^ 20 + s.fld F.shfStuckStateCount n]

/-- Whether the launch tick lies in the window of a replay, where every tick is a digest tick (R285). -/
def Launch.inWindow (l : Launch) : Bool := match l.replay with
  | some r => decide (r.windowStart ≤ r.windowEnd ∧ (r.windowStart : Int) ≤ l.tau ∧ l.tau ≤ r.windowEnd)
  | none => false

/-- Whether a launch tick is a digest tick: every 64 ticks (R283), and every tick of a replay window (R285). -/
def Launch.digestTick (l : Launch) : Bool :=
  decide (0 ≤ l.tau) && decide (l.tau < l.sched.ticks) && !l.windowOnly && (l.tau % 64 == 0 || l.inWindow)

/-- A digest formed out of the one before it, the lane's identity at launch tick 0 (R283). -/
def State.digestFrom (s : State) (n : Nat) (u : Int) (ident : Nat) (d : Word) : Word :=
  BitVec.ofNat 64 ((s.digestWords n u).foldl digestFold (if u = 0 then ident else d.toNat))

/-- A lane forms its digest in a digest tick. In a replay window the per-tick digests are a chain of their own, which starts from the last
digest of R283, so that the chain of R283 stays comparable with the reference (DEDUCED, log 150). -/
def State.digestLane (s : State) (c e l : Nat) : State :=
  let n := 4 * e + l
  match s.launch c with
  | some ln =>
    if ln.digestTick then
      let x := s.lane n
      let ident := laneIdent (s.engine e).rank (s.engine e).block l
      let d := if ln.tau % 64 = 0 then s.digestFrom n ln.tau ident x.digest else x.digest
      s.setLane n { x with digest := d, windowDigest := if ln.inWindow then s.digestFrom n ln.tau ident x.windowDigest else d }
    else s
  | none => s

/-- The digest that the block of a tick holds for a lane: in a replay window the window's. -/
def State.shownDigest (s : State) (l : Launch) (n : Nat) : Word := if l.inWindow then (s.lane n).windowDigest else (s.lane n).digest

/-! ## The resolution point -/

/-- Everything a lane does at its resolution point (R119). A tick whose verdicts a fault makes void rolls nothing back (R135). -/
def State.resolve (s : State) (c e l : Nat) : State :=
  let n := 4 * e + l
  let g := s.engine e
  let ln := s.lane n
  let recs := recsOf g.tiles l
  let prev := recsOf g.tilesPrev l
  let corr := s.correction e ln recs prev
  let lost := if (s.launch c).any (·.void) then [] else s.losers e l ln recs prev
  let s := recs.foldl (fun s r => if s.emptyPlane e r.plane then s else
    s.addField e l r.plane r.target (2 * codeValue r.code * pm r.post)) s
  let s := (s.addEnergy e l corr).addSnap n corr
  let s := s.rollback e l recs lost
  let s := s.patchLane c e l
  let s := s.setLane n { s.lane n with undoPrev := [], latched := [], resolved := true }
  s.digestLane c e l

/-- A digest formed after a restore differs from the one written before it (R276). -/
def State.digestDiffers (s : State) (c e l : Nat) : Bool :=
  match s.launch c with
  | some ln => ln.digestTick && ln.checkUntil.isSome &&
    match (s.ctx c).digests.find? fun d => (d.1 : Int) == ln.tau with
    | some d =>
      let lanes := ((s.enginesOf c).flatMap fun x => (List.range 4).filterMap fun k =>
        if (s.fld F.shfCtrlLaneEn x).testBit k then some (4 * (s.engine x).pos + k) else none).mergeSort (· ≤ ·)
      let me := 4 * (s.engine e).pos + l
      let at_ := lanes.idxOf me
      lanes.contains me && leNat ((d.2.drop (32 + 8 * at_)).take 8) != (s.shownDigest ln (4 * e + l)).toNat
    | none => false
  | none => false

/-- Whether a patch or a switch of a launch takes effect in this tick, so that its engines vote: an apply tick, or tick u + 1 of a drain
(R132, R134). -/
def State.voting (s : State) (c : Nat) : Bool := (s.launch c).any fun l =>
  if l.windowOnly then l.drain.any fun d => d.2.2 == 3 else s.applyTick c

/-- Before the first resolution point of a tick: a notice or a vote that a faulty engine did not deliver makes the verdicts void (R135). -/
def State.checkVerdicts (s : State) (c : Nat) : State :=
  if (s.enginesOf c).all fun e => (List.range 4).all fun k => !(s.lane (4 * e + k)).resolved then
    s.modLaunch c fun l => { l with void := s.noticeMissing c || (!l.windowOnly && s.applyTick c && l.vote != some true) }
  else s

/-- VOTE_CAST (R132, R134): in cycles 16–23 every engine votes on a patch or switch of the tick. -/
def execVoteCast (e : EngineId) (s : State) : Out :=
  .next (s.within 16 23 fun s' =>
    match (s.engine e.ix).ctx with
    | some c => if s'.moving c && s.voting c then s'.setEngine e.ix { s.engine e.ix with voted := true } else s
    | none => s)

/-- VOTE_RESULT (R132, R291): the result is positive only when every engine of the launch voted. -/
def execVoteResult (c : CtxId) (s : State) : Out :=
  .next (s.within 56 63 fun s' =>
    if s'.moving c.val && s.voting c.val then
      s'.modLaunch c.val fun l => { l with vote := some ((s.enginesOf c.val).all fun e => (s.engine e).voted) }
    else s)

/-- A code written into the sheaf store (R132). -/
def State.putCode (s : State) (e plane i j : Nat) (c : BitVec 4) : State :=
  let a := sheafAt e (plane * 0x80000 + i * 512 + j / 2)
  let old := (s.rd a).toNat
  s.wrN a [BitVec.ofNat 8 (if j % 2 = 0 then old / 16 * 16 + c.toNat else old % 16 + c.toNat * 16)]

/-- The overlay's codes written at both mirrored positions of the sheaf store, and the overlay cleared (R132). -/
def State.flushOverlay (s : State) (e : Nat) : State :=
  let g := s.engine e
  if g.overlay.isEmpty then s else
  (g.overlay.foldl (fun s o => (s.putCode e o.1 o.2.1 o.2.2.1 o.2.2.2).putCode e o.1 o.2.2.1 o.2.1 o.2.2.2) s).setEngine e
    { g with overlay := [] }

/-- PATCH_OVERLAY_WRITEBACK (R132): from cycle 67 on, once every enabled lane has resolved. A read finds the same codes in the overlay and in the
store, so the cycle of cycles 67–99 at which it falls shows nowhere. -/
def execPatchOverlayWriteback (e : EngineId) (s : State) : Out :=
  .next (s.within 67 1023 fun s' =>
    if (List.range 4).all fun l => (s.lane (4 * e.ix + l)).resolved || !(s.fld F.shfCtrlLaneEn e.ix).testBit l then s'.flushOverlay e.ix else s)

end Sys2Proof.Machine
end

