-- ==== Sys2Proof/Machine/Mailbox.lean ====
section
/-!
DEFINITION. Mailbox messages (R351–R358): taking, sequence check, response; completion words (R365–R367), streams (R361–R364)
and fences (R368).
-/
namespace Sys2Proof.Machine

/-! ## Status codes (R357) -/

def stOk : Nat := 0x00
def stAgain : Nat := 0x01
def stBusy : Nat := 0x02
def stNoSlot : Nat := 0x03
def stNotOwner : Nat := 0x04
def stLate : Nat := 0x05
def stRetired : Nat := 0x06
def stConcord : Nat := 0x07
def stSkew : Nat := 0x08
def stEntNotReady : Nat := 0x09
def stEntFailed : Nat := 0x0A
def stHeld : Nat := 0x0B
def stWatchdog : Nat := 0x0C
def stQuarantined : Nat := 0x0D
def stDegraded : Nat := 0x0E
def stLevel : Nat := 0x0F
def stCapacity : Nat := 0x10
def stPoisoned : Nat := 0x11
def stAuthFailed : Nat := 0x12

/-! ## Messages (R352) -/

/-- `n` bytes of a list from an offset, as a number. -/
def bytesAt (l : List Byte) (off n : Nat) : Nat := leNat ((l.drop off).take n)

/-- A message: its header fields and its payload (R352). -/
structure Msg where
  opcode : Nat
  stage : Bool
  seq : Nat
  ctx : Nat
  graph : Nat
  payload : List Byte
  stageOff : Nat
  stageLen : Nat
  deriving DecidableEq, Repr

/-- A message slot taken apart (R352). -/
def parseMsg (b : List Byte) : Msg where
  opcode := bits (bytesAt b 0 4) 24 8
  stage := bits (bytesAt b 0 4) 16 1 == 1
  seq := bytesAt b 4 4
  ctx := bytesAt b 8 4 % 2 ^ 14
  graph := bytesAt b 12 4 % 2 ^ 12
  payload := (b.drop 32).take (bytesAt b 16 1)
  stageOff := bytesAt b 0x14 4 % 2 ^ 26
  stageLen := bytesAt b 0x18 4 % 2 ^ 26

/-- A payload field of `n` bytes. -/
def Msg.p (m : Msg) (off n : Nat) : Nat := bytesAt m.payload off n

/-- The staged bytes a message names (R360). -/
def State.stagedOf (s : State) (m : Msg) : List Byte := s.rdN (stagingAt m.stageOff) m.stageLen

/-- An answer of the Badger: status, DETAIL and response payload. -/
structure Reply where
  status : Nat
  detail : Nat := 0
  payload : List Byte := []
  deriving DecidableEq, Repr

def State.chan (s : State) (n : Nat) : Chan := sget {} s.chans n
def State.setChan (s : State) (n : Nat) (v : Chan) : State := { s with chans := sput {} s.chans n v }

/-- Base of a channel's slots in memory. -/
def slotAt (n off : Nat) : Nat := Space.mailbox.base + n * 1024 + off

/-- A response slot (R355). -/
def responseBytes (n opcode seq t status orig detail : Nat) (payload : List Byte) : List Byte :=
  padTo 256 (leBytes 4 (opcode * 2 ^ 24 + status * 2 ^ 16 + orig * 2 ^ 8 + n) ++ leBytes 4 seq ++ leBytes 8 t ++
    leBytes 4 payload.length ++ leBytes 4 detail ++ leBytes 8 0 ++ payload)

/-- A channel reset (R370): LAST, the history and DROPPED. -/
def State.resetChan (s : State) (n : Nat) : State :=
  ((s.setFld F.mbxStatusLast n 0xFFFFFFFF).setFld F.mbxStatusDropped n 0).setChan n { s.chan n with history := [], resetAsked := false }

/-- The response slot written, BUSY cleared, and a reset that waited carried out (R355, R370). -/
def State.post (s : State) (n : Nat) (slot : List Byte) : State :=
  let s := (s.wrN (slotAt n 256) slot).setFld F.mbxStatusBusy n 0
  let s := s.setChan n { s.chan n with msg := none, waits := false }
  if (s.chan n).resetAsked then s.resetChan n else s

/-- The end of an executed message (R355, R356): LAST, the history of at most 256 responses, the response. -/
def State.respond (s : State) (n : Nat) (m : Msg) (r : Reply) : State :=
  let slot := responseBytes n m.opcode m.seq s.tick r.status r.status r.detail r.payload
  let h := (s.chan n).history ++ [(m.seq, slot)]
  let s := s.setChan n { s.chan n with history := h.drop (h.length - 256) }
  s.post n slot

/-- What the sequence check finds (R356). -/
inductive SeqCheck where
  | execute
  | again (slot : List Byte)
  | late
  deriving DecidableEq, Repr

/-- The sequence check (R356). -/
def State.seqCheck (s : State) (n seq : Nat) : SeqCheck :=
  let d := (seq + 2 ^ 32 - s.fld F.mbxStatusLast n) % 2 ^ 32
  if 1 ≤ d ∧ d ≤ 2 ^ 31 - 1 then .execute
  else match (s.chan n).history.find? fun h => h.1 == seq with
    | some h => .again h.2
    | none => .late

/-- A stored response with status ANSWERED_AGAIN; ORIG_STATUS keeps the first (R355, R356). -/
def answeredAgain (slot : List Byte) : List Byte :=
  slot.take 2 ++ [BitVec.ofNat 8 stAgain] ++ slot.drop 3

/-! ### Overlapping copies (R360, R11) -/

/-- Two spans have a byte in common. -/
def overlaps (a n b m : Nat) : Bool := decide (a < b + m) && decide (b < a + n)

/-- Another message in progress names staged bytes of this one's. -/
def State.stagedClash (s : State) (n : Nat) (m : Msg) : Bool := m.stage && s.chans.any fun x => x.1 != n && x.2.msg.any fun b =>
  (parseMsg b).stage && overlaps m.stageOff m.stageLen (parseMsg b).stageOff (parseMsg b).stageLen

/-- The image that a message brings a part of: a graph's, or a context's. -/
def Msg.image (m : Msg) : Option (Bool × Nat) :=
  if m.opcode = 0x04 then some (true, m.graph) else if m.opcode = 0x07 ∨ (m.opcode = 0x0A ∧ m.stage) then some (false, m.ctx) else none

/-- The bytes of an image that have come. -/
def State.imageSoFar (s : State) (k : Bool × Nat) : List Byte :=
  if k.1 then ((s.graph k.2).map (·.staged)).getD [] else (s.ctx k.2).staged

/-- A message brings a part that overlaps one before it of the same image. -/
def State.partClash (s : State) (m : Msg) : Bool := match m.image with
  | some k => !(s.imageSoFar k).isEmpty && s.parts.any fun x => x.1 == k && overlaps (m.p 0 8) m.stageLen x.2.1 x.2.2
  | none => false

/-- The staged bytes of a message hold anything (R10). -/
def State.openStaged (s : State) (m : Msg) : State := let r := s.openBytes m.stageLen; r.2.wrN (stagingAt m.stageOff) r.1

/-- The parts of the images on their way, after a message. -/
def State.notePart (s : State) (m : Msg) : State := match m.image with
  | some k =>
    let rest := s.parts.filter fun x => x.1 != k || !(s.imageSoFar k).isEmpty
    { s with parts := if m.p 8 4 % 2 = 1 then rest.filter (·.1 != k) else if (s.imageSoFar k).isEmpty then rest else
      rest ++ [(k, m.p 0 8, m.stageLen)] }
  | none => s

/-- What executing a message comes to: an answer now, or the message waits for a later event. -/
inductive Done where
  | answer (r : Reply) (s : State)
  | wait (s : State)

/-- A message executed. Where its staged bytes are those of another message in progress, they hold anything, before and after; where it brings
a part that overlaps another, the part does (R360, R11). -/
def State.execute (s : State) (n : Nat) (m : Msg) (body : Msg → State → Done) : Done :=
  let clash := s.stagedClash n m
  let was := s.stagedOf m
  let part := s.partClash m
  let after := fun (t : State) =>
    (if clash then t.openStaged m else if part then t.wrN (stagingAt m.stageOff) was else t).notePart m
  match body m (if clash || part then s.openStaged m else s) with
  | .answer r t => .answer r (after t)
  | .wait t => .wait (after t)

/-- A command of an opcode (R354–R356): it takes up the message in progress on its channel when that carries the opcode and has
not been executed. LAST is set when the message executes. A channel with no such message is left as it is (log 12). -/
def State.message (s : State) (ch : Chan) (n opcode : Nat) (body : Msg → State → Done) : State :=
  match ch.msg with
  | none => s
  | some b =>
    let m := parseMsg b
    if m.opcode ≠ opcode ∨ ch.waits then s else
    match s.seqCheck n m.seq with
    | .execute =>
      match (s.setFld F.mbxStatusLast n m.seq).execute n m body with
      | .answer r s => s.respond n m r
      | .wait s => s.setChan n { s.chan n with waits := true }
    | .again slot => s.post n (answeredAgain slot)
    | .late => s.post n (responseBytes n m.opcode m.seq s.tick stLate stLate 0 [])

/-- The message that waits on a channel ends with an answer. -/
def State.endWait (s : State) (n : Nat) (r : Reply) : State :=
  match (s.chan n).msg with
  | some b => s.respond n (parseMsg b) r
  | none => s

/-- A message arrives at a channel (R353, R354): taken, discarded as a repeat of the one in progress, or dropped and counted. -/
def State.arrive (s : State) (n : Nat) (slot : List Byte) : State :=
  let s' := s.wrN (slotAt n 0) slot
  if 224 < bytesAt slot 16 1 then s.bump F.mbxStatusDropped n 1
  else match (s.chan n).msg with
    | some b => if bytesAt b 4 4 = bytesAt slot 4 4 then s else s.bump F.mbxStatusDropped n 1
    | none => (s'.setFld F.mbxStatusBusy n 1).setChan n { s.chan n with msg := some (padTo 256 slot), waits := false }

/-! ## Completion words, streams and fences -/

/-- Whether `a` lies above `b` in the serial order of R356. -/
def serialAbove (a b : Nat) : Bool := decide (1 ≤ (a + 2 ^ 32 - b) % 2 ^ 32) && decide ((a + 2 ^ 32 - b) % 2 ^ 32 ≤ 2 ^ 31 - 1)

/-- A write applied to a completion word at a tick (R366, R367). -/
def doneOnce (tick : Nat) (w : Word) (x : Nat × Nat) : Word :=
  let new := BitVec.ofNat 64 (x.1 * 2 ^ 32 + x.2 * 2 ^ 24 + tick % 2 ^ 24)
  if bits w.toNat 24 8 ≠ 0 then w
  else if x.2 ≠ 0 ∨ serialAbove x.1 (bits w.toNat 32 32) then new else w

/-- The writes of one cycle applied to a completion word: those with OK first, by SEQ, then the others by SEQ, of which the first counts
(R366). -/
def doneAll (tick : Nat) (w : Word) (l : List (Nat × Nat)) : Word :=
  let order := fun (l : List (Nat × Nat)) => l.mergeSort fun x y => decide (x.1 ≤ y.1)
  (order (l.filter (·.2 == 0)) ++ order (l.filter (·.2 != 0))).foldl (doneOnce tick) w

/-- A write to a completion word (R366). -/
def State.done (s : State) (x seq status : Nat) : State :=
  let new := (s.reg .doneWord x, [(seq, status)])
  let y := match (s.stream x).writes with
    | some (t, w, l) => if t = s.now then (w, l ++ [(seq, status)]) else new
    | none => new
  (s.setReg .doneWord x (doneAll s.tick y.1 y.2)).setStream x { s.stream x with writes := some (s.now, y.1, y.2) }

/-- A stream has ended: its completion word holds a status other than OK (R364). -/
def State.streamEnded (s : State) (x : Nat) : Bool := s.fld F.doneWordStatus x != 0

/-- A stream ends with a status (R364, R365): SEQ of its last completed entry; what waits in it is dropped. -/
def State.endStream (s : State) (x status : Nat) : State :=
  (s.done x (s.stream x).seq status).setStream x { s.stream x with waiting := [], deadline := none }

/-- A launch's stream ends with the launch (R365, R428): SEQ of the message that named the stream; what waits in it is dropped. -/
def State.endLaunchStream (s : State) (l : Launch) (status : Nat) : State :=
  (s.done l.stream l.seq status).setStream l.stream { s.stream l.stream with waiting := [], deadline := none }

/-- The watchdog limit of a stream in ticks restarts (R364): `ms` milliseconds of 975.2 ns ticks. -/
def msTicks (ms : Nat) : Nat := ceilDiv (ms * 1000000000) 975238

/-- The limit a stream counts with: its own, or DEFAULT_MS, whose 0 reads as 1 (R364, R370). -/
def State.limitMs (s : State) (x : Nat) : Nat :=
  let own := (s.stream x).limit
  if own = 0 then max 1 (s.fld F.hubWatchdogDefaultMs 0) else own

/-- The watchdog of a stream restarts (R364). -/
def State.rewatch (s : State) (x : Nat) : State :=
  s.setStream x { s.stream x with deadline := some (s.tick + msTicks (s.limitMs x)) }

/-- A stream may be named by a context: free, or bound to it (R361). -/
def State.streamFree (s : State) (x c : Nat) : Bool := match (s.stream x).ctx with
  | none => true
  | some k => k == c

/-- A stream is bound to a context (R361). -/
def State.bind (s : State) (x c : Nat) : State := s.setStream x { s.stream x with ctx := some c }

/-- A fence counter rises (R368); it wraps modulo 2^64. -/
def State.fence (s : State) (f : Nat) (n : Nat) : State := s.setReg .fncValue f (s.reg .fncValue f + BitVec.ofNat 64 n)

/-- Whether a fence has reached a value (R235, R363). -/
def State.fenceAt (s : State) (f : Nat) (v : Nat) : Bool := decide (v ≤ (s.reg .fncValue f).toNat)

end Sys2Proof.Machine
end

