-- ==== Sys2Proof/Machine/Graphs.lean ====
section
/-!
DEFINITION. Graphs, versions and patches (R380–R392): the bounds of R64, image hashes, users and retirement, version patches,
live patches; and the allocation of GDDR 7 segments and of journal records that they rest on.
-/
namespace Sys2Proof.Machine

/-! ## GDDR 7 segments (R330) -/

/-- Whether a physical field die is lost (R441). -/
def State.dieLost (s : State) (d : Nat) : Bool := (s.fld F.fltStatusDieLost 0).testBit d

/-- The next field die in service eastward of `d`; `d` itself when there is no other (R321). -/
def State.nextDie (s : State) (d : Nat) : Nat :=
  (((List.range 7).map fun k => (d + 1 + k) % 8).find? fun x => !s.dieLost x).getD d

/-- Free physical segments of a die. -/
def State.freeSegs (s : State) (d : Nat) : List Nat :=
  (List.range 256).filter fun k => s.fld F.gddSegOwner (d * 256 + k) == 0

/-- Segments marked as a module object, home or mirror (R344). -/
def State.markSegs (s : State) (d : Nat) (l : List Nat) (mirror : Nat) : State :=
  s.each l fun s k => s.setReg .gddSeg (d * 256 + k) (BitVec.ofNat 64 (2 * 4 + mirror * 2 + 1))

/-- A KEEP module object of `n` segments placed on the lowest die in service with room, mirrored on the next die eastward
(R321, R330; which die and which segments, log 13). -/
def State.allocKeep (s : State) (n : Nat) : Option (List Nat × State) :=
  let fits := fun d => !s.dieLost d && decide (n ≤ (s.freeSegs d).length) &&
    (s.nextDie d == d || decide (n ≤ (s.freeSegs (s.nextDie d)).length))
  ((List.range 8).find? fits).map fun d =>
    let home := (s.freeSegs d).take n
    let e := s.nextDie d
    let copy := if e = d then [] else (s.freeSegs e).take n
    (home.map (256 * d + ·) ++ copy.map (256 * e + ·), (s.markSegs d home 0).markSegs e copy 1)

/-- Segments given back. -/
def State.freeObject (s : State) (l : List Nat) : State := s.each l fun s k => s.setReg .gddSeg k 0

/-- 80 MiB segments that hold a number of bytes. -/
def segsFor (n : Nat) : Nat := ceilDiv n 83886080

/-! ## The replay journal (R280–R282) -/

end Sys2Proof.Machine

namespace Sys2Proof
open Sys2Proof.Machine

/-- Record type of a journal record (R281). -/
def JBody.type : JBody → Nat
  | .start .. => 1
  | .patch _ => 2
  | .input _ => 3
  | .staged _ => 3
  | .vresult .. => 4
  | .digest _ => 5
  | .host .. => 6
  | .recovery .. => 7
  | .fin _ => 8

/-- Payload of a record (R281): the data of an input, the module digest of a digest tick; of the others the manual names the fields only. -/
def JBody.payload : JBody → List Byte
  | .input data => data
  | .staged data => data
  | .digest d => leBytes 8 d.toNat
  | b => Config.journalPayload b

/-- Bytes of a record: header, and payload padded to 32 bytes (R280). -/
def JBody.size (b : JBody) : Nat := 32 + 32 * ceilDiv b.payload.length 32

end Sys2Proof

namespace Sys2Proof.Machine

/-- Bytes of a journal. -/
def journalSize (l : List JRec) : Nat := (l.map fun r => JBody.size r.body).sum

/-- Whether a record fits the journal area of a context (R282). -/
def State.journalFits (s : State) (c : Nat) (b : JBody) : Bool :=
  decide (journalSize (s.ctx c).journal + JBody.size b ≤ (s.ctx c).journalMiB * 2 ^ 20)

/-- A record appended where it fits; else it is not written (R282). -/
def State.journal (s : State) (c : Nat) (b : JBody) (tau : Int) (cycle : Nat) : State :=
  if s.journalFits c b then
    let x := s.ctx c
    s.setCtx c { x with journal := x.journal ++ [⟨b, x.journalNext, tau, cycle, s.tick⟩], journalNext := x.journalNext + 1 }
  else s

/-- The PATCH records of a patch: a payload longer than a record holds goes into a second one (R281). -/
def patchRuns (items : List Item) : List JBody :=
  if items.length ≤ 1000000 then [.patch items] else [.patch (items.take 1000000), .patch (items.drop 1000000)]

/-- Whether all of a list of records fit the journal area (R282). -/
def State.journalFitsAll (s : State) (c : Nat) (l : List JBody) : Bool :=
  decide (journalSize (s.ctx c).journal + (l.map JBody.size).sum ≤ (s.ctx c).journalMiB * 2 ^ 20)

/-! ## Coefficients and their bounds (R64) -/

/-- Exponent of a scale word (R56). -/
def scaleExp (w : BitVec 16) : Int := signed 6 (bits w.toNat 8 6)

end Sys2Proof.Machine

namespace Sys2Proof
open Sys2Proof.Machine

def Coeffs.word (c : Coeffs) (b p : Nat) : BitVec 16 := sget 0 c.scale (2 * b + p)
def Coeffs.empty (c : Coeffs) (b p : Nat) : Bool := scaleEmpty (c.word b p).toNat
def Coeffs.exp (c : Coeffs) (b p : Nat) : Int := scaleExp (c.word b p)
def Coeffs.code (c : Coeffs) (b p i j : Nat) : Int := codeValue (sget 0 c.codes (((2 * b + p) * 1024 + i) * 1024 + j))
def Coeffs.biasCode (c : Coeffs) (b p i : Nat) : Int := (sget 0 c.bias ((2 * b + p) * 1024 + i)).toInt

/-- The exponents of all scale words not marked EMPTY. -/
def Coeffs.exps (c : Coeffs) : List Int :=
  (List.range c.blocks).flatMap fun b => [0, 1].filterMap fun p => if c.empty b p then none else some (c.exp b p)

/-- e_G (R59). -/
def Coeffs.eG (c : Coeffs) : Int := match c.exps with
  | [] => 0
  | e :: rest => rest.foldl min e

/-- e_min,b (R59). -/
def Coeffs.eMin (c : Coeffs) (b : Nat) : Int :=
  if c.empty b 0 then (if c.empty b 1 then c.eG else c.exp b 1)
  else if c.empty b 1 then c.exp b 0 else min (c.exp b 0) (c.exp b 1)

/-- Plane shift SH_P or SH_Q (R59). -/
def Coeffs.sh (c : Coeffs) (b p : Nat) : Nat := if c.empty b p then 0 else (c.exp b p - c.eMin b).toNat

/-- DB (R59). -/
def Coeffs.db (c : Coeffs) (b : Nat) : Nat := (c.eMin b - c.eG).toNat

end Sys2Proof

namespace Sys2Proof.Machine

/-- Fields of a link entry (R65). -/
def linkTarget (w : BitVec 32) : Nat := bits w.toNat 0 23
def linkPlane (w : BitVec 32) : Nat := bits w.toNat 23 1
def linkCode (w : BitVec 32) : BitVec 4 := BitVec.ofNat 4 (bits w.toNat 24 4)
def linkFar (w : BitVec 32) : Nat := bits w.toNat 28 2

end Sys2Proof.Machine

namespace Sys2Proof
open Sys2Proof.Machine

/-- Graph spin index that a link entry of a source targets (R29, R65, R67). -/
def Coeffs.linkTo (c : Coeffs) (src : Nat) (w : BitVec 32) : Nat :=
  let rank := if linkFar w = 0 then src / 2 ^ 23 else (((sget [] c.far (src / 1024))[linkFar w - 1]?).getD 0).toNat
  rank * 2 ^ 23 + linkTarget w

/-- Sum of the magnitudes at spin `i` of block `b` on a plane: in-block codes of its row, link codes arriving, bias (R64). -/
def Coeffs.magnitude (c : Coeffs) (b p i : Nat) : Nat :=
  ((List.range 1024).map fun j => if j = i then 0 else (c.code b p i j).natAbs).sum +
  ((c.links.filter fun l => c.linkTo l.1 l.2 == 1024 * b + i && linkPlane l.2 == p).map fun l => (codeValue (linkCode l.2)).natAbs).sum +
  (c.biasCode b p i).natAbs

/-- A block breaks a bound of R64 other than the energy bound. -/
def Coeffs.blockBad (c : Coeffs) (b : Nat) : Bool :=
  ((List.range 1024).any fun i =>
    decide (524287 < c.magnitude b 0 i) || decide (524287 < c.magnitude b 1 i) ||
    decide (2147483647 < 2 * c.mantissa * (c.magnitude b 0 i * 2 ^ c.sh b 0 + c.magnitude b 1 i * 2 ^ c.sh b 1))) ||
  ([0, 1].any fun p => !c.empty b p && c.exps.any fun e => decide (c.exp b p + 16 < e)) ||
  decide (262144 < (c.links.filter fun l => l.1 / 1024 == b).length) ||
  c.exacts.any fun x => bits x.toNat 32 29 / 1024 == b && (ofF32 (bits x.toNat 96 32)).isNone

/-- The magnitudes counted at a block by the energy bound, in graph energy units (R64). -/
def Coeffs.blockEnergy (c : Coeffs) (b : Nat) : Nat :=
  let unit := fun (t p : Nat) => if c.empty t p then 0 else c.mantissa * 2 ^ (c.exp t p - c.eG).toNat
  ([0, 1].map fun p =>
    ((List.range 1024).map fun i =>
      (((List.range 1024).map fun j => if i < j then (c.code b p i j).natAbs else 0).sum + (c.biasCode b p i).natAbs) * unit b p).sum).sum +
  ((c.links.filter fun l => l.1 / 1024 == b && decide (l.1 < c.linkTo l.1 l.2)).map fun l =>
    (codeValue (linkCode l.2)).natAbs * unit (c.linkTo l.1 l.2 / 1024) (linkPlane l.2)).sum

/-- The lowest block at which a bound of R64 fails. -/
def Coeffs.firstBad (c : Coeffs) : Option Nat :=
  (List.range c.blocks).find? fun b =>
    c.blockBad b || decide (2 ^ 47 - 1 < ((List.range (b + 1)).map c.blockEnergy).sum)

end Sys2Proof

namespace Sys2Proof.Machine

/-! ## Versions (R381, R382) -/

/-- First 64 bits of a SHA-384 digest (R381). -/
def hash64 (l : List Byte) : Word := BitVec.ofNat 64 ((Config.sha384 l).toNat / 2 ^ 320)

/-- Whether a context uses a graph version (R382); an audit in progress uses that of its tick (R160). -/
def Ctx.uses (x : Ctx) (g v : Nat) : Bool :=
  match x.state with
  | .free => false
  | .opened => x.results.any fun r => r.graph == g && r.version == v
  | _ =>
    (x.launch.any fun l => l.graph == g && (l.version == v || l.patches.any (·.version == v) || l.audits.any (·.version == v))) ||
    (x.state == .saved && x.saved.any fun w => w.graph == g && (w.version == v || w.patches.any (·.version == v) || w.audits.any (·.version == v)))

/-- Contexts that use a version. -/
def State.users (s : State) (g v : Nat) : List Nat := keysWhere s.ctxs fun x => x.uses g v

/-- The newest version: the highest-numbered that has not retired (R381). -/
def Graph.newest (g : Graph) : Option Version :=
  (g.versions.filter fun v => v.state != .retired).foldl (fun b v => match b with
    | none => some v
    | some w => if w.num < v.num then some v else some w) none

/-- The highest version number a graph has used. -/
def Graph.top (g : Graph) : Nat := (g.versions.map (·.num)).foldl max 0

/-- One pass of retirement over a graph's versions (R382). -/
def State.sweepOnce (s : State) (n : Nat) : State :=
  match s.graph n with
  | none => s
  | some g =>
    let newest := (g.newest.map (·.num)).getD 0
    let goes := fun (v : Version) => v.state != .retired && (s.users n v.num).isEmpty && (v.state == .retiring || v.num != newest)
    let s := (g.versions.filter goes).foldl (fun s v => s.freeObject v.segs) s
    let vs := g.versions.map fun v => if goes v then { v with state := .retired, segs := [] } else v
    if !vs.isEmpty && vs.all (·.state == .retired) then s.setGraph n none else s.setGraph n (some { g with versions := vs })

/-- Retirement of every version that may retire (R382); a graph whose versions have all retired is freed (R383). -/
def State.sweep (s : State) (n : Nat) : State :=
  match s.graph n with
  | none => s
  | some g => (List.range (g.versions.length + 1)).foldl (fun s _ => s.sweepOnce n) s

/-- Retirement over all graphs. -/
def State.sweepAll (s : State) : State := s.each (s.graphs.map (·.1)) State.sweep

/-! ## Change items (R385–R387) -/

/-- A change item taken apart. -/
def parseItem (b : List Byte) : Item :=
  let w := leNat b
  { kind := bits w 124 4, plane := bits w 123 1, hasValue := bits w 122 1 == 1, guarded := bits w 121 1 == 1,
    a := bits w 89 29, b := bits w 60 29, new := bits w 32 16, value := BitVec.ofNat 32 (bits w 0 32) }

/-- `n` change items from a list of bytes. -/
def parseItems : Nat → List Byte → List Item
  | 0, _ => []
  | n + 1, l => parseItem (l.take 16) :: parseItems n (l.drop 16)

/-- Whether an item has the form R386 asks for. -/
def itemFormed (blocks : Nat) (x : Item) : Bool :=
  decide (x.a / 1024 < blocks) &&
  match x.kind with
  | 1 => x.a != x.b && x.a / 1024 == x.b / 1024
  | 2 => true
  | 3 => true
  | 4 => x.hasValue && x.a / 1024 != x.b / 1024 && decide (x.b / 1024 < blocks) && (ofF32 x.value.toNat).isSome
  | 5 => x.a / 1024 != x.b / 1024 && decide (x.b / 1024 < blocks)
  | _ => false

/-- Whether a patch is a topology patch (R387). -/
def topologyPatch (flag : Bool) (items : List Item) : Bool := flag || items.any fun x => x.kind == 4 || x.kind == 5

/-- The exact-section entry of a coefficient (R158). -/
def exactEntry (value plane kind a b : Nat) : BitVec 128 :=
  BitVec.ofNat 128 (value * 2 ^ 96 + plane * 2 ^ 92 + kind * 2 ^ 90 + min a b * 2 ^ 32 + (if kind = 1 then 0 else max a b))

/-- An exact section with one entry replaced or added; bits [95:0] name the coefficient. -/
def putExact (l : List (BitVec 128)) (x : BitVec 128) : List (BitVec 128) :=
  if l.any fun y => bits y.toNat 0 96 == bits x.toNat 0 96 then
    l.map fun y => if bits y.toNat 0 96 == bits x.toNat 0 96 then x else y
  else l ++ [x]

end Sys2Proof.Machine

namespace Sys2Proof
open Sys2Proof.Machine

/-- The exact entry of a code or bias item: VALUE, or the quantised value, the code times its scale (R386). -/
def Coeffs.itemExact (c : Coeffs) (x : Item) : BitVec 128 :=
  let code := if x.kind = 1 then codeValue (BitVec.ofNat 4 x.new) else signed 16 x.new
  let value := if x.hasValue then x.value.toNat
    else toF32 (code * c.mantissa, c.exp (x.a / 1024) x.plane)
  if x.kind = 1 then exactEntry value x.plane 0 x.a x.b else exactEntry value x.plane 1 x.a x.a

/-- Far field of an entry from a block's engine to a module rank (R65, R67); 0 within the module. -/
def Coeffs.farOf (c : Coeffs) (src dst : Nat) : Nat :=
  if src / 2 ^ 23 = dst / 2 ^ 23 then 0
  else (sget [] c.far (src / 1024)).idxOf (BitVec.ofNat 6 (dst / 2 ^ 23)) + 1

end Sys2Proof

namespace Sys2Proof.Machine

/-- A link entry word (R65). -/
def linkWord (guarded : Bool) (far : Nat) (code : Int) (plane target : Nat) : BitVec 32 :=
  BitVec.ofNat 32 ((if guarded then 1 else 0) * 2 ^ 31 + far * 2 ^ 28 + unsign 4 code * 2 ^ 24 + plane * 2 ^ 23 + target % 2 ^ 23)

end Sys2Proof.Machine

namespace Sys2Proof
open Sys2Proof.Machine

/-- The two codes of a link that the Badger quantises (R69): into `a` and into `b`. -/
def Coeffs.linkCodes (c : Coeffs) (a b plane : Nat) (j : Machine.Dyadic) : Int × Int :=
  let ea := c.exp (a / 1024) plane
  let eb := c.exp (b / 1024) plane
  let d := (ea - eb).natAbs
  let coarse := max ea eb
  let top : Int := 7 / 2 ^ d
  let q := clampInt (-top) top (dyadicDivAway j (c.mantissa, coarse))
  if eb ≤ ea then (q, q * (2 ^ d : Nat)) else (q * (2 ^ d : Nat), q)

/-- Links without the pair of a coefficient. -/
def Coeffs.dropLink (c : Coeffs) (x : Item) : List (Nat × BitVec 32) :=
  c.links.filter fun l => !(linkPlane l.2 == x.plane &&
    ((l.1 == x.a && c.linkTo l.1 l.2 == x.b) || (l.1 == x.b && c.linkTo l.1 l.2 == x.a)))

end Sys2Proof

namespace Sys2Proof.Machine

/-- Order of link entries: source, FAR, TARGET (R66). -/
def linkBefore (x y : Nat × BitVec 32) : Bool :=
  decide (x.1 < y.1) || (x.1 == y.1 && decide (bits x.2.toNat 28 2 * 2 ^ 23 + linkTarget x.2 ≤ bits y.2.toNat 28 2 * 2 ^ 23 + linkTarget y.2))

end Sys2Proof.Machine

namespace Sys2Proof
open Sys2Proof.Machine

/-- One change item applied to coefficients (R386). An item of a plane marked EMPTY changes them, and no engine uses what it wrote
(log 131). -/
def Coeffs.change (c : Coeffs) (x : Item) : Coeffs :=
  let b := x.a / 1024
  let i := x.a % 1024
  let j := x.b % 1024
  match x.kind with
  | 1 =>
    let v := BitVec.ofNat 4 (if x.new % 16 = 8 then 0 else x.new)
    let at_ := fun r q => ((2 * b + x.plane) * 1024 + r) * 1024 + q
    { c with codes := sput 0 (sput 0 c.codes (at_ i j) v) (at_ j i) v, exacts := putExact c.exacts (c.itemExact x) }
  | 2 => { c with bias := sput 0 c.bias ((2 * b + x.plane) * 1024 + i) (BitVec.ofNat 16 x.new),
                  exacts := putExact c.exacts (c.itemExact x) }
  | 3 => { c with frozen := sput 0 c.frozen b (setSpin (sget 0 c.frozen b) i (x.new % 2 == 1)) }
  | 4 =>
    let q := c.linkCodes x.a x.b x.plane ((ofF32 x.value.toNat).getD (0, 0))
    let pair := [(x.a, linkWord x.guarded (c.farOf x.a x.b) q.2 x.plane x.b), (x.b, linkWord x.guarded (c.farOf x.b x.a) q.1 x.plane x.a)]
    { c with links := (c.dropLink x ++ pair).mergeSort linkBefore,
             exacts := putExact c.exacts (exactEntry x.value.toNat x.plane 0 x.a x.b) }
  | _ => { c with links := c.dropLink x,
                  exacts := c.exacts.filter fun y => bits y.toNat 0 96 != bits (exactEntry 0 x.plane 0 x.a x.b).toNat 0 96 }

/-- The 8 KiB tiles that an item touches, as numbers that tell them apart (R388). -/
def Coeffs.tilesOf (c : Coeffs) (x : Item) : List Nat :=
  let block := fun a => a / 1024 * 2 ^ 20
  let tile := fun a => block a + x.plane * 64 + a % 1024 / 16
  let links := fun a =>
    let own := c.links.filter fun l => l.1 / 1024 == a / 1024
    let first := (own.filter fun l => decide (l.1 < a)).length / 2048
    (List.range (own.length / 2048 + 1 - first)).map fun k => block a + 1024 + first + k
  let exact := 2 ^ 60 + (c.exacts.findIdx fun y => bits y.toNat 0 96 == bits (exactEntry 0 x.plane (if x.kind = 2 then 1 else 0) x.a
    (if x.kind = 2 then x.a else x.b)).toNat 0 96) / 512
  match x.kind with
  | 1 => [tile x.a, tile x.b, exact]
  | 2 => [block x.a + 512, exact]
  | 3 => [block x.a + 512]
  | _ => [block x.a + 512, block x.b + 512, exact] ++ links x.a ++ links x.b

/-- The contents of a version's tiles: tile, byte in the tile, bytes, value. Tiles are numbered as in `tilesOf`: the coupling tiles of a
block (R54), a tile with its biases, frozen mask and scale words, its link tiles, and the exact section (R158; log 134). Adjacent codes share
a byte. -/
def Coeffs.pieces (c : Coeffs) : List (Nat × Nat × Nat × Nat) :=
  let block := fun b => b * 2 ^ 20
  (c.codes.filter fun x => decide (x.1 % 2 = 0) || (sget 0 c.codes (x.1 - 1)) == 0).map (fun x =>
    let even := x.1 / 2 * 2
    let r := x.1 / 1024 % 1024
    (block (x.1 / 2 ^ 21) + x.1 / 2 ^ 20 % 2 * 64 + r / 16, r % 16 * 512 + x.1 % 1024 / 2, 1,
      (sget 0 c.codes even).toNat + 16 * (sget 0 c.codes (even + 1)).toNat)) ++
  c.bias.map (fun x => (block (x.1 / 2048) + 512, 2 * (x.1 % 2048), 2, x.2.toNat)) ++
  c.frozen.map (fun x => (block x.1 + 512, 4096, 128, x.2.toNat)) ++
  c.scale.map (fun x => (block (x.1 / 2) + 512, 4224 + 2 * (x.1 % 2), 2, x.2.toNat)) ++
  ((List.range c.blocks).flatMap fun b =>
    let own := c.links.filter fun l => l.1 / 1024 == b
    (own.zip (List.range own.length)).map fun x => (block b + 1024 + x.2 / 2048, x.2 % 2048 * 4, 4, x.1.2.toNat)) ++
  (c.exacts.zip (List.range c.exacts.length)).map fun x => (2 ^ 60 + x.2 / 512, x.2 % 512 * 16, 16, x.1.toNat)

/-- Every tile of a version: the numbers that `tilesOf` uses. -/
def Coeffs.allTiles (c : Coeffs) : List Nat :=
  ((List.range c.blocks).flatMap fun b =>
    (List.range 128).map (b * 2 ^ 20 + ·) ++ [b * 2 ^ 20 + 512] ++
      (List.range (ceilDiv (c.links.filter fun l => l.1 / 1024 == b).length 2048)).map (b * 2 ^ 20 + 1024 + ·)) ++
    (List.range (ceilDiv c.exacts.length 512)).map (2 ^ 60 + ·)

end Sys2Proof

namespace Sys2Proof.Machine

/-- `n` bytes of memory back to what an unwritten byte reads as. -/
def State.blank (s : State) (a n : Nat) : State :=
  { s with mem := s.mem.filter fun c => decide (c.1 < a) || decide (a + n ≤ c.1)
           poison := s.poison.filter fun c => decide (c.1 < a / 8) || decide ((a + n) / 8 ≤ c.1) }

/-- Tiles of a version written into the GDDR 7 segments that it took, in the order of a list, in the home and in the mirror copy
(R41, R388). -/
def State.writeTiles (s : State) (segs : List Nat) (c : Coeffs) (tiles : List Nat) : State :=
  let n := segsFor (8192 * tiles.length)
  let copies := [segs.take n, segs.drop n].filter fun l => !l.isEmpty
  let s := segs.foldl (fun s k => s.blank (gddrAt (k / 256) (k % 256 * gddrSegBytes)) gddrSegBytes) s
  c.pieces.foldl (fun s p =>
    let k := tiles.idxOf p.1
    if k < tiles.length then
      let at_ := 8192 * k + p.2.1
      copies.foldl (fun s l => match l[at_ / gddrSegBytes]? with
        | some x => s.wrNat (gddrAt (x / 256) (x % 256 * gddrSegBytes + at_ % gddrSegBytes)) p.2.2.1 p.2.2.2
        | none => s) s
    else s) s

end Sys2Proof.Machine

namespace Sys2Proof.Machine

/-- Coefficients after a patch; those of a patch with a malformed item are open (R10, R11). -/
def State.patched (s : State) (c : Coeffs) (items : List Item) : Coeffs × State :=
  if items.all (itemFormed c.blocks) then (items.foldl Coeffs.change c, s)
  else (Config.anyCoeffs s.free, { s with free := s.free + 1 })

/-- Bytes of the change items in the order submitted, for the image hash (R381). -/
def itemBytes (raw : List Byte) (n : Nat) : List Byte := raw.take (16 * n)

/-- A new version from a parent (R388), or the block at which the patch is refused with CAPACITY. -/
def State.derive (s : State) (g : Nat) (parent : Version) (items : List Item) (raw : List Byte) : Except Nat (Version × State) :=
  match s.graph g with
  | none => .error 0
  | some gr =>
    let p := s.patched parent.coeffs items
    let alive := (gr.versions.filter fun v => v.state != .retired).length
    if 256 ≤ alive ∨ 2 ^ 32 - 1 ≤ gr.top then .error 0
    else match p.1.firstBad with
      | some b => .error b
      | none =>
        let tiles := (items.flatMap parent.coeffs.tilesOf).eraseDups
        match p.2.allocKeep (segsFor (8192 * tiles.length)) with
        | none => .error 0
        | some (segs, s) =>
          let h := hash64 (leBytes 8 parent.hash.toNat ++ itemBytes raw items.length)
          let v : Version := { num := gr.top + 1, parent := parent.num, state := .live, hash := h, coeffs := p.1, segs := segs }
          .ok (v, (s.writeTiles segs p.1 tiles).setGraph g (some { gr with versions := gr.versions ++ [v] }))

/-! ## The graph opcodes -/

/-- Lowest free graph id. -/
def State.freeGraph (s : State) : Option Nat := (List.range 4096).find? fun n => (s.graph n).isNone

/-- GRAPH_CREATE (R380). -/
def State.graphCreate (s : State) (m : Msg) : Done :=
  let blocks := m.p 0 4 % 2 ^ 20
  let modules := m.p 4 4 % 2 ^ 7
  if blocks = 0 ∨ modules = 0 ∨ 64 < modules ∨ 8192 * modules < blocks then .answer { status := stCapacity } s
  else match s.freeGraph with
    | none => .answer { status := stNoSlot } s
    | some g => .answer { status := stOk, payload := leBytes 4 g }
        (s.setGraph g (some { blocks := blocks, modules := modules, staged := [], versions := [] }))

/-- A part of an image laid at its offset; bytes that no part covers read as zero (R360). -/
def putPart (image : List Byte) (off : Nat) (part : List Byte) : List Byte :=
  padTo off image ++ part ++ image.drop (off + part.length)

end Sys2Proof.Machine

namespace Sys2Proof
open Sys2Proof.Machine

/-- Bytes of a graph image in GDDR 7, in whole 8 KiB tiles (R54, R388). -/
def Coeffs.bytes (c : Coeffs) : Nat :=
  8192 * c.allTiles.length

end Sys2Proof

namespace Sys2Proof.Machine

/-- GRAPH_LOAD with FINAL = 1: the checks of R380 and version 1, whose tiles are written into GDDR 7 (R41). -/
def State.graphFinal (s : State) (g : Nat) (gr : Graph) (image : List Byte) : Done :=
  let s' := s.setGraph g (some { gr with staged := [] })
  match Config.readGraph image with
  | none => .answer { status := stLevel } s'
  | some c =>
    if c.level ≠ s.fld F.hubIdentLevel 0 then .answer { status := stLevel } s'
    else if gr.blocks < c.blocks then .answer { status := stCapacity, detail := gr.blocks } s'
    else match c.firstBad with
      | some b => .answer { status := stCapacity, detail := b } s'
      | none => match s'.allocKeep (segsFor c.bytes) with
        | none => .answer { status := stCapacity } s'
        | some (segs, s) =>
          let v : Version := { num := 1, parent := 0, state := .live, hash := hash64 image, coeffs := c, segs := segs }
          .answer { status := stOk, payload := leBytes 8 v.hash.toNat ++ leBytes 4 1 }
            ((s.writeTiles segs c c.allTiles).setGraph g (some { gr with staged := [], versions := [v] }))

/-- GRAPH_LOAD (R360, R380). -/
def State.graphLoad (s : State) (m : Msg) : Done :=
  match s.graph m.graph with
  | none => .answer { status := stNoSlot, detail := m.graph } s
  | some gr =>
    if !gr.versions.isEmpty then .answer { status := stBusy, detail := m.graph } s
    else
      let image := putPart gr.staged (m.p 0 8) (s.stagedOf m)
      if m.p 8 4 % 2 = 1 then s.graphFinal m.graph gr image
      else .answer { status := stOk } (s.setGraph m.graph (some { gr with staged := image }))

/-- GRAPH_RETIRE (R383). -/
def State.graphRetire (s : State) (m : Msg) : Done :=
  let n := m.p 0 4
  let all := m.p 4 4 % 2 == 1
  match s.graph m.graph with
  | none => .answer { status := stNoSlot, detail := m.graph } s
  | some g =>
    let named := g.versions.filter fun v => all || v.num == n
    if !all && named.isEmpty then .answer { status := stNoSlot, detail := n } s
    else if !all && named.all (·.state == .retired) then .answer { status := stRetired, detail := n } s
    else
      let marked := (named.filter (·.state != .retired)).map (·.num)
      let vs := g.versions.map fun v => if marked.contains v.num then { v with state := .retiring } else v
      let users := keysWhere s.ctxs fun x => marked.any (x.uses m.graph)
      .answer { status := stOk, payload := leBytes 4 users.length }
        ((s.setGraph m.graph (some { g with versions := vs })).sweep m.graph)

/-- The items of a GRAPH_PATCH and their bytes (R358). -/
def State.patchItems (s : State) (m : Msg) : List Item × List Byte :=
  let raw := if m.stage then s.stagedOf m else m.payload.drop 0x10
  (parseItems (m.p 8 4) raw, raw)

/-- A version patch (R388). APPLY_TICK is answered as all ones (R387; log 14). -/
def State.versionPatch (s : State) (m : Msg) : Done :=
  match s.graph m.graph with
  | none => .answer { status := stNoSlot, detail := m.graph } s
  | some g => match g.newest with
    | none => .answer { status := stNoSlot, detail := m.graph } s
    | some v =>
      if v.state = .retiring then .answer { status := stRetired, detail := v.num } s
      else match s.derive m.graph v (s.patchItems m).1 (s.patchItems m).2 with
        | .error b => .answer { status := stCapacity, detail := b } s
        | .ok (w, s) => .answer { status := stOk, payload := leBytes 4 w.num ++ leBytes 4 0 ++ leBytes 8 (2 ^ 64 - 1) }
            (s.sweep m.graph)

/-- More than 64 items fall to one engine (R130, R389). -/
def crowded (items : List Item) : Bool :=
  items.any fun x => decide (64 < (items.filter fun y => y.a / 1024 == x.a / 1024).length)

/-- The version a launch will hold just before a patch that comes after all it has accepted (R389). -/
def Launch.lastVersion (l : Launch) : Nat := match l.patches.getLast? with
  | some p => p.version
  | none => l.version

/-- Whether an apply tick is not above that of every patch accepted for a launch; the patches that its image books count from its load on, so
that each patch derives from the version before it (R389; DEDUCED, log 142). -/
def Launch.patchLate (l : Launch) (apply : Int) : Bool :=
  decide (apply ≤ l.tau + 8) || l.patches.any (fun p => decide (apply ≤ p.apply)) || l.sched.coefs.any (fun d => decide (apply ≤ d.apply))

/-- A live patch on a launch (R389). The Badger stages its items in the cribs from then on; when the last is there is a free value
(R132, log 135). -/
def State.livePatch (s : State) (m : Msg) : Done :=
  let c := m.ctx
  let x := s.ctx c
  let apply := signed 64 (m.p 0 8)
  match x.launch with
  | none => .answer { status := stBusy, detail := c } s
  | some l =>
    if !l.follow || !(x.state == .loaded || x.state == .running || x.state == .held || x.state == .paused) then
      .answer { status := stBusy, detail := c } s
    else if l.patchLate apply then .answer { status := stLate, detail := c } s
    else
      let items := (s.patchItems m).1
      match (s.graph l.graph).bind fun g => g.versions.find? fun v => v.num == l.lastVersion with
      | none => .answer { status := stRetired, detail := l.lastVersion } s
      | some parent =>
        if crowded items then .answer { status := stCapacity } s
        else if !(s.journalFitsAll c (patchRuns items)) then .answer { status := stCapacity } s
        else match s.derive l.graph parent items (s.patchItems m).2 with
          | .error b => .answer { status := stCapacity, detail := b } s
          | .ok (v, s') =>
            if items.any fun i => !(i.kind == 1 || i.kind == 2 || i.kind == 3) then .answer { status := stBusy, detail := c } s
            else
              let due := s'.draw
              let s := ((patchRuns items).foldl (fun s b => s.journal c b apply 0) due.2).modLaunch c fun l =>
                { l with patches := l.patches ++ [{
                  apply := apply, version := v.num, items := items, booked := false, due := s.tick + 1 + due.1 }] }
              let s := if items.all (itemFormed parent.coeffs.blocks) then s else s.anything c
              .answer { status := stOk, payload := leBytes 4 v.num ++ leBytes 4 0 ++ leBytes 8 (unsign 64 apply) } (s.sweep l.graph)

/-- GRAPH_PATCH (R358, R387–R389). -/
def State.graphPatch (s : State) (m : Msg) : Done :=
  let items := (s.patchItems m).1
  if 1048576 < m.p 8 4 then .answer { status := stCapacity } s
  else if bits (m.p 0x0C 4) 0 1 = 1 ∧ topologyPatch (bits (m.p 0x0C 4) 1 1 == 1) items = false then s.livePatch m
  else s.versionPatch m

/-- The last version of a graph with its exact section replaced. -/
def State.setExacts (s : State) (g n : Nat) (x : List (BitVec 128)) : State := match s.graph g with
  | some gr => s.setGraph g (some { gr with versions := gr.versions.map fun v =>
      if v.num = n then { v with coeffs := { v.coeffs with exacts := x } } else v })
  | none => s

/-- A change item as the 16 bytes it came in (R385). -/
def itemWord (x : Item) : List Byte :=
  leBytes 16 (x.kind * 2 ^ 124 + x.plane * 2 ^ 123 + (if x.hasValue then 2 ^ 122 else 0) + (if x.guarded then 2 ^ 121 else 0) +
    x.a * 2 ^ 89 + x.b * 2 ^ 60 + x.new * 2 ^ 32 + x.value.toNat)

/-- Patches put to a launch once more, each as a new version of the one before (R279, R285): a saved state or a journal carries their items. -/
def State.rederive (s : State) (c : Nat) : List LivePatch → Option State
  | [] => some s
  | p :: rest => (s.launch c).bind fun l => ((s.graph l.graph).bind fun g => g.versions.find? fun v => v.num == l.lastVersion).bind fun parent =>
    match s.derive l.graph parent p.items (p.items.flatMap itemWord) with
    | .error _ => none
    | .ok (v, s) =>
      let s := match p.exacts with
        | some x => s.setExacts l.graph v.num x
        | none => s
      let due := s.draw
      (due.2.modLaunch c fun l => { l with patches := l.patches ++ [{ p with version := v.num, due := s.tick + 1 + due.1 }] }).rederive c rest

def execGraphCreate (n : Channel) (s : State) : Out := .next (s.message (s.chan n.val) n.val 0x03 fun m s => s.graphCreate m)
def execGraphLoad (n : Channel) (s : State) : Out := .next (s.message (s.chan n.val) n.val 0x04 fun m s => s.graphLoad m)
def execGraphPatch (n : Channel) (s : State) : Out := .next (s.message (s.chan n.val) n.val 0x05 fun m s => s.graphPatch m)
def execGraphRetire (n : Channel) (s : State) : Out := .next (s.message (s.chan n.val) n.val 0x06 fun m s => s.graphRetire m)

end Sys2Proof.Machine
end

