-- ==== Sys2Proof/Machine/Checks.lean ====
section
/-!
DEFINITION. What the module half of the loader checks in a schedule image: the class E requirements (R263), bookings (R207, R212, R294, R310,
R324, R333, R341), the use of crib banks (R209–R211), and the limits of generators and statistics (R143, R165, R186, R193).
-/
namespace Sys2Proof.Machine

/-! ## Chain entries (R232) -/

/-- A chain entry taken apart. -/
structure Entry where
  station : Nat
  unit : Nat
  last : Bool
  timed : Bool
  waits : Bool
  signal : Bool
  done : Bool
  stream : Nat
  seq : Nat
  cycle : Nat
  tau : Int
  waitFence : Nat
  signalFence : Nat
  waitValue : Nat
  payload : Nat
  nextAddr : Nat
  nextStook : Nat
  deriving DecidableEq, Repr

def parseEntry (b : List Byte) : Entry :=
  let w := bytesAt b 0 4
  let t := bytesAt b 8 8
  { station := bits w 28 4, unit := bits w 25 3, last := bits w 24 1 == 1, timed := bits w 23 1 == 1, waits := bits w 22 1 == 1,
    signal := bits w 21 1 == 1, done := bits w 20 1 == 1, stream := bits w 0 12, seq := bytesAt b 4 4, cycle := bits t 54 10,
    tau := signed 40 (bits t 0 40), waitFence := bytesAt b 0x10 4 % 2 ^ 14, signalFence := bytesAt b 0x14 4 % 2 ^ 14,
    waitValue := bytesAt b 0x18 8, payload := bytesAt b 0x20 4 % 2 ^ 23, nextAddr := bytesAt b 0x24 4 % 2 ^ 23,
    nextStook := bytesAt b 0x28 4 % 2 ^ 10 }

/-- Logical cycle at which a timed entry starts. -/
def Entry.start (x : Entry) : Int := x.tau * 1024 + x.cycle

end Sys2Proof.Machine

namespace Sys2Proof
open Sys2Proof.Machine

/-- Logical modules that an image declares (R270). -/
def Sched.modules (w : Sched) : Nat := ceilDiv w.fields 8

/-- The 64 bytes that an image places at a crib address, where it places any (R229). -/
def Sched.entryAt (w : Sched) (stook addr : Nat) : Option Entry :=
  (w.cribs.find? fun x => x.1 == stook && decide (x.2.1 ≤ addr) && decide (addr + 64 ≤ x.2.1 + x.2.2.length)).map fun x =>
    parseEntry ((x.2.2.drop (addr - x.2.1)).take 64)

/-- The chain entries that follow one another from a place, each with the stook it lies in, as far as the image places them; `n` bounds the
length of a chain that closes on itself. -/
def Sched.chainFrom (w : Sched) : Nat → Nat → Nat → List (Nat × Entry)
  | 0, _, _ => []
  | n + 1, stook, addr => match w.entryAt stook addr with
    | none => []
    | some x => (stook, x) :: if x.last then [] else w.chainFrom n x.nextStook x.nextAddr

/-- All chains of an image. -/
def Sched.allChains (w : Sched) : List (List (Nat × Entry)) :=
  let n := (w.cribs.map fun x => x.2.2.length / 64).sum
  w.chains.map fun c => w.chainFrom n c.1 c.2

/-! ## Class E (R263) -/

/-- A V instruction with D = 0 (R252). -/
def undeclared (w : BitVec 32) : Bool := match gleanDecode ⟨⟨0, 0, 0⟩, 0⟩ w with
  | some (.wall _ d _) => !d
  | some (.frd _ d _ _) => !d
  | some (.temp _ d _) => !d
  | some (.lstat _ d _ _) => !d
  | some (.mon _ d _ _) => !d
  | some (.ent _ d _ _) => !d
  | _ => false

/-- Every V instruction of the instruction memories is declared (R253). -/
def Sched.declaresV (w : Sched) : Bool := w.imem.all fun m => m.2.2.2.2.all fun x => !undeclared x

/-- No chain entry waits for a fence (R235). -/
def Sched.noWaits (w : Sched) : Bool := w.fenceWaits == 0 && w.allChains.all fun c => c.all fun x => !x.2.waits

/-- Two entries of a chain obey the one-tick rule: one handed to another field is timed, for a later tick than the entry before it
(R272). -/
def handsOver (x y : Nat × Entry) : Bool :=
  x.1 / 128 == y.1 / 128 || (y.2.timed && (!x.2.timed || decide (x.2.tau < y.2.tau)))

/-- The one-tick rule (R272). -/
def Sched.oneTick (w : Sched) : Bool :=
  w.crossField == 0 && w.allChains.all fun c => (c.zip c.tail).all fun p => handsOver p.1 p.2

/-! ## Bookings (R207, R294, R310, R324, R333) -/

/-- Engines of an image with their exchange configuration: stook number of R229, configuration, link region base (R210). -/
def Sched.exchanges (w : Sched) : List (Nat × Nat × Nat) := w.exch.map fun x => (x.1 / 8, x.2.1.toNat, x.2.2)

/-- A field of an exchange configuration. -/
def exchField (f : Fld) (cfg : Nat) : Nat := bits cfg f.lo f.w

/-- Link banks of an exchange configuration. -/
def linkBanks (cfg : Nat) : List Nat :=
  (if exchField F.stkExchCfgLinkAEn cfg = 1 then [exchField F.stkExchCfgLinkA cfg] else []) ++
    if exchField F.stkExchCfgLinkBEn cfg = 1 then [exchField F.stkExchCfgLinkB cfg] else []

/-- The delta bank of an exchange configuration. -/
def deltaBanks (cfg : Nat) : List Nat := if exchField F.stkExchCfgDeltaEn cfg = 1 then [exchField F.stkExchCfgDeltaBank cfg] else []

/-- Crib bank cycles booked: those of COPY, HARROW and TALLY, and those of the cores (R207, R242). -/
def Sched.bankCycles (w : Sched) : List (Nat × Int × Nat × Nat) :=
  w.bankBooks ++ w.coreBooks.map fun x => (x.1 / 64 % 1024, x.2.1, x.2.2.1, x.2.2.2)

/-- A bank cycle that R209 or R212 keeps for an engine of the image. -/
def Sched.bankReserved (w : Sched) (x : Nat × Int × Nat × Nat) : Bool :=
  w.exchanges.any fun e => e.1 == x.1 && ((linkBanks e.2.1).contains x.2.2.2 || ((deltaBanks e.2.1).contains x.2.2.2 &&
    ((x.2.2.1 % 2 == 1 && decide (x.2.2.1 < 64)) || x.2.2.1 % 4 == 2 * exchField F.stkExchCfgPhase e.2.1)))

/-- A router slot that is reserved for SERVICE items or for a mirror (R293, R341). Routers 8–11 are the edge routers. -/
def slotReserved (x : Nat × Nat × Nat × Nat) : Bool :=
  (decide (8 ≤ x.2.1) && x.2.2.2 % 16 == 15) || (x.2.1 == 9 && x.2.2.1 == 1 && x.2.2.2 % 4 == 1)

/-- More than `n` of an element in a list. -/
def crowdedBy {α : Type} [DecidableEq α] (n : Nat) (l : List α) : Bool := l.any fun x => decide (n < l.count x)

/-- No booking collides with another or takes what is reserved (R207, R294, R310, R324, R333, R341). -/
def Sched.booksFit (w : Sched) : Bool :=
  !crowdedBy 1 w.bankCycles && !w.bankCycles.any w.bankReserved && !crowdedBy 1 w.slots && !w.slots.any slotReserved &&
    !crowdedBy 32 w.granBooks && w.granBooks.all (fun x => decide (x.2.2 < 952)) && !crowdedBy 3 w.gddrBooks &&
    w.frames.all fun f => decide (f.2.2 ≤ 45)

/-! ## Crib banks and limits (R143, R165, R186, R193, R209–R211) -/

/-- Two engines of a stook share no link bank, no link bank is a delta bank, and a shared delta bank serves two phases (R209, R210). -/
def banksApart (x y : Nat × Nat × Nat) : Bool :=
  x.1 != y.1 || ((linkBanks x.2.1).all (fun b => !(linkBanks y.2.1).contains b && !(deltaBanks y.2.1).contains b) &&
    (deltaBanks x.2.1).all (fun b => !(linkBanks y.2.1).contains b) &&
    ((deltaBanks x.2.1).all (fun b => !(deltaBanks y.2.1).contains b) ||
      exchField F.stkExchCfgPhase x.2.1 != exchField F.stkExchCfgPhase y.2.1))

/-- Stooks that hold generator weights or a statistics area, by stook number (R163, R186). -/
def Sched.striped (w : Sched) : List Nat :=
  (w.gens.flatMap fun d => d.stooks.map fun k => d.field * 128 + d.acre * 16 + k) ++
    w.stats.map fun x => x.1 * 128 + x.2.1 * 16 + x.2.2.1

/-- The image keeps R209–R211. -/
def Sched.banksFit (w : Sched) : Bool :=
  decide (w.exchanges.Pairwise fun x y => banksApart x y = true) &&
  (w.exchanges.all fun x => (linkBanks x.2.1).all fun b => !(deltaBanks x.2.1).contains b) &&
  w.striped.all fun k => !w.exchanges.any fun x => x.1 == k && (!(linkBanks x.2.1).isEmpty || !(deltaBanks x.2.1).isEmpty)

/-- The generators of an acre keep R186: at most 4, no stook twice, and weights of at most 64 MiB; the state area holds at most 256 KiB and
the step ends in its period (R193). -/
def Sched.gensFit (w : Sched) : Bool :=
  w.gens.all fun d =>
    let acre := w.gens.filter fun x => x.field == d.field && x.acre == d.acre
    decide (acre.length ≤ 4) && decide (acre.flatMap (·.stooks)).Nodup && decide ((acre.map (·.weightBytes)).sum ≤ 2 ^ 26) &&
      decide (d.stateBytes ≤ 2 ^ 18) && decide (d.stepCycles ≤ 1024 * bits d.ctrl.toNat F.hrwGenCtrlPTok.lo F.hrwGenCtrlPTok.w)

/-- The capture ticks carry the checkpoint of every field, at the rate of the granary's bookable cycles with one unit in four parity (R324,
R339, R340). -/
def Sched.captureFits (w : Sched) : Bool := w.ckptMiB.all fun m => decide (m.2 * 2 ^ 20 * 4 ≤ 3 * (max 1 w.captureTicks * 952 * 65536))

/-- Every statistics sample ends before the next one (R165). -/
def Sched.statsFit (w : Sched) : Bool :=
  let n := w.tally.toNat
  let lanes := ((List.range 4).filter fun k => (bits n 8 4).testBit k).length
  w.stats.all fun x => decide (ceilDiv (x.2.2.2.2.length * lanes) 16 ≤ 896 * 2 ^ bits n 22 5)

end Sys2Proof
end

