-- ==== Sys2Proof/Machine/Loader.lean ====
section
/-!
DEFINITION. The module half of the loader (R30, R78, R100, R140–R145, R263, R270–R273, R326, R330, R378): where a launch's logical
positions lie, the load checks, placement, and what is written into the units at a load.
-/
namespace Sys2Proof.Machine

/-! ## Logical and physical positions (R28–R30) -/

/-- Number of the physical stook that carries a logical stook of an acre. Dies 8–15 stand for the parked field of a folded die. -/
def State.physStook (s : State) (die acre st : Nat) : Nat :=
  (die * 8 + acre) * 17 + if ((s.acre (die % 8 * 8 + acre)).retired).contains st then 16 else st

/-- The die that carries logical field g; none where the module does not carry it, or has lost it (entry 16). -/
def Launch.dieOf (l : Launch) (g : Nat) : Option Nat := if g < l.first then none else (l.dies[g - l.first]?).filter (· < 16)

/-- The stook that carries a logical stook of a launch. -/
def State.stookAt (s : State) (l : Launch) (g acre st : Nat) : Option Nat := (l.dieOf g).map fun d => s.physStook d acre st

/-- The stook that a stook number of R229 names in a launch on this module. -/
def State.stookOf (s : State) (l : Launch) (n : Nat) : Option Nat := s.stookAt l (l.first + n / 128) (n / 16 % 8) (n % 16)

/-- The engine that carries a logical block index (R28, R141). -/
def State.engineAt (s : State) (l : Launch) (idx : Nat) : Option Nat :=
  (s.stookAt l (idx / 1024) (idx / 128 % 8) (idx / 8 % 16)).map fun k => 8 * k + idx % 8

/-- Fold slot of a logical field in the segment map of its die (R326). -/
def Launch.slotOf (l : Launch) (g : Nat) : Nat := (l.slots[g - l.first]?).getD 0

/-- Logical block indices that a launch places on this module, for a graph of `blocks` blocks. -/
def Launch.placed (l : Launch) (blocks : Nat) : List Nat :=
  (List.range (l.copies * blocks)).filter fun i => (l.dieOf (i / 1024)).isSome && !l.lost.contains (i / blocks)

/-- Whether the module is a member of a formed group (R412). -/
def State.grouped (s : State) : Bool := s.fld F.hubGroupStatusState 0 == 2

/-- Whether a launch of an image is a group launch on this module (R405). -/
def State.groupLaunch (s : State) (w : Sched) : Bool := s.grouped && decide (1 < w.modules)

/-- A group launch with fewer members than logical modules: its members fold (R271, R405). -/
def State.groupFolds (s : State) (w : Sched) : Bool := s.groupLaunch w && decide (s.fld F.hubGroupStatusMembers 0 < w.modules)

/-- First logical field and number of logical fields that this module carries (R270, R405). -/
def State.localFields (s : State) (w : Sched) : Nat × Nat :=
  if s.groupLaunch w then
    let per := if s.groupFolds w then 16 else 8
    let first := per * s.fld F.hubGroupStatusRank 0
    (first, min per (w.fields - first))
  else (0, w.fields)

/-! ## Load checks (R263, R384) -/

/-- The first class E rule of R263 that an image breaks, as a status. -/
def classBreak (w : Sched) : Option Nat :=
  if w.fieldNoise || w.bounded || bits w.winnow.toNat 8 2 == 2 || !w.noWaits || !w.declaresV || w.fields == 0 ||
      decide (512 < w.fields) || w.copies == 0 then some stLevel
  else if w.missing != 0 then some stLevel
  else if !w.booksFit then some stCapacity
  else if !w.oneTick then some stLevel
  else none

/-- What an image breaks of its behaviour level and class rules (R4, R9, R263, R384 check 3, R405). Bounded mode is for one module, so no bounded
traffic ever takes a fabric frame (R312). -/
def State.imageBreak (s : State) (w : Sched) : Option Nat :=
  if w.level ≠ s.fld F.hubIdentLevel 0 then some stLevel
  else if s.groupLaunch w && w.fieldNoise then some stLevel
  else if w.bounded && (s.groupLaunch w || decide (1 < w.modules)) then some stLevel
  else if w.classT then (if w.booksFit then none else some stCapacity)
  else classBreak w

/-- A limit that the loader refuses with CAPACITY (R143, R145, R165, R186, R209–R211, R405). -/
def capacityBreak (w : Sched) : Bool :=
  (w.winnow.getLsbD 0 && decide (256 < 4 * w.copies)) || !w.banksFit || !w.gensFit || !w.statsFit || !w.captureFits || w.deadlines != 0

/-! ## Placement (R271, R378) -/

/-- Contexts that hold a position which a logical field of an image takes on a die: an engine, a core, a bank, or a router slot (R33). -/
def State.takers (s : State) (w : Sched) (blocks : List Nat) (g i d : Nat) : List Nat :=
  let engines := (blocks.filter fun b => b / 1024 == g).filterMap fun b =>
    (s.engine (8 * s.physStook d (b / 128 % 8) (b / 8 % 16) + b % 8)).ctx
  let stooks := (w.uses.filter fun u => u.1 == g).map fun u => s.physStook d u.2.1 u.2.2
  let cores := stooks.flatMap fun k => (List.range 4).filterMap fun c => (s.core (4 * k + c)).ctx
  let banks := (w.banks.filter fun b => b.1 / 128 == i).filterMap fun b =>
    let k := s.physStook d (b.1 / 16 % 8) (b.1 % 16)
    if s.fld F.stkBankOwnerKind (bankIx k b.2) = 1 then some (s.fld F.stkBankOwnerCtx (bankIx k b.2)) else none
  let slots := (w.slots.filter fun x => x.1 == g).flatMap fun x => [d, d + 8].filterMap fun y =>
    sget none s.slotTable (slotKey (outKey y x.2.1 x.2.2.1) x.2.2.2)
  engines ++ cores ++ banks ++ slots

/-- GDDR 7 stream slots that the launches resident on a die have booked in a cycle, but for those of a list (R333). -/
def State.streamsBooked (s : State) (d cycle : Nat) (gone : List Nat) : Nat :=
  (s.ctxs.map fun e => if gone.contains e.1 then 0 else match e.2.launch with
    | some l => (l.sched.gddrBooks.filter fun b => b.2 == cycle && (l.dieOf b.1).map (· % 8) == some d).length
    | none => 0).sum

/-- Whether the GDDR 7 stream slots that a logical field books are left on a die: three in a cycle, counting every resident launch
(R333). -/
def State.streamRoom (s : State) (w : Sched) (gone : List Nat) (g d : Nat) : Bool :=
  let mine := (w.gddrBooks.filter fun b => b.1 == g).map (·.2)
  mine.eraseDups.all fun cycle => decide (s.streamsBooked d cycle gone + mine.count cycle ≤ 3)

/-- Granary segments mapped on a die by contexts other than those of a list (R326). -/
def State.granUsed (s : State) (d : Nat) (gone : List Nat) : List Nat :=
  (List.range 256).filter fun k => s.flag F.grnSegValid (d * 256 + k) && !gone.contains (s.fld F.grnSegCtx (d * 256 + k))

/-- Free physical granary segments of a die, as `32 * port + segment` (R326). -/
def State.granFree (s : State) (d : Nat) (gone : List Nat) : List Nat :=
  let used := (s.granUsed d gone).map fun k => s.fld F.grnSegPort (d * 256 + k) * 32 + s.fld F.grnSegPseg (d * 256 + k)
  ((List.range 4).filter fun p => !(s.fld F.grnStatusLost d).testBit p).flatMap fun p =>
    ((List.range 30).map (32 * p + ·)).filter fun x => !used.contains x

/-- Checkpoint MiB that the launches resident on a die hold, but for those of a list (R339). -/
def State.ckptUsed (s : State) (d : Nat) (gone : List Nat) : Nat :=
  (s.ctxs.map fun e => if gone.contains e.1 then 0 else match e.2.launch with
    | some l => (l.sched.ckptMiB.map fun m => if (l.dieOf m.1).map (· % 8) == some d then m.2 else 0).sum
    | none => 0).sum

/-- Class E leave that the launches on an acre hold reserved, but for those of a list (R455). -/
def State.resUsed (s : State) (a : Nat) (gone : List Nat) : Nat :=
  (s.ctxs.map fun e => if gone.contains e.1 then 0 else match e.2.launch with
    | some l => ((l.sched.reserve.filter fun r => r.2.1 == a % 8 && (l.dieOf r.1).map (· % 8) == some (a / 8)).map (·.2.2)).sum
    | none => 0).sum

/-- RES of every acre (R455, R466). -/
def State.countRes (s : State) (gone : List Nat) : State :=
  s.each (List.range 64) fun s a => s.setFld F.pwrAcreStateRes a (min (s.resUsed a gone) 4095)

/-- Whether the leave that a logical field of an image reserves fits under the caps of a die's acres (R455). -/
def State.leaveRoom (s : State) (w : Sched) (gone : List Nat) (g d : Nat) : Bool :=
  (List.range 8).all fun a => decide (s.resUsed (8 * d + a) gone +
    ((w.reserve.filter fun r => r.1 == g && r.2.1 == a).map (·.2.2)).sum ≤ s.fld F.pwrAcreCapCap (8 * d + a))

/-- Launches that fold a die, but for those of a list: each parks one field in its granary (R273). -/
def State.foldsOn (s : State) (d : Nat) (gone : List Nat) : Nat :=
  (s.ctxs.filter fun e => !gone.contains e.1 && e.2.launch.any fun l => l.foldedDies.contains d).length

/-- Whether a die has the granary, GDDR 7 and checkpoint room that a logical field of an image asks beside the field `partner` of the same
launch, with which it would fold the die (R271, R326, R330, R339). A parked state takes 32 granary segments (R273). -/
def State.roomFor (s : State) (w : Sched) (gone : List Nat) (g d : Nat) (partner : Option Nat) : Bool :=
  let slot := if partner.isSome then 128 else 0
  let mine := fun (x : Nat) => x == g || partner == some x
  let gran := w.granSegs.filter fun x => x.1 == g
  let grans := (w.granSegs.filter fun x => mine x.1).length
  let used := s.granUsed d gone
  let gddr := (w.gddrSegs.filter fun x => mine x.1).length
  let keep := (w.gddrSegs.filter fun x => mine x.1 && x.2.2 == 1).length
  let ckpt := ((w.ckptMiB.filter fun m => mine m.1).map (·.2)).sum
  let parked := 32 * (s.foldsOn d gone + if partner.isSome then 1 else 0)
  gran.all (fun x => !used.contains (slot + x.2.1)) &&
  decide (used.length + grans + parked ≤ 90) && decide (grans ≤ (s.granFree d gone).length) &&
  s.streamRoom w gone g d && decide (gddr ≤ (s.freeSegs d).length) && (s.nextDie d == d || decide (keep ≤ (s.freeSegs (s.nextDie d)).length)) &&
  decide (s.ckptUsed d gone + ckpt ≤ 64) && s.leaveRoom w gone g d

/-- A search over dies: fields in order, each on a die that carries fewer than `fold` fields of the launch and that passes. A second
field on a die gets the die's number plus 8. The last list holds the fields placed, with their dies. -/
def placeSearch (ok : Nat → Nat → Option Nat → Bool) (order : Nat → List Nat) (fold : Nat) :
    List Nat → List (Nat × Nat) → Option (List (Nat × Nat))
  | [], used => some used.reverse
  | g :: rest, used => (order g).findSome? fun d =>
    let partner := (used.find? (·.2 == d)).map (·.1)
    if (partner.isNone || (decide (2 ≤ fold) && !used.any (·.2 == d + 8))) && ok g d partner then
      placeSearch ok order fold rest ((g, if partner.isSome then d + 8 else d) :: used)
    else none

/-- PAUSED contexts that an eviction may take, in ascending id (R378). -/
def State.pausedCtxs (s : State) (c : Nat) : List Nat := (keysWhere s.ctxs fun x => x.state == .paused).filter (· != c)

/-- Copies that the loader may choose (R144). -/
def copyChoices (w : Sched) (fixed : Option Nat) : List Nat := match fixed with
  | some n => [n]
  | none => if w.classT then (List.range w.copies).map (w.copies - ·) else [w.copies]

/-- A placement: copies, first logical field, dies, and the contexts to evict. -/
structure Placing where
  copies : Nat
  first : Nat
  dies : List Nat
  evict : List Nat
  deriving DecidableEq, Repr

/-- A placement of an image with a given copy count and fold factor, when the contexts of a list may be evicted. -/
def State.placeWith (s : State) (c : Nat) (w : Sched) (blocks copies fold : Nat) (gone : List Nat) : Option Placing :=
  let all := List.range (copies * blocks)
  let lf := s.localFields w
  let n := if w.classT && decide (copies < w.copies) then min lf.2 (ceilDiv (copies * blocks) 1024 - lf.1) else lf.2
  let ok := fun g d partner => !s.dieLost d && s.roomFor w gone g d partner &&
    (s.takers w all g (g - lf.1) d).all fun x => gone.contains x || x == c
  let order := fun g => (List.range 8).map fun i => (Config.placeFrom c g + i) % 8
  (placeSearch ok order fold ((List.range n).map (lf.1 + ·)) []).map fun r =>
    let dies := r.map (·.2)
    { copies := copies, first := lf.1, dies := dies
      evict := gone.filter fun x => (List.range n).any fun i =>
        (dies[i]?).any fun d => (s.takers w all (lf.1 + i) i (d % 8)).contains x }

/-- Placement (R142, R270, R378): the largest copy count that fits; no field of a group without a member; free positions first, then evictions in ascending context id; folded only
when nothing unfolded serves, and never in class T (R271). -/
def State.place (s : State) (c : Nat) (w : Sched) (blocks : Nat) (fixed : Option Nat) : Option Placing :=
  let paused := s.pausedCtxs c
  let tries := ((copyChoices w fixed).filter fun n => decide (n * blocks ≤ 8192 * w.modules)).flatMap fun n => (if w.classT then [1] else [1, 2]).flatMap fun f =>
    (List.range (paused.length + 1)).map fun k => (n, f, paused.take k)
  if s.groupLaunch w && decide ((if s.groupFolds w then 16 else 8) * s.fld F.hubGroupStatusMembers 0 < w.fields) then
    none
  else tries.findSome? fun t => s.placeWith c w blocks t.1 t.2.1 t.2.2

/-- The status of a LAUNCH or RESUME that is accepted: DEGRADED while any die is lost (R378, R428, R499), HELD without a ready entropy
source (R378, R475), else OK. -/
def State.placedStatus (s : State) (w : Sched) : Nat :=
  if s.fld F.fltStatusDieLost 0 ≠ 0 then stDegraded
  else if w.fieldNoise && !s.keysServed then stHeld
  else stOk

/-! ## Spins and energies of a load -/

end Sys2Proof.Machine

namespace Sys2Proof
open Sys2Proof.Machine

/-- Field of spin `i` of a block on a plane (R78), from the spins of a replica. -/
def Coeffs.fieldSum (c : Coeffs) (sp : Nat → BitVec 1024) (b p i : Nat) : Int :=
  let row := ((2 * b + p) * 1024 + i) * 1024
  ((c.codes.filter fun e => decide (row ≤ e.1) && decide (e.1 < row + 1024)).map fun e =>
    if e.1 = row + i then 0 else codeValue e.2 * spinOf (sp b) (e.1 - row)).sum +
  ((c.links.filter fun l => c.linkTo l.1 l.2 == 1024 * b + i && linkPlane l.2 == p).map fun l =>
    codeValue (linkCode l.2) * spinOf (sp (l.1 / 1024)) (l.1 % 1024)).sum +
  c.biasCode b p i

/-- Both planes' fields of a lane (R78). -/
def Coeffs.fields (c : Coeffs) (sp : Nat → BitVec 1024) (b : Nat) : Sparse (BitVec 20) :=
  ([0, 1].filter fun p => !c.empty b p).foldl (fun f p => (List.range 1024).foldl (fun f i =>
    sput 0 f (1024 * p + i) (BitVec.ofInt 20 (c.fieldSum sp b p i))) f) []

/-- Graph energy units of one code unit of a block's plane: m × 2 ^ (e − e_G) (R58, R59). -/
def Coeffs.unit (c : Coeffs) (b p : Nat) : Int :=
  if c.empty b p then 0 else (c.mantissa * 2 ^ (c.exp b p - c.eG).toNat : Nat)

/-- Energy of one link entry, in graph energy units. -/
def Coeffs.linkEnergy (c : Coeffs) (sp : Nat → BitVec 1024) (l : Nat × BitVec 32) : Int :=
  let t := c.linkTo l.1 l.2
  (-(codeValue (linkCode l.2) * c.unit (t / 1024) (linkPlane l.2) * spinOf (sp (l.1 / 1024)) (l.1 % 1024) *
    spinOf (sp (t / 1024)) (t % 1024)))

/-- In-block energy of a block (R43), in graph energy units: couplings once, and biases. -/
def Coeffs.inBlock (c : Coeffs) (sp : Nat → BitVec 1024) (b : Nat) : Int :=
  ([0, 1].map fun p =>
    let lo := (2 * b + p) * 1024 * 1024
    (-(c.unit b p * (((c.codes.filter fun e => decide (lo ≤ e.1) && decide (e.1 < lo + 1048576)).map fun e =>
      let i := (e.1 - lo) / 1024
      let j := e.1 % 1024
      if i < j then codeValue e.2 * spinOf (sp b) i * spinOf (sp b) j else 0).sum +
    ((List.range 1024).map fun i => c.biasCode b p i * spinOf (sp b) i).sum)))).sum

/-- The energy register of a lane before its first decision (R100): in-block energy, and every link whose lower-index end lies in
the block. -/
def Coeffs.laneEnergy (c : Coeffs) (sp : Nat → BitVec 1024) (b : Nat) : Int :=
  c.inBlock sp b +
  ((c.links.filter fun l => l.1 / 1024 == b && decide (l.1 < c.linkTo l.1 l.2)).map (c.linkEnergy sp)).sum

/-- Link entries of a block in copy `k`, with the global spin index of their relocated targets (R141). -/
def Coeffs.movedLinks (c : Coeffs) (b k : Nat) : List ((Nat × BitVec 32) × Nat) :=
  (c.links.filter fun l => l.1 / 1024 == b).map fun l => (l, c.linkTo l.1 l.2 + k * c.blocks * 1024)

/-- Far ranks of the engine that carries a block in copy `k`: those of the graph, or in a relocated copy the ranks of its relocated targets in
the order in which the entries name them (R67, R141; DEDUCED, log 136). -/
def Coeffs.placedFar (c : Coeffs) (b k : Nat) : List (BitVec 6) :=
  if k = 0 then sget [] c.far b
  else (((c.movedLinks b k).map fun x => x.2 / 2 ^ 23).filter (· != (k * c.blocks + b) / 8192)).eraseDups.take 3 |>.map (BitVec.ofNat 6)

/-- Order of link entries: source, FAR, TARGET (R66). -/
def entryBefore (x y : Nat × BitVec 32) : Bool :=
  decide (x.1 < y.1) || (x.1 == y.1 && decide (bits x.2.toNat 28 2 * 2 ^ 23 + linkTarget x.2 ≤ bits y.2.toNat 28 2 * 2 ^ 23 + linkTarget y.2))

/-- Link entries of a block placed in copy `k` (R66, R141): source position and word. -/
def Coeffs.placedLinks (c : Coeffs) (b k : Nat) : List (Nat × BitVec 32) :=
  let own := (k * c.blocks + b) / 8192
  let entry := fun (x : (Nat × BitVec 32) × Nat) =>
    let far := if x.2 / 2 ^ 23 = own then 0 else (c.placedFar b k).idxOf (BitVec.ofNat 6 (x.2 / 2 ^ 23)) + 1
    (x.1.1 % 1024, BitVec.ofNat 32 (putBits (putBits x.1.2.toNat 0 23 x.2) 28 2 far))
  ((c.movedLinks b k).map entry).mergeSort entryBefore

end Sys2Proof

namespace Sys2Proof.Machine

/-- The link index of a list of entries sorted by source (R67). -/
def linkIndexOf (l : List (Nat × BitVec 32)) : List (BitVec 19) :=
  (List.range 1025).map fun p => BitVec.ofNat 19 (l.filter fun x => decide (x.1 < p)).length

/-- A spin mask from positions. -/
def maskOf (l : List Nat) : BitVec 1024 := l.foldl (fun m i => setSpin m i true) 0

/-! ## Loading units -/

/-- The codes of a block written into an engine's sheaf store (R52). -/
def State.loadStore (s : State) (v : Coeffs) (e b : Nat) : State :=
  let lo := 2 * b * 1048576
  (v.codes.filter fun x => decide (lo ≤ x.1) && decide (x.1 < lo + 2097152)).foldl (fun s x =>
    let k := x.1 - lo
    s.putCode e (k / 1048576) (k / 1024 % 1024) (k % 1024) x.2) (s.blank (sheafAt e 0) (2 ^ 20))

/-- An engine loaded with a block of a launch (R52, R56–R59, R65–R67, R86, R111, R210). -/
def State.loadEngine (s : State) (c : Nat) (l : Launch) (v : Coeffs) (e idx : Nat) : State :=
  let b := idx % v.blocks
  let links := v.placedLinks b (idx / v.blocks)
  let w := l.sched
  let place := w.exch.find? fun x => x.1 == idx
  let base := (place.map (·.2.2)).getD 0
  let s := (s.loadStore v e b).setEngine e {
    ctx := some c, rank := idx / 8192, block := idx % 8192, frozen := sget 0 v.frozen b
    guarded := maskOf ((links.filter fun x => x.2.getLsbD 31).map (·.1))
    linkIndex := linkIndexOf links, far := v.placedFar b (idx / v.blocks), linkBase := base }
  let s := s.store (cribAt (e / 8) base) (links.flatMap fun x => leBytes 4 x.2.toNat) false
  let s := s.setReg .shfCtrl e (BitVec.ofNat 64 (w.laneEn.toNat * 4096 + (if w.fieldNoise then 256 else 0) + (if w.propEn then 16 else 0)))
  let s := s.setReg .shfScale e (BitVec.ofNat 64 ((v.word b 1).toNat * 65536 + (v.word b 0).toNat))
  let s := s.setReg .shfShift e (BitVec.ofNat 64 (v.sh b 1 * 1024 + v.sh b 0 * 32 + v.db b))
  let s := s.setReg .shfStatus e 0
  let s := s.setReg .shfSchedCtrl e (BitVec.ofNat 64 w.base.length)
  let s := s.each (List.range 256) fun s k => s.setReg .shfSched (256 * e + k) (match w.base[k]? with
    | some p => BitVec.ofNat 64 (p.2 * 2 ^ 40 + p.1)
    | none => 0)
  let s := s.each (List.range 4) fun s k => s.setReg .shfKey (4 * e + k) (BitVec.ofNat 64 (bits l.seed.toNat (32 * k) 32))
  let s := s.each (List.range 4) fun s k => ((((((s.setReg .shfStay (4 * e + k) (((w.stay[k]?).getD 0).setWidth 64)).setReg
    .shfStuckCfg (4 * e + k) (((w.stuck[k]?).getD 0).setWidth 64)).setReg .shfUndo (4 * e + k) 0).setReg .shfSat (4 * e + k) 0).setReg
    .shfProp (4 * e + k) 0).setReg .shfStuckState (4 * e + k) 0).setReg .shfSnapEnergy (4 * e + k) 0
  let s := s.setReg .stkExchCfg e (match place with
    | some x => x.2.1.setWidth 64
    | none => 0)
  s.setReg .shfTick e 0

end Sys2Proof.Machine

namespace Sys2Proof
open Sys2Proof.Machine

/-- Initial spins of a replica, by graph block. -/
def Sched.start (w : Sched) (r : Nat) (b : Nat) : BitVec 1024 := match w.initial.find? fun x => x.1 == r && x.2.1 == b with
  | some x => x.2.2
  | none => 0

end Sys2Proof

namespace Sys2Proof.Machine

/-- A lane loaded from the initial spins of its replica (R78, R100, R154). -/
def State.loadLane (s : State) (l : Launch) (v : Coeffs) (e idx k : Nat) : State :=
  let b := idx % v.blocks
  let sp := l.sched.start (4 * (idx / v.blocks) + k)
  let en := v.laneEnergy sp b
  let n := 4 * e + k
  let s := s.setLane n { spins := sp b, field := v.fields sp b, bestSpins := sp b, bestEnergy := BitVec.ofInt 48 en }
  (s.setFld F.shfEnergyEnergy n (unsign 48 en)).setFld F.shfLowLow n (unsign 48 en)

/-- Ladder factor of each replica (R145, R146). -/
def Launch.lambda (l : Launch) (r : Nat) : Nat := (l.sched.ladder[l.perm.idxOf r]?).getD 0

/-- Ladder factors written to the lanes of an engine. -/
def State.loadLadder (s : State) (l : Launch) (v : Coeffs) (e idx : Nat) : State :=
  s.each (List.range 4) fun s k => s.setFld F.shfLadderLambda (4 * e + k) (l.lambda (4 * (idx / v.blocks) + k))

/-- Logical identity of a core (R246). -/
def coreIdent (g acre st core : Nat) : Nat := g / 8 * 2 ^ 16 + g % 8 * 2 ^ 13 + acre * 2 ^ 10 + st * 2 ^ 6 + core

/-- A core assigned to a launch (R243), its memories loaded from the image. -/
def State.loadCore (s : State) (c : Nat) (w : Sched) (g acre st k core : Nat) : State :=
  let n := 4 * k + core
  let s := s.setCore n { ctx := some c, ident := coreIdent g acre st core }
  let s := (s.blank (imemAt n 0) 65536).blank (dmemAt n 0) 65536
  let s := (w.imem.filter fun x => x.1 == g && x.2.1 == acre && x.2.2.1 == st && x.2.2.2.1 == core).foldl
    (fun s x => s.wrN (imemAt n 0) (x.2.2.2.2.flatMap fun q => leBytes 4 q.toNat)) s
  let s := (w.dmem.filter fun x => x.1 == g && x.2.1 == acre && x.2.2.1 == st && x.2.2.2.1 == core).foldl
    (fun s x => s.wrN (dmemAt n 0) x.2.2.2.2) s
  (s.setReg .stkCoreStatus n 0).setReg .stkCoreFault n 0

/-- The harrow tile of a stook that a launch uses: the counters that are cleared at launch (R201). DESIGN CHOICE (log 145): the load sets
HRW_CTRL.EN; the manual does not say who does, and a tile with EN = 0 accepts nothing. -/
def State.loadTile (s : State) (k : Nat) : State :=
  (((s.setReg .hrwCtrl k 1).setFld F.hrwRangeOvfKernels k 0).setReg .hrwSatCount k 0).setReg .hrwKernels k 0

/-- A generator loaded from its declaration (R186, R187, R193): the token before step 0 is IDLE. -/
def State.loadGen (s : State) (c : Nat) (l : Launch) (d : GenDecl) : State :=
  match s.stookAt l d.field d.acre (d.stooks.foldl min 15) with
  | none => s
  | some k =>
    let s := s.setGen k { ctx := some c, decl := some d
                          ident := d.field * 2 ^ 5 + d.acre * 4 + bits d.ctrl.toNat 9 2 }
    let s := s.each (List.range 16) fun s i => s.setReg .hrwGenTarget (16 * k + i) (((d.targets[i]?).getD 0).setWidth 64)
    (((((s.setReg .hrwGenCtrl k (d.ctrl.setWidth 64)).setReg .hrwGenStart k (BitVec.ofNat 64 (d.start % 2 ^ 40))).setReg
      .hrwGenTau k (d.tau.setWidth 64)).setReg .hrwGenState k (BitVec.ofNat 64 (1539 * 2 ^ 37))).setReg .hrwGenCount k 0)

/-- The tally unit of an acre loaded for a launch (R163, R168). The fields of the root only stay zero elsewhere. -/
def State.loadAcre (s : State) (c : Nat) (l : Launch) (g a n : Nat) : State :=
  let w := l.sched
  let root := g == 0 && a == 0
  let st := w.stats.find? fun x => x.1 == g && x.2.1 == a
  let s := s.setAcre n { s.acre n with ctx := some c, stats := (st.map (·.2.2.2.2)).getD [], parts := [],
                                       statStook := (st.map (·.2.2.1)).getD 0, statOff := (st.map (·.2.2.2.1)).getD 0 }
  (((((s.setReg .acrWinnowCtrl n (w.winnow.setWidth 64)).setReg .acrTallyCtrl n (w.tally.setWidth 64)).setReg .acrHistCfg n
    (if root then w.hist else 0)).setReg .acrWinnowCount n 0).setReg .acrTallyStatus n 0).setReg .acrStatSamples n 0

/-- Acres of a launch on this module: (g, acre, number). -/
def Launch.acres (l : Launch) (blocks : Nat) : List (Nat × Nat × Nat) :=
  (List.range l.dies.length).flatMap fun i => match l.dies[i]? with
    | none => []
    | some d => ((List.range 8).filter fun a =>
        (l.placed blocks).any (fun b => b / 128 == 8 * (l.first + i) + a) || l.sched.uses.any fun u => u.1 == l.first + i && u.2.1 == a).map
          fun a => (l.first + i, a, d * 8 + a)

/-- The granary segments that a launch maps (R326). A segment that is mapped already stays where it is. -/
def State.mapGran (s : State) (c : Nat) (l : Launch) : State :=
  l.sched.granSegs.foldl (fun s x => match l.dieOf x.1 with
    | none => s
    | some d =>
      let i := d % 8 * 256 + 128 * l.slotOf x.1 + x.2.1
      if s.flag F.grnSegValid i && s.fld F.grnSegCtx i == c then s
      else match s.granFree (d % 8) [] with
        | [] => s
        | p :: _ => s.setReg .grnSeg i (BitVec.ofNat 64
            (c * 2 ^ 50 + x.1 * 2 ^ 41 + x.2.2 * 2 ^ 9 + 2 ^ 8 + p / 32 * 2 ^ 6 + p % 32))) s

/-- One GDDR 7 segment of a launch mapped on a die, as home or mirror copy (R330). One that is mapped already stays where it is, on another die
too when its field has moved (R427). -/
def State.mapSeg (s : State) (c d g seg keep mirror : Nat) : State :=
  if (List.range 2048).any fun k => s.fld F.gddSegOwner k == 1 && s.fld F.gddSegCtx k == c && s.fld F.gddSegField k == g &&
      s.fld F.gddSegLseg k == seg && s.fld F.gddSegMirror k == mirror then s
  else match s.freeSegs d with
  | [] => s
  | p :: _ => s.setReg .gddSeg (d * 256 + p) (BitVec.ofNat 64 (c * 2 ^ 50 + g * 2 ^ 41 + seg * 2 ^ 33 + 1 * 4 + mirror * 2 + keep))

/-- The GDDR 7 segments that a launch maps, a KEEP one also on the next die eastward (R321, R330). -/
def State.mapGddr (s : State) (c : Nat) (l : Launch) : State :=
  l.sched.gddrSegs.foldl (fun s x => match l.dieOf x.1 with
    | none => s
    | some d =>
      let s := s.mapSeg c (d % 8) x.1 x.2.1 x.2.2 0
      if x.2.2 = 1 ∧ s.nextDie (d % 8) ≠ d % 8 then s.mapSeg c (s.nextDie (d % 8)) x.1 x.2.1 1 1 else s) s

/-- SEGS_MAPPED of each port of the granary (R343). -/
def State.countGran (s : State) : State :=
  s.each (List.range 8) fun s d => s.setFld F.grnStatusSegsMapped d (s.granUsed d []).length

/-- A bank handed to a launch by an owner write of the Badger (R214, R216). One that the launch holds already stays. -/
def State.giveBank (s : State) (c i : Nat) : State :=
  if s.ownerWord (i / 16) (i % 16) = 0x4000 + c then s else (s.handBank i 0 (0x4000 + c)).2

/-- The router slots that a launch books, in the slot tables of its dies (R293, R296). A bounded launch books none. -/
def State.bookSlots (s : State) (c : Nat) (l : Launch) : State :=
  if l.sched.bounded then s else
  l.sched.slots.foldl (fun s x => match l.dieOf x.1 with
    | some d => { s with slotTable := sput none s.slotTable (slotKey (outKey d x.2.1 x.2.2.1) x.2.2.2) (some c) }
    | none => s) s

/-- An acre begins to wake (R449). -/
def State.wakeAcre (s : State) (a : Nat) : State :=
  if s.fld F.pwrAcreStateState a = 0 ∧ s.dieLost (a / 8) = false then
    (s.setFld F.pwrAcreStateState a 1).setFld F.pwrAcreStateWakeLeft a 6
  else s

/-- The acres of a launch begin to wake, where they sleep (R450). -/
def State.wakeFor (s : State) (l : Launch) (blocks : Nat) : State := s.each ((l.acres blocks).map (·.2.2 % 64)) State.wakeAcre

/-- Whether every acre of a launch is awake. -/
def State.awakeFor (s : State) (l : Launch) (blocks : Nat) : Bool := (l.acres blocks).all fun a => s.fld F.pwrAcreStateState (a.2.2 % 64) == 2

/-- Everything of a load but the lanes: engines, cores, tiles, generators, tally units, banks, router slots and segments (R202, R214, R243,
R296). The Badger's owner writes take effect with the load (log 133). -/
def State.loadUnits (s : State) (c : Nat) (l : Launch) (v : Coeffs) : State :=
  let w := l.sched
  let s := s.wakeFor l v.blocks
  let s := w.banks.foldl (fun s b => match s.stookOf l b.1 with
    | some k => s.giveBank c (bankIx k b.2)
    | none => s) s
  let s := s.bookSlots c l
  let s := w.cribs.foldl (fun s x => match s.stookOf l x.1 with
    | some k => s.store (cribAt k x.2.1) x.2.2 false
    | none => s) s
  let s := (l.placed v.blocks).foldl (fun s idx => match s.engineAt l idx with
    | some e => (s.loadEngine c l v e idx).loadLadder l v e idx
    | none => s) s
  let s := w.uses.foldl (fun s u => match s.stookAt l u.1 u.2.1 u.2.2 with
    | some k => (s.each (List.range 4) fun s core => s.loadCore c w u.1 u.2.1 u.2.2 k core).loadTile k
    | none => s) s
  let s := w.gens.foldl (fun s d => s.loadGen c l d) s
  let s := (l.acres v.blocks).foldl (fun s a => s.loadAcre c l a.1 a.2.1 a.2.2) s
  ((((s.mapGran c l).mapGddr c l).countGran).countRes []).emptyTiles c l

/-- A hand-off on its way to a chain unit, or held while the unit is full (R233, R234): the logical cycle from which the unit may receive
it, and the unit that hands it off. -/
def State.offer (s : State) (k addr : Nat) (due : Int) (source : Option (Nat × Nat × Nat) := none) : State :=
  s.setStook k { s.stook k with offered := (s.stook k).offered ++ [{ addr := addr, arrived := due, source := source }] }

/-- The lanes of a load written from the initial spins, and the first chain entries of the schedule image handed off (R232, R233). -/
def State.loadLanes (s : State) (l : Launch) (v : Coeffs) : State :=
  let s := l.sched.chains.foldl (fun s x => match s.stookOf l x.1 with
    | some k => s.offer k x.2 (l.tau * 1024)
    | none => s) s
  (l.placed v.blocks).foldl (fun s idx => match s.engineAt l idx with
    | some e => s.each (List.range 4) fun s k => s.loadLane l v e idx k
    | none => s) s

/-- Energy of a replica summed over a launch's engines on this module, from a lane register (R147). -/
def State.replicaSum (s : State) (l : Launch) (blocks : Nat) (f : Fld) (r : Nat) : Int :=
  ((l.placed blocks).map fun idx => if idx / blocks = r / 4 then (match s.engineAt l idx with
    | some e => s.sfld f (4 * e + r % 4)
    | none => 0) else 0).sum

/-- Replicas of a launch (R141). A launch with reduction ticks has at most 256 (R143). -/
def Launch.replicas (l : Launch) : Nat := 4 * l.copies

/-! ## The areas of a launch in GDDR 7 -/

/-- The physical segment of a launch's logical GDDR 7 segment, home or mirror: `256 * die + segment` (R330). -/
def State.gddrSegOf (s : State) (c g seg mirror : Nat) : Option Nat :=
  (List.range 2048).find? fun i => s.fld F.gddSegOwner i == 1 && s.fld F.gddSegCtx i == c && s.fld F.gddSegField i == g &&
    s.fld F.gddSegLseg i == seg && s.fld F.gddSegMirror i == mirror

/-- Flat address of a GDDR 7 byte of a launch, in the home or the mirror copy. -/
def State.gddrByte (s : State) (c : Nat) (l : Launch) (addr mirror : Nat) : Option Nat :=
  let a := addr % 2 ^ 35
  (s.gddrSegOf c (l.first + addr / 2 ^ 35) (a / gddrSegBytes) mirror).map fun i =>
    gddrAt (i / 256) (i % 256 * gddrSegBytes + a % gddrSegBytes)

/-- Bytes put into a launch's GDDR 7 from an address, in the home and the mirror copy; bytes that no segment maps are left out. -/
def State.gddrPut (s : State) (c : Nat) (l : Launch) (addr : Nat) (data : List Byte) : State :=
  (List.range data.length).foldl (fun s k =>
    let put := fun (s : State) (mirror : Nat) => match s.gddrByte c l (addr + k) mirror with
      | some a => s.wrN a ((data.drop k).take 1)
      | none => s
    put (put s 0) 1) s

/-! ## Releasing units -/

/-- A unit of a stook as the leave ledger names it: 16 × logical stook + unit (R453). -/
def State.unitOf (s : State) (k unit : Nat) : Nat :=
  (if k % 17 = 16 then ((s.acre (k / 17)).retired.head?).getD 16 else k % 17) * 16 + unit

/-- HELD and QUEUE of an acre follow its ledger and queue (R466). -/
def State.countLeave (s : State) (a : Nat) : State :=
  (s.setFld F.pwrAcreStateHeld a (min (((s.acre a).grants.map (·.lu)).sum) 4095)).setFld F.pwrAcreStateQueue a (s.acre a).queue.length

/-- The open grants of a unit leave the ledger (R452). -/
def State.dropGrants (s : State) (a unit : Nat) : State :=
  (s.setAcre a { s.acre a with grants := (s.acre a).grants.filter fun (g : Grant) => !(g.unit == unit && g.ends.isNone) }).countLeave a

/-- The units of a launch given back: engines, cores, generators, tally units, banks and router slots. Owner writes of the Badger free the
banks (R214, R216, R435; DEDUCED). -/
def State.releaseUnits (s : State) (c : Nat) : State :=
  let owned := (List.range (2176 * 16)).filter fun i => s.ownerWord (i / 16) (i % 16) == 0x4000 + c
  let mine := s.enginesOf c
  let s := s.each mine fun s e =>
    ((((s.setEngine e { s.engine e with ctx := none, queue := [], heldRecs := [], items := [], overlay := [] }).setFld F.shfCtrlRun e 0).setFld
      F.shfStatusLaneRun e 0).setFld F.shfStatusMoveBusy e 0).each (List.range 4) fun s k => s.setLane (4 * e + k) { s.lane (4 * e + k) with active := none, incoming := none, moveRows := [] }
  let s := s.each mine fun s e => s.dropGrants (e / 136 % 64) (s.unitOf (e / 8) (e % 8))
  let s := s.each (s.coresOf c) fun s k =>
    (s.setCore k { s.core k with ctx := none, wait := .none, stream := none }).setFld F.stkCoreStatusState k
      (if s.fld F.stkCoreStatusState k = 3 then 3 else 0)
  let s := s.each (s.gensOf c) fun s k => (s.setGen k { s.gen k with ctx := none, decl := none }).setFld F.hrwGenCtrlEn k 0
  let s := s.each (s.acresOf c) fun s a => s.setAcre a { s.acre a with ctx := none, stats := [], parts := [], sample := [], added := 0, sampled := [] }
  (s.dropSlots c).each owned fun s i => (s.handBank i (0x4000 + c) 0).2

/-- What a launch gives back when it ends or leaves its engines: its units and its segments (R326, R330). -/
def State.release (s : State) (c : Nat) : State :=
  let s := s.releaseUnits c
  let s := s.each (List.range 2048) fun s k => if s.flag F.grnSegValid k && s.fld F.grnSegCtx k == c then s.setReg .grnSeg k 0 else s
  let s := s.each (List.range 2048) fun s k => if s.fld F.gddSegOwner k == 1 && s.fld F.gddSegCtx k == c then s.setReg .gddSeg k 0 else s
  (s.countGran.countRes [c]).acted c

end Sys2Proof.Machine
end

