-- ==== Sys2Proof/Machine/Leave.lean ====
section
/-!
DEFINITION. Leave (R39, R451–R457): the wardens' ledgers and queues, and how an operation that needs leave begins.
-/
namespace Sys2Proof.Machine

/-- Class T and class E shares of a ledger. -/
def Acre.held (x : Acre) (classE : Bool) : Nat := ((x.grants.filter (·.classE == classE)).map (·.lu)).sum

/-- A grant entered in the ledger; a class E share above the reservation sets OVERBOOK (R455). -/
def State.grant (s : State) (a : Nat) (g : Grant) : State :=
  let s := (s.setAcre a { s.acre a with grants := (s.acre a).grants ++ [g] }).countLeave a
  if g.classE && decide (s.fld F.pwrAcreStateRes a < (s.acre a).held true) then s.raise F.pwrAcreStateOverbook a else s

/-- Whether an unbooked request fits (R456). -/
def State.leaveFits (s : State) (a lu : Nat) : Bool :=
  decide ((s.acre a).held false + lu + s.fld F.pwrAcreStateRes a ≤ s.fld F.pwrAcreCapCap a)

/-- The wall cycle at which a grant of a duration ends; none for an open grant. -/
def State.grantEnd (s : State) (duration : Nat) : Option Nat := if duration = 0 then none else some (s.now + duration)

/-- An unbooked request at the warden (R456): granted when it fits and nothing waits; else it joins the queue, or comes again where the queue
is full. -/
def State.serveLeave (s : State) (a : Nat) (q : LeaveReq) : State :=
  if (s.acre a).queue.isEmpty && s.leaveFits a q.lu then
    s.grant a { unit := q.unit, lu := q.lu, classE := false, ends := s.grantEnd q.duration }
  else if (s.acre a).queue.length < 64 then (s.setAcre a { s.acre a with queue := (s.acre a).queue ++ [q] }).countLeave a
  else s.setAcre a { s.acre a with asks := (s.acre a).asks ++ [{ q with since := s.now }] }

/-- Requests put in the order in which the warden handles them: by cycle, and those of one cycle by logical stook and unit, the Badger last
(R34, R456). -/
def askBefore (p q : LeaveReq) : Bool := decide (p.since < q.since) || (p.since == q.since && decide (p.unit ≤ q.unit))

def putAsk (q : LeaveReq) : List LeaveReq → List LeaveReq
  | [] => [q]
  | p :: rest => if askBefore p q then p :: putAsk q rest else q :: p :: rest

/-- The requests that have reached the warden, 4 cycles after they were issued (R454), handled in order. -/
def State.settleLeave (s : State) (a : Nat) : State :=
  let due := (s.acre a).asks.filter fun (q : LeaveReq) => decide (q.since + 4 ≤ s.now)
  due.foldl (fun s q => s.serveLeave a q)
    (s.setAcre a { s.acre a with asks := (s.acre a).asks.filter fun (q : LeaveReq) => !decide (q.since + 4 ≤ s.now) })

/-- Requests on their way, in slots of their own: two of one stook that are ready together take slots in UNIT order, the later one the next
(R454). -/
def spreadAsks (l : List LeaveReq) : List LeaveReq :=
  (l.foldl (fun (acc : List LeaveReq) q =>
    let last := (acc.filter (·.unit / 16 == q.unit / 16)).map (·.since + 1)
    acc ++ [{ q with since := last.foldl max q.since }]) []).mergeSort askBefore

/-- The wall cycle at which a unit that is ready now issues a request (R454): none meets the owner frame. -/
def State.slotNow (s : State) : Nat := if 951 < s.cyc ∧ s.cyc < 1008 then s.tick * 1024 + 1008 else s.now

/-- A request issued (R454–R456): a booked one is granted without a test; another is on its way to the warden. -/
def State.askLeave (s : State) (a unit lu duration : Nat) (booked : Bool) : State :=
  if booked then s.grant a { unit := unit, lu := lu, classE := true, ends := s.grantEnd duration, used := true }
  else
    let s := s.settleLeave a
    s.setAcre a { s.acre a with asks := spreadAsks (putAsk { unit := unit, lu := lu, duration := duration, since := s.slotNow } (s.acre a).asks) }

/-- Grants that have ended leave the ledger (R452). -/
def State.expireLeave (s : State) (a : Nat) : State :=
  (s.setAcre a { s.acre a with grants := (s.acre a).grants.filter fun (g : Grant) => g.ends.all fun t => decide (s.now < t) }).countLeave a

/-- What happens once the answer to a unit's request is known, 8 cycles after the request (R454); at once where it has none on its way. -/
def State.awaitLeave (s : State) (a unit : Nat) (f : State → State) : State :=
  match (s.acre a).asks.find? (·.unit == unit) with
  | some q => s.fromWall (q.since + 8) fun s => f (s.settleLeave a)
  | none => f s

/-- Whether a grant of a unit for some LU waits to be used by an operation. -/
def State.hasLeave (s : State) (a unit lu : Nat) : Bool := (s.acre a).grants.any fun g => g.unit == unit && g.lu == lu && !g.used

/-- The first of the grants that a property holds of, marked as used. -/
def useGrant (p : Grant → Bool) : List Grant → List Grant
  | [] => []
  | g :: rest => if p g then { g with used := true } :: rest else g :: useGrant p rest

/-- A grant of a unit used by the operation that begins. -/
def State.takeLeave (s : State) (a unit lu : Nat) : State :=
  s.setAcre a { s.acre a with grants := useGrant (fun g => g.unit == unit && g.lu == lu && !g.used) (s.acre a).grants }

/-- Leave of a launch is booked in class E (R40, R455). -/
def State.bookedLeave (s : State) (c : Nat) : Bool := (s.launch c).any fun l => !l.sched.classT

/-- A unit's need of leave: its acre, UNIT, LU and duration. -/
structure Need where
  acre : Nat
  unit : Nat
  lu : Nat
  duration : Nat
  deriving DecidableEq, Repr

/-- Whether a need has been put to its warden and is not yet used. -/
def State.asked (s : State) (x : Need) : Bool :=
  (s.acre x.acre).asks.any (·.unit == x.unit) || (s.acre x.acre).queue.any (·.unit == x.unit) || s.hasLeave x.acre x.unit x.lu

/-- An operation of a launch that needs leave for some units (R39, R451): it begins with its grants. Booked leave comes with the request; another
request is sent when the operation first presents itself, and the operation begins when it presents itself again with the grants there. -/
def State.withLeaves (s : State) (c : Nat) (l : List Need) (f : State → State) : State :=
  if s.bookedLeave c then f (l.foldl (fun s x => s.askLeave x.acre x.unit x.lu x.duration true) s)
  else if l.all s.asked then
    l.foldr (fun x k s => s.awaitLeave x.acre x.unit k)
      (fun s => if l.all fun x => s.hasLeave x.acre x.unit x.lu then f (l.foldl (fun s x => s.takeLeave x.acre x.unit x.lu) s) else s) s
  else l.foldl (fun s x => if s.asked x then s else s.askLeave x.acre x.unit x.lu x.duration false) s

/-- An operation of one unit that needs leave. -/
def State.withLeave (s : State) (c a unit lu duration : Nat) (f : State → State) : State := s.withLeaves c [⟨a, unit, lu, duration⟩] f

end Sys2Proof.Machine
end

