-- ==== Sys2Proof/Machine/Writes.lean ====
section
/-!
DEFINITION. Writes to the registers of the unit pages (R13, R108, R201, R237, R262): what changes at once, and what waits for the next
tick or token boundary.
-/
namespace Sys2Proof.Machine

/-- Copies of a register in one unit. -/
def Reg.copies (r : Reg) : Nat := match regRows.find? (·.reg == r) with
  | some w => w.outN * w.inN
  | none => 1

/-- The page that a register lies in. -/
def Reg.page (r : Reg) : PageKind := match regRows.find? (·.reg == r) with
  | some w => w.page
  | none => .window

/-- The bits of a register that a write of a unit page sets: RW bits, and the WO bits that the unit keeps (SHF_KEY). -/
def Reg.settable (r : Reg) : Word := r.rw ||| (match r with
  | .shfKey => Reg.shfKey.wo
  | _ => 0)

/-- A launch runs on some unit of a stook (R237). -/
def State.stookRuns (s : State) (k : Nat) : Bool :=
  let on := fun (c : Option Nat) => c.any fun c => (s.ctx c).state == .running || (s.ctx c).state == .held
  ((List.range 8).any fun e => on (s.engine (8 * k + e)).ctx) || ((List.range 4).any fun n => on (s.core (4 * k + n)).ctx) ||
    on (s.gen k).ctx

/-- Whether a write of copy `i` of a register waits for a boundary (R108, R237). -/
def State.writeWaits (s : State) (r : Reg) (i : Nat) : Bool :=
  let u := i / r.copies
  match r.page with
  | .shf => s.flag F.shfCtrlRun u
  | .hrw => s.stookRuns u
  | .stk => s.stookRuns u
  | .acr => (s.acre u).ctx.any fun c => (s.ctx c).state == .running || (s.ctx c).state == .held
  | .window => false

/-- The registers of a generator (R201). -/
def Reg.ofGen (r : Reg) : Bool := match r with
  | .hrwGenCtrl => true
  | .hrwGenStart => true
  | .hrwGenTau => true
  | .hrwGenTarget => true
  | _ => false

/-- LANE_RUN follows RUN and LANE_EN; a lane held for want of a key decides nothing (R109, R111). -/
def State.showLanes (s : State) (e : Nat) : State :=
  s.setFld F.shfStatusLaneRun e (if s.flag F.shfCtrlRun e && !s.flag F.shfStatusNoiseHeld e then s.fld F.shfCtrlLaneEn e else 0)

/-- The settable bits of a register take a value. -/
def State.settle (s : State) (r : Reg) (i : Nat) (v : Word) : State :=
  let s := s.setReg r i ((s.reg r i &&& ~~~r.settable) ||| (v &&& r.settable))
  if r = .shfCtrl then s.showLanes i else s

/-- A write to a register of a unit page (R13): W1C bits clear at once; RW bits change at once, or at the boundary that R108, R201
and R237 name. DESIGN CHOICE (log 146): a write of the write-only SHF_KEY waits like one of the RW columns that R108 names. Clearing VALID of a core's fault returns the core to IDLE (R262). -/
def State.unitWrite (s : State) (r : Reg) (i : Nat) (v : Word) : State :=
  let s := if r.w1c = 0 then s else s.setReg r i (s.reg r i &&& ~~~(v &&& r.w1c))
  let s := if r = .stkCoreFault ∧ v.getLsbD 4 ∧ s.fld F.stkCoreStatusState i = 3 then s.setFld F.stkCoreStatusState i 0 else s
  if r.settable = 0 then s
  else if r.ofGen && s.flag F.hrwGenCtrlEn (i / r.copies) then { s with staged := s.staged ++ [⟨r, i, v, true⟩] }
  else if s.writeWaits r i then { s with staged := s.staged ++ [⟨r, i, v, false⟩] }
  else s.settle r i v

end Sys2Proof.Machine
end

