-- ==== Sys2Proof/Machine/Saving.lean ====
section
/-!
DEFINITION. Saved states (R110, R157, R197, R244, R277–R279): the capture of a launch's state by logical identity, and its
restore into the units that a placement gives.
-/
namespace Sys2Proof.Machine

/-! ## Capture -/

/-- What is kept of a lane (R110, R277). At a launch tick of at most 0 the digest is the lane's identity (R278). -/
def State.saveLane (s : State) (n : Nat) (tau : Int) : LaneSave where
  spins := (s.lane n).spins
  field := (s.lane n).field
  energy := BitVec.ofNat 48 (s.fld F.shfEnergyEnergy n)
  low := BitVec.ofNat 48 (s.fld F.shfLowLow n)
  offset := BitVec.ofNat 16 (s.fld F.shfStuckStateOffset n)
  count := BitVec.ofNat 20 (s.fld F.shfStuckStateCount n)
  lambda := BitVec.ofNat 16 (s.fld F.shfLadderLambda n)
  bestSpins := (s.lane n).bestSpins
  bestEnergy := (s.lane n).bestEnergy
  bestTick := (s.lane n).bestTau
  digest := if tau ≤ 0 then
      BitVec.ofNat 64 (laneIdent (s.engine (n / 4)).rank (s.engine (n / 4)).block (n % 4))
    else (s.lane n).digest
  windowDigest := (s.lane n).windowDigest

/-- What is kept of `n` bytes of memory from an address. -/
def State.keep (s : State) (a n : Nat) : MemSave where
  cells := (s.mem.filter fun x => decide (a ≤ x.1) && decide (x.1 < a + n)).map fun x => (x.1 - a, x.2)
  tags := (s.poison.filter fun x => decide (a / 8 ≤ x.1) && decide (x.1 < (a + n) / 8)).map fun x => x.1 - a / 8

/-- `n` bytes of memory from an address set from what was kept of them. -/
def State.putBack (s : State) (a n : Nat) (m : MemSave) : State :=
  let s := s.blank a n
  let s := m.cells.foldl (fun s x => s.wrN (a + x.1) [x.2]) s
  m.tags.foldl (fun s k => s.tag (a + 8 * k) 8 true) s

/-- Blocks of the graph that a launch runs on. -/
def State.blocksOf (s : State) (c : Nat) : Nat := match s.versionOf c with
  | some v => v.coeffs.blocks
  | none => 0

/-- Lanes of a launch on this module: logical lane `4 * index + lane`, and the lane's number. -/
def State.lanesOf (s : State) (c : Nat) (l : Launch) : List (Nat × Nat) :=
  (l.placed (s.blocksOf c)).flatMap fun idx => match s.engineAt l idx with
    | some e => (List.range 4).map fun k => (4 * idx + k, 4 * e + k)
    | none => []

/-- The lanes of a launch that are enabled now (R284). -/
def State.enabledLanes (s : State) (c : Nat) (l : Launch) : List (Nat × Nat) :=
  (s.lanesOf c l).filter fun p => (s.fld F.shfCtrlLaneEn (p.2 / 4)).testBit (p.2 % 4)

/-- Width in bytes of a statistics counter of an acre (R163). -/
def State.cntBytes (s : State) (a : Nat) : Nat := if s.flag F.acrTallyCtrlCnt32 a then 4 else 2

/-- Crib address of statistics counter `k` of an acre (R163). -/
def State.cntAt (s : State) (a k : Nat) : Nat := k % 16 * 2 ^ 19 + (s.acre a).statOff + k / 16 * s.cntBytes a

/-- Stook that holds the statistics area of an acre. -/
def State.statStook (s : State) (a : Nat) : Nat := s.physStook (a / 8) (a % 8) (s.acre a).statStook

/-- The statistics counters of an acre, in order. -/
def State.counters (s : State) (a : Nat) : List Byte :=
  (List.range (s.acre a).stats.length).flatMap fun k => s.rdN (cribAt (s.statStook a) (s.cntAt a k)) (s.cntBytes a)

/-- Crib regions that an image declares as checkpointed (R338). -/
def State.ckptRegions (s : State) (l : Launch) : List (Nat × Nat × Nat × MemSave) :=
  l.sched.ckptCribs.filterMap fun r => (s.stookOf l r.1).map fun k => (r.1, r.2.1, r.2.2, s.keep (cribAt k r.2.1) r.2.2)

/-- Stooks that a launch uses: stook number of R229, and the stook. -/
def State.stooksOf (s : State) (l : Launch) : List (Nat × Nat) :=
  ((l.sched.uses.map fun u => (u.1 - l.first) * 128 + u.2.1 * 16 + u.2.2) ++ l.sched.banks.map (·.1)).eraseDups.filterMap fun n =>
    (s.stookOf l n).map fun k => (n, k)

/-- The banks that a launch owns in its stooks (R214), as crib regions. -/
def State.ownRegions (s : State) (c : Nat) (l : Launch) : List (Nat × Nat × Nat × MemSave) :=
  (s.stooksOf l).flatMap fun x => ((List.range 16).filter fun b => s.ownerWord x.2 b == 0x4000 + c).map fun b =>
    (x.1, b * 2 ^ 19, 2 ^ 19, s.keep (cribAt x.2 (b * 2 ^ 19)) (2 ^ 19))

/-- What SAVE keeps of the chain units and queues of a launch's stooks (R269): the entries that lie in its banks, and the queues whose banks
it owns. -/
def State.saveStooks (s : State) (c : Nat) (l : Launch) : List (Nat × StookSave) :=
  (s.stooksOf l).map fun x =>
    let mine := fun a => s.ownerWord x.2 (bankOf a) == 0x4000 + c
    let st := s.stook x.2
    let queues := (List.range 32).filter fun q => s.flag F.stkQueueCfgEn (x.2 * 32 + q) &&
      s.ownerWord x.2 (s.fld F.stkQueueCfgBankA (x.2 * 32 + q)) == 0x4000 + c
    (x.1, { stook := { chain := st.chain.filter fun y => mine y.addr, offered := st.offered.filter fun y => mine y.addr
                       running := st.running.filter fun y => mine y.addr, written := st.written.filter fun y => queues.contains (y.1 / 2) }
            queues := queues.map fun q => (q, s.reg .stkQueueCfg (x.2 * 32 + q), s.reg .stkQueueStatus (x.2 * 32 + q)) })

/-- Chain entries of a launch placed and not completed (R418): stook number of R229 and crib address. -/
def State.chainsOf (s : State) (c : Nat) (l : Launch) : List (Nat × Nat) :=
  l.sched.uses.flatMap fun u => match s.stookAt l u.1 u.2.1 u.2.2 with
    | some k =>
      let mine := fun a => s.ownerWord k (bankOf a) == 0x4000 + c
      ((((s.stook k).running.map (·.addr)) ++ (s.stook k).chain.map (·.addr)).filter mine).map fun a =>
        ((u.1 - l.first) * 128 + u.2.1 * 16 + u.2.2, a)
    | none => []

/-- The root's tally unit: acre 0 of field_0 of logical rank 0 (R148). -/
def Launch.root (l : Launch) : Option Nat := (l.dieOf 0).map (8 * ·)

/-- The last digest tick before a launch tick (R278). -/
def lastDigest (tau : Int) : Option Nat := if tau ≤ 0 then none else some (((tau - 1) / 64).toNat * 64)

/-- The state of a launch, by logical identity (R277). `regions` adds the crib regions that a checkpoint carries (R338). -/
def State.capture (s : State) (c : Nat) (l : Launch) (regions : Bool) : Saved where
  level := s.fld F.hubIdentLevel 0
  classT := l.sched.classT
  copies := l.copies
  fields := l.sched.fields
  schedHash := l.schedHash
  tau := l.tau
  graph := l.graph
  version := l.version
  seed := l.seed
  journalSeq := (s.ctx c).journalNext - 1
  digestTau := lastDigest l.tau
  imageHash := l.imageHash
  sched := l.image
  follow := l.follow
  lanes := (s.lanesOf c l).map fun p => (p.1, s.saveLane p.2 l.tau)
  perm := l.perm
  ladder := l.sched.ladder
  lost := l.lost
  bests := l.bests
  winnowCount := match l.root with
    | some a => s.reg .acrWinnowCount a
    | none => 0
  hist := l.hist
  statSamples := (l.acres (s.blocksOf c)).map fun a => (8 * a.1 + a.2.1, s.reg .acrStatSamples a.2.2)
  statCribs := (l.acres (s.blocksOf c)).map fun a => (8 * a.1 + a.2.1, 0, s.counters a.2.2)
  samples := ((l.acres (s.blocksOf c)).filter fun a => !(s.acre a.2.2).sampled.isEmpty).map fun a =>
    (8 * a.1 + a.2.1, (s.acre a.2.2).sample, (s.acre a.2.2).added, (s.acre a.2.2).sampled)
  audits := l.audits
  gens := (s.gensOf c).map fun k => ((s.gen k).ident, {
    state := s.reg .hrwGenState k, count := s.reg .hrwGenCount k, positions := (s.gen k).positions
    area := match (s.gen k).decl with
      | some d => s.rdN (cribAt k d.stateAt) d.stateBytes
      | none => []
    input := (s.gen k).input.map fun x => (x.1, x.2.1, s.rdN (cribAt k x.2.1) x.2.2) })
  cores := (s.coresOf c).map fun k => ((s.core k).ident, {
    core := s.core k, status := s.reg .stkCoreStatus k, fault := s.reg .stkCoreFault k, dmem := s.keep (dmemAt k 0) 65536 })
  cribs := if regions then s.ckptRegions l else s.ownRegions c l
  entries := if regions then s.chainsOf c l else []
  stooks := if regions then [] else s.saveStooks c l
  recompute := regions && !l.group
  patches := l.patches
  past := l.past
  inputs := l.inputs.map fun i => (i.apply, i.data)

/-- A saved state from offset 0x60 up to the copy of the schedule image: the spin vector and the best state of each lane in the layout of R47, by
ascending lane identity (DESIGN CHOICE, log 147), and the rest. -/
def savedBody (w : Saved) : List Byte :=
  w.lanes.flatMap (fun x => leBytes 128 x.2.spins.toNat ++ leBytes 128 x.2.bestSpins.toNat) ++ Config.savedBody w

/-- Bytes of a saved state (R278). -/
def savedBytes (w : Saved) : Nat := 96 + (savedBody w).length + w.sched.length

/-- A saved state as bytes: header, body, schedule image (R278). -/
def savedImage (w : Saved) : List Byte :=
  leBytes 4 (w.level * 65536 + (if w.classT then 1 else 0)) ++ leBytes 4 (w.copies * 4096 + w.fields) ++
  leBytes 8 w.schedHash.toNat ++ leBytes 8 (unsign 64 w.tau) ++ leBytes 4 w.graph ++ leBytes 4 w.version ++
  leBytes 16 w.seed.toNat ++ leBytes 4 w.journalSeq ++ leBytes 4 0 ++ leBytes 8 (w.digestTau.getD (2 ^ 64 - 1)) ++
  leBytes 8 w.imageHash.toNat ++ leBytes 8 (96 + (savedBody w).length) ++ leBytes 8 w.sched.length ++ leBytes 8 0 ++
  savedBody w ++ w.sched

/-! ## Restore -/

/-- A lane set from what was kept of it, with given fields. -/
def State.restoreLane (s : State) (n : Nat) (w : LaneSave) (f : Sparse (BitVec 20)) : State :=
  let s := s.setLane n { spins := w.spins, field := f, bestSpins := w.bestSpins, bestEnergy := w.bestEnergy, bestTau := w.bestTick,
                         digest := w.digest, windowDigest := w.windowDigest }
  (((s.setFld F.shfEnergyEnergy n w.energy.toNat).setFld F.shfLowLow n w.low.toNat).setFld F.shfStuckStateOffset n
    w.offset.toNat).setFld F.shfStuckStateCount n w.count.toNat

/-- Lanes of a launch set from a saved state: fields as saved (R78), or from a checkpoint recomputed out of the spins and the coefficients in
force (R338). In a group launch a member lacks the other members' spins, so a checkpoint keeps its fields too (log 137). -/
def State.restoreLanes (s : State) (l : Launch) (v : Coeffs) (w : Saved) : State :=
  (l.placed v.blocks).foldl (fun s idx => match s.engineAt l idx with
    | some e => s.each (List.range 4) fun s k =>
      match w.lanes.find? fun x => x.1 == 4 * idx + k with
      | some x =>
        let copy := idx / v.blocks
        let sp := fun b => match w.lanes.find? fun y => y.1 == 4 * (copy * v.blocks + b) + k with
          | some y => y.2.spins
          | none => 0
        (s.restoreLane (4 * e + k) x.2 (if w.recompute then v.fields sp (idx % v.blocks) else x.2.field)).setFld F.shfLadderLambda (4 * e + k) x.2.lambda.toNat
      | none => s
    | none => s) s

/-- The core of a launch with a logical identity. -/
def State.coreWith (s : State) (c ident : Nat) : Option Nat := (s.coresOf c).find? fun k => (s.core k).ident == ident

/-- The chain entries of a generation stand again in their chain units, as just arrived (R418). -/
def State.restoreChains (s : State) (c : Nat) (l : Launch) (w : Saved) : State :=
  let mine := fun k a => s.ownerWord k (bankOf a) == 0x4000 + c
  let s := l.sched.uses.foldl (fun s u => match s.stookAt l u.1 u.2.1 u.2.2 with
    | some k => s.setStook k { s.stook k with
        chain := (s.stook k).chain.filter fun x => !mine k x.addr, running := (s.stook k).running.filter fun x => !mine k x.addr }
    | none => s) s
  let s := w.entries.foldl (fun s x => match s.stookOf l x.1 with
    | some k => s.setStook k { s.stook k with chain := (s.stook k).chain ++ [{ addr := x.2, arrived := l.tau * 1024 }] }
    | none => s) s
  l.sched.uses.foldl (fun s u => match s.stookAt l u.1 u.2.1 u.2.2 with
    | some k => s.setFld F.stkChainStatusPending k (s.stook k).chain.length
    | none => s) s

/-- The chain unit and queues of a stook set from what SAVE kept of them, beside what other contexts have there. -/
def State.restoreStook (s : State) (c k : Nat) (w : StookSave) : State :=
  let other := fun a => s.ownerWord k (bankOf a) != 0x4000 + c
  let st := s.stook k
  let s := (s.setStook k {
    chain := (st.chain.filter fun y => other y.addr) ++ w.stook.chain
    offered := (st.offered.filter fun y => other y.addr) ++ w.stook.offered
    running := (st.running.filter fun y => other y.addr) ++ w.stook.running
    written := w.stook.written.foldl (fun m y => sput 0 m y.1 y.2) st.written })
  let s := w.queues.foldl (fun s q => (s.setReg .stkQueueCfg (k * 32 + q.1) q.2.1).setReg .stkQueueStatus (k * 32 + q.1) q.2.2) s
  s.setFld F.stkChainStatusPending k (s.stook k).chain.length

/-- Everything of a saved state but the lanes, written into the units of a launch (R157, R197, R244). -/
def State.restoreUnits (s : State) (c : Nat) (l : Launch) (blocks : Nat) (w : Saved) : State :=
  let s := w.stooks.foldl (fun s r => match s.stookOf l r.1 with
    | some k => s.restoreStook c k r.2
    | none => s) s
  let s := (l.acres blocks).foldl (fun s a =>
    let id := 8 * a.1 + a.2.1
    let s := match w.statSamples.find? fun x => x.1 == id with
      | some x => s.setReg .acrStatSamples a.2.2 x.2
      | none => s
    match w.statCribs.find? fun x => x.1 == id with
    | some x => s.each (List.range (s.acre a.2.2).stats.length) fun s k =>
        s.store (cribAt (s.statStook a.2.2) (s.cntAt a.2.2 k)) ((x.2.2.drop (k * s.cntBytes a.2.2)).take (s.cntBytes a.2.2)) false
    | none => s) s
  let s := (l.acres blocks).foldl (fun s a =>
    let s := if w.audits.isEmpty then s else s.setFld F.acrTallyStatusAuditBusy a.2.2 1
    match w.samples.find? fun x => x.1 == 8 * a.1 + a.2.1 with
    | some x => (s.setAcre a.2.2 { s.acre a.2.2 with sample := x.2.1, added := x.2.2.1, sampled := x.2.2.2 }).setFld F.acrTallyStatusSampleBusy a.2.2 1
    | none => s) s
  let s := match l.root with
    | some a => s.setReg .acrWinnowCount a w.winnowCount
    | none => s
  let s := (s.gensOf c).foldl (fun s k => match w.gens.find? fun x => x.1 == (s.gen k).ident with
    | some x =>
      let s := ((s.setReg .hrwGenState k x.2.state).setReg .hrwGenCount k x.2.count).setGen k { s.gen k with
        positions := x.2.positions, input := x.2.input.map fun y => (y.1, y.2.1, y.2.2.length) }
      let s := x.2.input.foldl (fun s y => s.store (cribAt k y.2.1) y.2.2 false) s
      match (s.gen k).decl with
      | some d => s.store (cribAt k d.stateAt) x.2.area false
      | none => s
    | none => s) s
  let s := w.cribs.foldl (fun s r => match s.stookOf l r.1 with
    | some k => s.putBack (cribAt k r.2.1) r.2.2.1 r.2.2.2
    | none => s) s
  w.cores.foldl (fun s x => match s.coreWith c x.1 with
    | some k => (((s.setCore k { x.2.core with ctx := some c }).setReg .stkCoreStatus k x.2.status).setReg .stkCoreFault k x.2.fault).putBack
        (dmemAt k 0) 65536 x.2.dmem
    | none => s) s

/-- A launch as a saved state and a placement make it. -/
def launchOf (w : Saved) (sched : Sched) (p : Placing) (group : Bool) (graph version stream seq t0 : Nat) : Launch where
  sched := { sched with ladder := w.ladder }
  image := w.sched
  schedHash := w.schedHash
  graph := graph
  version := version
  imageHash := w.imageHash
  seed := w.seed
  follow := w.follow
  stream := stream
  seq := seq
  copies := p.copies
  first := p.first
  group := group
  dies := p.dies
  slots := p.dies.map fun d => if 8 ≤ d then 1 else 0
  t0 := t0
  tau := w.tau
  turn := w.tau - 1
  holds := []
  holdAt := 0
  phase := .none
  windowOnly := false
  perm := w.perm
  bests := w.bests
  energies := []
  verdict := none
  hist := w.hist
  audits := w.audits
  patches := w.patches
  vote := none
  drain := none
  resumeAt := none
  inputs := w.inputs.map fun i => { apply := i.1, data := i.2 }
  replay := none
  checkUntil := none
  ckpt := (w.tau - 1) / 256 * 256
  frame := 74
  framed := none
  origin := some w
  lost := w.lost
  past := w.past
  vres := []
  recover := none

/-- A configuration write that the schedule image books (R108). -/
def State.cfgWrite (s : State) (e : Nat) (w : CfgWrite) : State :=
  let n := 4 * e + w.index % 4
  match w.reg with
  | 0 => s.settle .shfStay n w.value
  | 1 => s.settle .shfLadder n w.value
  | 2 => s.settle .shfStuckCfg n w.value
  | 3 => s.settle .shfCtrl e w.value
  | 4 => s.settle .shfScale e w.value
  | 5 => s.settle .shfShift e w.value
  | 6 => s.settle .shfSchedCtrl e w.value
  | 7 => s.settle .shfSched (256 * e + w.index % 256) w.value
  | 8 => s.settle .shfKey n w.value
  | _ => s

/-- The booked writes before the launch tick of a restore, once more, but for those of SHF_LADDER, whose factors the saved lanes hold: the
engines hold what those writes left (R108, R269). -/
def State.rebook (s : State) (l : Launch) (tau : Int) : State :=
  (l.sched.writes.filter fun w => decide (w.tau + 1 < tau) && w.reg != 1).foldl (fun s w =>
    match s.engineAt l w.block with
    | some e => s.cfgWrite e w
    | none => s) s

/-- A launch loaded into its units from a saved state. -/
def State.loadSaved (s : State) (c : Nat) (l : Launch) (v : Coeffs) (w : Saved) : State :=
  let s := s.loadUnits c l v
  let s := (s.restoreLanes l v w).rebook l w.tau
  (s.restoreUnits c l v.blocks w).emptyTiles c l

end Sys2Proof.Machine
end

