-- ==== Sys2Proof/Machine/Contexts.lean ====
section
/-!
DEFINITION. Contexts (R372–R379, R384): CTX_OPEN and CTX_CLOSE, the checks and the load of a launch, the drain of R134 with
PAUSE, SAVE, eviction and RESUME, and the end of a context by a fault.
-/
namespace Sys2Proof.Machine

/-- BUSY with DETAIL naming the context (R374). -/
def busy (c : Nat) : Reply := { status := stBusy, detail := c }

/-- Channels whose message waits on a context with one of a list of opcodes, lowest channel first. -/
def State.waiters (s : State) (c : Nat) (ops : List Nat) : List Nat :=
  keysWhere s.chans fun h => h.waits && h.msg.any fun b => ops.contains (parseMsg b).opcode && (parseMsg b).ctx == c

/-- A PAUSE, SAVE or READ_BEST that waits on a context that left the state it needs is answered with BUSY (R374). -/
def State.failWaiters (s : State) (c : Nat) : State := s.each (s.waiters c [0x08, 0x09, 0x0B]) fun s n => s.endWait n (busy c)

/-- A context put into a state. -/
def State.setState (s : State) (c : Nat) (x : CtxState) : State := s.setCtx c { s.ctx c with state := x }

/-- The saved state or the results of a context discarded. -/
def State.dropObject (s : State) (c : Nat) : State :=
  (s.freeObject (s.ctx c).objSegs).setCtx c { s.ctx c with objSegs := [], saved := none, results := none }

/-- The proposals of a launch's lanes withdrawn (R96). -/
def State.withdrawAll (s : State) (c : Nat) : State :=
  s.each (s.enginesOf c) fun s e => s.each (List.range 4) fun s k => s.withdraw (4 * e + k) fun _ => true

/-! ## Open and close -/

/-- CTX_OPEN (R358, R372). An id wanted that is not FREE, or lies above 10,239, returns NO_SLOT. -/
def State.ctxOpen (s : State) (m : Msg) : Done :=
  let mib := m.p 0 4
  let id := if m.ctx = 0x3FFF then (List.range 10240).find? fun c => (s.ctx c).state == .free
    else if decide (m.ctx < 10240) && (s.ctx m.ctx).state == .free then some m.ctx else none
  if mib = 0 ∨ 4096 < mib then .answer { status := stCapacity } s
  else match id with
    | none => .answer { status := stNoSlot, detail := m.ctx } s
    | some c => match s.allocKeep (segsFor (mib * 2 ^ 20)) with
      | none => .answer { status := stCapacity } s
      | some (segs, s) => .answer { status := stOk, payload := leBytes 4 c }
          (s.setCtx c { state := .opened, journalMiB := mib, segs := segs })

/-- Streams bound to a context are unbound (R376). -/
def State.unbind (s : State) (c : Nat) : State := s.each (keysWhere s.streams fun x => x.ctx == some c) fun s x => s.setStream x {}

/-- CTX_CLOSE (R376). -/
def State.ctxClose (s : State) (m : Msg) : Done :=
  let c := m.ctx
  match (s.ctx c).state with
  | .free => .answer { status := stNoSlot, detail := c } s
  | .running => .answer (busy c) s
  | .held => .answer (busy c) s
  | _ =>
    let s := (s.release c).failWaiters c
    let s := ((s.freeObject (s.ctx c).segs).dropObject c).unbind c
    .answer { status := stOk } ((s.setCtx c {}).sweepAll)

/-! ## A launch's checks and load (R384) -/

/-- What a LAUNCH asks at its FINAL part. -/
structure Ask where
  graph : Nat
  version : Nat
  stream : Nat
  seq : Nat
  follow : Bool
  seed : BitVec 128
  image : List Byte
  deriving DecidableEq, Repr

/-- The version a launch names: 0 is the newest (R381). -/
def State.namedVersion (s : State) (g n : Nat) : Option Version :=
  (s.graph g).bind fun x => if n = 0 then x.newest else x.versions.find? fun v => v.num == n

/-- Checks 1 to 5 of R384 but for the group's (R405): the image and the version, or the refusal. -/
def State.launchChecks (s : State) (c : Nat) (a : Ask) : Except Reply (Sched × Version) :=
  let x := s.ctx c
  if !(x.state == .opened || x.state == .faulted) then .error (busy c)
  else if !s.streamFree a.stream c then .error { status := stNotOwner, detail := a.stream }
  else match Config.readSched a.image with
    | none => .error { status := stLevel }
    | some w => match s.imageBreak w with
      | some st => .error { status := st }
      | none => match s.namedVersion a.graph a.version with
        | none => .error { status := stRetired, detail := a.version }
        | some v =>
          if v.state ≠ .live then .error { status := stRetired, detail := v.num }
          else if w.graphHash ≠ v.hash then .error { status := stConcord, detail := v.num }
          else if w.graphBlocks ≠ v.coeffs.blocks then .error { status := stConcord, detail := a.graph }
          else .ok (w, v)

/-- The permutation that a launch starts with (R145): the declared one, or the default where fewer copies run and it does not
keep to their replicas. -/
def startPerm (w : Sched) (copies : Nat) : List Nat :=
  let n := 4 * copies
  let p := w.perm.take n
  if p.length = n && p.all (fun r => decide (r < n)) then p else List.range n

/-- A context whose launch has left its engines holds a saved state of it. -/
def State.toSaved (s : State) (c : Nat) (l : Launch) (w : Saved) (segs : List Nat) : State :=
  s.setCtx c { s.ctx c with state := .saved, launch := none, saved := some w, savedAs := (l.stream, l.seq), objSegs := segs }

/-- Evictions of a placement (R378): each context is saved as by SAVE. -/
def State.evict (s : State) (l : List Nat) : Option State :=
  l.foldl (fun o c => o.bind fun s => match s.launch c with
    | none => some s
    | some ln =>
      let w := s.capture c ln false
      (s.allocKeep (segsFor (savedBytes w))).map fun (segs, s) =>
        let s := ((s.withdrawAll c).release c).failWaiters c
        s.toSaved c ln w segs) (some s)

/-- START record of a launch (R281). -/
def startRecord (s : State) (l : Launch) (window : Option (Option (Nat × Nat))) : JBody :=
  .start l.sched.classT (s.fld F.hubIdentLevel 0) l.sched.fields l.copies l.schedHash l.seed l.graph l.version l.imageHash window

/-- Best energies at launch: the sums of the initial energies over all blocks of a replica, with launch tick 0 (R154). -/
def startBests (l : Launch) (v : Coeffs) : List (Int × Nat) :=
  (List.range l.replicas).map fun r => (((List.range v.blocks).map (v.laneEnergy (l.sched.start r))).sum, 0)

/-- A new launch as its image and placement make it. T0 lies 16 ticks after the response (R379). -/
def newLaunch (s : State) (w : Sched) (v : Version) (a : Ask) (p : Placing) : Launch :=
  { launchOf { level := 0, classT := w.classT, copies := p.copies, fields := w.fields, schedHash := hash64 a.image, tau := -w.prologue,
               graph := a.graph, version := v.num, seed := a.seed, journalSeq := 0, digestTau := none, imageHash := v.hash,
               sched := a.image, follow := a.follow, lanes := [], perm := startPerm w p.copies, ladder := w.ladder, lost := [], bests := [], winnowCount := 0, hist := [],
               statSamples := [], statCribs := [], samples := [], audits := [], gens := [], cores := [], cribs := [], entries := [], stooks := [],
               recompute := false, patches := [], past := [], inputs := [] }
      w p (s.groupLaunch w) a.graph v.num a.stream a.seq (s.tickAfter 16) with origin := none, frames := s.groupFolds w }

/-- Check 6 and the load (R378, R384): placement, evictions, START record, units, LOADED. -/
def State.launchWith (s : State) (c : Nat) (a : Ask) (w : Sched) (v : Version) (window : Option (Option (Nat × Nat))) : Reply × State :=
  if capacityBreak w then ({ status := stCapacity }, s) else
  match s.place c w v.coeffs.blocks none with
  | none => ({ status := stCapacity }, s)
  | some p => match s.evict p.evict with
    | none => ({ status := stCapacity }, s)
    | some s =>
      let status := s.placedStatus w
      let l := newLaunch s w v a p
      let s := (s.dropObject c).bind a.stream c
      let s := s.setCtx c { s.ctx c with state := .loaded, launch := some l, journal := [], journalNext := 0, digests := [], tally := [],
                                         tokens := [], coefReports := [], report := [], trace := [] }
      let s := s.journal c (startRecord s l window) l.tau 0
      let s := (s.loadUnits c l v.coeffs).loadLanes l v.coeffs
      let s := (s.modLaunch c fun l => { l with bests := startBests l v.coeffs }).release32 c l.t0
      ({ status := status, payload := leBytes 8 l.schedHash.toNat ++ leBytes 8 l.t0 ++ leBytes 4 l.copies }, s.sweepAll)

/-- The load of a LAUNCH: its START record has no window. -/
def State.launchLoad (s : State) (c : Nat) (a : Ask) (w : Sched) (v : Version) : Reply × State := s.launchWith c a w v none

/-- What the message of a LAUNCH asks, with the parts staged for its context. -/
def State.askOf (s : State) (m : Msg) : Ask where
  graph := m.graph
  version := m.p 0x10 4
  stream := m.p 0x0C 4 % 4096
  seq := m.seq
  follow := bits (m.p 8 4) 1 1 == 1
  seed := BitVec.ofNat 128 (m.p 0x20 16)
  image := putPart (s.ctx m.ctx).staged (m.p 0 8) (s.stagedOf m)

/-- A part of an image kept for a context (R360). -/
def State.keepPart (s : State) (m : Msg) : State :=
  s.setCtx m.ctx { s.ctx m.ctx with staged := putPart (s.ctx m.ctx).staged (m.p 0 8) (s.stagedOf m) }

/-- Whether a LAUNCH or a RESUME with STAGE = 1 may name a context (R374). -/
def State.takesImage (s : State) (c : Nat) : Bool := (s.ctx c).state == .opened || (s.ctx c).state == .faulted

/-- LAUNCH (R384) outside a group launch. -/
def State.launchMsg (s : State) (m : Msg) : Done :=
  if !s.takesImage m.ctx then .answer (busy m.ctx) s
  else if m.p 8 4 % 2 = 0 then .answer { status := stOk } (s.keepPart m)
  else
    let a := s.askOf m
    let s := s.setCtx m.ctx { s.ctx m.ctx with staged := [] }
    match s.launchChecks m.ctx a with
    | .error r => .answer r s
    | .ok (w, v) => let r := s.launchLoad m.ctx a w v; .answer r.1 r.2

/-! ## Drains (R134, R197, R379) -/

/-- Whether a launch tick is a token boundary of every running generator of a launch (R197). -/
def State.tokenBoundary (s : State) (c : Nat) (tau : Int) : Bool :=
  (s.gensOf c).all fun k =>
    let p := s.fld F.hrwGenCtrlPTok k
    !s.flag F.hrwGenCtrlEn k || s.flag F.hrwGenStateDone k || p == 0 || decide ((tau - s.fld F.hrwGenStartT0 k) % p = 0)

/-- A drain asked: it begins at the next tick boundary (R379). -/
def State.askDrain (s : State) (c : Nat) (f : DrainFor) (ch : Option Nat) : State :=
  s.modLaunch c fun l => if l.drain.isSome then l else { l with drain := some (f, ch, 1) }

/-- The saved state of a context at a quiet boundary, and the context SAVED (R277); none when GDDR 7 has no room. -/
def State.saveNow (s : State) (c : Nat) : Option (Saved × State) :=
  (s.launch c).bind fun l =>
    let w := s.capture c l false
    (s.allocKeep (segsFor (savedBytes w))).map fun (segs, s) =>
      let s := (s.withdrawAll c).release c
      (w, s.toSaved c l w segs)

/-- Service work on a launch that does not run wakes its acres (R450); how long it then takes is left out (log 158). -/
def State.wakeService (s : State) (c : Nat) : State := match s.launch c with
  | some l => if (s.ctx c).state = .paused then s.wakeFor l (s.blocksOf c) else s
  | none => s

/-- SAVE carried out at a quiet boundary, with its answer (R358). -/
def State.saveDone (s : State) (c : Nat) : Reply × State :=
  match s.saveNow c with
  | none => ({ status := stCapacity }, s)
  | some (w, s) => ({ status := stOk, payload := leBytes 8 (unsign 64 w.tau) ++ leBytes 8 (savedBytes w) }, s)

/-- HOST record of a message (R281). -/
def State.hostMark (s : State) (c opcode seq : Nat) : State := s.journal c (.host opcode seq) (s.tau c) 0

/-- A message that waits on a paused context takes its turn: SAVE saves it, any other finds it in another state (R374). -/
def State.afterPause (s : State) (c : Nat) (n : Nat) : State :=
  match (s.chan n).msg with
  | none => s
  | some b =>
    if (parseMsg b).opcode = 0x09 ∧ (s.ctx c).state = .paused then
      let r := s.saveDone c
      r.2.endWait n r.1
    else s.endWait n (busy c)

/-- The end of a drain (R134, R379): RUN stays clear, the launch is PAUSED, and what it drained for goes on. -/
def State.drained (s : State) (c : Nat) (f : DrainFor) (ch : Option Nat) : State :=
  let s := (s.setState c .paused).modLaunch c fun l => { l with drain := none, phase := .whole, windowOnly := false, holds := [], vote := none }
  let s := match f, ch with
    | .pause, some n => s.endWait n { status := stOk, payload := leBytes 8 (unsign 64 (s.tau c)) }
    | .save, some n => let r := s.saveDone c; r.2.endWait n r.1
    | _, _ => s
  s.each (s.waiters c [0x08, 0x09]) fun s n => s.afterPause c n

/-- PAUSE (R374, R379). -/
def State.pauseMsg (s : State) (n : Nat) (m : Msg) : Done :=
  match (s.ctx m.ctx).state with
  | .running => .wait ((s.hostMark m.ctx m.opcode m.seq).askDrain m.ctx .pause (some n))
  | .held => .wait ((s.hostMark m.ctx m.opcode m.seq).askDrain m.ctx .pause (some n))
  | _ => .answer (busy m.ctx) s

/-- SAVE (R277, R374). A PAUSED context needs no drain (R379). -/
def State.saveMsg (s : State) (n : Nat) (m : Msg) : Done :=
  match (s.ctx m.ctx).state with
  | .running => .wait ((s.hostMark m.ctx m.opcode m.seq).askDrain m.ctx .save (some n))
  | .held => .wait ((s.hostMark m.ctx m.opcode m.seq).askDrain m.ctx .save (some n))
  | .paused => let r := ((s.wakeService m.ctx).hostMark m.ctx m.opcode m.seq).saveDone m.ctx; .answer r.1 r.2
  | _ => .answer (busy m.ctx) s

/-! ## RESUME (R279, R374, R379) -/

/-- The checks and the load of a saved state onto a version (R279): LOADED, or a refusal. -/
def State.resumeLoad (s : State) (c stream : Nat) (m : Msg) (w : Saved) (graph : Nat) (v : Version) : Reply × State :=
  match Config.readSched w.sched with
  | none => ({ status := stLevel }, s)
  | some sched =>
    if w.level ≠ s.fld F.hubIdentLevel 0 ∨ hash64 w.sched ≠ w.schedHash ∨ w.fields ≠ sched.fields then
      ({ status := stLevel }, s)
    else if v.state = .retired then ({ status := stRetired, detail := v.num }, s)
    else if v.hash ≠ w.imageHash then ({ status := stConcord, detail := v.num }, s)
    else match s.place c sched v.coeffs.blocks (some w.copies) with
      | none => ({ status := stCapacity }, s)
      | some p => match s.evict p.evict with
        | none => ({ status := stCapacity }, s)
        | some s =>
          let status := s.placedStatus sched
          let l := { launchOf w sched p (s.groupLaunch sched) graph v.num stream m.seq (s.tickAfter 16) with frames := s.groupFolds sched }
          let s := (s.dropObject c).bind stream c
          let s := s.setCtx c { s.ctx c with state := .loaded, launch := some l }
          let s := ((s.loadSaved c l v.coeffs w).hostMark c m.opcode m.seq).release32 c l.t0
          ({ status := status, payload := leBytes 8 (unsign 64 w.tau) }, s.sweepAll)

/-- RESUME of a PAUSED context (R379): RUN is set at the first wall tick at least 2 ticks later. -/
def State.resumePaused (s : State) (m : Msg) (l : Launch) : Reply × State :=
  let c := m.ctx
  let stream := m.p 0x0C 4 % 4096
  let status := s.placedStatus l.sched
  let s := ((s.bind stream c).wakeFor l (s.blocksOf c)).setState c .running
  let s := s.modLaunch c fun l => { l with stream := stream, seq := m.seq, phase := .whole, resumeAt := some (s.tickAfter 2) }
  ({ status := status, payload := leBytes 8 (unsign 64 l.tau) }, (s.hostMark c m.opcode m.seq).release32 c (s.tickAfter 2))

/-- RESUME with STAGE = 0. -/
def State.resumeHeld (s : State) (m : Msg) : Reply × State :=
  let c := m.ctx
  let x := s.ctx c
  let stream := m.p 0x0C 4 % 4096
  match x.state, x.launch, x.saved with
  | .paused, some l, _ =>
    if s.streamFree stream c then s.resumePaused m l else ({ status := stNotOwner, detail := stream }, s)
  | .saved, _, some w =>
    if !s.streamFree stream c then ({ status := stNotOwner, detail := stream }, s)
    else match (s.graph w.graph).bind fun g => g.versions.find? fun v => v.num == w.version with
      | some v => s.resumeLoad c stream m w w.graph v
      | none => ({ status := stRetired, detail := w.version }, s)
  | _, _, _ => (busy c, s)

/-- RESUME with STAGE = 1 and FINAL = 1. The versions of patches not yet applied are made afresh on this module (R279). -/
def State.resumeStaged (s : State) (m : Msg) : Reply × State :=
  let c := m.ctx
  let stream := m.p 0x0C 4 % 4096
  let image := putPart (s.ctx c).staged (m.p 0 8) (s.stagedOf m)
  let s := s.setCtx c { s.ctx c with staged := [] }
  if !s.streamFree stream c then ({ status := stNotOwner, detail := stream }, s)
  else match Config.readSaved image with
    | none => ({ status := stLevel }, s)
    | some w =>
      match s.namedVersion m.graph (m.p 0x10 4) with
      | none => ({ status := stRetired, detail := m.p 0x10 4 }, s)
      | some v =>
        if v.state ≠ .live then ({ status := stRetired, detail := v.num }, s)
        else
          let s' := s.setCtx c { s.ctx c with journal := [], journalNext := w.journalSeq + 1, digests := [], tally := [] }
          let r := s'.resumeLoad c stream m { w with patches := [] } m.graph v
          if (r.2.ctx c).state = .loaded then match r.2.rederive c w.patches with
            | some t => (r.1, t)
            | none => ({ status := stCapacity }, s)
          else (r.1, s)

/-- RESUME (R374) outside a group launch. -/
def State.resumeMsg (s : State) (m : Msg) : Done :=
  if !m.stage then let r := s.resumeHeld m; .answer r.1 r.2
  else if !s.takesImage m.ctx then .answer (busy m.ctx) s
  else if m.p 8 4 % 2 = 0 then .answer { status := stOk } (s.keepPart m)
  else let r := s.resumeStaged m; .answer r.1 r.2

/-! ## Faults that end a context -/

/-- The interruption of a launch ends at a wall cycle: the log entry of each of its faults takes the time, and FLT_AVAIL with it, once
that fault interrupts no other launch (R417, R440, R441). -/
def State.closeRecovery (s : State) (c at_ : Nat) : State := match (s.launch c).bind (·.recover) with
  | none => s
  | some r =>
    let s := s.modLaunch c fun l => { l with recover := some { r with faults := [] } }
    let held := fun (p : Caught → Bool) => s.ctxs.any fun x => x.2.launch.any fun l => l.recover.any fun r => r.faults.any p
    let s := (r.faults.filter fun f => !held (·.entry == f.entry)).foldl (fun s f =>
      let us := ceilDiv (at_ - f.since - (r.held - f.held) * 1024) 1050
      (s.wrNat (logAt f.entry + 24) 4 us).wrap F.fltAvailInterruptUs 0 us) s
    if held fun _ => true then s else s.setFld F.fltStatusRecovering 0 0

/-- A context that a fault ends becomes FAULTED; its engines are released, and it stays a user of its version (R373, R382). -/
def State.faultCtx (s : State) (c : Nat) : State :=
  let go := (((s.closeRecovery c s.now).release c).failWaiters c).setState c .faulted
  match (s.ctx c).state with
  | .loaded => go
  | .running => go
  | .held => go
  | .paused => go
  | _ => s

/-- A context that a fault ends and its stream, with the status that the fault gives (R227, R260, R276). -/
def State.faultStream (s : State) (c status : Nat) : State := match s.launch c with
  | some l => if status = stDegraded then (s.faultCtx c).endLaunchStream l status else (s.faultCtx c).endStream l.stream status
  | none => s.faultCtx c

/-- A lane digest formed after a restore that differs from the one written before ends the recovery (R276). -/
def State.digestFault (s : State) (c e : Nat) : State :=
  (s.faultStream c stDegraded).report 0x0A (e / 8) (e % 8) 0 0 (some c)

/-- RESOLUTION_POINT (R119): the end of cycle 63 + L. -/
def execResolutionPoint (e : EngineId) (l : Lane) (s : State) : Out :=
  let n := 4 * e.ix + l.val
  .next (match (s.engine e.ix).ctx with
  | none => s
  | some c =>
    let s' := s.upTo (63 + l.val)
    if (s.lane n).resolved || !s'.moving c then s
    else
      let s' := (s'.checkVerdicts c).resolve c e.ix l.val
      if s'.digestDiffers c e.ix l.val then s'.digestFault c e.ix else s')

def execCtxOpen (n : Channel) (s : State) : Out := .next (s.message (s.chan n.val) n.val 0x01 fun m s => s.ctxOpen m)
def execCtxClose (n : Channel) (s : State) : Out := .next (s.message (s.chan n.val) n.val 0x02 fun m s => s.ctxClose m)

end Sys2Proof.Machine
end

