-- ==== Sys2Proof/Machine/Tally.lean ====
section
/-!
DEFINITION. WINNOW and TALLY (R145–R168, R283–R287): reduction ticks, replica exchange, best states, verdicts, exact audits,
statistics, histograms, digest blocks and the comparison of a replay.
-/
namespace Sys2Proof.Machine

/-! ## Reduction (R147, R148) -/

/-- The root's settings of a launch: SHF of the image's ACR_WINNOW_CTRL and ACR_TALLY_CTRL as they stand in the tally unit of the
first acre of the launch on this module. -/
def State.winnowAcre (s : State) (c : Nat) : Option Nat := (s.acresOf c).head?

/-- Whether a launch tick is a reduction tick (R147). -/
def State.reductionTick (s : State) (c : Nat) (u : Int) : Bool := match s.winnowAcre c with
  | some a => s.flag F.acrWinnowCtrlEn a && decide (0 ≤ u) && decide (u % (2 ^ s.fld F.acrWinnowCtrlRedExp a : Nat) = 0)
  | none => false

/-- Per-replica parts of one acre (R148): the snapshot energies of its engines. -/
def State.acrePart (s : State) (l : Launch) (blocks g a r : Nat) : Int :=
  (((l.placed blocks).filter fun idx => idx / 128 == 8 * g + a && idx / blocks == r / 4).map fun idx =>
    match s.engineAt l idx with
    | some e => s.sfld F.shfSnapEnergySnap (4 * e + r % 4)
    | none => 0).sum

/-- Module replica energies E_r(u) (R147): the sums over this module. -/
def State.moduleEnergies (s : State) (l : Launch) (blocks : Nat) : List Int :=
  (List.range l.replicas).map fun r => s.replicaSum l blocks F.shfSnapEnergySnap r

/-- The base value at a launch tick (R86), from the points of a schedule. -/
def baseAt (pts : List (Nat × Nat)) (tau : Int) : Nat :=
  match pts with
  | [] => 0
  | p :: _ =>
    let after := pts.find? fun q => decide (tau < q.1)
    let before := (pts.filter fun q => decide ((q.1 : Int) ≤ tau)).getLast?
    match before, after with
    | none, _ => p.2
    | some b, none => b.2
    | some b, some a => ((b.2 : Int) + ((a.2 : Int) - b.2) * (tau - b.1) / ((a.1 : Int) - b.1)).toNat

/-- K of the exchange noise of a launch (R152); in field noise the key of the root's acre for the present launch tick (log 80). -/
def State.exchangeKey (s : State) (c : Nat) (l : Launch) : BitVec 128 :=
  if l.sched.fieldNoise then (match l.root with
    | some a => s.launchKey c (a % 64)
    | none => 0)
  else l.seed

/-- The test of a rung pair (R150): whether it swaps. -/
def exchangeAccepts (ea eb : Int) (lo hi base eps : Nat) : Bool :=
  let num := 256 * 4096 * (ea - eb) * ((hi : Int) - lo)
  let den : Int := (max (max base 1 * lo * hi) 1 : Nat)
  decide (0 ≤ num / den + eps)

/-- One pair tried on a permutation (R150). -/
def State.tryPair (s : State) (c : Nat) (l : Launch) (e : List Int) (u : Int) (st : List Nat × Nat) (k : Nat) : List Nat × Nat :=
  let perm := st.1
  let a := (perm[k]?).getD 0
  let b := (perm[k + 1]?).getD 0
  let lam := fun n => (l.sched.ladder[n]?).getD 0
  let eps := expo (noiseMix (noiseHash (s.exchangeKey c l) (2 ^ 21 + k) u 900) 0 / 16)
  if exchangeAccepts ((e[a]?).getD 0) ((e[b]?).getD 0) (lam k) (lam (k + 1)) (baseAt l.sched.base u) eps then
    ((perm.set k b).set (k + 1) a, st.2 + 1)
  else st

/-- Pairs that an exchange tick tries (R150). -/
def pairsOf (n rungs : Nat) : List Nat := (List.range (rungs - 1)).filter fun k => k % 2 == n % 2

/-- Whether a reduction tick is an exchange tick, and its number (R150, R153). -/
def State.exchangeNumber (s : State) (a : Nat) (u : Int) : Option Nat :=
  let e := s.fld F.acrWinnowCtrlRedExp a + s.fld F.acrWinnowCtrlExchExp a
  let mode := s.fld F.acrWinnowCtrlExchMode a
  if (mode = 1 ∨ mode = 2) ∧ u % (2 ^ e : Nat) = 0 then some (u / (2 ^ e : Nat)).toNat else none

/-- One count added to a histogram (R167): bins 0–255, 256 UNDER, 257 OVER; each saturates. -/
def histAdd (h : Sparse Nat) (lo : Int) (shift : Nat) (e : Int) : Sparse Nat :=
  let k := (e - lo) / (2 ^ shift : Nat)
  let bin := if k < 0 then 256 else if 255 < k then 257 else k.toNat
  sput 0 h bin (min (sget 0 h bin + 1) (2 ^ 32 - 1))

/-- Replicas of the copies that still run which a reduction captures, and the best energies after it (R154). -/
def capturesOf (bests : List (Int × Nat)) (lost : List Nat) (e : List Int) (u : Int) (en : Bool) : List Nat × List (Int × Nat) :=
  let hit := fun r => !lost.contains (r / 4) && (decide (u = 0) || (en && decide ((e[r]?).getD 0 < ((bests[r]?).getD (0, 0)).1)))
  (((List.range bests.length).filter hit), (List.range bests.length).map fun r =>
    if hit r then ((e[r]?).getD 0, u.toNat) else (bests[r]?).getD (0, 0))

/-- Early mode of class T (R153): a verdict that is not there at cycle 1,000 of a tick of a group launch is discarded. -/
def State.discards (s : State) (a : Nat) (l : Launch) : Bool := l.group && l.sched.classT && s.fld F.acrWinnowCtrlExchMode a == 2

/-- The root's work in a reduction tick (R148, cycles 900–935): best test, exchanges, histogram. A verdict that comes too late in early
mode is discarded. The audits of the tick have their E_Q (R160). -/
def State.decideReduction (s : State) (c : Nat) (l : Launch) (e : List Int) : State :=
  match s.winnowAcre c with
  | none => s
  | some a =>
    let audits := l.audits.map fun x => if x.energy.isNone then { x with energy := some ((e[x.replica]?).getD 0) } else x
    if s.discards a l && decide (1000 ≤ s.cyc) then s.modLaunch c fun l => { l with energies := e, audits := audits } else
    let best := capturesOf l.bests l.lost e l.tau (s.flag F.acrWinnowCtrlBestEn a)
    let pairs := match s.exchangeNumber a l.tau with
      | some n => pairsOf n l.perm.length
      | none => []
    let r := pairs.foldl (s.tryPair c l e l.tau) (l.perm, 0)
    let moved := (List.range l.perm.length).filterMap fun k =>
      if l.perm[k]? = r.1[k]? then none else (r.1[k]?).map fun x => (x, (l.sched.ladder[k]?).getD 0)
    let hist := match l.root with
      | some k => if s.flag F.acrWinnowCtrlHistEn a then
          ((List.range e.length).filter fun r => !l.lost.contains (r / 4)).foldl (fun h r =>
            histAdd h (s.sfld F.acrHistCfgLo k) (s.fld F.acrHistCfgShift k) ((e[r]?).getD 0)) l.hist
        else l.hist
      | none => l.hist
    let s := match l.root with
      | some k => (s.bump F.acrWinnowCountTried k pairs.length).bump F.acrWinnowCountAccepted k r.2
      | none => s
    s.modLaunch c fun l => { l with energies := e, hist := hist, audits := audits, verdict := some {
      tick := l.tau.toNat, captures := best.1, ladder := moved, perm := r.1, bests := best.2 } }

/-- Whether a launch stands in a reduction tick whose work is still to be done. One that holds for its verdicts does that work in the hold
(R149). -/
def State.reduces (s : State) (c : Nat) (l : Launch) : Bool :=
  (s.moving c || (l.holds.contains .verdict && (s.ctx c).state == .running)) && s.decides c && s.reductionTick c l.tau && l.verdict.isNone &&
    (!l.folded || l.frame == 74)

/-! ## Verdicts (R148, R149, R153) -/

/-- The best states of a captured replica (R154). -/
def State.captureReplica (s : State) (l : Launch) (blocks r : Nat) : State :=
  ((l.placed blocks).filter fun idx => idx / blocks == r / 4).foldl (fun s idx => match s.engineAt l idx with
    | some e => s.captureBest (4 * e + r % 4)
    | none => s) s

/-- A ladder write of a verdict, staged for cycle 0 of the next tick (R108, R148). -/
def State.stageLadder (s : State) (l : Launch) (blocks : Nat) (w : Nat × Nat) : State :=
  ((l.placed blocks).filter fun idx => idx / blocks == w.1 / 4).foldl (fun s idx => match s.engineAt l idx with
    | some e => { s with staged := s.staged ++ [⟨.shfLadder, 4 * e + w.1 % 4, BitVec.ofNat 64 w.2, false⟩] }
    | none => s) s

/-- A verdict takes effect (R148): captures, ladder factors staged, π and the best energies. -/
def State.applyVerdict (s : State) (c : Nat) (l : Launch) (v : Verdict) : State :=
  let blocks := s.blocksOf c
  let s := v.captures.foldl (fun s r => s.captureReplica l blocks r) s
  let s := v.ladder.foldl (fun s w => s.stageLadder l blocks w) s
  s.modLaunch c fun l => { l with verdict := none, perm := v.perm, bests := v.bests, holds := l.holds.filter (· != .verdict) }

/-- VERDICT_ARRIVAL (R148): at cycle 1,000 the engines capture and stage their ladder factors. A folded launch applies its verdicts in
the verdict tick of the next frame (R273). -/
def execVerdictArrival (c : CtxId) (s : State) : Out :=
  .next (match s.launch c.val with
  | none => s
  | some l => match l.verdict with
    | none => s
    | some v => if l.folded then s else (s.upTo 1000).applyVerdict c.val l v)

/-- VERDICT_LATE_HOLD (R149, R153): a group launch without its verdicts at cycle 1,000 holds there; in early mode of class T the late
verdict is discarded. A launch within one logical module has its verdicts in time. -/
def execVerdictLateHold (c : CtxId) (s : State) : Out :=
  .next (match s.launch c.val, s.winnowAcre c.val with
  | some l, some a =>
    let s' := s.upTo 1000
    if l.group && s'.moving c.val && s.decides c.val && s.reductionTick c.val l.tau && (l.verdict.isSome || decide (s.cyc ≤ 1000)) &&
        !l.folded then
      if s.discards a l then s'.modLaunch c.val fun l => { l with verdict := none }
      else s'.modLaunch c.val (·.hold .verdict 1000)
    else s
  | _, _ => s)

/-! ## Audits (R158–R162) -/

/-- A version by its graph and number. -/
def State.version (s : State) (g n : Nat) : Option Version := (s.graph g).bind fun x => x.versions.find? fun v => v.num == n

/-- Spins of a replica by graph block, from the tick snapshots or from the best states. -/
def State.spinsOf (s : State) (l : Launch) (blocks r : Nat) (best : Bool) (b : Nat) : BitVec 1024 :=
  match s.engineAt l (r / 4 * blocks + b) with
  | some e => if best then (s.lane (4 * e + r % 4)).bestSpins else (s.lane (4 * e + r % 4)).snap
  | none => 0

/-- E_Q′ of an acre (R160, R161): recomputed from the codes of its blocks. -/
def recomputePart (v : Coeffs) (l : Launch) (sp : Nat → BitVec 1024) (g a r : Nat) : Int :=
  (((l.placed v.blocks).filter fun idx => idx / 128 == 8 * g + a && idx / v.blocks == r / 4).map fun idx =>
    v.laneEnergy sp (idx % v.blocks)).sum

/-- Exact energy of the terms of one plane (R43, R160). -/
def exactEnergy (v : Coeffs) (sp : Nat → BitVec 1024) (plane : Nat) : Dyadic :=
  let s := fun i => spinOf (sp (i / 1024)) (i % 1024)
  (v.exacts.filter fun x => bits x.toNat 92 1 == plane).foldl (fun e x =>
    let i := bits x.toNat 32 29
    let j := bits x.toNat 0 29
    match ofF32 (bits x.toNat 96 32) with
    | some d => dyadicSub e (d.1 * (if bits x.toNat 90 2 = 0 then s i * s j else s i), d.2)
    | none => e) (0, 0)

/-- An audit record (R162). -/
def auditBytes (final mismatch : Bool) (r : Nat) (tick : Nat) (eq eq2 : Int) (xp xq : Dyadic) (eG : Int) : List Byte :=
  let x := dyadicAdd xp xq
  leBytes 4 ((if final then 4 else 0) + (if mismatch then 2 else 0)) ++ leBytes 4 r ++ leBytes 8 tick ++ leBytes 8 (unsign 64 eq) ++
  leBytes 8 (unsign 64 eq2) ++ leBytes 8 (toF64 x) ++ leBytes 8 (toF64 xp) ++ leBytes 8 (toF64 xq) ++
  leBytes 8 (toF64 (dyadicSub x (eq, eG)))

/-- The spins that an audit copies into the tally buffer (R159), by graph block: snapshots, or best states for the final audit. Those of
blocks that other members of a group carry are free values. -/
def State.auditSpins (s : State) (l : Launch) (blocks r : Nat) (best : Bool) : Sparse (BitVec 1024) :=
  (List.range blocks).foldl (fun m b => sput 0 m b (if (s.engineAt l (r / 4 * blocks + b)).isSome then s.spinsOf l blocks r best b
    else Config.remoteSpins s.free (r * 2 ^ 20 + b))) []

/-- Acres of a launch whose part of E_Q′ differs from their part of E_Q (R161), and the sum of the parts of E_Q′. -/
def auditParts (l : Launch) (v : Coeffs) (x : Audit) : List Nat × Int :=
  let sp := fun b => sget 0 x.spins b
  let parts := (l.acres v.blocks).map fun a => (a.2.2, sget 0 x.parts (8 * a.1 + a.2.1), recomputePart v l sp a.1 a.2.1 x.replica)
  ((parts.filter fun p => p.2.1 != p.2.2).map (·.1), (parts.map (·.2.2)).sum)

/-- The record of an audit (R160–R162), with the state that has drawn the parts of other members in a group launch: how the tally units of a
member come by them is not given. -/
def State.auditRecord (s : State) (l : Launch) (v : Coeffs) (x : Audit) (final : Bool) : List Byte × State :=
  let sp := fun b => sget 0 x.spins b
  let p := auditParts l v x
  let eq := x.energy.getD 0
  let eq2 := if l.group then p.2 + s.draw.1 else p.2
  (auditBytes final (!p.1.isEmpty || (l.group && eq2 != eq)) x.replica x.tick eq eq2 (exactEnergy v sp 0) (exactEnergy v sp 1) v.eG,
    if l.group then s.draw.2 else s)

/-- A tally unit whose part differs sets MISMATCH and reports (R161). -/
def State.mismatch (s : State) (c a : Nat) : State :=
  (s.raise F.acrTallyStatusMismatch a).reportAcre 0x09 a (some c)

/-- Whether a launch tick is an audit tick (R159). -/
def State.auditTick (s : State) (c : Nat) (u : Int) : Bool := match s.winnowAcre c with
  | some a => s.flag F.acrTallyCtrlAuditEn a && s.reductionTick c u && decide (u % (2 ^ s.fld F.acrTallyCtrlAuditExp a : Nat) = 0)
  | none => false

/-- AUDIT_BUSY of every tally unit of a launch. -/
def State.auditBusy (s : State) (c v : Nat) : State := s.each (s.acresOf c) fun s a => s.setFld F.acrTallyStatusAuditBusy a v

/-- The tally buffers take the snapshot spins of the audit set (R159), once in an audit tick. -/
def State.copyAudits (s : State) (c : Nat) (l : Launch) : State :=
  if s.auditTick c l.tau && !l.audits.any (fun a => (a.tick : Int) == l.tau) then
    let blocks := s.blocksOf c
    let new := (l.sched.auditSet.filter fun r => decide (r < l.replicas) && !l.lost.contains (r / 4)).map fun r =>
      ({ tick := l.tau.toNat, replica := r, version := l.version, spins := s.auditSpins l blocks r false, parts := [], energy := none } : Audit)
    if new.isEmpty then s else
      (({ s with free := s.free + 1 } : State).modLaunch c fun l => { l with audits := l.audits ++ new }).auditBusy c 1
  else s

/-- AUDIT (R159): in cycles 68–99 of an audit tick. -/
def execAudit (c : CtxId) (s : State) : Out :=
  .next (match s.launch c.val with
  | some l => s.within 68 99 fun s' => if s'.moving c.val && s.decides c.val && (!l.folded || l.frame == 74) then s'.copyAudits c.val l else s
  | none => s)

/-- The tally units take their parts of a reduction (R148, cycles 100–227), and compare those of the audits of the tick with what they
recompute (R160, R161). -/
def State.takeParts (s : State) (c : Nat) (l : Launch) (blocks : Nat) : State :=
  let s := (l.acres blocks).foldl (fun s a => s.setAcre a.2.2 { s.acre a.2.2 with
    parts := (List.range l.replicas).foldl (fun p r => sput 0 p r (s.acrePart l blocks a.1 a.2.1 r)) [] }) (s.copyAudits c l)
  match s.launch c, s.versionOf c with
  | some m, some v =>
    let part := fun (x : Audit) => (l.acres blocks).foldl (fun p a =>
      sput 0 p (8 * a.1 + a.2.1) (sget 0 (s.acre a.2.2).parts x.replica)) []
    let audits := m.audits.map fun x => if (x.tick : Int) = l.tau then { x with parts := part x } else x
    let s := s.modLaunch c fun l => { l with audits := audits }
    (audits.filter fun x => (x.tick : Int) == l.tau).foldl (fun s x => s.each (auditParts l v.coeffs x).1 fun s a => s.mismatch c a) s
  | _, _ => s

/-- An audit record in the tally area: one that a replay writes again after a restore keeps its place (R162, R276). -/
def putRecord (l : List (List Byte)) (r : List Byte) : List (List Byte) :=
  let key := fun (x : List Byte) => (bits (leNat (x.take 4)) 2 1, leNat ((x.drop 4).take 12))
  if l.any fun x => key x == key r then l.map fun x => if key x = key r then r else x else l ++ [r]

/-- The coefficients in force at the start of a launch tick of a launch (R133, R160). -/
def State.versionAt (s : State) (l : Launch) (u : Int) : Nat :=
  match (l.past.filter fun p => decide (p.apply < u)).getLast?, l.past.head? with
  | some p, _ => p.version
  | none, some p => ((s.version l.graph p.version).map (·.parent)).getD l.version
  | none, none => l.version

/-- A record goes into the tally area (R162): the list of records of the launch, and the area in GDDR 7 that its image names. -/
def State.putAudit (s : State) (c : Nat) (l : Launch) (rec : List Byte) : State :=
  let t := putRecord (s.ctx c).tally rec
  (s.setCtx c { s.ctx c with tally := t }).gddrPut c l (l.sched.tallyArea + 64 * t.idxOf rec) rec

/-- The records of a list of audits emitted, in order. -/
def State.emitAudits (s : State) (c : Nat) (l : Launch) (due : List Audit) : State :=
  due.foldl (fun s x => match s.version l.graph x.version with
    | some v => let r := s.auditRecord l v.coeffs x false; r.2.putAudit c l r.1
    | none => s) s

/-- AUDIT_RECORD_EMIT (R162): at cycle 1,000 of tick u + S, or the launch holds there while the audit is not complete. -/
def execAuditRecordEmit (c : CtxId) (s : State) : Out :=
  .next (match s.launch c.val, s.winnowAcre c.val with
  | some l, some a =>
    let u := l.tau - s.fld F.acrTallyCtrlAuditSpan a
    let s' := s.upTo 1000
    let due := l.audits.filter fun x => decide ((x.tick : Int) ≤ u)
    let rest := l.audits.filter fun x => !decide ((x.tick : Int) ≤ u)
    if due.isEmpty || !s'.moving c.val || !s.decides c.val then s
    else if due.any (·.energy.isNone) then s'.modLaunch c.val (·.hold .tally 1000)
    else
      let s := (s'.emitAudits c.val l due).modLaunch c.val fun l => { l with audits := rest }
      if rest.isEmpty then s.auditBusy c.val 0 else s
  | _, _ => s)

/-! ## Statistics (R163–R166) -/

/-- Value of a spin as placed (R141) in a lane, from the second tally buffer. -/
def Acre.placedSpin (x : Acre) (i k : Nat) : Int := spinOf (sget 0 x.sample (4 * (i / 1024) + k)) (i % 1024)

/-- One atomic add of a sample (R164). A poisoned counter is not used, and the launch faults (R227). -/
def State.sampleAdd (s : State) (c a : Nat) (k lane : Nat) (entry : Word) : State :=
  let x := s.acre a
  let i := x.placedSpin (bits entry.toNat 29 29) lane
  let d := if entry.getLsbD 63 then i * x.placedSpin (bits entry.toNat 0 29) lane else i
  let w := s.cntBytes a
  if s.poisoned (cribAt (s.statStook a) (s.cntAt a k)) w then s.reportAcre 0x05 a (some c)
  else (s.bankAtomic (s.statStook a) (s.cntAt a k) w (.unit (Fin.ofNat 10240 c)) (fun old => unsign (8 * w) (old + d)) true false).2

/-- Up to `n` more adds of an acre's sample, lane by lane and entry by entry; the last one ends the sample (R164). -/
def State.sampleOn (s : State) (c a n : Nat) : State :=
  let x := s.acre a
  let len := x.stats.length
  let stop := min (x.added + n) (x.sampled.length * len)
  let s := (List.range (stop - x.added)).foldl (fun s i =>
    let j := x.added + i
    s.sampleAdd c a (j % len) ((x.sampled[j / len]?).getD 0) ((x.stats[j % len]?).getD 0)) s
  if stop = x.sampled.length * len then
    (s.setAcre a { s.acre a with sample := [], added := 0, sampled := [] }).setFld F.acrTallyStatusSampleBusy a 0
  else s.setAcre a { s.acre a with added := stop }

/-- The samples of a launch go on in a tick: from cycle 128 on, one atomic in each of the 16 banks in a cycle (R164; log 141). -/
def State.sampleTick (s : State) (c n : Nat) : State :=
  s.each ((s.acresOf c).filter fun a => !(s.acre a).sampled.isEmpty) fun s a => s.sampleOn c a n

/-- STATISTICS_SAMPLE (R164, R166): the second tally buffer takes the snapshots of the lanes to be sampled. -/
def execStatisticsSample (a : AcreId) (s : State) : Out :=
  let n := a.ix
  .next (match (s.acre n).ctx with
  | none => s
  | some c => match s.launch c with
    | none => s
    | some l => s.within 68 99 fun s' =>
      let lanes := (List.range 4).filter fun k => (s.fld F.acrTallyCtrlSampleLanes n).testBit k
      let top := if s.flag F.acrTallyCtrlCnt32 n then 2 ^ 31 - 1 else 32767
      if s'.movingOn c (17 * n) && s.decides c && s.flag F.acrTallyCtrlStatEn n && !s.flag F.acrTallyStatusStatFull n &&
          l.tau % (2 ^ s.fld F.acrTallyCtrlSampleExp n : Nat) == 0 then
        if top < s.fld F.acrStatSamplesN n + lanes.length then s'.raise F.acrTallyStatusStatFull n
        else
          let mine := (s.enginesOf c).filter fun e => e / 136 == n
          let buf := mine.foldl (fun m e => lanes.foldl (fun m k =>
            sput 0 m (4 * (s.engine e).pos + k) (s.lane (4 * e + k)).snap) m) []
          let s := s'.sampleOn c n (2 ^ 20)
          ((s.setAcre n { s.acre n with sample := buf, added := 0, sampled := lanes }).wrap F.acrStatSamplesN n lanes.length).setFld
            F.acrTallyStatusSampleBusy n 1
      else s)

/-! ## Digests and replay comparison (R284–R287) -/

/-- Module digest of a list of lane digests at digest tick `u` (R284). -/
def moduleDigest (u : Int) (l : List Word) : Word := BitVec.ofNat 64 ((l.map BitVec.toNat).foldl digestFold (unsign 64 u))

/-- Numbers of the enabled lanes of a launch in ascending lane identity (R284). -/
def State.digestOrder (s : State) (c : Nat) (l : Launch) : List Nat :=
  ((s.enabledLanes c l).mergeSort fun x y => decide (x.1 ≤ y.1)).map (·.2)

/-- Lane digests of R283, and those that the block of a tick holds (R284, R285). -/
def State.laneDigests (s : State) (c : Nat) (l : Launch) : List Word := (s.digestOrder c l).map fun n => (s.lane n).digest
def State.blockDigests (s : State) (c : Nat) (l : Launch) : List Word := (s.digestOrder c l).map (s.shownDigest l)

/-- A digest block (R284). -/
def digestBlock (u : Int) (l : List Word) : List Byte :=
  leBytes 8 (unsign 64 u) ++ leBytes 4 l.length ++ leBytes 4 0 ++ leBytes 8 (moduleDigest u l).toNat ++ leBytes 8 0 ++
    l.flatMap fun d => leBytes 8 d.toNat

/-- Window of a context's replay, as its START record carries it (R285). -/
def windowOf (j : List JRec) : Option (Nat × Nat) := (j.filterMap fun r => match r.body with
  | .start _ _ _ _ _ _ _ _ _ w => w.join
  | _ => none).head?

/-- Whether the reference of a replay is itself a replay with the same window (R285). -/
def State.sameWindow (s : State) (r : Replay) : Bool := windowOf (s.ctx r.ref).journal == some (r.windowStart, r.windowEnd)

/-- What a replay compares a digest tick with: the reference's digest block in a window common to both, else its DIGEST record (R285). -/
def State.refDigest (s : State) (r : Replay) (u : Int) (window : Bool) : Option Word :=
  if window then ((s.ctx r.ref).digests.find? fun b => (b.1 : Int) == u).map fun b => BitVec.ofNat 64 (leNat ((b.2.drop 0x10).take 8))
  else (r.records.filterMap fun x => match x.body with
    | .digest d => if x.tau = u then some d else none
    | _ => none).head?

/-- Lanes whose digest differs from the reference's block at a tick; all ones without one (R287). -/
def State.badLanes (s : State) (r : Replay) (u : Int) (l : List Word) : Nat :=
  match (s.ctx r.ref).digests.find? fun b => (b.1 : Int) == u with
  | none => 2 ^ 32 - 1
  | some b => ((List.range l.length).filter fun i => leNat ((b.2.drop (32 + 8 * i)).take 8) != ((l[i]?).getD 0).toNat).length

/-- A replay after it has compared digest tick `u` (R285, R287): the reference's record is used up. -/
def State.compared (s : State) (r : Replay) (u : Int) (l : List Word) (window : Bool) : Replay :=
  match s.refDigest r u window with
  | none => r
  | some d =>
    let rest := r.records.filter fun x => match x.body with
      | .digest _ => x.tau != u
      | _ => true
    let seq := (r.records.find? fun x => match x.body with
      | .digest _ => x.tau == u
      | _ => false).map (·.seq)
    if d = moduleDigest u l then { r with records := rest, lastGood := if r.firstBad.isNone then u.toNat else r.lastGood }
    else if r.firstBad.isSome then { r with records := rest }
    else { r with records := rest, firstBad := some u.toNat, badLanes := s.badLanes r u l
                  badSeq := match r.badSeq with | some q => some q | none => seq }

/-- A block kept in the digest area: a tick replayed after a restore keeps its place. -/
def putDigest (l : List (Nat × List Byte)) (u : Nat) (b : List Byte) : List (Nat × List Byte) :=
  if l.any fun x => x.1 == u then l.map fun x => if x.1 = u then (u, b) else x else l ++ [(u, b)]

/-- The replay report (R287). -/
def replayReport (r : Replay) : List Byte :=
  leBytes 8 (r.firstBad.getD (2 ^ 64 - 1)) ++ leBytes 8 r.lastGood ++ leBytes 4 (r.badSeq.getD (2 ^ 32 - 1)) ++
    leBytes 4 (if r.firstBad.isNone then 0 else r.badLanes) ++ leBytes 8 0

/-- Offset of a tick's block in the digest area: the blocks follow each other. -/
def digestOffset (l : List (Nat × List Byte)) (u : Nat) : Nat := ((l.takeWhile fun b => b.1 != u).map (·.2.length)).sum

/-- DIGEST_WRITE (R282–R285): at cycle 1,000 of a digest tick whose lanes have all resolved. In a replay window the block goes to the digest
area and no record to the journal; what is compared there with a DIGEST record of the reference are the digests of R283. -/
def State.writeDigest (s : State) (c : Nat) (l : Launch) : State :=
  let u := l.tau
  let d := s.laneDigests c l
  let shown := s.blockDigests c l
  let again := (s.ctx c).digests.any fun b => (b.1 : Int) == u
  let area := putDigest (s.ctx c).digests u.toNat (digestBlock u shown)
  let s := (s.setCtx c { s.ctx c with digests := area }).gddrPut c l (l.sched.digestArea + digestOffset area u.toNat) (digestBlock u shown)
  let s := if l.sched.classT || again || l.inWindow then s else s.journal c (.digest (moduleDigest u d)) u 1000
  let same := fun r => l.inWindow && s.sameWindow r
  s.modLaunch c fun l => { l with checkUntil := none, replay := l.replay.map fun r => s.compared r u (if same r then shown else d) (same r) }

end Sys2Proof.Machine
end

