-- ==== Sys2Proof/Machine/Pages.lean ====
section
/-!
DEFINITION. Register pages read as bytes (R13, R359), the views that stand in no register of their own, and capture records
(R437–R439).
-/
namespace Sys2Proof.Machine

/-! ## What a read of a register shows -/

/-- Tiles that PACKETS of a queue counts (R224): those of closed banks, from 2 cycles after the closing write on. -/
def State.packets (s : State) (k q : Nat) : Nat :=
  s.fld F.stkQueueStatusPackets (32 * k + q) -
    (((s.stook k).rises.filter fun (x : Nat × Nat × Nat) => x.1 == q && decide (s.now < x.2.1)).map (·.2.2)).sum

/-- BUSY and PASS2 of a harrow tile (R201), from its running operation. -/
def State.tileBits (s : State) (k : Nat) : Word :=
  ((s.stook k).running.filter (·.station == 2)).foldl (fun w r =>
    let now := s.logical (s.ownerWord k (bankOf r.addr) - 0x4000)
    if r.begun.any (fun t => decide (t ≤ now)) && r.finishes.any (fun t => decide (now < t)) then
      w ||| (if r.second.any fun t => decide (t ≤ now) then 17 else 1)
    else w) 0

/-- SLOTS_BUSY of a die (R333, R344): the stream slots of the copies that run, numbered from 0 (DESIGN CHOICE, log 153). -/
def State.slotsBusy (s : State) (d : Nat) : Nat :=
  let n := (s.stooks.map fun x => (x.2.running.map fun r => match r.streams with
    | some y => if y.1 = d ∧ r.finishes.all fun t => decide (s.logical (s.ownerWord x.1 (bankOf r.addr) - 0x4000) < t) then y.2 else 0
    | none => 0).sum).sum
  2 ^ min n 3 - 1

/-! ### STATE of a core (R241, R262) -/

/-- Source registers of an instruction word, by its class (R245, R246). -/
def srcRegs (w : Nat) : List Nat :=
  let rd := bits w 21 5
  let ra := bits w 16 5
  let rb := bits w 11 5
  let op := bits w 26 6
  let sub := bits w 0 10
  if op = 11 then [rd]
  else if (20 ≤ op ∧ op ≤ 23) ∨ op = 26 ∨ op = 27 ∨ (32 ≤ op ∧ op ≤ 37) then [rd, ra]
  else if op = 38 ∨ op = 39 then []
  else if op = 48 then
    if sub = 9 then [ra, rb, rd, rd + 1, rd + 2, rd + 3]
    else if sub = 17 ∨ sub = 18 then [ra, rb]
    else if [1, 2, 8, 10, 11, 16, 20, 21, 65, 67, 68].contains sub then [ra] else []
  else if op = 1 ∨ (28 ≤ op ∧ op ≤ 31) ∨ (op = 0 ∧ sub < 12) then [ra, rb] else [ra]

/-- Whether the next instruction of a core waits for a register or for the divider (R241, R247). -/
def State.stalls (s : State) (n : Nat) : Bool := match (s.core n).ctx with
  | none => false
  | some c =>
    let w := s.rdNat (imemAt n (s.fld F.stkCoreStatusPc n)) 4
    let x := s.core n
    let now := s.logical c
    decide (x.free ≤ now) && (((srcRegs w).any fun r => decide (now < sget 0 x.ready r)) ||
      (bits w 26 6 == 1 && decide (3 ≤ bits w 0 11) && decide (now < x.divFree)))

/-- A generator register of a stook: zero where it is not the home stook of a generator (R201). -/
def State.genWord (s : State) (r : Reg) (i k : Nat) : Word := if (s.gen k).ctx.isSome then s.reg r i else 0

/-- A register as a read shows it: the held value, or the view that the manual computes (R236 EXCH, R262 STATE, R344 SLOTS_BUSY, R343 CORR,
R201 BUSY and PASS2 and the generator registers, R224 PACKETS, R370
HUB_CAPACITY and the mailbox history, R399 HUB_GROUP_TICK, R318 ENC_REQ of the control ports, R480 ENT_RAW), with WO bits as zero (R13). -/
def State.shown (s : State) (r : Reg) (i : Nat) : Word :=
  r.shown (match r with
  | .stkBankStatus => s.reg r i ||| (if s.exch (i / 16) (i % 16) then 1 else 0)
  | .stkCoreStatus => if s.fld F.stkCoreStatusState i = 1 ∧ s.stalls i then BitVec.ofNat 64 (putBits (s.reg r i).toNat 32 2 2) else s.reg r i
  | .hrwStatus => s.reg r i ||| s.tileBits i
  | .gddStatus => BitVec.ofNat 64 (putBits (s.reg r i).toNat F.gddStatusSlotsBusy.lo 4 (s.slotsBusy i))
  | .grnEcc => BitVec.ofNat 64 (putBits (s.reg r i).toNat F.grnEccCorr.lo 30 (Config.corrected i (s.reg .hubTick 0)))
  | .hrwGenCtrl => s.genWord r i i
  | .hrwGenStart => s.genWord r i i
  | .hrwGenTau => s.genWord r i i
  | .hrwGenState => s.genWord r i i
  | .hrwGenCount => s.genWord r i i
  | .hrwGenTarget => s.genWord r i (i / 16)
  | .stkQueueStatus => BitVec.ofNat 64 (putBits (s.reg r i).toNat 40 8 (s.packets (i / 32) (i % 32)))
  | .hubGroupTick => s.reg .hubTick 0 + s.reg .hubGroupOffset 0
  | .hubCapacity =>
    let ctx := 10240 - (s.ctxs.filter fun x => x.2.state != .free).length
    let gr := 4096 - (s.graphs.filter fun x => x.2.isSome).length
    let st := 4096 - (s.streams.filter fun x => x.2.ctx.isSome).length
    BitVec.ofNat 64 (st * 2 ^ 27 + gr * 2 ^ 14 + ctx)
  | .mbxStatus => BitVec.ofNat 64 (putBits (s.reg r i).toNat 1 8 ((s.chan i).history.length - 1))
  | .mbxCtrl => s.reg r i ||| (if (s.chan i).history.isEmpty then 0 else 1)
  | .lnkCtrl => s.reg r i ||| (if 16 ≤ i then 4 else 0)
  | .entRaw => if s.fld F.secLifecycleState 0 = 0 then s.reg r i else 0
  | _ => s.reg r i)

/-- The copy of a row's register that a byte of its page lies in: its number in the unit, and the byte within it. -/
def RegRow.at? (w : RegRow) (off : Nat) : Option (Nat × Nat) :=
  if off < w.base then none else
  let d := off - w.base
  let o := if w.outStep = 0 then 0 else d / w.outStep
  let r := d - o * w.outStep
  let i := if w.inStep = 0 then 0 else r / w.inStep
  let k := r - i * w.inStep
  if o < w.outN ∧ i < w.inN ∧ k < w.reg.bytes then some (o * w.inN + i, k) else none

/-- The register copy under a byte of a page of unit `u`: register, index, and the byte within it. -/
def byteAt (rows : List RegRow) (u off : Nat) : Option (Reg × Nat × Nat) :=
  rows.findSome? fun w => (w.at? off).map fun c => (w.reg, u * (w.outN * w.inN) + c.1, c.2)

/-- The register at an offset of a unit's page: itself and its index. -/
def regAt (rows : List RegRow) (u off : Nat) : Option (Reg × Nat) :=
  (byteAt rows u off).bind fun c => if c.2.2 = 0 then some (c.1, c.2.1) else none

/-- `n` bytes of a page of unit `u` from an offset; bytes of no register read as zero. -/
def State.pageBytes (s : State) (rows : List RegRow) (u off n : Nat) : List Byte :=
  (List.range n).map fun k => match byteAt rows u (off + k) with
    | some c => BitVec.ofNat 8 ((s.shown c.1 c.2.1).toNat / 2 ^ (8 * c.2.2))
    | none => 0

/-! ## Capture records (R437–R439) -/

/-- LOCATION word (R440). -/
def locWord (die acre stook unit index kind : Nat) : Nat :=
  die % 8 * 2 ^ 29 + acre % 8 * 2 ^ 26 + stook % 32 * 2 ^ 21 + unit % 32 * 2 ^ 16 + index % 256 * 256 + kind % 256

/-- A section: UNIT, LOCATION, logical position word, body. -/
structure Section where
  unit : Nat
  phys : Nat
  logical : Nat
  body : List Byte
  deriving DecidableEq, Repr

/-- A section as bytes, padded to 64 (R438). -/
def Section.bytes (x : Section) : List Byte :=
  leBytes 4 (x.unit * 2 ^ 24 + x.body.length) ++ leBytes 4 x.phys ++ leBytes 4 x.logical ++ leBytes 4 0 ++
    padTo (64 * ceilDiv (16 + x.body.length) 64 - 16) x.body

/-- The section of a unit of stook `k`: a page or a state. `st` is its logical stook number in the launch. -/
def sectionOf (kind k unit index st : Nat) (body : List Byte) : Section where
  unit := kind
  phys := locWord (k / 17 / 8) (k / 17 % 8) (k % 17) unit 0 0
  logical := st / 128 % 8 * 2 ^ 29 + st / 16 % 8 * 2 ^ 26 + st % 16 * 2 ^ 22 + index * 2 ^ 19
  body := body

/-- Core state body (R438): g0–g31, poison bits, status, fault. -/
def State.coreBody (s : State) (k : Nat) : List Byte :=
  ((List.range 32).flatMap fun r => leBytes 8 (sget 0 (s.core k).g r).toNat) ++ leBytes 8 (s.core k).poison.toNat ++
    leBytes 8 (s.reg .stkCoreStatus k).toNat ++ leBytes 8 (s.reg .stkCoreFault k).toNat

/-- The pages and core states of a stook that serve a context (R439). -/
def State.stookSections (s : State) (c k st : Nat) : List Section :=
  [sectionOf 4 k 15 0 st (s.pageBytes rowsStk k 0 4096), sectionOf 5 k 31 0 st (s.pageBytes rowsAcr (k / 17) 0 4096)] ++
  ((List.range 8).filter fun e => (s.engine (8 * k + e)).ctx == some c).map (fun e =>
    sectionOf 2 k e e st (s.pageBytes rowsShf (8 * k + e) 0 4096)) ++
  (if (s.gen k).ctx == some c || (s.core (4 * k)).ctx == some c then [sectionOf 3 k 12 0 st (s.pageBytes rowsHrw k 0 4096)] else []) ++
  ((List.range 4).filter fun n => (s.core (4 * k + n)).ctx == some c).map fun n =>
    sectionOf 6 k (8 + n) n st (s.coreBody (4 * k + n))

/-- A capture record written into the buffer of a die; the oldest records are overwritten when the buffer is full (R437, R438). -/
def State.captureRecord (s : State) (die kind logSeq : Nat) (c : Option Nat) (stream seq entry : Nat) (startTau : Int) (startCyc : Nat)
    (sections : List Section) : State :=
  let secs := sections.take 256
  let body := secs.flatMap Section.bytes
  let head := leBytes 4 (kind * 2 ^ 24 + secs.length) ++ leBytes 4 logSeq ++ leBytes 8 (64 + body.length) ++ leBytes 8 s.tick ++
    leBytes 8 (match c with | some x => unsign 64 (s.tau x) | none => 0) ++ leBytes 4 s.cyc ++ leBytes 4 (c.getD 0x3FFF) ++
    leBytes 4 stream ++ leBytes 4 seq ++ leBytes 8 entry ++ leBytes 8 (startCyc * 2 ^ 54 + unsign 40 startTau)
  let old := sget 0 s.capNext die
  let off := if 2 ^ 26 < old + 64 + body.length then 0 else old
  let s := { s with capNext := sput 0 s.capNext die (off + 64 + body.length) }
  let s := (s.wrN (Space.capture.base + die * 2 ^ 26 + off) (head ++ body)).serviceCart (.acre die ((secs.head?.map fun x => bits x.phys 26 3).getD 0))
    (64 + body.length)
  ((s.bump F.fltCaptureRecords 0 1).setFld F.fltCaptureLastDie 0 die).setFld F.fltCaptureLastOffset 0 off

/-! ## The fault log (R440) -/

/-- KIND of the LOCATION word of a fault code. -/
def kindOf : Nat → Nat
  | 0x0B => 2
  | 0x0C => 1
  | 0x0E => 2
  | 0x0F => 3
  | 0x10 => 3
  | 0x11 => 4
  | 0x12 => 4
  | 0x13 => 4
  | 0x14 => 0x0A
  | 0x15 => 5
  | 0x16 => 5
  | 0x17 => 6
  | 0x1A => 7
  | 0x1B => 8
  | 0x1C => 9
  | 0x1D => 9
  | _ => 0

/-- An entry of the fault log (R440). CAPTURE_REF names the record just written when `cap` is true. -/
def State.logFault (s : State) (code action : Nat) (outside : Bool) (die acre stook unit index : Nat) (c : Option Nat) (us : Nat)
    (cap : Bool) : State :=
  let seq := s.fld F.fltLogHeadNextSeq 0
  let n := s.fld F.fltLogHeadNextIndex 0
  let kind := kindOf code
  let d := if 5 ≤ kind ∧ kind ≤ 9 then 0 else die
  let s := if (s.rd (logAt n + 7)).toNat = 0 then s else s.bump F.fltLogHeadOverwritten 0 1
  let s := s.wrN (logAt n) (leBytes 4 seq ++
    leBytes 4 (code * 2 ^ 24 + action * 2 ^ 20 + (if outside then 2 ^ 19 else 0) + (if cap then 2 ^ 18 else 0)) ++ leBytes 8 s.tick ++
    leBytes 4 (locWord d acre stook unit index kind) ++ leBytes 4 (c.getD 0x3FFF) ++ leBytes 4 us ++
    leBytes 4 (if cap then s.fld F.fltCaptureLastDie 0 * 2 ^ 29 + s.fld F.fltCaptureLastOffset 0 / 64 else 0))
  (s.setFld F.fltLogHeadNextSeq 0 (seq + 1)).setFld F.fltLogHeadNextIndex 0 (n + 1)

/-- The log entry of a loss: the one its fault report left, or a new one (R415, R440). -/
def State.logLoss (s : State) (code action : Nat) (outside : Bool) (die acre index : Nat) (c : Option Nat) (us : Nat) : State :=
  let key := (code, die, acre + index)
  if s.announced.contains key then { s with announced := s.announced.erase key }
  else s.logFault code action outside die acre 31 31 index c us false

/-- A fault log entry of the module, without a place or a context. -/
def State.logModule (s : State) (code action index : Nat) : State := s.logFault code action false 0 0 31 31 index none 0 false

/-- CLR_LOG (R441): the ring is empty; NEXT_SEQ stays. -/
def State.clrLog (s : State) : State := (s.blank Space.log.base 32768).setFld F.fltLogHeadOverwritten 0 0

def execClrLog (s : State) : Out := .next s.clrLog

/-- CLR_RESET_LIMIT (R441). -/
def State.clrResetLimit (s : State) : State := (s.setFld F.fltStatusResetLimit 0 0).setFld F.fltHangResetsWindow 0 0

def execClrResetLimit (s : State) : Out := .next s.clrResetLimit

/-- CLR_AVAIL (R441). -/
def State.clrAvail (s : State) : State := s.setReg .fltAvail 0 0

def execClrAvail (s : State) : Out := .next s.clrAvail

end Sys2Proof.Machine
end

