-- ==== Sys2Proof/Machine/Faults.lean ====
section
/-!
DEFINITION. Checkpoints and their mirrors (R338–R342), faults and their log (R413–R423, R532), recovery and retirement
(R417–R425), losses of links, wires, memories and dies (R295, R327, R336, R337, R427–R429), and the standby Badger (R430–R432).
-/
namespace Sys2Proof.Machine

/-! ## Checkpoint generations (R338–R341) -/

/-- Physical dies that carry a launch. -/
def Launch.homes (l : Launch) : List Nat := ((l.dies.filter (decide <| · < 16)).map (· % 8)).eraseDups

/-- MiB that a die's records of one pool take, and GRN_POOL after a change of the records (R340, R343). -/
def State.poolMiB (s : State) (d : Nat) (mirror : Bool) : Nat :=
  ((s.pools.filter fun (r : PoolRec) => r.die == d && r.mirror == mirror).map fun r => ceilDiv r.len (2 ^ 20)).sum

/-- Launch ticks between the newest COMPLETE and the newest MIRRORED generation of a launch on a die (R343). -/
def State.lagOf (s : State) (d c : Nat) : Nat :=
  let own := s.pools.filter fun (r : PoolRec) => r.die == d && r.ctx == c && !r.mirror && decide (2 ≤ r.state)
  let newest := fun (l : List PoolRec) => (l.map fun r => r.tau).foldl max 0
  (newest own - newest (own.filter (·.state == 3))).toNat

def State.countPools (s : State) : State :=
  s.each (List.range 8) fun s d =>
    let lag := ((s.pools.map (·.ctx)).map (s.lagOf d)).foldl max 0
    ((s.setFld F.grnPoolOwnUsed d (s.poolMiB d false)).setFld F.grnPoolMirrorUsed d (s.poolMiB d true)).setFld F.grnPoolMirrorLag d
      (min lag 65535)

/-- The lowest offset in a pool of a die at which a state of a length lies apart from the records that stay (R340; DESIGN CHOICE, log 152). -/
def poolBase (keep : List PoolRec) (d : Nat) (mirror : Bool) (len : Nat) : Nat :=
  let mine := keep.filter fun (r : PoolRec) => r.die == d && r.mirror == mirror
  let apart := fun (b : Nat) => mine.all fun r => decide (b + len ≤ r.base) || decide (r.base + r.len ≤ b)
  ((0 :: mine.map fun r => r.base + r.len).filter apart).foldl (fun (m : Option Nat) b => some ((m.map (min b)).getD b)) none |>.getD 0

/-- The 64-byte directory record of a generation (R340). -/
def PoolRec.record (r : PoolRec) : List Byte :=
  leBytes 4 (r.state * 2 ^ 30 + r.gen % 2 * 2 ^ 14 + r.ctx % 2 ^ 14) ++ leBytes 4 r.len ++ leBytes 8 (unsign 64 r.tau) ++ leBytes 4 r.base ++
    leBytes 4 r.journalSeq ++ leBytes 40 0

/-- A generation of a launch written into the own pools of its dies, in a given state (R338, R340): the older of its two goes. -/
def State.takeGeneration (s : State) (c : Nat) (l : Launch) (state : Nat) : State :=
  let w := s.capture c l true
  let gen := match (s.pools.filter fun (r : PoolRec) => r.ctx == c && !r.mirror).getLast? with
    | some r => 1 - r.gen
    | none => 0
  let keep := s.pools.filter fun (r : PoolRec) => !(r.ctx == c && r.gen == gen && !r.mirror)
  let recs : List PoolRec := l.homes.map fun d => {
    ctx := c, die := d, gen := gen, state := state, mirror := false, len := savedBytes w, tau := l.tau
    base := poolBase keep d false (savedBytes w), journalSeq := w.journalSeq, saved := w }
  { s with pools := keep ++ recs }.countPools

/-- The leave of a checkpoint's capture (R451): each stook of the launch, for the capture ticks (PRESUMED, log 159). -/
def State.captureNeeds (s : State) (l : Launch) : List Need :=
  (s.stooksOf l).map fun x => ⟨x.2 / 17, s.unitOf x.2 15, 17, max 1 l.sched.captureTicks * 1024⟩

/-- CHECKPOINT (R338): with its leave, in the capture ticks of a checkpoint's drain, the launch's state goes into the own pools as a generation
that is being written. -/
def execCheckpoint (c : CtxId) (s : State) : Out :=
  .next (match s.launch c.val with
  | none => s
  | some l => match l.drain with
    | some (.ckpt, _, stage) =>
      if stage < 4 ∨ l.ckpt = l.tau then s else
      s.withLeaves c.val (s.captureNeeds l) fun s => (s.takeGeneration c.val l 1).modLaunch c.val fun l => { l with ckpt := l.tau }
    | _ => s)

/-- CHECKPOINT_COMPLETE (R340): the last capture transfer on a die has landed. -/
def execCheckpointComplete (c : CtxId) (d : Die) (s : State) : Out :=
  let pools := s.pools.map fun (r : PoolRec) => if r.ctx = c.val && r.die = d.val && !r.mirror && r.state == 1 then { r with state := 2 } else r
  .next ({ s with pools := pools }.countPools)

/-- The generation that a die's mirror sends next (R341): the newest COMPLETE one of a launch not yet sent. -/
def State.toMirror (s : State) (d : Nat) : Option PoolRec :=
  (s.pools.filter fun (r : PoolRec) => r.die == d && !r.mirror && r.state == 2 &&
    s.pools.all fun (q : PoolRec) => !(q.ctx == r.ctx && q.die == d && !q.mirror && decide (2 ≤ q.state)) || decide (q.tau ≤ r.tau)).head?

/-- MIRROR_SEND (R341). -/
def execMirrorSend (d : Die) (s : State) : Out :=
  .next (match s.toMirror d.val with
  | some r =>
    if s.flag F.grnStatusMirrorBusy d.val || s.nextDie d.val == d.val then s
    else
      let east := s.nextDie d.val
      let keep := s.pools.filter fun (q : PoolRec) => !(q.mirror && q.die == east && q.ctx == r.ctx && q.gen == r.gen)
      let s := { s with pools := keep ++ [{ r with die := east, mirror := true, state := 1, base := poolBase keep east true r.len }] }
      (s.setFld F.grnStatusMirrorBusy d.val 1).countPools
  | none => s)

/-- MIRROR_COMPLETE (R341): both directory records become MIRRORED. -/
def execMirrorComplete (d : Die) (s : State) : Out :=
  let east := s.nextDie d.val
  .next (match s.pools.find? fun (r : PoolRec) => r.mirror && r.die == east && r.state == 1 with
  | some m => (({ s with pools := s.pools.map fun (r : PoolRec) =>
      if r.ctx = m.ctx && r.gen = m.gen && r.tau = m.tau && (r.mirror && r.die == east || !r.mirror && r.die == d.val) then
        { r with state := 3 } else r }).setFld F.grnStatusMirrorBusy d.val 0).countPools
  | none => s)

/-- Generations that every die of a launch holds at a state or better, in one pool, newest first. -/
def State.generations (s : State) (c least : Nat) (mirror : Bool) : List PoolRec :=
  let mine := s.pools.filter fun (r : PoolRec) => r.ctx == c && r.mirror == mirror
  (mine.filter fun r => mine.all fun q => q.tau != r.tau || decide (least ≤ q.state)).mergeSort fun x y => decide (y.tau ≤ x.tau)

/-- The newest COMPLETE generation in the own pools; the newest MIRRORED one after a die loss (R342). -/
def State.newestComplete (s : State) (c : Nat) : Option PoolRec := (s.generations c 2 false).head?
def State.newestMirrored (s : State) (c : Nat) : Option PoolRec := (s.generations c 3 true).head?

/-! ## Restore (R276, R418) -/

/-- Stream inputs of a journal that apply at a tick or later (R276). -/
def journalInputs (j : List JRec) (tau : Int) : List StreamInput := j.filterMap fun r => match r.body with
  | .input d => if tau ≤ r.tau then some { apply := r.tau, data := d } else none
  | _ => none

/-- VRESULT records of a journal from a tick on (R276). -/
def journalResults (j : List JRec) (tau : Int) : List JRec := j.filter fun r => match r.body with
  | .vresult .. => decide (tau ≤ r.tau)
  | _ => false

/-- The permutation and the ladder of a launch without the copies that it has lost (R153). -/
def Launch.tracked (l : Launch) (perm ladder : List Nat) : List Nat × List Nat :=
  let keep := (List.range perm.length).filter fun k => !l.lost.contains ((perm[k]?).getD 0 / 4)
  (keep.filterMap (perm[·]?), keep.filterMap (ladder[·]?))

/-- A launch set back to launch tick `tau` for a replay up to where it stands now. Copies lost stay lost. -/
def Launch.rewound (l : Launch) (j : List JRec) (now : Nat) (tau : Int) (version : Nat) (perm ladder : List Nat) (bests : List (Int × Nat))
    (hist : Sparse Nat) (audits : List Audit) : Launch :=
  let all := l.past ++ l.patches
  let p := l.tracked perm ladder
  { l with
    tau := tau, turn := tau - 1, version := version, perm := p.1, sched := { l.sched with ladder := p.2 }, bests := bests, hist := hist, audits := audits
    verdict := none, vote := none, void := false, again := none
    patches := all.filter fun p => decide (tau ≤ p.apply)
    past := all.filter fun p => decide (p.apply < tau)
    inputs := journalInputs j tau, vres := journalResults j tau, checkUntil := some l.tau, holds := [], phase := .whole
    windowOnly := false, drain := none, resumeAt := some (now + 1), ckpt := tau, frame := 74, stopped := none }

/-- The SCRATCH areas of a launch after a restore: nothing fixes what they hold (R322). -/
def State.openScratch (s : State) (c : Nat) : State :=
  let scratch := fun (a : Nat) =>
    let off := a % 2 ^ 44
    if a / 2 ^ 44 = 2 then (List.range 256).any fun i =>
      let n := off / 2 ^ 33 * 256 + i
      s.flag F.grnSegValid n && s.fld F.grnSegCtx n == c && s.fld F.grnSegPort n == off % 2 ^ 33 / 2 ^ 31 &&
        s.fld F.grnSegPseg n == off % 2 ^ 31 / 2 ^ 26 && s.fld F.grnSegClass n == 0
    else decide (a / 2 ^ 44 = 3) && s.owns c a && !s.flag F.gddSegKeep (off / 2 ^ 35 * 256 + off % 2 ^ 35 / gddrSegBytes)
  (Config.anyBytes s.free).foldl (fun s x => if scratch x.1 then s.store x.1 [x.2.1] x.2.2 else s) { s with free := s.free + 1 }

/-- A launch restored from a saved state of its own, at its present positions (R418). -/
def State.restoreSaved (s : State) (c : Nat) (l : Launch) (w : Saved) : State :=
  let l' := l.rewound (s.ctx c).journal s.tick w.tau w.version w.perm w.ladder w.bests w.hist w.audits
  match (s.graph l.graph).bind fun g => g.versions.find? fun v => v.num == w.version with
  | none => s
  | some v =>
    let s := (s.releaseUnits c).setCtx c { s.ctx c with launch := some l' }
    ((s.loadSaved c l' v.coeffs w).restoreChains c l' w).openScratch c

/-- A launch repeated from launch tick −P (R417), or from the state it was resumed from. -/
def State.restartLaunch (s : State) (c : Nat) (l : Launch) : State := match l.origin with
  | some w => s.restoreSaved c l w
  | none =>
    let first := s.versionAt l (-l.sched.prologue)
    let image := (Config.readSched l.image).getD l.sched
    let l' := l.rewound (s.ctx c).journal s.tick (-l.sched.prologue) first (startPerm image l.copies) image.ladder [] [] []
    match s.version l.graph first with
    | none => s
    | some v =>
      let s := (s.releaseUnits c).setCtx c { s.ctx c with launch := some l' }
      let s := (s.loadUnits c l' v.coeffs).loadLanes l' v.coeffs
      s.modLaunch c fun x => { x with bests := startBests x v.coeffs, ckpt := -1 }

/-- The streams of a context: their watchdogs restart after a recovery (R416). -/
def State.rewatchAll (s : State) (c : Nat) : State :=
  s.each (keysWhere s.streams fun x => x.ctx == some c && x.deadline.isSome) fun s x => s.rewatch x

/-- A launch restored from a generation, or repeated without one, with its RECOVERY record and its count of the interruption. A fault
within a recovery is merged into it: the launch has caught up when it has passed the later of the two logical times, and each fault
has its own entry (R276, R416–R418, R422, R440). -/
def State.recoverFrom (s : State) (c : Nat) (l : Launch) (g : Option PoolRec) (cause entry : Nat) (place : Option (Nat × Nat) := none) :
    State :=
  let at_ := match g with
    | some r => r.tau
    | none => -l.sched.prologue
  let f : Stopped := l.stopped.getD { code := cause, since := s.now, tau := l.tau, cyc := s.cyc, held := 0 }
  let old : Recovery := l.recover.getD { tau := l.tau, cyc := s.cyc, untilTau := f.tau, untilCyc := f.cyc, held := f.held, faults := [] }
  let ahead := decide (old.tau * 1024 + old.cyc < l.tau * 1024 + s.cyc)
  let later := decide (old.untilTau * 1024 + old.untilCyc < f.tau * 1024 + f.cyc)
  let first := decide (cause = 0x13 ∨ cause = 0x14)
  let r : Recovery := {
    tau := if ahead then l.tau else old.tau, cyc := if ahead then s.cyc else old.cyc
    untilTau := if first then at_ else if later then f.tau else old.untilTau
    untilCyc := if first then 0 else if later then f.cyc else old.untilCyc, held := old.held
    faults := if old.faults.any (·.entry == entry) then old.faults
      else old.faults ++ [{ entry := entry, since := f.since, held := old.held - f.held, place := place }] }
  let s := match g with
    | some r => s.restoreSaved c l r.saved
    | none => s.restartLaunch c l
  let s := s.journal c (.recovery cause at_) at_ 0
  let s := (s.modLaunch c fun x => { x with recover := some r }).wrNat (logAt entry + 24) 4 (2 ^ 32 - 1)
  ((s.rewatchAll c).setFld F.fltStatusRecovering 0 1)

/-- The last audit tick of a launch whose recompute agreed (R421). -/
def State.lastPassed (s : State) (c : Nat) (l : Launch) : Option Int :=
  let recs := (s.ctx c).tally.filter fun r => bits (bytesAt r 0 4) 1 2 == 0
  let waiting := l.audits.filter fun x => x.energy.isSome && (s.version l.graph x.version).any fun v => (auditParts l v.coeffs x).1.isEmpty
  (recs.map (fun r => (bytesAt r 8 8 : Int)) ++ waiting.map fun x => (x.tick : Int)).foldl (fun m t => match m with
    | none => some t
    | some x => some (max x t)) none

/-! ## Retirement (R30, R31, R423–R425) -/

/-- Whether the spare of an acre is free. -/
def State.spareFree (s : State) (a : Nat) : Bool := (s.acre a).retired.isEmpty

/-- A stook retired (R424, R425): FLT_SPARE and the placement follow, and the repair map is written to the configuration store. -/
def State.retireStook (s : State) (a p : Nat) : State :=
  if (s.acre a).retired.contains p then s else
  let s := s.setAcre a { s.acre a with retired := (s.acre a).retired ++ [p] }
  let job : StoreJob := { chan := none, image := false, kind := 8, index := 0, body := [] }
  let s := ({ s with jobs := s.jobs ++ [job] } : State).setFld F.cfgStatusBusy 0 1
  let used := if p = 16 then 0 else 1
  let s := s.setReg .fltSpare (a / 8) (BitVec.ofNat 64 (putBits (s.reg .fltSpare (a / 8)).toNat (8 * (a % 8)) 8 (used * 128 + p)))
  let spare := fun (e : Nat × Word) => keyCode e.1 == Reg.fltSpare.code
  { s with standby := { s.standby with regs := s.standby.regs.filter (!spare ·) ++ s.regs.filter spare } }

/-! ## The barn dies (R25, R478) -/

def State.source (s : State) (b : Nat) : Source := sget {} s.sources b

/-- The active barn die (R25). -/
def State.activeBarn (s : State) : Nat := s.fld F.hubStatusActiveBarn 0

/-- The ENT_ registers show the active source, and the state of the standby's (R478, R492). -/
def State.syncEnt (s : State) : State :=
  let a := s.source s.activeBarn
  let b := s.source (1 - s.activeBarn)
  let gone := s.barnLost.contains (1 - s.activeBarn)
  let bit := fun (x : Bool) => if x then 1 else 0
  let s := s.setReg .entStatus 0 (BitVec.ofNat 64 (a.state * 2 ^ 28 + (if gone then 0 else b.state) * 2 ^ 24 + a.restarts * 2 ^ 22 +
    a.pool.length * 2 ^ 20 + bit a.lastRct * 2 ^ 19 + bit a.lastApt * 2 ^ 18))
  let s := s.setReg .entReseed 0 (BitVec.ofNat 64 (min a.reseeds (2 ^ 32 - 1) * 2 ^ 32 + a.blocks))
  let s := s.setReg .entOutput 0 (BitVec.ofNat 64 a.output)
  s.setReg .entHealth 0 (BitVec.ofNat 64 (min a.rctFails 65535 * 2 ^ 48 + min a.aptFails 65535 * 2 ^ 32 + min a.rctMax 65535 * 2 ^ 16 +
    min a.aptMax 65535))

/-! ## Fault reports (R413–R416, R423, R532) -/

/-- Action of a fault code (R413). -/
def actionOf : Nat → Nat
  | 0x01 => 1
  | 0x02 => 2
  | 0x03 => 1
  | 0x04 => 1
  | 0x05 => 9
  | 0x06 => 2
  | 0x07 => 2
  | 0x08 => 2
  | 0x09 => 1
  | 0x0A => 9
  | 0x0B => 3
  | 0x0C => 5
  | 0x0D => 5
  | 0x0E => 3
  | 0x0F => 1
  | 0x10 => 1
  | 0x12 => 4
  | 0x13 => 5
  | 0x14 => 5
  | 0x17 => 6
  | 0x18 => 7
  | 0x19 => 8
  | 0x1A => 0xB
  | 0x1B => 0xC
  | 0x1D => 0xA
  | _ => 0

/-- Codes outside single-fault scope (R35). -/
def outsideScope (code : Nat) : Bool := [0x0C, 0x0D, 0x13, 0x14, 0x1A, 0x1B].contains code

/-- Contexts with a unit or a crib bank in a stook (R419). -/
def State.inStook (s : State) (k : Nat) : List Nat :=
  let engines := (List.range 8).filterMap fun e => (s.engine (8 * k + e)).ctx
  let cores := (List.range 4).filterMap fun n => (s.core (4 * k + n)).ctx
  let banks := (List.range 16).filterMap fun b =>
    if s.fld F.stkBankOwnerKind (bankIx k b) = 1 then some (s.fld F.stkBankOwnerCtx (bankIx k b)) else none
  (engines ++ cores ++ banks).eraseDups

/-- Contexts with a launch on a field die, lowest first. -/
def State.onDie (s : State) (d : Nat) : List Nat :=
  keysWhere s.ctxs fun x => x.launch.any fun l => l.dies.any fun y => y % 8 == d && decide (y < 16)

/-- Launches on a module that booked a link of a die (R419): a running one recovers, a LOADED one only takes the other path. -/
def State.onLink (s : State) (d number : Nat) : List Nat :=
  keysWhere s.ctxs fun x => (x.state == .running || x.state == .held || x.state == .paused) &&
    x.launch.any fun l => l.sched.bookedLinks.any fun b => b.2 == number && (l.dieOf b.1).map (· % 8) == some d

/-- Launches with an area of the granary, or parked fold state, on a port (R419). -/
def State.onPort (s : State) (d p : Nat) : List Nat :=
  keysWhere s.ctxs fun x => x.launch.any fun l => l.dies.contains (d + 8) || ((List.range 256).any fun k =>
    s.flag F.grnSegValid (d * 256 + k) && s.fld F.grnSegPort (d * 256 + k) == p && s.launch (s.fld F.grnSegCtx (d * 256 + k)) == some l)

/-- Contexts whose launch runs. -/
def State.runningCtxs (s : State) : List Nat := keysWhere s.ctxs fun x => x.state == .running || x.state == .held

/-- Launches that a report concerns (R38, R419), lowest context first: those with a booked slot on a link, an area on a port, a field on a die
or a unit, bank or queue in a stook; every running one at a takeover or a reset; else the one that the report names. -/
def State.concerned (s : State) (r : FaultRep) : List Nat :=
  let k := (r.die.val * 8 + r.acre.val) * 17 + r.stook.val
  let named := r.ctx.toList.map (·.val)
  let l := match r.code with
    | 0x05 => named
    | 0x09 => named
    | 0x0A => named
    | 0x0B => if s.lostLinks.contains (r.die.val, some r.acre.val) then [] else s.onLink r.die.val (r.acre.val + 1)
    | 0x0E => if s.lostLinks.contains (r.die.val, none) then [] else s.onLink r.die.val 0
    | 0x10 => if (s.fld F.grnStatusLost r.die.val).testBit (r.index.toNat % 4) then [] else s.onPort r.die.val (r.index.toNat % 4)
    | 0x13 => s.onDie r.die.val
    | 0x14 => s.onDie r.die.val
    | 0x17 => s.runningCtxs
    | 0x18 => s.runningCtxs
    | _ => if r.stook.val < 17 then s.inStook k else named
  (l.filter fun c => (s.launch c).isSome).mergeSort (· ≤ ·)

/-! ## Core faults (R260) -/

/-- Causes IMEM_ECC and DMEM_ECC. -/
def causeImem : Nat := 5
def causeDmem : Nat := 6

/-- A bit vector with one bit set to a value. -/
def setBit32 (v : BitVec 32) (k : Nat) (b : Bool) : BitVec 32 := BitVec.ofNat 32 (putBits v.toNat k 1 (if b then 1 else 0))

/-- A core whose results in flight are discarded. -/
def dropFlights (x : CoreState) (now : Int) : CoreState :=
  x.ready.foldl (fun (x : CoreState) e =>
    if now < e.2 then
      let old := sget (0, false) x.before e.1
      { x with g := sput 0 x.g e.1 old.1, poison := setBit32 x.poison e.1 old.2 }
    else x) { x with ready := [], before := [], wait := .none }

/-- A core stops, with the cause and the instruction index of its fault. -/
def State.stopCore (s : State) (n c cause : Nat) : State :=
  let s := (s.setCore n (dropFlights (s.core n) (s.logical c))).setFld F.stkCoreStatusState n 3
  ((s.setFld F.stkCoreFaultFpc n (s.fld F.stkCoreStatusPc n)).setFld F.stkCoreFaultValid n 1).setFld F.stkCoreFaultCause n cause

/-- Uncorrectable reads logged in the last 2^20 ticks that fall in the row and array of a report (R423). -/
def State.sameRow (s : State) (r : FaultRep) : Nat :=
  let k := (r.die.val * 8 + r.acre.val) * 17 + r.stook.val
  (s.eccHits.filter fun h => h.1 == r.code && h.2.1 == k && h.2.2.1 == r.unit.val && h.2.2.2.1 == r.index.toNat && h.2.2.2.2.1 == r.row &&
    decide (s.tick ≤ h.2.2.2.2.2 + 2 ^ 20)).length

/-- A recovery from a fault in another part of an acre runs or is due (R37, R422): in another stook than `k`, or in the acre's link where `k`
is a stook (31 stands for the link). -/
def State.acreRecovers (s : State) (a k : Nat) : Bool :=
  let other := fun (x : Nat × Nat) => x.1 == a && x.2 != k
  (s.announced.any fun x => (decide (x.1 ≤ 9) && other x.2) || (x.1 == 0x0B && k != 31 && 8 * x.2.1 + x.2.2 == a)) ||
    s.ctxs.any fun x => x.2.launch.any fun l => l.recover.any fun r => r.faults.any fun f => f.place.any other

/-- Code and action that the Badger fixes for a report (R37, R413, R423, R425, R532). -/
def State.fixFault (s : State) (r : FaultRep) : Nat × Nat × Bool :=
  let a := r.die.val * 8 + r.acre.val
  let spare := actionOf r.code = 2 || ((r.code == 0x01 || r.code == 0x04) && decide (1 ≤ s.sameRow r))
  if s.dieLost r.die.val && decide (r.code ≤ 0x14) then (r.code, 0, true)
  else if [0x01, 0x02, 0x03, 0x04, 0x06, 0x07, 0x08, 0x09].contains r.code && decide (r.stook.val < 17) && s.acreRecovers a r.stook.val then
    (0x0D, 5, true)
  else if r.code = 0x0B ∧ s.acreRecovers a 31 then (0x0B, 5, true)
  else if r.code = 0x10 ∧ s.fld F.grnStatusLost r.die.val ≠ 0 then (0x10, 5, true)
  else if r.code = 0x17 ∧ r.index.toNat ≠ s.fld F.hubStatusActiveBarn 0 then (0x17, 0, false)
  else if spare then
    if (s.acre a).retired.contains r.stook.val || s.spareFree a then (r.code, 2, false)
    else (0x0D, 5, true)
  else (r.code, actionOf r.code, outsideScope r.code)

/-- Status with which a CONTEXT action ends the stream (R227, R276). -/
def contextStatus (code : Nat) : Nat := if code = 0x05 then stPoisoned else stDegraded

/-- A UNIT capture record for codes 0x02 and 0x06–0x08 (R438, R439). -/
def State.captureUnit (s : State) (r : FaultRep) : State :=
  let k := (r.die.val * 8 + r.acre.val) * 17 + r.stook.val
  let unit := r.unit.val
  let body := if unit < 8 then sectionOf 2 k unit unit 0 (s.pageBytes rowsShf (8 * k + unit) 0 4096)
    else if unit < 12 then sectionOf 6 k unit (unit - 8) 0 (s.coreBody (4 * k + unit - 8))
    else sectionOf 3 k unit 0 0 (s.pageBytes rowsHrw k 0 4096)
  s.captureRecord r.die.val 4 (s.fld F.fltLogHeadNextSeq 0) (r.ctx.map (·.val)) r.stream.val 0 0 0 0
    [body, sectionOf 4 k 15 0 0 (s.pageBytes rowsStk k 0 4096)]

/-- The fault log entry of a report: the newest of its code and place, else the newest (R440). -/
def State.entryOf (s : State) (r : FaultRep) : Nat :=
  let n := s.fld F.fltLogHeadNextIndex 0
  (((List.range 1024).map fun k => (n + 1023 - k) % 1024).find? fun i => (s.rd (logAt i + 7)).toNat == r.code &&
    bits (s.rdNat (logAt i + 16) 4) 21 11 == r.die.val * 256 + r.acre.val * 32 + r.stook.val).getD ((n + 1023) % 1024)

/-- What a report announces: a step of its own follows, RECOVERY for a stook, and leaves no second entry (R415). -/
def lossOf (r : FaultRep) (code action : Nat) : List (Nat × Nat × Nat) :=
  if action = 0 then [] else match code with
  | 0x0B => [(code, r.die.val, r.acre.val)]
  | 0x0E => [(code, r.die.val, 0)]
  | 0x10 => [(code, r.die.val, r.index.toNat)]
  | 0x12 => [(code, r.die.val, r.index.toNat)]
  | 0x13 => [(code, r.die.val, r.index.toNat)]
  | 0x17 => [(code, 0, r.index.toNat)]
  | 0x1A => [(code, 0, r.index.toNat)]
  | _ => if action = 5 then [(0x14, r.die.val, 0)]
    else if code ≤ 9 ∧ code ≠ 5 ∧ r.stook.val < 17 then [(code, r.die.val * 8 + r.acre.val, r.stook.val)] else []

/-- A core that a report of an uncorrectable word stops on its way (R260): whether the word was an instruction's or data is open. -/
def State.stopReported (s : State) (r : FaultRep) : State :=
  let n := 4 * ((r.die.val * 8 + r.acre.val) * 17 + r.stook.val) + r.unit.val % 4
  match (s.core n).ctx with
  | some c =>
    if r.code = 0x06 ∧ 8 ≤ r.unit.val ∧ r.unit.val < 12 ∧ s.fld F.stkCoreStatusState n ≠ 3 then s.draw.2.stopCore n c (if s.draw.1 % 2 = 0 then causeImem else causeDmem)
    else s
  | none => s

/-- Whether an action interrupts the launches that it concerns (R414, R416). -/
def interrupting (action : Nat) : Bool := [1, 2, 3, 5, 6].contains action

/-- A launch that an action interrupts: it runs on to the next tick boundary, where its units stop as at a hold (R416). -/
def State.stopLaunch (s : State) (code c : Nat) : State := s.modLaunch c fun l =>
  if l.stopped.isSome then l else { l with stopped := some { code := code, since := s.now, tau := l.tau, cyc := s.cyc, held := 0 } }

/-- The standby barn die retired (R431). -/
def State.retireStandby (s : State) : State :=
  ({ s with barnLost := s.barnLost ++ [1 - s.fld F.hubStatusActiveBarn 0] }.setFld F.hubStatusStandbyReady 0 0).syncEnt

/-- FAULT_REPORT (R413–R416, R532): code and action fixed, the log entry, and what the action does at once. A granary or GDDR 7 report
that no read of the model raised counts its own read (R325, R331). What interrupts a launch
follows in RECOVERY, FIELD_DIE_LOSS and the other steps of the action. -/
def execFaultReport (r : FaultRep) (s : State) : Out :=
  let f := s.fixFault r
  let k := (r.die.val * 8 + r.acre.val) * 17 + r.stook.val
  let con := if f.2.1 = 5 then s.onDie r.die.val else s.concerned r
  let interrupts := interrupting f.2.1 && !con.isEmpty
  let counted := s.reports.contains r || s.dieLost r.die.val
  let cap := [0x02, 0x06, 0x07, 0x08].contains f.1 && decide (r.stook.val < 17) && decide (f.2.1 ≠ 0)
  let new := (lossOf r f.1 f.2.1).filter fun k => (decide (9 < k.1) || interrupts) && !s.announced.contains k
  let s := ({ s with reports := s.reports.erase r, announced := s.announced ++ new } : State).stopReported r
  let s := if counted then s
    else if r.code = 0x0F then s.bump F.grnEccUncorr (4 * r.die.val + r.index.toNat % 4) 1
    else if r.code = 0x11 then s.bump F.gddErrPoisoned (6 * r.die.val + r.index.toNat % 6) 1 else s
  let s := if r.code = 0x01 ∨ r.code = 0x04 then
      { s with eccHits := s.eccHits ++ [(r.code, k, r.unit.val, r.index.toNat, r.row, s.tick)] } else s
  let s := if cap then s.captureUnit r else s
  let s := s.logFault f.1 f.2.1 f.2.2 r.die.val r.acre.val r.stook.val r.unit.val r.index.toNat con.head?
    (if interrupts then 2 ^ 32 - 1 else 0) cap
  let s := if interrupts then s.each con fun s c => s.stopLaunch f.1 c else s
  .next (if f.2.1 = 9 then match r.ctx with
      | some c => s.faultStream c.val (contextStatus r.code)
      | none => s
    else if f.2.1 = 2 ∧ con.isEmpty then s.retireStook (r.die.val * 8 + r.acre.val) r.stook.val
    else if f.1 = 0x17 ∧ f.2.1 = 0 ∧ s.flag F.hubStatusStandbyReady 0 then s.retireStandby
    else if interrupts then s.setFld F.fltStatusRecovering 0 1
    else s)

/-! ## Recovery (R416–R421) -/

/-- All running launches recover from their newest COMPLETE generation (R342, R432, R434). -/
def State.recoverRunning (s : State) (cause : Nat) : State :=
  s.each s.runningCtxs fun s c => match s.launch c with
    | some l => s.recoverFrom c l (s.newestComplete c) cause ((s.fld F.fltLogHeadNextIndex 0 + 1023) % 1024)
    | none => s

/-! ## Field die loss (R36, R427, R428) -/

/-- A class T launch drops the copies that lay on a lost die (R275, R428); in early exchange mode and otherwise their replicas leave
the ladder with their rungs (R153). -/
def State.dropCopies (s : State) (c d : Nat) (l : Launch) : State :=
  let blocks := s.blocksOf c
  let gone := ((l.placed blocks).filterMap fun idx =>
    if (l.dieOf (idx / 1024)).map (· % 8) == some d then some (idx / blocks) else none).eraseDups
  let l' := { l with dies := l.dies.map fun x => if x % 8 = d && decide (x < 16) then 16 else x, lost := l.lost ++ gone }
  let p := l'.tracked l.perm l.sched.ladder
  let l' := { l' with perm := p.1, sched := { l.sched with ladder := p.2 }, stopped := none }
  if (List.range l.copies).all (l'.lost.contains ·) then s.faultStream c stDegraded
  else
    let s := s.setCtx c { s.ctx c with launch := some l' }
    s.each ((s.enginesOf c).filter fun e => decide (e / 1088 % 8 = d)) fun s e => s.setEngine e { s.engine e with ctx := none }

/-- The dies of a class E launch after a loss (R271, R427): its fields on the lost die are placed on dies in service, as parked fields
of a fold where the die carries one already. -/
def State.replaceDies (s : State) (c d : Nat) (l : Launch) (gone : List Nat) : Option (List Nat) :=
  let blocks := s.blocksOf c
  let fixed := fun g => match l.dieOf g with
    | some x => if x % 8 = d then none else some x
    | none => none
  let all := List.range (l.copies * blocks)
  let keep := (List.range l.dies.length).filterMap fun i => (fixed (l.first + i)).map fun x => (l.first + i, x)
  let ok := fun g x partner => !s.dieLost x && s.roomFor l.sched gone g x partner &&
    (s.takers l.sched all g (g - l.first) x).all fun q => gone.contains q || q == c
  let moved := (List.range l.dies.length).filterMap fun i => if (fixed (l.first + i)).isNone then some (l.first + i) else none
  (placeSearch ok (fun g => (List.range 8).map fun i => (Config.placeFrom c g + i) % 8) 2 moved keep).map fun r =>
    (List.range l.dies.length).map fun i => ((r.find? (·.1 == l.first + i)).map (·.2)).getD 16

/-- A LOADED context loaded again: from the state it was resumed from, or from its images. -/
def State.reload (s : State) (c : Nat) : State := match s.launch c, s.versionOf c with
  | some l, some v => match l.origin with
    | some w => s.loadSaved c l v.coeffs w
    | none => (s.loadUnits c l v.coeffs).loadLanes l v.coeffs
  | _, _ => s

/-- What the loss of a die does to one context (R427, R428, R429). A LOADED launch has no state to lose: it is placed and loaded afresh. -/
def State.loseDieFor (s : State) (c d : Nat) : State :=
  match s.launch c with
  | none => s
  | some l =>
    let st := (s.ctx c).state
    if !(l.dies.any fun x => x % 8 == d && decide (x < 16)) || st == .faulted || st == .saved then s
    else if l.sched.classT then s.dropCopies c d l
    else
      let mirrored := s.newestMirrored c
      let paused := s.pausedCtxs c
      let place := (List.range (paused.length + 1)).findSome? fun k => (s.replaceDies c d l (paused.take k)).map fun r => (r, paused.take k)
      match place, mirrored, decide (st = .loaded) with
      | some (dies, gone), gen, loaded =>
        if gen.isNone && !loaded then s.faultStream c stDegraded else
        match s.evict (gone.filter fun x => (s.launch x).any fun y => y.dies.any fun z => dies.contains z) with
        | none => s.faultStream c stDegraded
        | some s =>
          let slots := (List.range dies.length).map fun i =>
            if l.dies[i]? = dies[i]? then (l.slots[i]?).getD 0 else if 8 ≤ (dies[i]?).getD 0 then 1 else 0
          let l := { l with dies := dies, slots := slots }
          if loaded then ((s.releaseUnits c).setCtx c { s.ctx c with launch := some l }).reload c
          else s.recoverFrom c l gen 0x14 ((s.fld F.fltLogHeadNextIndex 0 + 1023) % 1024)
      | none, some g, false =>
        let s := (((s.closeRecovery c s.now).release c).failWaiters c).endLaunchStream l stDegraded
        s.toSaved c l g.saved (s.ctx c).objSegs
      | _, _, _ => s.faultStream c stDegraded

/-- The segment that holds the other copy of a launch's KEEP segment (R321): `256 * die + segment`. -/
def State.otherCopy (s : State) (i : Nat) : Option Nat :=
  let same := fun (f : Fld) (j : Nat) => s.fld f j == s.fld f i
  if s.fld F.gddSegOwner i ≠ 1 then none
  else (List.range 2048).find? fun j => s.fld F.gddSegOwner j == 1 && same F.gddSegCtx j && same F.gddSegField j && same F.gddSegLseg j &&
    s.fld F.gddSegMirror j != s.fld F.gddSegMirror i

/-- The bytes of a GDDR 7 segment copied into another: `256 * die + segment`. -/
def State.copySeg (s : State) (i j : Nat) : State :=
  s.putBack (gddrAt (j / 256) (j % 256 * gddrSegBytes)) gddrSegBytes (s.keep (gddrAt (i / 256) (i % 256 * gddrSegBytes)) gddrSegBytes)

/-- The GDDR 7 segments of a module object after the loss of a die (R427): the other copy is the home copy, and a new mirror copy of it is
written on the next die in service eastward (log 157). -/
def State.rehome (s : State) (d : Nat) (l : List Nat) : List Nat × State :=
  let gone := l.filter fun k => k / 256 == d
  let rest := l.filter fun k => k / 256 != d
  let s := (s.freeObject gone).each rest fun s k => s.setFld F.gddSegMirror k 0
  let e := s.nextDie ((rest.headD 0) / 256)
  let copy := (s.freeSegs e).take rest.length
  if gone.isEmpty || rest.isEmpty || e == (rest.headD 0) / 256 || decide (copy.length < rest.length) then (rest, s)
  else (rest ++ copy.map (256 * e + ·), (rest.zip copy).foldl (fun s x => s.copySeg x.1 (256 * e + x.2)) (s.markSegs e copy 1))

/-- The launch areas on a lost die (R427): the other copy of a KEEP area is its home copy, with a new mirror copy. -/
def State.rehomeAreas (s : State) (d : Nat) : State :=
  s.each ((List.range 256).map (256 * d + ·)) fun s i =>
    if s.fld F.gddSegOwner i ≠ 1 then s else match s.otherCopy i with
    | none => s.setReg .gddSeg i 0
    | some j =>
      let s := (s.setReg .gddSeg i 0).setFld F.gddSegMirror j 0
      let e := s.nextDie (j / 256)
      match s.freeSegs e with
      | p :: _ => if e = j / 256 then s else ((s.setReg .gddSeg (256 * e + p) (s.reg .gddSeg j)).setFld F.gddSegMirror (256 * e + p) 1).copySeg j (256 * e + p)
      | [] => s

/-- What lay on a lost die: its GDDR 7 copies, its granary map and the generations in its pools. -/
def State.dropDie (s : State) (d : Nat) : State :=
  let objects := fun (s : State) (c : Nat) =>
    let a := s.rehome d (s.ctx c).segs
    let b := a.2.rehome d (s.ctx c).objSegs
    b.2.setCtx c { b.2.ctx c with segs := a.1, objSegs := b.1 }
  let versions := fun (s : State) (g : Nat) => match s.graph g with
    | none => s
    | some gr =>
      let r := gr.versions.foldl (fun (p : List Version × State) v =>
        let x := p.2.rehome d v.segs
        (p.1 ++ [{ v with segs := x.1 }], x.2)) ([], s)
      r.2.setGraph g (some { gr with versions := r.1 })
  let s := (s.rehomeAreas d).each (s.ctxs.map (·.1)) objects
  let s := s.each (s.graphs.map (·.1)) versions
  let s := s.each ((List.range 256).map (256 * d + ·)) fun s k => s.setReg .grnSeg k 0
  ((({ s with pools := s.pools.filter fun (r : PoolRec) => r.die != d } : State).countPools).countGran).countRes []

/-- A field die is lost (R36, R427): it is isolated, the ring runs as a line, and every launch on it is folded, saved or ended. -/
def State.loseDie (s : State) (d : Nat) : State :=
  if s.dieLost d then s else
  let s := (((s.setBitOf F.fltStatusDieLost 0 d true).reslot d).reslot ((d + 7) % 8)).dropDie d
  s.each (keysWhere s.ctxs fun x => x.launch.isSome) fun s c => s.loseDieFor c d

/-! ## Losses of links, wires and memories -/

/-- LINK_REROUTE (R295, R419): the launches that booked the lost link recover. A link of an acre in which another recovery runs is a second
fault, and the die is lost (R36, R37). -/
def execLinkReroute (d : Die) (acre : Option (Fin 8)) (s : State) : Out :=
  let link := (d.val, acre.map (·.val))
  let code := if acre.isSome then 0x0B else 0x0E
  let number := match acre with
    | some a => a.val + 1
    | none => 0
  let con := s.onLink d.val number
  let place := acre.map fun a => (d.val * 8 + a.val, 31)
  .next (if s.lostLinks.contains link then s
    else if acre.isSome && s.acreRecovers (d.val * 8 + (number - 1)) 31 then
      ({ s with lostLinks := s.lostLinks ++ [link] }.logLoss 0x0B 5 true d.val (number - 1) 0 (s.onDie d.val).head? 0).loseDie d.val
    else
    let s := { s with lostLinks := s.lostLinks ++ [link] }
    let s := if acre.isNone then s.reslot d.val else s
    let s := s.logLoss code 3 false d.val (match acre with | some a => a.val | none => 0) 0 con.head? 0
    s.each con fun s c => match s.launch c with
      | some l => s.recoverFrom c l (s.newestComplete c) code ((s.fld F.fltLogHeadNextIndex 0 + 1023) % 1024) place
      | none => s)

/-- WIRE_REPAIR (R295): a spare wire of the group takes the place of the faulty one. When both spares are in use the link is lost, and
LINK_REROUTE follows its report. -/
def execWireRepair (d : Die) (west : Bool) (g : Fin 16) (s : State) : Out :=
  .next (if (s.wires.filter (· == (d.val, west, g.val))).length < 2 then { s with wires := s.wires ++ [(d.val, west, g.val)] }
    else s.reportAt 0x0E d.val 0 31 31 0 0 none)

/-- POISONED_ROW_REWRITE (R426): in the refresh window a stripe row of a KEEP area is rewritten from its other copy: a launch's area from the
one that the segment map names, a module object, whose bytes lie in no memory of this model, from the bytes that the command names. -/
def execPoisonedRowRewrite (d : Die) (row : Nat) (mirror : List Byte) (s : State) : Out :=
  let i := d.val * 256 + row / 262144
  let home := gddrAt d.val (row * 320)
  .next (if s.flag F.gddSegKeep i && decide (row < 2 ^ 26) then s.within 896 1023 fun s => match s.otherCopy i with
    | some j => s.putBack home 320 (s.keep (gddrAt (j / 256) ((j % 256 * 262144 + row % 262144) * 320)) 320)
    | none => s.store home (padTo 320 mirror) false
  else s)

/-- FIELD_DIE_LOSS (R427). -/
def execFieldDieLoss (d : Die) (s : State) : Out :=
  .next (if s.dieLost d.val then s else (s.logLoss 0x14 5 true d.val 0 0 (s.onDie d.val).head? 0).loseDie d.val)

/-- A row of segment moves (R327): each granary segment on a lost port goes to a free physical segment of another port. What a STAGED area
holds is there again: the Badger repeats the copies that filled it (R322). -/
def State.remapPort (s : State) (d p : Nat) : State :=
  s.each ((List.range 256).filter fun k => s.flag F.grnSegValid (d * 256 + k) && s.fld F.grnSegPort (d * 256 + k) == p) fun s k =>
    match s.granFree d [] with
    | [] => s
    | x :: _ =>
      let was := granaryAt d (p * 2 ^ 31 + s.fld F.grnSegPseg (d * 256 + k) * 2 ^ 26)
      let s := s.putBack (granaryAt d (x / 32 * 2 ^ 31 + x % 32 * 2 ^ 26)) (2 ^ 26) (s.keep was (2 ^ 26))
      (s.setFld F.grnSegPort (d * 256 + k) (x / 32)).setFld F.grnSegPseg (d * 256 + k) (x % 32)

/-- GRANARY_DIE_LOSS (R327). A second lost granary die is outside single-fault scope, and the field die is lost (R35, R36). -/
def execGranaryDieLoss (d : Die) (p : Fin 4) (s : State) : Out :=
  let con := s.onPort d.val p.val
  .next (if (s.fld F.grnStatusLost d.val).testBit p.val then s else
    let second := decide (s.fld F.grnStatusLost d.val ≠ 0)
    let s := s.setBitOf F.grnStatusLost d.val p.val true
    if second then (s.logLoss 0x10 5 true d.val 0 p.val (s.onDie d.val).head? 0).loseDie d.val else
    let s := s.logLoss 0x10 1 false d.val 0 p.val con.head? 0
    let s := (s.remapPort d.val p.val).countGran
    s.each con fun s c => match s.launch c with
      | some l =>
        if (s.ctx c).state == .loaded then (s.releaseUnits c).reload c
        else s.recoverFrom c l (s.newestComplete c) 0x10 ((s.fld F.fltLogHeadNextIndex 0 + 1023) % 1024)
      | none => s)

/-- GDDR_DEVICE_LOSS (R336, R337): the first lost device of a die degrades it; with a second the die is lost. -/
def execGddrDeviceLoss (d : Die) (p : Fin 6) (s : State) : Out :=
  .next (if (s.fld F.gddStatusLost d.val).testBit p.val then s
    else if s.fld F.gddStatusLost d.val = 0 then
      ((s.setBitOf F.gddStatusLost d.val p.val true).raise F.gddStatusDegraded d.val).logLoss 0x12 4 false d.val 0 p.val none 0
    else
      let s := s.setBitOf F.gddStatusLost d.val p.val true
      (s.logLoss 0x13 5 true d.val 0 p.val (s.onDie d.val).head? 0).loseDie d.val)

/-! ## The standby Badger (R430–R432) and losses of the module (R429) -/

/-- The standby's copy of module state, as the commit records that have landed make it (R430). -/
def State.standbyCopy (s : State) : Standby where
  ctxs := s.ctxs
  graphs := s.graphs
  streams := s.streams
  chans := s.chans
  regs := s.regs.filter fun e => [Reg.fncValue, .doneWord, .mbxStatus, .fltSpare, .secSession].any fun r => keyCode e.1 == r.code

/-- COMMIT_RECORD (R430): while the standby is ready, it applies the commit record of a channel's message. -/
def execCommitRecord (n : Channel) (s : State) : Out :=
  .next (if s.flag F.hubStatusStandbyReady 0 && s.fld F.mbxStatusLast n.val != 0xFFFFFFFF then { s with standby := s.standbyCopy } else s)

/-- The other barn die becomes active (R432): messages executed and not answered are executed again from the start. -/
def State.takeOver (s : State) : State :=
  let act := s.fld F.hubStatusActiveBarn 0
  let s := { s with barnLost := s.barnLost ++ [act] }
  let s := (s.setFld F.hubStatusActiveBarn 0 (1 - act)).setFld F.hubStatusStandbyReady 0 0
  let s := s.each (keysWhere s.chans fun h => h.waits) fun s n =>
    let again := match (s.chan n).msg with
      | some b => (parseMsg b).seq + 2 ^ 32 - 1
      | none => 0
    (s.setChan n { s.chan n with waits := false }).setFld F.mbxStatusLast n again
  let s := if s.group.any (·.chan.isSome) then ({ s with group := none } : State).setFld F.hubGroupStatusState 0 0 else s
  let s := ({ s with jobs := s.jobs.filter (·.chan.isNone), entWaits := [] } : State).syncEnt
  s.each (keysWhere s.ctxs fun x => x.launch.any fun l => l.drain.isSome && x.state != .paused) fun s c =>
    s.modLaunch c fun l => { l with drain := none, windowOnly := false }

/-- A takeover (R432): logged, the standby takes over, and running launches recover. -/
def State.takeover (s : State) : State :=
  let con := s.runningCtxs
  ((s.logLoss 0x17 6 false 0 0 (s.fld F.hubStatusActiveBarn 0) con.head? 0).takeOver).recoverRunning 0x17

/-- BADGER_TAKEOVER (R432). -/
def execBadgerTakeover (s : State) : Out := .next (if s.flag F.hubStatusStandbyReady 0 then s.takeover else s)

/-- HEARTBEAT_TIMEOUT (R431): the standby takes over, or is retired when its own count is the one that differs. -/
def execHeartbeatTimeout (standbyDiffers : Bool) (s : State) : Out :=
  .next (if !s.flag F.hubStatusStandbyReady 0 then s
    else if standbyDiffers then
      let b := 1 - s.fld F.hubStatusActiveBarn 0
      let s := s.each s.runningCtxs fun s c => s.modLaunch c fun l => if l.stopped.any (·.code == 0x17) then { l with stopped := none } else l
      s.retireStandby.logLoss 0x17 0 false 0 0 b none 0
    else s.takeover)

/-- BARN_BOTH_LOSS (R429): the module stops taking work and answers nothing. -/
def execBarnBothLoss (s : State) : Out :=
  .next ({ s with barnLost := [0, 1] }.setFld F.hubStatusReady 0 0)

/-- PSC_LOSS (R23, R429): one entry; the standby takes over first when the barn die is the active one; contexts on the four dies are
FAULTED, and the other running launches recover from the takeover. -/
def execPscLoss (c : Fin 2) (s : State) : Out :=
  let dies := (List.range 4).map (4 * c.val + ·)
  let hit := keysWhere s.ctxs fun x => x.launch.any fun l => l.dies.any fun y => dies.contains (y % 8) && decide (y < 16)
  let active := decide (s.fld F.hubStatusActiveBarn 0 = c.val)
  let takes := active && s.flag F.hubStatusStandbyReady 0
  .next (if (s.fld F.fltStatusPscLost 0).testBit c.val then s else
    let s := (s.setBitOf F.fltStatusPscLost 0 c.val true).logLoss 0x1A 0xB true 0 0 c.val hit.head? 0
    let s := if takes then s.takeOver
      else if active then { s with barnLost := [0, 1] }.setFld F.hubStatusReady 0 0
      else ({ s with barnLost := s.barnLost ++ [c.val] }.setFld F.hubStatusStandbyReady 0 0).syncEnt
    let s := s.each dies fun s d => s.setBitOf F.fltStatusDieLost 0 d true
    let s := (s.each hit fun s k => s.faultStream k stDegraded).each dies State.dropDie
    if takes then s.recoverRunning 0x17 else s)

end Sys2Proof.Machine
end

