-- ==== Sys2Proof/Machine/Queues.lean ====
section
/-!
DEFINITION. Stream queues (R220–R227), descriptor chains (R232–R235) and owner writes (R216–R219).
-/
namespace Sys2Proof.Machine

/-! ## Stream queues -/

/-- Register index of a queue of a stook. -/
def queueIx (k q : Nat) : Nat := 32 * k + q

/-- State field of queue bank A or B (R236). -/
def queueState (b : Nat) : Fld := if b = 0 then F.stkQueueStatusStateA else F.stkQueueStatusStateB

/-- States of a queue bank (R223, R236). -/
def qFilling : Nat := 0
def qReady : Nat := 1
def qDraining : Nat := 2

/-- Crib address of a word of a queue bank (R220, R221). -/
def State.queueWordAt (s : State) (k q b word : Nat) : Nat :=
  let i := queueIx k q
  if b = 0 then s.fld F.stkQueueCfgBankA i * 2 ^ 19 + s.fld F.stkQueueCfgBlkA i * 4096 + 64 * word
  else s.fld F.stkQueueCfgBankB i * 2 ^ 19 + s.fld F.stkQueueCfgBlkB i * 4096 + 64 * word

/-- Words that a READY or DRAINING bank holds. -/
def State.queueWords (s : State) (k q b : Nat) : Nat := sget 0 (s.stook k).written (2 * q + b)

/-- XOR of the 32 bits of a lane. -/
def parity32 (v : Nat) : Nat := ((List.range 32).map fun k => bits v k 1).sum % 2

/-- PAR of eight data lanes (R221). -/
def queuePar (data : List Byte) : Nat :=
  ((List.range 8).map fun k => parity32 (leNat ((data.drop (4 * k)).take 4)) * 2 ^ k).sum

/-- The 36 bytes of a queue word: data, then the tag word with its parity (R221, R222). -/
def queueSlot (data : List Byte) (endMark : Bool) (lanes : Nat) (poison : Bool) : List Byte :=
  let d := padTo 32 data
  d ++ leBytes 4 ((if poison then 2 ^ 31 else 0) + (if endMark then 2 ^ 30 + lanes % 8 * 2 ^ 27 else 0) + queuePar d)

/-- END of a queue word in memory. -/
def State.queueEnd (s : State) (k addr : Nat) : Bool := bits (s.rdNat (cribAt k (addr + 32)) 4) 30 1 == 1

/-- The filling bank of a queue closed (R223, R224). One without a word is FILLING at once; the producer goes on to the other bank if that
is FILLING. -/
def State.queueClose (s : State) (k q : Nat) : State :=
  let i := queueIx k q
  let b := s.fld F.stkQueueStatusWrBank i
  let n := s.fld F.stkQueueStatusWrIdx i
  if s.fld (queueState b) i ≠ qFilling then s
  else if n = 0 then (if s.fld (queueState (1 - b)) i = qFilling then s.setFld F.stkQueueStatusWrBank i (1 - b) else s) else
  let ends := ((List.range n).filter fun w => s.queueEnd k (s.queueWordAt k q b w)).length
  let x := s.stook k
  let s := s.setStook k { x with
    written := sput 0 x.written (2 * q + b) n, closedAt := sput 0 x.closedAt (2 * q + b) s.now
    rises := (x.rises.filter fun (y : Nat × Nat × Nat) => decide (s.now < y.2.1)) ++ [(q, s.now + 2, ends)] }
  (((s.setFld (queueState b) i qReady).setFld F.stkQueueStatusWrIdx i 0).setFld F.stkQueueStatusWrBank i (1 - b)).setFld
    F.stkQueueStatusPackets i (s.fld F.stkQueueStatusPackets i + ends)

/-- Whether a queue takes a word from its producer. -/
def State.queueTakes (s : State) (k q : Nat) : Bool :=
  s.fld (queueState (s.fld F.stkQueueStatusWrBank (queueIx k q))) (queueIx k q) == qFilling

/-- Whether a queue has a word for its consumer: its next bank is READY, or DRAINING with words left. -/
def State.queueHas (s : State) (k q : Nat) : Bool :=
  let b := s.fld F.stkQueueStatusRdBank (queueIx k q)
  s.fld (queueState b) (queueIx k q) != qFilling && s.queueWords k q b != 0

/-- A word written to a queue that takes one (R223). -/
def State.queuePut (s : State) (k q : Nat) (who : Who) (slot : List Byte) (slotPoison : Bool) : State :=
  let i := queueIx k q
  let b := s.fld F.stkQueueStatusWrBank i
  let n := s.fld F.stkQueueStatusWrIdx i
  let full := padTo 64 slot
  let s := s.bankWrite k (s.queueWordAt k q b n) who (full.map some) slotPoison
  let s := s.setFld F.stkQueueStatusWrIdx i (n + 1)
  if n + 1 = 64 ∨ (s.flag F.stkQueueCfgCloseAtEnd i && bits (leNat (slot.drop 32)) 30 1 == 1) then s.queueClose k q else s

/-- A word read from a queue that has one: the data, its tag word with POISON, and the state after (R222–R224). RD_IDX keeps the count of
a bank whose last word has been read until the bank is FILLING again. -/
def State.queueGet (s : State) (k q : Nat) (who : Who) (ctx : Option Nat) : (List Byte × Nat) × State :=
  let i := queueIx k q
  let b := s.fld F.stkQueueStatusRdBank i
  let n := if s.fld (queueState b) i = qReady then 0 else s.fld F.stkQueueStatusRdIdx i
  let r := s.bankRead k (s.queueWordAt k q b n) 64 who
  let s := r.2
  let data := r.1.1.take 32
  let tag := leNat ((r.1.1.drop 32).take 4)
  let bad := bits tag 0 8 != queuePar data
  let poison := bad || r.1.2 || bits tag 31 1 == 1
  let s := if bad then (s.bump F.stkQueueStatusParErr i 1).report 0x05 k 16 q 0 ctx else s
  let s := if poison then s.raise F.stkQueueStatusPoisonSeen i else s
  let s := if bits tag 30 1 = 1 then s.setFld F.stkQueueStatusPackets i (s.fld F.stkQueueStatusPackets i - 1) else s
  let s := s.setFld (queueState b) i qDraining
  let s := s.setFld F.stkQueueStatusRdIdx i (n + 1)
  let x := s.stook k
  let s := if n + 1 < s.queueWords k q b then s
    else (s.setStook k { x with written := sput 0 x.written (2 * q + b) 0, drained := sput 0 x.drained (2 * q + b) s.now }).setFld
      F.stkQueueStatusRdBank i (1 - b)
  ((data, putBits tag 31 1 (if poison then 1 else 0)), s)

/-- QUEUE_BANK_RELEASE (R223): a bank whose last word has been read returns to FILLING, empty, 2 cycles after that read. -/
def execQueueBankRelease (st : StookId) (q : Fin 32) (b : Fin 2) (s : State) : Out :=
  let i := queueIx st.ix q.val
  .next (if s.fld (queueState b.val) i = qDraining ∧ s.queueWords st.ix q.val b.val = 0 then
      s.fromWall (sget 0 (s.stook st.ix).drained (2 * q.val + b.val) + 2) fun s =>
        let s := s.setFld (queueState b.val) i qFilling
        if s.fld (queueState (1 - b.val)) i = qDraining then s else s.setFld F.stkQueueStatusRdIdx i 0
    else s)

/-- A core that waits goes on. -/
def State.wake (s : State) (n : Nat) : State :=
  (s.setCore n { s.core n with wait := .none }).setFld F.stkCoreStatusState n 1

/-- A stalled consumer goes on: a core's QRD has its word 2 cycles after the bank became READY (R225). -/
def State.resumeRead (s : State) (k q : Nat) : State :=
  let ready := sget 0 (s.stook k).closedAt (2 * q + s.fld F.stkQueueStatusRdBank (queueIx k q))
  (s.setFld F.stkQueueStatusConsStall (queueIx k q) 0).each ((List.range 4).map (4 * k + ·)) fun s n =>
    if (s.core n).wait = .queueRead q then
      let c := ((s.core n).ctx).getD 0
      (s.setCore n { s.core n with wordAt := some (s.logical c + (ready : Int) + 2 - s.now) }).wake n
    else s

/-- QUEUE_CONSUMER_RESUME (R225). -/
def execQueueConsumerResume (st : StookId) (q : Fin 32) (s : State) : Out :=
  .next (if s.flag F.stkQueueStatusConsStall (queueIx st.ix q.val) && s.queueHas st.ix q.val then s.resumeRead st.ix q.val else s)

/-- QUEUE_PRODUCER_RESUME (R225). -/
def execQueueProducerResume (st : StookId) (q : Fin 32) (s : State) : Out :=
  let k := st.ix
  let i := queueIx k q.val
  .next (if s.flag F.stkQueueStatusProdStall i && s.queueTakes k q.val then
      let s := s.setFld F.stkQueueStatusProdStall i 0
      s.each ((List.range 4).map (4 * k + ·)) fun s n => if (s.core n).wait = .queueWrite q.val then s.wake n else s
    else s)

/-! ## Chain entries (R232–R235) -/

/-- The chain entry at a crib address of a stook. -/
def State.entry (s : State) (k addr : Nat) : Entry := parseEntry (s.rdN (cribAt k addr) 64)

/-- The context that an operation described at a crib address acts for: the owner of the bank (R215, R243). -/
def State.actor (s : State) (k addr : Nat) : Option Nat :=
  if s.fld F.stkBankOwnerKind (bankIx k (bankOf addr)) = 1 then some (s.fld F.stkBankOwnerCtx (bankIx k (bankOf addr))) else none

/-- A context as the issuer of bank operations. -/
def asUnit (c : Nat) : Who := .unit (Fin.ofNat 10240 c)

/-- PENDING follows the chain unit. -/
def State.countChain (s : State) (k : Nat) : State := s.setFld F.stkChainStatusPending k (s.stook k).chain.length

/-- CHAIN_ENTRY_ARRIVAL (R233, R234): the entry takes one of the chain unit's 32 places, after its handoff time, or is held while none is
free. A timed entry that comes after its start cycle sets LATE. -/
def execChainEntryArrival (st : StookId) (addr : CribAddr) (s : State) : Out :=
  let k := st.ix
  let a := addr.toNat
  let x := s.entry k a
  .next (match s.actor k a with
  | none => s
  | some c =>
    let due := (s.stook k).offered.find? (·.addr == a)
    if 32 ≤ (s.stook k).chain.length then (if due.isSome then s else s.offer k a (s.logical c))
    else s.fromLogical c (match due with
      | some y => y.arrived
      | none => s.logical c) fun s =>
        let s := (s.setStook k { s.stook k with
          chain := (s.stook k).chain ++ [{ addr := a, arrived := s.logical c }]
          offered := match due with
            | some y => (s.stook k).offered.erase y
            | none => (s.stook k).offered }).countChain k
        if x.timed && decide (x.start < s.logical c) then s.raise F.stkChainStatusLate k else s)

/-- Whether a unit still holds an entry that it hands off to a chain unit whose places are full (R234). -/
def State.holdsEntry (s : State) (k station unit : Nat) : Bool :=
  s.stooks.any fun y => decide (32 ≤ y.2.chain.length) && y.2.offered.any fun z => z.source == some (k, station, unit) &&
    (s.actor y.1 z.addr).any fun c => decide (z.arrived ≤ s.logical c)

/-- Whether the unit that an entry names is free (R202, R234). -/
def State.unitFree (s : State) (k : Nat) (x : Entry) : Bool :=
  (s.stook k).running.all (fun r => !(r.station == x.station && r.unit == x.unit)) &&
    (x.station != 5 || (s.core (4 * k + x.unit % 4)).stream.isNone) && !s.holdsEntry k x.station x.unit

/-- Handoff time from one stook to another (R233), by the stooks' numbers. -/
def handoff (k n : Nat) : Nat := if k = n then 8 else if k / 17 = n / 17 then 24 else if k / 136 = n / 136 then 48 else 96

/-- Whether a fence wait point of a stream holds back an entry placed after it (R363). -/
def State.fenced (s : State) (k addr stream : Nat) : Bool :=
  let before := (s.stream stream).waiting.takeWhile fun w => match w with
    | .chain k' a' _ => !(k' == k && a' == addr)
    | .fence .. => true
  let placed := (s.stream stream).waiting.any fun w => match w with
    | .chain k' a' _ => k' == k && a' == addr
    | .fence .. => false
  placed && before.any fun w => match w with
    | .fence f v => !s.fenceAt f v.toNat
    | .chain .. => false

/-- Entries of a stream's list that wait no longer: fences reached, and an entry that has started (R363). -/
def State.unplace (s : State) (k addr stream : Nat) : State :=
  s.setStream stream { s.stream stream with waiting := (s.stream stream).waiting.filter fun w => match w with
    | .chain k' a' _ => !(k' == k && a' == addr)
    | .fence .. => true }

/-- CHAIN_ENTRY_START (R234, R235): the entry leaves the chain unit and runs on its unit. The clock moves up to the start cycle of a
timed entry. -/
def execChainEntryStart (st : StookId) (addr : CribAddr) (s : State) : Out :=
  let k := st.ix
  let a := addr.toNat
  let x := s.entry k a
  .next (match s.actor k a, (s.stook k).chain.find? (·.addr == a) with
  | some c, some _ =>
    let s' := if x.timed && x.tau == s.tau c then s.upTo x.cycle else s
    let fence := !x.waits || s.fenceAt x.waitFence x.waitValue
    let ended := (s.stream x.stream).ctx == some c && s.streamEnded x.stream
    if s'.movingOn c k && (!x.timed || decide (x.start ≤ s'.logical c)) && fence && !ended && s.unitFree k x && !s.fenced k a x.stream then
      let s := (s'.setStook k { s.stook k with
        chain := (s.stook k).chain.filter (·.addr != a)
        running := (s.stook k).running ++ [{ addr := a, station := x.station, unit := x.unit, poisoned := false, began := s'.logical c }] }).countChain k
      ((s.bump F.stkChainStatusDispatched k 1).unplace k a x.stream).rewatch x.stream
    else s
  | _, _ => s)

/-- The queues whose producer is a station unit close their banks when its operation completes (R223). -/
def State.closeProduced (s : State) (k station unit : Nat) : State :=
  s.each (List.range 32) fun s q =>
    if s.flag F.stkQueueCfgEn (queueIx k q) && s.fld F.stkQueueCfgProd (queueIx k q) == station &&
        s.fld F.stkQueueCfgProdUnit (queueIx k q) == unit then s.queueClose k q else s

/-- Whether a running entry's operation has been carried out: a copy, a kernel and a program say when they are complete; what the other
stations do has no end of its own. -/
def entryEnded (r : Running) : Bool := r.finishes.isSome || !(r.station == 0 || r.station == 2 || r.station == 5)

/-- CHAIN_ENTRY_COMPLETE (R227, R233, R235, R364): once the operation is complete, SIGNAL, DONE and the hand-off of the next entry; the
watchdog restarts. -/
def execChainEntryComplete (st : StookId) (addr : CribAddr) (s : State) : Out :=
  let k := st.ix
  let a := addr.toNat
  let x := s.entry k a
  .next (match (s.stook k).running.find? (·.addr == a), s.actor k a with
  | some r, some c =>
    if !entryEnded r then s else s.fromLogical c (r.finishes.getD (s.logical c)) fun s =>
    let s := s.setStook k { s.stook k with running := (s.stook k).running.filter (·.addr != a) }
    let s := s.closeProduced k x.station x.unit
    let s := if x.signal then s.fence x.signalFence 1 else s
    let status := if r.poisoned then stPoisoned else stOk
    let s := if x.done || r.poisoned then s.done x.stream x.seq status else s
    let s := s.setStream x.stream { s.stream x.stream with seq := x.seq }
    let s := if (s.ctx c).suspect = some (x.stream, x.seq) then s.setCtx c { s.ctx c with suspect := none } else s
    let s := s.rewatch x.stream
    if x.last || r.poisoned then s
    else match (s.launch c).bind fun l => s.stookOf l x.nextStook with
      | some n =>
        (s.offer n x.nextAddr (s.logical c + handoff k n) (some (k, x.station, x.unit))).cartStooks c chCopy 64 k n
      | none => s
  | _, _ => s)

/-- The running entry of a station with a descriptor changed. -/
def State.modRunning (s : State) (k station payload : Nat) (f : Running → Running) : State :=
  s.setStook k { s.stook k with running := (s.stook k).running.map fun r =>
    if r.station = station ∧ (s.entry k r.addr).payload = payload then f r else r }

/-- The running entry of a station with a descriptor. -/
def State.runningOf (s : State) (k station payload : Nat) : Option Running :=
  (s.stook k).running.find? fun r => r.station == station && (s.entry k r.addr).payload == payload

/-- A running entry marked as having met poison, by its unit (R227). -/
def State.taint (s : State) (k station payload : Nat) : State :=
  s.modRunning k station payload fun r => { r with poisoned := true }

/-! ## Owner writes (R216–R219) -/

/-- Slot number of an issuer in the owner frame (R217): logical stook 0–15, and 16 for the Badger. -/
def ownerLimit (slot : Nat) : Nat := if slot = 16 then 16 else 3

/-- The wall tick whose owner frame takes a write issued now (R217). -/
def State.ownerTick (s : State) (a slot : Nat) : Nat :=
  let first := if s.cyc < 960 then s.tick else s.tick + 1
  let used := fun t => ((s.acre a).writes.filter fun w => w.slot == slot && w.tick == t).length
  (((List.range ((s.acre a).writes.length + 1)).map (first + ·)).find? fun t => decide (used t < ownerLimit slot)).getD first

/-- An owner write issued in an acre. -/
def State.issueOwner (s : State) (a slot : Nat) (core : Option CoreId) (stook bank : Nat) (f t : BitVec 16) : State :=
  s.setAcre a { s.acre a with writes := (s.acre a).writes ++ [{
    core := core, stook := stook, bank := bank, fromWord := f, toWord := t, slot := slot, tick := s.ownerTick a slot }] }

/-- Whether a core may issue an owner write: FROM is free or its own context (R216). -/
def State.mayOwn (s : State) (w : OwnerWrite) : Bool := match w.core with
  | none => true
  | some k => w.fromWord == 0 || match (s.core k.ix).ctx with
    | some c => w.fromWord.toNat == 0x4000 + c
    | none => false

/-- An owner write applied (R218), with its result on its way. -/
def State.applyOwner (s : State) (a : Nat) (w : OwnerWrite) : State :=
  let i := bankIx (s.physStook (a / 8) (a % 8) w.stook) w.bank
  let r := if s.mayOwn w then s.handBank i w.fromWord.toNat w.toWord.toNat else (false, s.raise F.stkBankStatusNotOwner i)
  let ok := r.1
  let s := r.2
  s.setAcre a { s.acre a with results := (s.acre a).results ++ [{ core := w.core, ok := ok, tick := s.tick }] }

/-- OWNER_WRITE_APPLY (R217, R218): at cycle 0, the writes of the frame of the tick before, in frame order. -/
def execOwnerWriteApply (a : AcreId) (s : State) : Out :=
  let n := a.ix
  .next (s.within 0 0 fun s =>
    let due := (s.acre n).writes.filter fun w => decide (w.tick < s.tick)
    let s := s.setAcre n { s.acre n with writes := (s.acre n).writes.filter fun w => decide (s.tick ≤ w.tick) }
    (List.range 17).foldl (fun s slot => (due.filter (·.slot == slot)).foldl (fun s w => s.applyOwner n w) s) s)

/-- The result of an owner write as its issuer sees it (R250): VALID and the status code. -/
def ownerResult (ok : Bool) : BitVec 9 := BitVec.ofNat 9 (256 + if ok then stOk else stNotOwner)

/-- OWNER_RESULT_DELIVERY (R218, R250): at cycle 32 the results reach the issuing cores, whose queues hold 4. -/
def execOwnerResultDelivery (a : AcreId) (s : State) : Out :=
  let n := a.ix
  .next (s.within 32 1023 fun s =>
    let due := (s.acre n).results
    let s := s.setAcre n { s.acre n with results := [] }
    due.foldl (fun s r => match r.core with
      | some k => s.setCore k.ix { s.core k.ix with
          results := ((s.core k.ix).results ++ [ownerResult r.ok]).take 4, owed := (s.core k.ix).owed - 1 }
      | none => s) s)

end Sys2Proof.Machine
end

