-- ==== Sys2Proof/Machine/Copy.lean ====
section
/-!
DEFINITION. The COPY station (R228–R231): descriptors, the five memories and the queues as its ends, and the way a copy goes on
after a queue stall.
-/
namespace Sys2Proof.Machine

/-! ## Addresses (R229, R326, R330) -/

/-- Flat address of a granary byte of a launch; none where no segment is mapped (R326). -/
def State.granaryByte (s : State) (l : Launch) (addr : Nat) : Option Nat :=
  (l.dieOf (l.first + addr / 2 ^ 33)).bind fun d =>
    let i := d % 8 * 256 + 128 * l.slotOf (l.first + addr / 2 ^ 33) + addr / 2 ^ 26 % 128
    if s.flag F.grnSegValid i then some (granaryAt (d % 8) (s.fld F.grnSegPort i * 2 ^ 31 + s.fld F.grnSegPseg i * 2 ^ 26 + addr % 2 ^ 26))
    else none

/-- Members of a stripe row that need rebuilding: stale ones and those of LOST devices (R331). -/
def State.flaggedMembers (s : State) (d row : Nat) : List Nat :=
  (List.range 6).filter fun p => (s.fld F.gddStatusLost d).testBit p || s.stale.contains (d, p, row)

/-- A stripe row is delivered poisoned for want of members (R331). -/
def State.rowBad (s : State) (d row : Nat) : Bool := decide (2 ≤ (s.flaggedMembers d row).length)

/-- What a read of a stripe row counts, on the controllers of the members that need rebuilding, and reports (R331, R344). -/
def State.rowRead (s : State) (d row : Nat) : State :=
  match s.flaggedMembers d row with
  | [] => s
  | [p] => s.bump F.gddErrRebuilt (6 * d + p) 1
  | p :: rest => (s.each (p :: rest) fun s q => s.bump F.gddErrPoisoned (6 * d + q) 1).reportAt 0x11 d 0 31 31 p row none

/-- Die and stripe row of a flat GDDR 7 address. -/
def gddrRow (flat : Nat) : Nat × Nat := ((flat - Space.gddr.base) / 2 ^ 35, (flat - Space.gddr.base) % 2 ^ 35 / 320)

/-- The memory spaces of a COPY (R228). -/
def spCrib : Nat := 0
def spSheaf : Nat := 1
def spGranary : Nat := 2
def spGddr : Nat := 3
def spStaging : Nat := 4
def spQueue : Nat := 5

/-- The engine that a sheaf store address of a launch names, while it does not anneal (R16, R230). -/
def State.copyEngine (s : State) (c : Nat) (l : Launch) (addr : Nat) : Option Nat :=
  (s.stookOf l (addr / 2 ^ 23)).bind fun k =>
    let e := 8 * k + addr / 2 ^ 20 % 8
    if (s.engine e).ctx = some c ∧ s.fld F.shfCtrlRun e = 0 then some e else none

/-- Flat address of a byte outside the cribs. -/
def State.copyByte (s : State) (c : Nat) (l : Launch) (space addr : Nat) : Option Nat :=
  if space = spSheaf then (s.copyEngine c l addr).map fun e => sheafAt e (addr % 2 ^ 20)
  else if space = spGranary then s.granaryByte l addr
  else if space = spGddr then s.gddrByte c l addr 0
  else if space = spStaging then (if addr < 48 * 2 ^ 20 then some (stagingAt addr) else none)
  else none

/-- One 8-byte slot read by a COPY, with its poison. -/
def State.slotRead (s : State) (c : Nat) (l : Launch) (space addr : Nat) : Option ((List Byte × Bool) × State) :=
  if space = spCrib then (s.stookOf l (addr / 2 ^ 23)).map fun k => s.bankRead k (addr % 2 ^ 23) 8 (asUnit c)
  else (s.copyByte c l space addr).map fun a =>
    let row := gddrRow a
    let bad := space == spGddr && s.rowBad row.1 row.2
    let s' := if space = spGddr ∧ (a - Space.gddr.base) % 2 ^ 35 % 320 < 8 then s.rowRead row.1 row.2 else s
    ((s.rdN a 8, s.poisoned a 8 || bad), s')

/-- One 8-byte slot written by a COPY; a KEEP area also in its mirror (R321, R335). -/
def State.slotWrite (s : State) (c : Nat) (l : Launch) (space addr : Nat) (v : List Byte) (p : Bool) : Option State :=
  if space = spCrib then (s.stookOf l (addr / 2 ^ 23)).map fun k => s.bankWrite k (addr % 2 ^ 23) (asUnit c) (v.map some) p
  else (s.copyByte c l space addr).map fun a =>
    let s' := s.store a v p
    match (if space = spGddr then s.gddrByte c l addr 1 else none) with
    | some m => s'.store m v p
    | none => s'

/-! ## Descriptors (R228) -/

/-- A COPY descriptor taken apart. -/
structure CopyDesc where
  src : Nat
  dst : Nat
  rows : Nat
  bytes : Nat
  srcAt : Nat
  dstAt : Nat
  srcStride : Nat
  dstStride : Nat
  deriving DecidableEq, Repr

def parseCopy (b : List Byte) : CopyDesc :=
  let w := bytesAt b 0 4
  { src := bits w 28 4, dst := bits w 24 4, rows := bits w 0 16, bytes := bytesAt b 4 4 % 2 ^ 24, srcAt := bytesAt b 8 8,
    dstAt := bytesAt b 16 8, srcStride := bytesAt b 24 4, dstStride := bytesAt b 28 4 }

/-- A span that a COPY covers in a memory. -/
def spanOf (first stride rows bytes : Nat) : Nat × Nat := (first, first + stride * (rows - 1) + bytes)

/-- Whether a descriptor has its form: known spaces, multiples of 32, and ends that do not overlap (R228, R230). -/
def CopyDesc.formed (d : CopyDesc) : Bool :=
  let a := spanOf d.srcAt d.srcStride d.rows d.bytes
  let b := spanOf d.dstAt d.dstStride d.rows d.bytes
  decide (d.src ≤ 5) && decide (d.dst ≤ 5) && d.rows != 0 && decide (32 ≤ d.bytes) && d.bytes % 32 == 0 &&
  (d.src == spQueue || d.srcAt % 32 == 0) && (d.dst == spQueue || d.dstAt % 32 == 0) && d.srcStride % 32 == 0 && d.dstStride % 32 == 0 &&
  !(d.src == d.dst && d.src != spQueue && decide (a.1 < b.2) && decide (b.1 < a.2))

/-- Whether poison on its way into a space ends the stream: a STORE (R227). -/
def storeSpace (space : Nat) : Bool := space == spGranary || space == spGddr || space == spStaging

/-! ## Memory to memory -/

/-- `n` 8-byte slots copied; answers whether a poisoned slot was stored. -/
def State.copySlots (s : State) (c : Nat) (l : Launch) (d : CopyDesc) (a b : Nat) : Nat → Bool → Option (State × Bool)
  | 0, p => some (s, p)
  | n + 1, p => (s.slotRead c l d.src a).bind fun r => (r.2.slotWrite c l d.dst b r.1.1 r.1.2).bind fun s =>
      s.copySlots c l d (a + 8) (b + 8) n (p || r.1.2)

/-- Rows copied, memory to memory. -/
def State.copyRows (s : State) (c : Nat) (l : Launch) (d : CopyDesc) (k : Nat) : Nat → Bool → Option (State × Bool)
  | 0, p => some (s, p)
  | n + 1, p => (s.copySlots c l d (d.srcAt + k * d.srcStride) (d.dstAt + k * d.dstStride) (d.bytes / 8) p).bind fun r =>
      r.1.copyRows c l d (k + 1) n r.2

/-! ## Through queues -/

/-- Where a copy through a queue stands: the state, the row or tile and the byte in it, poison met, and whether it stalled. -/
structure Moving where
  st : State
  row : Nat
  off : Nat
  poison : Bool
  stalled : Bool

/-- A 32-byte word read from memory, with its poison. -/
def State.wordRead (s : State) (c : Nat) (l : Launch) (space addr : Nat) : Option ((List Byte × Bool) × State) :=
  (List.range 4).foldl (fun o k => o.bind fun r => (r.2.slotRead c l space (addr + 8 * k)).map fun q =>
    ((r.1.1 ++ q.1.1, r.1.2 || q.1.2), q.2)) (some (([], false), s))

/-- A 32-byte word written to memory. -/
def State.wordWrite (s : State) (c : Nat) (l : Launch) (space addr : Nat) (v : List Byte) (p : Bool) : Option State :=
  (List.range 4).foldl (fun o k => o.bind fun s => s.slotWrite c l space (addr + 8 * k) ((v.drop (8 * k)).take 8) p) (some s)

/-- The stook and queue of a queue address (R229). -/
def State.queueOf (s : State) (l : Launch) (addr : Nat) : Option (Nat × Nat) := (s.stookOf l (addr / 2 ^ 23)).map fun k => (k, addr % 32)

/-- One word of a copy through a queue. None where an address names nothing, or a tile is longer than a row (R230). The END words that a
copy writes have LANES 0, from a queue as well (DESIGN CHOICE, log 138). -/
def State.moveWord (s : State) (c : Nat) (l : Launch) (d : CopyDesc) (m : Moving) : Option Moving :=
  let who := asUnit c
  let got : Option (Option ((List Byte × Bool × Bool) × State)) :=
    if d.src = spQueue then (s.queueOf l d.srcAt).map fun q =>
      if s.queueHas q.1 q.2 then
        let r := s.queueGet q.1 q.2 who (some c)
        some ((r.1.1, bits r.1.2 31 1 == 1, bits r.1.2 30 1 == 1), r.2)
      else none
    else (s.wordRead c l d.src (d.srcAt + m.row * d.srcStride + m.off)).map fun r =>
      some ((r.1.1, r.1.2, m.off + 32 == d.bytes), r.2)
  got.bind fun g => match g with
  | none => (s.queueOf l d.srcAt).map fun q => { m with st := s.raise F.stkQueueStatusConsStall (queueIx q.1 q.2), stalled := true }
  | some (w, s') =>
    if d.bytes ≤ m.off then none else
    let next := fun (s : State) => ({ st := s, row := if w.2.2 then m.row + 1 else m.row, off := if w.2.2 then 0 else m.off + 32
                                      poison := m.poison || w.2.1, stalled := false } : Moving)
    if d.dst = spQueue then (s.queueOf l d.dstAt).map fun q =>
      if s.queueTakes q.1 q.2 then next (s'.queuePut q.1 q.2 who (queueSlot w.1 w.2.2 0 w.2.1) false)
      else { m with st := s.raise F.stkQueueStatusProdStall (queueIx q.1 q.2), stalled := true }
    else (s'.wordWrite c l d.dst (d.dstAt + m.row * d.dstStride + m.off) w.1 w.2.1).map next

/-- Words moved until the copy is complete or stalls. -/
def CopyDesc.move (d : CopyDesc) (c : Nat) (l : Launch) : Nat → Moving → Option Moving
  | 0, m => some m
  | n + 1, m => if m.stalled || m.row == d.rows then some m else (m.st.moveWord c l d m).bind fun m => d.move c l n m

/-! ## Routes (R231) -/

/-- The stook at a crib, sheaf store or queue end of a copy. -/
def State.endStook (s : State) (l : Launch) (space addr : Nat) : Option Nat :=
  if space = spCrib ∨ space = spSheaf ∨ space = spQueue then s.stookOf l (addr / 2 ^ 23) else none

/-- The die at a granary or GDDR 7 end of a copy. -/
def endDie (l : Launch) (space addr : Nat) : Option Nat :=
  (l.dieOf (l.first + (if space = spGranary then addr / 2 ^ 33 else addr / 2 ^ 35))).map (· % 8)

/-- L and W of the route between a stook's end and another end; none where R231 lists no such route. -/
def State.routeFrom (s : State) (l : Launch) (k space addr : Nat) : Option (Nat × Nat) :=
  if space = spStaging then some (400, 64)
  else if space = spGranary then (if endDie l space addr = some (k / 136 % 8) then some (64, 512) else none)
  else if space = spGddr then (if endDie l space addr = some (k / 136 % 8) then some (160, 128) else none)
  else (s.endStook l space addr).map fun n =>
    if k = n then (8, 512) else if k / 17 = n / 17 then (24, 256) else if k / 136 = n / 136 then (48, 256) else (96, 128)

/-- Cycles that a copy takes (R231); none where no route is listed (log 139). -/
def State.copyTime (s : State) (l : Launch) (d : CopyDesc) : Option Nat :=
  (match s.endStook l d.src d.srcAt, s.endStook l d.dst d.dstAt with
  | some k, _ => s.routeFrom l k d.dst d.dstAt
  | none, some k => s.routeFrom l k d.src d.srcAt
  | none, none => none).map fun (r : Nat × Nat) => r.1 + ceilDiv (d.rows * d.bytes) r.2

/-- Leave that a copy asks (R39, R451): none for one within the cribs or with the staging window. -/
def CopyDesc.leave (d : CopyDesc) : Nat :=
  let with_ := fun sp => d.src == sp && (d.dst == spCrib || d.dst == spQueue) || d.dst == sp && (d.src == spCrib || d.src == spQueue)
  if with_ spGranary then 17 else if with_ spGddr then 8 else 0

/-- The place on the cartway of an end of a copy. -/
def State.endSpot (s : State) (l : Launch) (space addr : Nat) : Option Spot :=
  if space = spGranary then (endDie l space addr).map Spot.granary
  else if space = spGddr then (endDie l space addr).map Spot.north
  else if space = spStaging then some (.south 0)
  else (s.endStook l space addr).map stookSpot

/-- The rows of a copy on the cartway (R288, R297). -/
def State.cartRows (s : State) (c : Nat) (l : Launch) (d : CopyDesc) : State :=
  match s.endSpot l d.src d.srcAt, s.endSpot l d.dst d.dstAt with
  | some a, some b => if a = b then s else s.cart (some c) chCopy (ceilDiv (d.rows * d.bytes) 512) a b
  | _, _ => s

/-! ## Host data (R203) -/

/-- The bytes that a copy takes from the staging window, row by row. -/
def State.stagedRows (s : State) (d : CopyDesc) : List Byte :=
  (List.range d.rows).flatMap fun r => s.rdN (stagingAt (d.srcAt + r * d.srcStride)) d.bytes

/-- Bytes put into the rows of the staging window that a copy takes. -/
def State.putRows (s : State) (d : CopyDesc) (v : List Byte) : State :=
  (List.range d.rows).foldl (fun s r => s.wrN (stagingAt (d.srcAt + r * d.srcStride)) ((v.drop (r * d.bytes)).take d.bytes)) s

/-- An INPUT record of a logical cycle. -/
def inputAt (tau : Int) (cyc : Nat) (r : JRec) : Option (List Byte) := match r.body with
  | .staged v => if r.tau = tau ∧ r.cycle = cyc then some v else none
  | _ => none

/-- What a copy from the staging window is given again in place of the window's bytes: the record of the journal that a replay follows, or
of the launch's own journal where it repeats logical time after a restore (R276, R285). -/
def State.givenRows (s : State) (c : Nat) (l : Launch) : Option (List Byte) :=
  match l.replay with
  | some r => r.records.findSome? (inputAt l.tau s.cyc)
  | none => if l.repeats s.cyc then (s.ctx c).journal.findSome? (inputAt l.tau s.cyc) else none

/-- A copy of host data: the data are an input, and are journalled (R203, R281), or given again. -/
def State.withHostData (s : State) (c : Nat) (l : Launch) (d : CopyDesc) (f : State → State) : State :=
  if d.src ≠ spStaging then f s else
  match s.givenRows c l with
  | some v =>
    let s' := if l.replay.isSome then s.journal c (.staged v) l.tau s.cyc else s
    (f (s'.putRows d v)).putRows d (s.stagedRows d)
  | none => f (s.journal c (.staged (s.stagedRows d)) l.tau s.cyc)

/-! ## COPY -/

/-- The running COPY with a descriptor goes on record: where it stands, that it has stored poison, and when it is complete (R227, R231). A
booked copy into a queue that no chain entry runs closes the producer's bank itself (R223). -/
def State.copied (s : State) (k c a : Nat) (l : Launch) (d : CopyDesc) (at_ : Nat × Nat) (poison : Bool) : State :=
  let s := if poison && storeSpace d.dst then s.taint k 0 a else s
  let time := (s.copyTime l d).getD 0
  let s := s.modRunning k 0 a fun r => { r with
    at_ := at_, finishes := if at_.1 = d.rows then some (max (s.logical c) (r.begun.getD (s.logical c) + time)) else none }
  match (if d.dst = spQueue ∧ at_.1 = d.rows ∧ (s.runningOf k 0 a).isNone then s.queueOf l d.dstAt else none) with
  | some q => s.queueClose q.1 q.2
  | none => s

/-- A copy carried out from where it stands. None where its descriptor names memory that the launch does not have. -/
def State.copyOn (s : State) (k c a : Nat) (l : Launch) (d : CopyDesc) : Option State :=
  if d.src ≠ spQueue ∧ d.dst ≠ spQueue then
    (s.copyRows c l d 0 d.rows false).map fun r => r.1.copied k c a l d (d.rows, 0) r.2
  else
    let p := match s.runningOf k 0 a with
      | some r => r.at_
      | none => (0, 0)
    (d.move c l (d.rows * (d.bytes / 32 + 1)) { st := s, row := p.1, off := p.2, poison := false, stalled := false }).map fun m =>
      m.st.copied k c a l d (m.row, m.off) m.poison

/-! ## Link checks of GDDR 7 writes (R332, R344) -/

/-- A write's link check fails for a member of a stripe row: counted, and the member stands in the die's stale table until the refresh window. A
table of 64 entries takes no more; the loss of the device that follows is a command of its own (R336). Members of LOST devices are not
written. -/
def State.linkFails (s : State) (d p row : Nat) : State :=
  if (s.fld F.gddStatusLost d).testBit p then s else
  let s := s.bump F.gddErrLinkErr (6 * d + p) 1
  let used := (s.stale.filter (·.1 == d)).length
  if s.stale.contains (d, p, row) ∨ 64 ≤ used then s
  else ({ s with stale := s.stale ++ [(d, p, row)] } : State).setFld F.gddStatusStaleUsed d (used + 1)

/-- Address of the destination of a copy's 8-byte slot. -/
def CopyDesc.slotAt (d : CopyDesc) (j : Nat) : Nat := d.dstAt + j / (d.bytes / 8) * d.dstStride + 8 * (j % (d.bytes / 8))

/-- A link check that fails in the rows that a copy has written, in the home or the mirror copy: the number `x` names it. -/
def State.checkLink (s : State) (c : Nat) (l : Launch) (d : CopyDesc) (rows x : Nat) : State :=
  match s.gddrByte c l (d.slotAt (x / 12 % (rows * (d.bytes / 8)))) (x / 6 % 2) with
  | some a => s.linkFails (gddrRow a).1 (x % 6) (gddrRow a).2
  | none => s

/-- Link checks that fail, named by free values (log 65). -/
def State.linkChecks (s : State) (c : Nat) (l : Launch) (d : CopyDesc) (rows : Nat) : Nat → State
  | 0 => s
  | n + 1 => (s.draw.2.checkLink c l d rows s.draw.1).linkChecks c l d rows n

/-- Whole rows that a copy has written. -/
def State.rowsWritten (s : State) (k a : Nat) (d : CopyDesc) : Nat :=
  if d.src = spQueue then ((s.runningOf k 0 a).map (·.at_.1)).getD 0 else d.rows

/-- The link checks of what a copy has written to GDDR 7. -/
def State.writeChecks (s : State) (k c a : Nat) (l : Launch) (d : CopyDesc) : State :=
  if d.dst = spGddr ∧ s.rowsWritten k a d ≠ 0 then s.draw.2.linkChecks c l d (s.rowsWritten k a d) (s.draw.1 % 65) else s

/-- The granary die of a copy, where one of its ports is lost (R327). -/
def State.lostPortDie (s : State) (l : Launch) (d : CopyDesc) : Option Nat :=
  ((if d.src = spGranary then endDie l d.src d.srcAt else none) <|> (if d.dst = spGranary then endDie l d.dst d.dstAt else none)).filter fun die =>
    s.fld F.grnStatusLost die != 0

/-- Granary transfers that the launches on a die have booked in the present cycle (R324). -/
def State.granBooked (s : State) (die : Nat) : Nat :=
  (s.ctxs.map fun x => match x.2.launch with
    | some l => (l.sched.granBooks.filter fun b => b.2.2 == s.cyc && (l.dieOf b.1).map (· % 8) == some die).length
    | none => 0).sum

/-- A launch whose booked transfer finds its port full after the loss of a granary die holds there for one wall tick (R327). Which port a
moved row falls to depends on its row, so where more than 32 transfers are booked in the cycle a free value says whether the port is full. -/
def State.portHold (s : State) (c : Nat) (l : Launch) (d : CopyDesc) : State :=
  match s.lostPortDie l d with
  | some die => if 32 < s.granBooked die then
      (if s.draw.1 % 2 = 1 then s.draw.2.modLaunch c (·.hold .port s.cyc) else s.draw.2) else s
  | none => s

/-- Whether every stripe row that a copy writes is written whole (R332, R333). -/
def CopyDesc.wholeRows (d : CopyDesc) : Bool :=
  d.dstAt % 2 ^ 35 % 320 == 0 && ((d.dstStride == d.bytes && d.rows * d.bytes % 320 == 0) || (d.bytes % 320 == 0 && d.dstStride % 320 == 0))

/-- The GDDR 7 stream slots that a copy takes: two where it writes part of a stripe row (R333). -/
def CopyDesc.streams (d : CopyDesc) (l : Launch) : Option (Nat × Nat) :=
  if d.dst = spGddr then (endDie l d.dst d.dstAt).map fun x => (x, if d.wholeRows then 1 else 2)
  else if d.src = spGddr then (endDie l d.src d.srcAt).map fun x => (x, 1)
  else none

/-- A copy begins: it takes its GDDR 7 stream slots, and its rows go on the cartway. -/
def State.copyBegin (s : State) (k c a : Nat) (l : Launch) (d : CopyDesc) : State :=
  (s.modRunning k 0 a fun r => { r with begun := some (s.logical c), streams := d.streams l }).cartRows c l d

/-- COPY (R227–R231, R332). A copy through a queue goes on from where it stalled. One whose descriptor is malformed, whose ends overlap, or
that names memory its launch does not have, is an error of the compiler's making, whose result is open (R10, R11). -/
def execCopy (st : StookId) (desc : CribAddr) (s : State) : Out :=
  let k := st.ix
  let a := desc.toNat
  let d := parseCopy (s.rdN (cribAt k a) 32)
  .next (match s.actor k a with
  | none => s
  | some c => match s.launch c with
    | none => s
    | some l =>
      let run := fun (s : State) => s.withHostData c l d fun s => ((s.copyOn k c a l d).map fun s => s.writeChecks k c a l d).getD
        ((s.anything c).modRunning k 0 a fun r => { r with finishes := some (s.logical c) })
      let r := s.runningOf k 0 a
      if !s.movingOn c k || r.any (·.finishes.isSome) then s
      else if !d.formed then (s.anything c).modRunning k 0 a fun r => { r with finishes := some (s.logical c) }
      else if r.any (·.begun.isSome) then run s
      else if d.leave = 0 then (run (s.copyBegin k c a l d)).portHold c l d
      else s.withLeave c (k / 17) (s.unitOf k (9 + (match r with
          | some r => r.unit % 4
          | none => 0))) d.leave ((s.copyTime l d).getD 1) fun s => (run (s.copyBegin k c a l d)).portHold c l d)

end Sys2Proof.Machine
end

