-- ==== Sys2Proof/Machine/Entropy.lean ====
section
/-!
DEFINITION. The entropy sources and their expanders (R468–R480): start-up, health test failures, seeds, reseeding, blocks, field-noise
keys, the software port and factory test access.
-/
namespace Sys2Proof.Machine

/-! ## Sources and their registers -/

def State.setSource (s : State) (b : Nat) (v : Source) : State := ({ s with sources := sput {} s.sources b v }).syncEnt

/-- Reseed interval in blocks (R474). -/
def State.reseedAt (s : State) : Nat := 2 ^ (max 12 (min 20 (s.fld F.entCtrlReseedExp 0)))

/-- READY, STRETCHED or STARVED, as the blocks and the pool make it (R474). -/
def State.supply (s : State) (x : Source) : Source :=
  if x.state = 3 ∨ x.state = 4 ∨ x.state = 5 then
    { x with state := if !x.pool.isEmpty then 3 else if 2 ^ 20 ≤ x.blocks then 5 else if s.reseedAt ≤ x.blocks then 4 else 3 }
  else x

/-- Every acre discards a key that it has not committed (R477). -/
def State.dropKeys (s : State) : State := s.each (List.range 64) fun s a => s.setAcre a { s.acre a with keyWire := none }

/-- One block of a source's expander (R473): none where it gives no output or has given 512 in this tick. -/
def State.block (s : State) (b : Nat) : Option (BitVec 128 × State) :=
  let x := s.source b
  match x.drbg with
  | none => none
  | some d =>
    if !(x.state == 3 || x.state == 4) || decide (512 ≤ x.inTick) then none else
    let r := Config.drbgNext d
    let y := s.supply { x with drbg := some r.2, blocks := min (x.blocks + 1) (2 ^ 20), output := x.output + 1, inTick := x.inTick + 1 }
    let s := s.setSource b y
    some (r.1, if y.state = 5 ∧ b = s.activeBarn then s.dropKeys else s)

/-- `n` blocks, or as many as the expander gives: their bytes and how many are still needed. -/
def State.blocks (s : State) : Nat → List Byte → (List Byte × Nat) × State
  | 0, l => ((l, 0), s)
  | n + 1, l => match s.block s.activeBarn with
    | none => ((l, n + 1), s)
    | some (v, s) => s.blocks n (l ++ leBytes 16 v.toNat)

/-! ## Field-noise keys (R477) -/

/-- Whether a launch in field noise runs in the next wall tick, for all that is known. -/
def State.wantsKeys (s : State) (c : Nat) : Bool :=
  match s.launch c with
  | some l => l.sched.fieldNoise && ((s.ctx c).state == .running || (s.ctx c).state == .held ||
      ((s.ctx c).state == .loaded && decide (l.t0 ≤ s.tick + 1)))
  | none => false

/-- Acres that carry a unit of a launch in field noise: an engine, a generator or the root of replica exchange. -/
def State.keyAcres (s : State) : List Nat :=
  let unit := fun (c : Option Nat) => c.any s.wantsKeys
  (List.range 64).filter fun a =>
    (s.engines.any fun e => e.1 / 136 == a && unit e.2.ctx) || (s.gens.any fun g => g.1 / 17 == a && unit g.2.ctx) ||
    s.ctxs.any fun x => s.wantsKeys x.1 && x.2.launch.any fun l => l.root == some a

/-- The keys for the next wall tick drawn and delivered: once per wall tick, no later than cycle 871 (R473); `late` cycles from now, after a
reseed (R474). -/
def State.drawKeys (s : State) (late : Nat := 0) : State :=
  if s.keysServed && decide (s.cyc + late ≤ 871) && decide (s.keysFor < s.tick + 1) then
    let s := { s with keysFor := s.tick + 1 }
    s.each s.keyAcres fun s a => match s.block s.activeBarn with
      | some (k, s) => s.setAcre a { s.acre a with keyWire := some k }
      | none => s
  else s

/-- FIELD_NOISE_KEY_COMMIT (R477): at cycle 1,008 the acre commits its delivered key for the next wall tick. -/
def execFieldNoiseKeyCommit (a : AcreId) (s : State) : Out :=
  .next (s.within 1008 1023 fun s => match (s.acre a.ix).keyWire with
    | some k => s.setAcre a.ix { s.acre a.ix with keyNext := some k, keyWire := none }
    | none => s)

/-! ## ENT_READ (R479) -/

/-- What a source that serves no one answers to a software read (R475). -/
def State.entStatus (s : State) : Option Nat :=
  let x := s.source s.activeBarn
  match x.state with
  | 1 => some (if x.restarts = 0 then stEntNotReady else stEntFailed)
  | 2 => some (if x.restarts = 0 then stEntNotReady else stEntFailed)
  | 6 => some stEntFailed
  | 7 => some stEntNotReady
  | _ => none

/-- ENT_READ messages that wait, served in order as far as blocks come. -/
def State.serveReads (s : State) : State :=
  s.entWaits.foldl (fun s w =>
    if s.entWaits.head? ≠ some w then s else
    let r := s.blocks w.2.1 w.2.2
    let s := r.2
    if r.1.2 = 0 then
      let n := match (s.chan w.1).msg with
        | some b => (parseMsg b).p 0 1
        | none => 0
      ({ s with entWaits := s.entWaits.drop 1 }).endWait w.1 { status := stOk, payload := r.1.1.take n }
    else { s with entWaits := (w.1, r.1.2, r.1.1) :: s.entWaits.drop 1 }) s

/-- ENT_READ. BYTES is 8–224, a multiple of 8. -/
def State.entRead (s : State) (n : Nat) (m : Msg) : Done :=
  match s.entStatus with
  | some st => .answer { status := st } s
  | none =>
    let need := ceilDiv (m.p 0 1) 16
    if s.entWaits.isEmpty then
      let r := s.blocks need []
      if r.1.2 = 0 then .answer { status := stOk, payload := r.1.1.take (m.p 0 1) } r.2
      else .wait { r.2 with entWaits := [(n, r.1.2, r.1.1)] }
    else .wait { s with entWaits := s.entWaits ++ [(n, need, [])] }

def execEntRead (n : Channel) (s : State) : Out := .next (s.message (s.chan n.val) n.val 0x15 fun m s => s.entRead n.val m)

/-- A gleaner ENT (R252, R479): status and value. -/
def State.entPort (s : State) : (Nat × Word) × State :=
  match s.entStatus with
  | some st => ((st, 0), s)
  | none =>
    if 32 ≤ s.entAsked then ((stBusy, 0), s)
    else
      let s := { s with entAsked := s.entAsked + 1 }
      match s.block s.activeBarn with
      | some (v, s) => ((stOk, v.setWidth 64), s)
      | none => ((stBusy, 0), s)

/-! ## The source's own steps -/

/-- ENT_READ messages that wait when a failure occurs (R475). -/
def State.failReads (s : State) : State :=
  s.entWaits.foldl (fun s w => s.endWait w.1 { status := stEntFailed }) { s with entWaits := [] }

/-- A seed from samples that no command carries: the conditioned digest of a value that the manual leaves open (R470). -/
def State.anySeed (s : State) : BitVec 384 × State :=
  let d := s.draw
  (Config.sha384 (leBytes 128 d.1), d.2)

/-- The end of a start-up (R471): the expander instantiated with the first seed, the second one in the pool. -/
def State.instantiate (s : State) (b : Nat) (x : Source) : State := match x.pool with
  | first :: rest =>
    let person := leBytes 8 (s.reg .hubIdent 0).toNat ++ [BitVec.ofNat 8 b]
    let s := s.setSource b { x with state := 3, pool := rest, drbg := some (Config.drbgInit first person), blocks := 0 }
    if b = s.activeBarn then (s.drawKeys).serveReads else s
  | [] => s

/-- ENTROPY_STARTUP (R471, R473): the rest of a start-up at once, with seeds of samples that no command carries (log 48). -/
def State.entStart (s : State) (b : Nat) : State :=
  let x := s.source b
  if x.state = 1 ∨ x.state = 2 then
    let had := if x.state = 1 then [] else x.pool
    let a := s.anySeed
    let c := a.2.anySeed
    c.2.instantiate b { x with pool := (had ++ [a.1, c.1]).take 2 }
  else s

def execEntropyStartup (b : Barn) (s : State) : Out := .next (s.entStart b.val)

/-- HEALTH_TEST_FAILURE (R472, R475, R480). A failure while samples are injected is only counted. -/
def State.healthFail (s : State) (b : Nat) (rct : Bool) : State :=
  let x := s.source b
  let x := { x with rctFails := x.rctFails + (if rct then 1 else 0), aptFails := x.aptFails + (if rct then 0 else 1) }
  if x.state = 0 ∨ x.state = 6 ∨ x.state = 7 then s.setSource b x
  else
    let x := { x with drbg := none, pool := [], lastRct := rct, lastApt := !rct }
    let s := s.setSource b (if x.restarts = 3 then { x with state := 6 } else { x with state := 1, restarts := x.restarts + 1 })
    if b = s.activeBarn then (s.dropKeys).failReads else s

def execHealthTestFailure (b : Barn) (rct : Bool) (s : State) : Out := .next (s.healthFail b.val rct)

/-- The repetition count over a window (R469): the run that stands at its end, the longest run, and how often a run reached 41 samples. -/
def runsOf (run : Bool × Nat) (v : BitVec 1024) : (Bool × Nat) × Nat × Nat :=
  (List.range 1024).foldl (fun r i =>
    let n := if v.getLsbD i == r.1.1 then r.1.2 + 1 else 1
    ((v.getLsbD i, n), max r.2.1 n, if n = 41 then r.2.2 + 1 else r.2.2)) (run, 0, 0)

/-- How often the first sample's value occurs in a window (R469). -/
def firstCount (v : BitVec 1024) : Nat := ((List.range 1024).filter fun i => v.getLsbD i == v.getLsbD 0).length

/-- Raw samples copied into the ring (R480). -/
def State.rawCopy (s : State) (v : BitVec 1024) : State :=
  let s' := s.each (List.range 32) fun s k =>
    s.setReg .entRaw ((s.rawNext + k) % 1024) (BitVec.ofNat 64 (bits v.toNat (32 * k) 32))
  { s' with rawNext := (s.rawNext + 32) % 1024 }

/-- The samples that the tests see (R480): with INJECT the 64-bit pattern, from bit 0 upward and repeated. -/
def State.samples (s : State) (x : Source) (v : BitVec 1024) : BitVec 1024 :=
  if x.state = 7 ∧ s.flag F.entTestInject 0 then BitVec.ofNat 1024 (((List.range 16).map fun k => (s.reg .entPattern 0).toNat * 2 ^ (64 * k)).sum)
  else v

/-- SEED_CONDITIONED (R469–R472, R474, R480): 1,024 samples through both tests. Those that pass are the start-up test of a source in STARTUP, a
seed of one in GATHER, which is READY with the second, and a seed for a pool with room after that; test access takes none. A window that fails
a test is a health test failure; under test access each failure is counted. -/
def State.seed (s : State) (b : Nat) (w : BitVec 1024) : State :=
  let x := s.source b
  let v := s.samples x w
  let runs := runsOf x.run v
  let many := decide (794 ≤ firstCount v)
  let x := { x with rctMax := max x.rctMax runs.2.1, aptMax := max x.aptMax (firstCount v), run := runs.1 }
  let seed := Config.sha384 (leBytes 128 v.toNat)
  if x.state = 7 then
    let s := s.setSource b { x with rctFails := x.rctFails + runs.2.2, aptFails := x.aptFails + (if many then 1 else 0) }
    if s.flag F.entTestRawEn 0 then s.rawCopy v else s
  else if runs.2.2 ≠ 0 ∨ many then (s.setSource b x).healthFail b (runs.2.2 != 0)
  else if x.state = 1 then s.setSource b { x with state := 2, pool := [] }
  else if x.state = 2 then
    if x.pool.isEmpty then s.setSource b { x with pool := [seed] } else s.instantiate b { x with pool := x.pool ++ [seed] }
  else
    let takes := (x.state == 3 || x.state == 4 || x.state == 5) && decide (x.pool.length < 2)
    s.setSource b (if takes then { x with pool := x.pool ++ [seed] } else x)

def execSeedConditioned (b : Barn) (samples : BitVec 1024) (s : State) : Out := .next (s.seed b.val samples)

/-- RESEED (R474): never in cycles 0–127; it gives no output for 64 cycles, so that keys still to draw come that much later. -/
def State.reseed (s : State) (b : Nat) : State :=
  let x := s.source b
  match x.drbg, x.pool with
  | some d, e :: rest =>
    if (x.state == 3 || x.state == 4 || x.state == 5) && decide (s.reseedAt ≤ x.blocks) then
      let s := (s.upTo 128).setSource b { x with state := 3, pool := rest, drbg := some (Config.drbgReseed d e), blocks := 0,
                                                 reseeds := x.reseeds + 1 }
      if b = s.activeBarn then (s.drawKeys 64).serveReads else s
    else s
  | _, _ => s

def execReseed (b : Barn) (s : State) : Out := .next (s.reseed b.val)

/-- ENT_TEST_WRITE (R480): only in lifecycle TEST. The sources stand in TEST while either bit is 1, and start up afresh after. -/
def State.entTestWrite (s : State) (v : Word) : State :=
  if s.fld F.secLifecycleState 0 ≠ 0 then s else
  let s := s.setReg .entTest 0 (v &&& 3)
  s.each [0, 1] fun s b =>
    let x := s.source b
    if x.state = 0 ∨ x.state = 6 then s
    else if (v &&& 3) ≠ 0 then s.setSource b { x with state := 7, pool := [], drbg := none }
    else if x.state = 7 then s.setSource b { x with state := 1, pool := [], drbg := none } else s

def execEntTestWrite (v : BitVec 32) (s : State) : Out := .next (s.entTestWrite (v.setWidth 64))

end Sys2Proof.Machine
end

