-- ==== Sys2Proof/Machine/Links.lean ====
section
/-!
DEFINITION. Dualjo ports (R300–R319): frames, their check, numbers and retry, encryption, and the sessions that key it (R486–R491).
-/
namespace Sys2Proof.Machine

def State.port (s : State) (p : Nat) : PortState := sget {} s.ports p
def State.setPort (s : State) (p : Nat) (v : PortState) : State := { s with ports := sput {} s.ports p v }

/-- Data lanes of a port (R300). -/
def portWidth (p : Nat) : Nat := if p < 16 then 8 else 2

/-- The port runs: UP, or UP on spare. -/
def State.portUp (s : State) (p : Nat) : Bool := s.fld F.lnkStatusState p == 2 || s.fld F.lnkStatusState p == 3

/-- HUB_STATUS shows which control ports carry a live session (R370). -/
def State.syncDjc (s : State) (p : Nat) : State :=
  let live := if (s.port p).session.isSome then 1 else 0
  if p = 16 then s.setFld F.hubStatusDjc0Up 0 live
  else if p = 17 then s.setFld F.hubStatusDjc1Up 0 live
  else s

/-! ## Checks -/

/-- One bit into a cyclic code register, most significant bit first. -/
def crcStep (poly r : Nat) (b : Bool) : Nat :=
  let t := r * 2 % 2 ^ 32
  if (r / 2 ^ 31 % 2 == 1) != b then t ^^^ poly else t

/-- The bits of a flit, most significant first. -/
def flitBits (v n : Nat) : List Bool := (List.range n).map fun k => v.testBit (n - 1 - k)

/-- The payload flits of a frame. -/
def payloadFlits (l : List Byte) : List Nat := (List.range 62).map fun k => leNat ((l.drop (32 * k)).take 32)

/-- CHECK (R306) of a control flit, a payload and bits [255:160] of a trailer. -/
def linkCheck (ctl : BitVec 256) (payload : List Byte) (head : Nat) : Nat :=
  let all := ((ctl.toNat :: payloadFlits payload).flatMap fun f => flitBits f 256) ++ flitBits head 96
  all.foldl (crcStep 0x5D6DCB37) 0xFFFFFFFF ^^^ 0xFFFFFFFF

/-- CRC-32C of a list of bytes (R502). -/
def crc32c (l : List Byte) : Nat :=
  (l.foldl (fun r b => (List.range 8).foldl (fun r _ => if r % 2 = 1 then (r / 2) ^^^ 0x82F63B78 else r / 2) (r ^^^ b.toNat)) 0xFFFFFFFF) ^^^
    0xFFFFFFFF

end Sys2Proof.Machine

namespace Sys2Proof

/-! ## Trailer fields (R305) -/

def Frame.seq (f : Frame) : Nat := bits f.trailer.toNat 224 32
def Frame.ack (f : Frame) : Nat := bits f.trailer.toNat 192 32
def Frame.nak (f : Frame) : Bool := f.trailer.getLsbD 191
def Frame.enc (f : Frame) : Bool := f.trailer.getLsbD 190
def Frame.empty (f : Frame) : Bool := f.trailer.getLsbD 189
def Frame.epoch (f : Frame) : Nat := bits f.trailer.toNat 176 8
def Frame.head (f : Frame) : Nat := bits f.trailer.toNat 160 96
def Frame.check (f : Frame) : Nat := bits f.trailer.toNat 128 32
def Frame.tag (f : Frame) : BitVec 128 := BitVec.ofNat 128 f.trailer.toNat

end Sys2Proof

namespace Sys2Proof.Machine

/-! ## Control items (R304, R313) -/

/-- A control item queued for a port; each queues at most 16, and a further one finds no place (log 20). -/
def State.sendItem (s : State) (p kind : Nat) (body : Nat) : State :=
  if (s.sendq.filter (·.1 == p)).length < 16 then { s with sendq := s.sendq ++ [(p, kind, BitVec.ofNat 240 body)] } else s

/-- Order in which kinds leave a port (R313). -/
def kindOrder (kind : Nat) : Nat :=
  if kind = 7 then 1 else if kind = 6 then 2 else if kind = 1 ∨ kind = 2 then 3 else if kind = 4 ∨ kind = 3 then 4 else 5

/-- The item that a port sends next. -/
def State.nextItem (s : State) (p : Nat) : Option (Nat × Nat × BitVec 240) :=
  let mine := s.sendq.filter (·.1 == p)
  [1, 2, 3, 4, 5].findSome? fun o => mine.find? fun x => kindOrder x.2.1 == o

/-! ## Session keys (R314, R488) -/

/-- The bytes of a digest or a coordinate, byte 0 first. -/
def bytes48 (v : BitVec 384) : List Byte := (leBytes 48 v.toNat).reverse

/-- Key of a port, direction and epoch under a session secret (R488). -/
def sessionKey (secret : BitVec 384) (p dir epoch : Nat) : BitVec 256 :=
  BitVec.ofNat 256 ((Config.sha384 (bytes48 secret ++ [BitVec.ofNat 8 p, BitVec.ofNat 8 dir, BitVec.ofNat 8 epoch])).toNat / 2 ^ 128)

/-- The nonce of R314. -/
def linkNonce (p dir epoch seq : Nat) : BitVec 96 := BitVec.ofNat 96 (p * 2 ^ 90 + dir * 2 ^ 89 + epoch * 2 ^ 64 + seq)

/-- Additional authenticated data: flit 0 and trailer bits [255:160] (R314). -/
def linkAad (ctl : BitVec 256) (head : Nat) : List Byte := leBytes 32 ctl.toNat ++ leBytes 12 head

/-! ## Sessions (R489) -/

/-- A session of a port ends. -/
def State.endSession (s : State) (p : Nat) : State :=
  if (s.port p).session.isNone then s else
  let s := ((s.setPort p { s.port p with session := none }).setFld F.lnkStatusEncOn p 0).syncDjc p
  if p < 16 then s else
  let i := p - 16
  (((s.setFld F.secSessionState i 3).setFld F.secSessionOwnerIndex i 0xFF).setFld F.secSessionHostAuth i 0).setFld F.secSessionRekeyDue i 0

/-- A port stops: DOWN (0) or FAILED (4) (R302, R319). Its session ends. -/
def State.stopPort (s : State) (p st : Nat) : State :=
  let s := (s.endSession p).setPort p { (s.endSession p).port p with setup := none, messages := [] }
  (s.setFld F.lnkStatusState p st).setFld F.lnkStatusLanesUp p 0

/-- SESSION_END (R489). -/
def execSessionEnd (p : Port) (s : State) : Out := .next (s.endSession p.val)

/-! ## Records of the configuration store (R501–R505) -/

/-- Address of a byte of a bank of the store. -/
def storeAt (bank byte : Nat) : Nat := Space.store.base + bank * 2 ^ 24 + byte

/-- A record (area at 0x80_0000) or an image (area at 0) of a bank: its SEQ and payload, when it is valid (R502). -/
def State.storeRead (s : State) (bank : Nat) (image : Bool) : Option (Nat × List Byte) :=
  let at_ := storeAt bank (if image then 0 else 0x800000)
  let magic := if image then 0x57465145 else 0x46435145
  let bound := if image then 8388588 else 1048556
  let len := s.rdNat (at_ + 8) 4
  if s.rdNat at_ 4 = magic ∧ len ≤ bound then
    if crc32c (s.rdN at_ (16 + len)) = s.rdNat (at_ + 16 + len) 4 then some (s.rdNat (at_ + 4) 4, s.rdN (at_ + 16) len) else none
  else none

/-- The winner of two records (R505): its bank, SEQ and payload. -/
def State.winner (s : State) (image : Bool) : Option (Nat × Nat × List Byte) :=
  match s.storeRead 0 image, s.storeRead 1 image with
  | some a, some b => if serialAbove b.1 a.1 then some (1, b) else some (0, a)
  | some a, none => some (0, a)
  | none, some b => some (1, b)
  | none, none => none

/-- The items of a record payload (R503): kind, index, body. -/
def itemsOf : Nat → List Byte → List (Nat × Nat × List Byte)
  | 0, _ => []
  | n + 1, b =>
    if b.length < 8 then [] else
    let h := bytesAt b 0 8
    let len := bits h 0 32
    (bits h 48 16, bits h 40 8, (b.drop 8).take len) :: itemsOf n (b.drop (8 * ceilDiv (8 + len) 8))

/-- Kinds whose items are signed (R503). -/
def signedKind (k : Nat) : Bool := k == 1 || k == 2 || k == 3

/-- The items of the winning record that verify (R503). -/
def State.items (s : State) : List (Nat × Nat × List Byte) := match s.winner false with
  | some w => (itemsOf w.2.2.length w.2.2).filter fun x => !signedKind x.1 || Config.itemVerifies x.1 x.2.2
  | none => []

/-- The body of an item. -/
def State.item (s : State) (kind index : Nat) : Option (List Byte) :=
  (s.items.find? fun x => x.1 == kind && x.2.1 == index).map (·.2.2)

/-- The identity private key, unwrapped by the active barn die (R484). -/
def State.identity (s : State) : Option (BitVec 384) :=
  match s.item 5 0, s.item 6 s.activeBarn with
  | some w, some h => Config.unwrapKey s.activeBarn (Config.deviceKey s.activeBarn h) w
  | _, _ => none

/-- The identity certificate (R484, R503). -/
def State.certificate (s : State) : Option (List Byte) := (s.item 1 0).map Config.identCert

/-! ## Session set-up (R486, R487) -/

/-- A set-up message: header and body (R487). -/
def setupMsg (type : Nat) (body : List Byte) : List Byte := leBytes 8 (type * 2 ^ 56 + body.length * 2 ^ 40 + 2 ^ 32) ++ body

/-- Whether this side answers set-ups on a port: the module on a control port, the higher rank on a fabric port (R487). -/
def State.responds (s : State) (p : Nat) : Bool :=
  decide (16 ≤ p) || decide (s.fld F.lnkStatusPeerRank p < s.fld F.hubGroupStatusRank 0)

/-- A set-up ends with AUTH_FAILED (R487); on a fabric port the port goes down (R490). -/
def State.authFail (s : State) (p : Nat) : State :=
  let s := (s.bump F.secAuthFailSetupFails 0 1).setPort p { s.port p with setup := none, messages := [] }
  if p < 16 then s.stopPort p 4
  else if (s.port p).session.isNone then s.setFld F.secSessionState (p - 16) 0 else s

/-- `n` 16-byte blocks of the expander, all or none (R491). -/
def State.takeBlocks (s : State) (n : Nat) : Option (List Byte × State) :=
  let r := s.blocks n []
  if s.keysServed && r.1.2 == 0 then some (r.1.1, r.2) else none

/-- A 384-bit number from bytes. -/
def num48 (l : List Byte) : BitVec 384 := BitVec.ofNat 384 (leNat (l.take 48).reverse)

/-- TH1 (R487): HELLO followed by REPLY without its signature. -/
def th1 (x : Setup) : BitVec 384 := Config.sha384 (x.hello ++ x.reply)

/-- The ephemeral point of the other side. -/
def Setup.peerPoint (x : Setup) : List Byte := ((if x.initiator then x.reply else x.hello).drop 8).take 97

/-- The session secret (R488). -/
def Setup.secret (x : Setup) : BitVec 384 :=
  Config.sha384 ([0, 0, 0, 1] ++ bytes48 ((Config.p384Shared x.scalar x.peerPoint).getD 0) ++
    [0x44, 0x55, 0x41, 0x4C, 0x4A, 0x4F, 0x2D, 0x53, 0x45, 0x53, 0x53, 0x49, 0x4F, 0x4E] ++ bytes48 x.th2)

/-- The owner index that a HELLO names may sign (R486, R487). -/
def State.ownerOk (s : State) (i : Nat) : Bool :=
  if i = 0xFF then s.fld F.secLifecycleOwnerKeys 0 == 0 else decide (i < 4) && (s.item 4 i).isSome

/-- The responder's REPLY (R487): its ephemeral key, nonce and signature come from the expander; while that gives nothing the set-up
waits (R491). -/
def State.sendReply (s : State) (p : Nat) : State :=
  match (s.port p).setup, s.takeBlocks 8, s.identity, s.certificate with
  | some x, some (r, s'), some key, some cert =>
    if x.initiator || x.answered then s else
    let scalar := num48 r
    let body := Config.p384Public scalar ++ (r.drop 48).take 32 ++ cert
    let unsigned := (setupMsg 2 (body ++ List.replicate 96 0)).take (8 + body.length)
    let x := { x with scalar := scalar, reply := unsigned, answered := true }
    if (Config.p384Shared scalar x.peerPoint).isNone then s.authFail p else
    let sig := Config.ecdsaSign key (num48 (r.drop 80)) (th1 x)
    s'.setPort p { s'.port p with setup := some x, messages := (s'.port p).messages ++ [unsigned ++ sig] }
  | some _, some _, _, _ => s.authFail p
  | _, _, _, _ => s

/-- HELLO (R486, R487): taken by the responder, which answers at once or once the expander serves it. -/
def State.helloIn (s : State) (p : Nat) (body : List Byte) : State :=
  let owner := bytesAt body 129 1
  if !s.portUp p || !s.responds p || s.fld F.secLifecycleState 0 == 2 then s
  else if body.length ≠ 130 ∨ (16 ≤ p ∧ s.ownerOk owner = false) then s.authFail p
  else
    let s := s.setPort p { s.port p with setup := some {
      initiator := false, scalar := 0, hello := setupMsg 1 body, reply := [], th2 := 0, owner := if p < 16 then 0xFF else owner
      since := s.tick, answered := false } }
    let s := if 16 ≤ p ∧ (s.port p).session.isNone then s.setFld F.secSessionState (p - 16) 1 else s
    s.sendReply p

/-- HELLO (R487). -/
def execHello (p : Port) (body : List Byte) (s : State) : Out := .next (s.helloIn p.val body)

/-- The initiator's HELLO on a fabric port (R489, R490). -/
def State.sendHello (s : State) (p : Nat) : State := match s.takeBlocks 5 with
  | none => s
  | some (r, s) =>
    let scalar := num48 r
    let msg := setupMsg 1 (Config.p384Public scalar ++ (r.drop 48).take 32 ++ [0xFF])
    s.setPort p { s.port p with messages := (s.port p).messages ++ [msg], setup := some {
      initiator := true, scalar := scalar, hello := msg, reply := [], th2 := 0, owner := 0xFF, since := s.tick, answered := false } }

/-- REPLY as the initiator takes it (R487): certificate and signature checked, FINISH sent. -/
def State.replyIn (s : State) (p : Nat) (x : Setup) (body : List Byte) : State :=
  let n := body.length - 96
  let cert := (body.take n).drop 129
  let unsigned := (setupMsg 2 body).take (8 + n)
  let x := { x with reply := unsigned }
  match Config.certKey cert, s.takeBlocks 3, s.identity, s.certificate with
  | some pub, some (r, s'), some key, some own =>
    if body.length < 226 ∨ (Config.p384Shared x.scalar x.peerPoint).isNone ∨ Config.ecdsaVerify pub (th1 x) (body.drop n) = false then
      s.authFail p
    else
      let part := (setupMsg 3 (own ++ List.replicate 96 0)).take (8 + own.length)
      let th2 := Config.sha384 (bytes48 (th1 x) ++ part)
      let sig := Config.ecdsaSign key (num48 r) th2
      s'.setPort p { s'.port p with setup := some { x with th2 := th2, answered := true }, messages := (s'.port p).messages ++ [part ++ sig] }
  | some _, none, some _, some _ => s
  | _, _, _, _ => s.authFail p

/-- REPLY taken up by the initiator; on the responder's side, the reply that waited for the expander goes out (R487, R491). -/
def State.replyMsg (s : State) (p : Nat) (body : List Byte) : State := match (s.port p).setup with
  | some x => if x.initiator then (if x.answered then s else s.replyIn p x body) else s.sendReply p
  | none => s

/-- REPLY (R487). -/
def execReply (p : Port) (body : List Byte) (s : State) : Out := .next (s.replyMsg p.val body)

/-- Whether a port encrypts once it has a session: a control port always; a fabric port where its LNK_CTRL_p or its group asks for it (R318,
R490). -/
def State.wantsEnc (s : State) (p : Nat) : Bool :=
  decide (16 ≤ p) || s.flag F.lnkCtrlEncReq p || s.group.any fun g => g.enc && g.mask.testBit p

/-- LNK_STATUS_p shows whether frames are sent with ENC = 1. -/
def State.showEnc (s : State) (p : Nat) : State :=
  s.setFld F.lnkStatusEncOn p (if (s.port p).session.isSome && s.wantsEnc p then 1 else 0)

/-- A set-up becomes the live session of its port (R488). -/
def State.goLive (s : State) (p : Nat) (x : Setup) (txFrom rxFrom : Nat) : State :=
  let dirZero := !s.responds p || decide (16 ≤ p)
  let s := s.setPort p { s.port p with setup := none, session := some { secret := x.secret, dirZero := dirZero, txFrom := txFrom, rxFrom := rxFrom } }
  let s := ((s.setFld F.lnkStatusEpoch p 0).showEnc p).syncDjc p
  if p < 16 then s else
  let i := p - 16
  ((((s.bump F.secSessionSetups i 1).setFld F.secSessionOwnerIndex i x.owner).setFld F.secSessionHostAuth i
    (if x.owner = 0xFF then 0 else 1)).setFld F.secSessionRekeyDue i 0).setFld F.secSessionState i 2

/-- FINISH as the responder takes it (R486, R487): the signature checked, CONFIRM sent, the session live. The first SEQ that the
initiator encrypts is the module's to name; the manual gives no value (log 21). -/
def State.finishIn (s : State) (p : Nat) (x : Setup) (body : List Byte) : State :=
  let n := body.length - 96
  let sig := body.drop n
  let x := { x with th2 := Config.sha384 (bytes48 (th1 x) ++ (setupMsg 3 body).take (8 + n)) }
  let ok := decide (96 ≤ body.length) && (if p < 16 then match Config.certKey (body.take n) with
      | some pub => Config.ecdsaVerify pub x.th2 sig
      | none => false
    else if x.owner = 0xFF then sig.all (· == 0)
    else match s.item 4 x.owner with
      | some pub => Config.ecdsaVerify pub x.th2 sig
      | none => false)
  if !ok then s.authFail p else
  let d := s.draw
  let rx := d.1 % 2 ^ 32
  let s := d.2
  let tx := (s.fld F.lnkSeqTxSeq p + 1) % 2 ^ 32
  let s := s.setPort p { s.port p with messages := (s.port p).messages ++ [setupMsg 4 (leBytes 4 rx ++ leBytes 4 tx)] }
  s.goLive p x tx rx

/-- CONFIRM as the initiator takes it. -/
def State.confirmIn (s : State) (p : Nat) (x : Setup) (body : List Byte) : State := s.goLive p x (bytesAt body 0 4) (bytesAt body 4 4)

/-- SETUP_TIMEOUT (R487). -/
def execSetupTimeout (p : Port) (s : State) : Out :=
  .next (match (s.port p.val).setup with
  | some x =>
    if x.since + 2 ^ 20 ≤ s.tick then
      let s := s.setPort p.val { s.port p.val with setup := none, messages := [] }
      if 16 ≤ p.val ∧ (s.port p.val).session.isNone then s.setFld F.secSessionState (p.val - 16) 0 else s
    else s
  | none => s)

/-! ## Link resets and training (R308, R309) -/

/-- Frames of the replay buffer that the peer has not acknowledged. -/
def PortState.unacked (x : PortState) : List Frame := x.replay.filter fun f => serialAbove f.seq x.acked

/-- A link reset (R308): reported as a port fault; what is unacknowledged is resent after retraining. -/
def State.resetLink (s : State) (p : Nat) : State :=
  let s := (s.bump F.lnkErrLinkResets p 1).setPort p { s.port p with resend := (s.port p).unacked }
  (s.setFld F.lnkStatusState p 1).logFault 0x16 0 false 0 0 31 31 p none 0 false

/-- LINK_RESET (R308): a port that is up resets when an unacknowledged frame leaves its replay buffer. -/
def execLinkReset (p : Port) (s : State) : Out := .next (if s.portUp p.val then s.resetLink p.val else s)

/-- LINK_TRAINING_COMPLETE (R308, R309): the port measures its delay and goes UP; above 512 cycles it does not (log 22). -/
def execLinkTrainingComplete (p : Port) (delay : Nat) (peerPort : Fin 18) (peerRank : Fin 64) (s : State) : Out :=
  let n := p.val
  .next (if s.fld F.lnkStatusState n ≠ 1 ∨ 512 < delay then s else
    let spare := s.flag F.lnkStatusSpareInUse n
    let s := s.setFld F.lnkDelayDelay n (if n < 16 then delay else 0)
    let s := (s.setFld F.lnkStatusPeerPort n peerPort.val).setFld F.lnkStatusPeerRank n peerRank.val
    let lanes := 2 ^ portWidth n - 1
    let s := s.setFld F.lnkStatusLanesUp n (if spare then putBits lanes (s.fld F.lnkStatusFailedLane n) 1 0 else lanes)
    s.setFld F.lnkStatusState n (if spare then 3 else 2))

/-! ## Counters -/

/-- CLR_SLACK (R318). -/
def execClrSlack (p : Port) (s : State) : Out := .next (s.setReg .lnkSlack p.val 0)
/-- CLR_ERR (R318). -/
def execClrErr (p : Port) (s : State) : Out := .next (s.setReg .lnkErr p.val 0)

/-! ## Sending (R303–R315) -/

/-- An answer packet (R346). -/
def answerPacket (a : Answer) (addr : Nat) : List Byte := match a.data with
  | some d => leBytes 16 (0x82 * 2 ^ 120 + a.tag.toNat * 2 ^ 104 + addr * 2 ^ 32 + d.length) ++ d
  | none => leBytes 16 (0x81 * 2 ^ 120 + a.tag.toNat * 2 ^ 104 + addr * 2 ^ 32)

/-- Answer packets that fit in `n` bytes, oldest first. -/
def packAnswers : Nat → List Answer → List Answer
  | _, [] => []
  | n, a :: rest =>
    let k := (answerPacket a 0).length
    if k ≤ n then a :: packAnswers (n - k) rest else []

/-- Payload frames that the running group launches have booked for a port in a tick (R310). -/
def State.bookedFrames (s : State) (p : Nat) : Nat :=
  ((keysWhere s.ctxs fun x => x.state == .running && x.launch.any (·.group)).map fun c =>
    ((s.launch c).elim [] fun l => l.sched.frames.filter fun f => f.1 == p && f.2.1).map (·.2.2)).flatten.sum

/-- Whether the next new frame of a port is a booked one: those are the first of each tick (DESIGN CHOICE, log 151). -/
def State.bookedNext (s : State) (p : Nat) : Bool :=
  decide ((if (s.port p).begun.1 = s.tick then (s.port p).begun.2 else 0) < s.bookedFrames p)

/-- What a port's next frame carries in its payload: in a booked frame the cartway packets of the launch, whose form the manual does not give
(log 151) and beside which nothing else travels (R312); in an unbooked one set-up messages in the clear, or answers under the session; and
the state without it. -/
def State.nextPayload (s : State) (p : Nat) (enc : Bool) : List Byte × Bool × State :=
  if s.bookedNext p then let r := s.openBytes 1984; (r.1, enc, r.2) else
  match (s.port p).messages with
  | m :: rest => (m, false, s.setPort p { s.port p with messages := rest })
  | [] =>
    let mine := packAnswers 1984 (s.answers.filter fun a => a.port + 16 == p)
    if enc && decide (16 ≤ p) && !mine.isEmpty then
      (mine.flatMap fun a => answerPacket a a.addr, true, { s with answers := mine.foldl List.erase s.answers })
    else ([], enc, s)

/-- The epoch of the next frame (R315): it advances at the first frame after SEQ crosses a multiple of 2^31; past 255 the session
ends (R489). REKEY_DUE follows; a fabric port's session is renewed from epoch 240 by the initiator. -/
def State.advanceEpoch (s : State) (p seq : Nat) : State :=
  match (s.port p).session with
  | none => s
  | some x =>
    if seq % 2 ^ 31 ≠ 0 ∨ seq = x.txFrom then s else
    let e := s.fld F.lnkStatusEpoch p + 1
    if 255 < e then s.endSession p else
    let s := s.setFld F.lnkStatusEpoch p e
    if e < 240 then s
    else if 16 ≤ p then s.setFld F.secSessionRekeyDue (p - 16) 1
    else if !s.responds p && (s.port p).setup.isNone then s.sendHello p else s

/-- A new frame of a port (R303–R308, R314). -/
def State.newFrame (s : State) (p : Nat) : State :=
  let seq := s.fld F.lnkSeqTxSeq p
  let s := s.advanceEpoch p seq
  let session := (s.port p).session
  let live := s.wantsEnc p && session.any fun x => seq == x.txFrom || serialAbove seq x.txFrom
  let item := s.nextItem p
  let s := match item with
    | some i => { s with sendq := s.sendq.erase i }
    | none => s
  let ctl : BitVec 256 := match item with
    | some i => BitVec.ofNat 256 (i.2.1 * 2 ^ 248 + i.2.2.toNat)
    | none => 0
  let load := s.nextPayload p live
  let count := if (s.port p).begun.1 = s.tick then (s.port p).begun.2 + 1 else 1
  let s := load.2.2.setPort p { load.2.2.port p with begun := (s.tick, count) }
  let payload := padTo 1984 load.1
  let enc := load.2.1
  let epoch := s.fld F.lnkStatusEpoch p
  let head := bits (seq * 2 ^ 224 + ((s.fld F.lnkSeqRxExpect p + 2 ^ 32 - 1) % 2 ^ 32) * 2 ^ 192 + (if (s.port p).nakDue then 2 ^ 191 else 0) +
    (if enc then 2 ^ 190 else 0) + (if load.1.isEmpty then 2 ^ 189 else 0) + epoch * 2 ^ 176) 160 96
  let sealed := match enc, session with
    | true, some x =>
      let dir := if x.dirZero then 0 else 1
      Config.gcmSeal (sessionKey x.secret p dir epoch) (linkNonce p dir epoch seq) (linkAad ctl head) payload
    | _, _ => (payload, 0)
  let trailer := head * 2 ^ 160 + linkCheck ctl sealed.1 head * 2 ^ 128 + sealed.2.toNat
  let f : Frame := { ctl := ctl, payload := sealed.1, trailer := BitVec.ofNat 256 trailer }
  let kept := (s.port p).replay ++ [f]
  let lost := decide (64 < kept.length) && (kept.head?.any fun g => serialAbove g.seq (s.port p).acked)
  let s := s.setPort p { s.port p with replay := kept.drop (kept.length - 64), nakDue := false, wire := some f }
  let s := s.setFld F.lnkSeqTxSeq p (seq + 1)
  if lost then s.resetLink p else s

/-- A resent frame of a port (R308, R311): it takes a slack frame. -/
def State.resendFrame (s : State) (p : Nat) (f : Frame) (rest : List Frame) : State :=
  let x := s.port p
  let n := if x.slack.1 = s.tick then x.slack.2 + 1 else 1
  let s := s.setPort p { x with resend := rest, wire := some f, slack := (s.tick, n) }
  (s.bump F.lnkSlackSlackUsed p 1).setFld F.lnkSlackMaxSlack p (min 255 (max (s.fld F.lnkSlackMaxSlack p) n))

/-- The next frame of a port that is up. -/
def State.sendFrame (s : State) (p : Nat) : State :=
  if !s.portUp p then s else
  match (s.port p).resend with
  | f :: rest => s.resendFrame p f rest
  | [] => s.newFrame p

end Sys2Proof.Machine
end

