-- ==== Sys2Proof/Machine/Groups.lean ====
section
/-!
DEFINITION. Module groups (R393–R412): joining, group ticks, barriers, stalls, votes and reductions across members, the messages of a
group launch, and group faults.
-/
namespace Sys2Proof.Machine

/-! ## The group and its tree (R393, R394) -/

def State.rank (s : State) : Nat := s.fld F.hubGroupStatusRank 0
def State.members (s : State) : Nat := s.fld F.hubGroupStatusMembers 0
def State.modGroup (s : State) (f : Group → Group) : State := { s with group := s.group.map f }

/-- Group ports (R393). -/
def Group.ports (g : Group) : List Nat := (List.range 16).filter fun p => g.mask.testBit p

def State.peer (s : State) (p : Nat) : Nat := s.fld F.lnkStatusPeerRank p

/-- Hops and path latency of a rank to rank 0 (R394). -/
def Group.path (g : Group) (r : Nat) : Nat × Nat := if r = 0 then (0, 0) else (Config.treeOf g.id r).2

/-- The parent port: the peer with the fewest hops, then the lowest rank, then the lowest port (R394). -/
def State.parent (s : State) (g : Group) : Option Nat :=
  if s.rank = 0 then none else
  (g.ports.filter s.portUp).foldl (fun b p => match b with
    | none => some p
    | some q =>
      let x := (g.path (s.peer p)).1
      let y := (g.path (s.peer q)).1
      if x < y ∨ (x = y ∧ s.peer p < s.peer q) then some p else some q) none

/-- The ports to the children of this member: the lowest port to each peer whose parent it is. -/
def State.children (s : State) (g : Group) : List Nat :=
  g.ports.filter fun p => s.portUp p && (if s.rank = 0 then true else s.peer p != 0 && (Config.treeOf g.id (s.peer p)).1 == s.rank) &&
    g.ports.all fun q => !(decide (q < p) && s.portUp q && s.peer q == s.peer p)

/-- Hops and path latency of this member. -/
def State.ownPath (s : State) (g : Group) : Nat × Nat := match s.parent g with
  | none => (0, 0)
  | some p => ((g.path (s.peer p)).1 + 1, (g.path (s.peer p)).2 + s.fld F.lnkDelayDelay p + 48)

/-- HUB_GROUP_PATH (R412). -/
def State.showPath (s : State) (g : Group) : State :=
  let x := s.ownPath g
  s.setReg .hubGroupPath 0 (BitVec.ofNat 64 (min x.2 65535 * 65536 + min x.1 255 * 256 + (s.parent g).getD 31))

/-- An item sent on every group port but one. -/
def State.flood (s : State) (g : Group) (except : Option Nat) (kind body : Nat) : State :=
  s.each (g.ports.filter fun p => some p != except) fun s p => s.sendItem p kind body

/-- The group tick count G (R399). -/
def State.groupTick (s : State) : Nat := (s.tick + (s.reg .hubGroupOffset 0).toNat) % 2 ^ 64

/-- Own cumulative offset, eighths of a cycle. -/
def State.ownOffset (s : State) : Int := s.sfld F.hubGroupSkewOwn 0

/-- Contexts whose launch is a group launch on the module, in one of the states that GROUP_LEAVE refuses (R410). -/
def State.groupCtxs (s : State) : List Nat := keysWhere s.ctxs fun x => x.launch.any (·.group) &&
  (x.state == .loaded || x.state == .running || x.state == .held || x.state == .paused)

/-! ## Concord (R395–R398) -/

/-- The concord word of this member (R395). -/
def State.concord (s : State) (g : Group) (aligned : Bool) : Nat :=
  s.fld F.hubIdentFwVersion 0 * 2 ^ 112 + s.fld F.hubIdentLevel 0 * 2 ^ 104 + g.schedHash.toNat * 2 ^ 40 +
    (bits g.config.toNat 32 32 ^^^ bits g.config.toNat 0 32) * 2 ^ 8 + (if aligned then 1 else 0)

/-- A concord item of this member (R404). -/
def State.concordItem (s : State) (g : Group) (phase extra : Nat) : Nat :=
  s.concord g false * 2 ^ 112 + g.id * 2 ^ 80 + s.rank * 2 ^ 74 + s.members * 2 ^ 67 + (if g.enc then 1 else 0) * 2 ^ 66 + phase * 2 ^ 63 +
    g.mask * 2 ^ 47 + extra

/-- A member as its concord item shows it. -/
def memberOf (b : Nat) : Member where
  rank := bits b 74 6
  word := bits b 112 128
  groupId := bits b 80 32
  members := bits b 67 7
  enc := bits b 66 1 == 1
  mask := bits b 47 16
  ready := false
  check := none

/-- The entries of a rank. -/
def Group.entries (g : Group) (r : Nat) : List Member := g.table.filter (·.rank == r)

/-- Reason code of a rank (R396). -/
def State.reason (s : State) (g : Group) (r : Nat) : Nat := match g.entries r, g.entries 0 with
  | [], _ => 1
  | m :: more, z =>
    let base := (z.head?.map (·.word)).getD m.word
    if bits m.word 112 16 ≠ bits base 112 16 then 2
    else if bits m.word 104 8 ≠ bits base 104 8 then 3
    else if bits m.word 40 64 ≠ bits base 40 64 then 4
    else if bits m.word 8 32 ≠ bits base 8 32 ∨ m.groupId ≠ g.id ∨ m.members ≠ s.members ∨ m.enc ≠ g.enc then 5
    else if !more.isEmpty then 6
    else if r = s.rank && !(g.ports.all fun p => s.portUp p && decide (s.peer p < s.members)) then 7
    else if 144 < (if r = s.rank then (s.ownPath g).2 else (g.path r).2) then 8
    else 0

/-- The per-member report (R398). -/
def State.memberReport (s : State) (g : Group) (excess : List (Nat × Nat)) : List Byte :=
  (List.range 64).flatMap fun r =>
    if s.members ≤ r then List.replicate 32 0 else
    let m := (g.entries r).head?
    let path := if r = s.rank then s.ownPath g else g.path r
    let code := match excess.find? (·.1 == r) with
      | some x => x.2
      | none => s.reason g r
    let off := if r = s.rank then unsign 16 s.ownOffset else Config.memberOffset r % 65536
    leBytes 16 ((m.map (·.word)).getD 0) ++ leBytes 4 ((m.map (·.groupId)).getD 0) ++
      leBytes 4 ((m.map (·.mask)).getD 0 * 65536 + path.1 % 256 * 256 + code) ++ leBytes 4 (path.2 % 65536) ++ leBytes 4 off

/-- The end of a join (R397): the report, in the staging window where the message asks for it, and the answer. -/
def State.endJoin (s : State) (g : Group) (excess : List (Nat × Nat)) (r : Reply) : State :=
  let report := s.memberReport g excess
  let s := { s with groupReport := report }
  match g.chan with
  | none => s
  | some n =>
    let s := match (s.chan n).msg with
      | some b => if (parseMsg b).stage then s.wrN (stagingAt (parseMsg b).stageOff) (report.take (parseMsg b).stageLen) else s
      | none => s
    s.endWait n r

/-- HUB_GROUP_STATUS of a module in a STATE of joining (R412); SKEW_EXC stays until it is cleared. -/
def State.showGroup (s : State) (rank members state : Nat) : State :=
  s.setReg .hubGroupStatus 0 (BitVec.ofNat 64 (rank % 64 * 2 ^ 26 + members % 128 * 2 ^ 19 + s.fld F.hubGroupStatusSkewExc 0 * 8 + state))

/-- The module is in no group. -/
def State.noGroup (s : State) : State := ((({ s with group := none } : State).showGroup 0 0 0).setReg .hubGroupOffset 0 0).setReg .hubGroupPath 0 0

/-- GROUP_JOIN refused with a reason for one rank: CONCORD_MISMATCH or SKEW_EXCEEDED (R396, R397). -/
def State.refuseJoin (s : State) (r code : Nat) : State := match s.group with
  | none => s
  | some g => (s.endJoin g [(r, code)] { status := if code = 9 then stSkew else stConcord, detail := r }).noGroup

/-! ## Barriers (R403) -/

/-- Newest COMPLETE generation of every group launch on the module: the smallest TAU; all ones without one (R404, R420). -/
def State.ownCkpt (s : State) (recovering : Bool) : Nat :=
  if !recovering then 2 ^ 64 - 1 else
  (s.groupCtxs.map fun c => match s.newestComplete c with
    | some r => unsign 64 r.tau
    | none => 2 ^ 64 - 1).foldl min (2 ^ 64 - 1)

/-- What a group launch is saved with after a group fault (R411): its newest COMPLETE checkpoint; one that has none yet, the state that it
starts from. -/
def State.faultSave (s : State) (c : Nat) (l : Launch) : Saved := match s.newestComplete c with
  | some r => r.saved
  | none =>
    let t := s.restartLaunch c l
    t.capture c ((t.launch c).getD l) false

/-- The group has failed (R411): no barrier, stall or sequence of it goes on. -/
def State.groupDown (s : State) : State :=
  ((s.setFld F.hubGroupStatusState 0 3).modGroup fun g => { g with stalls := [], meet := none, release := none, sequence := none }).setFld
    F.hubGroupStatusStalled 0 0

/-- A group fault (R411): group launches become SAVED with their newest COMPLETE checkpoint, their streams end with DEGRADED. -/
def State.groupFault (s : State) : State :=
  let s := s.logFault 0x1D 0xA false 0 0 31 31 0 s.groupCtxs.head? 0 false
  s.groupDown.each s.groupCtxs fun s c => match s.launch c with
    | some l =>
      let w := s.faultSave c l
      let s := (((s.closeRecovery c s.now).release c).failWaiters c).endLaunchStream l stDegraded
      s.toSaved c l w (s.ctx c).objSegs
    | none => s

/-- What a release ends or begins (R403, R405, R409, R420). -/
def State.releaseActs (s : State) (m : Option Meeting) (start ckpt : Nat) : State :=
  let wall := (start + 2 ^ 64 - (s.reg .hubGroupOffset 0).toNat) % 2 ^ 64
  let s := match m with
    | some .join =>
      let s := s.setFld F.hubGroupStatusState 0 2
      match s.group with
      | some g => (s.endJoin g [] { status := stOk, payload := leBytes 8 start }).modGroup fun g => { g with chan := none }
      | none => s
    | some (.start c) =>
      let s := (s.modLaunch c fun l => { l with t0 := wall }).release32 c wall
      match s.launch c, (s.waiters c [0x07, 0x0A]).head? with
      | some l, some n =>
        let resumed := (s.chan n).msg.any fun b => (parseMsg b).opcode == 0x0A
        let long := leBytes 8 l.schedHash.toNat ++ leBytes 8 wall ++ leBytes 4 l.copies
        s.endWait n { status := stOk, payload := if resumed then leBytes 8 (unsign 64 l.tau) else long }
      | _, _ => s
    | some (.ended c) =>
      s.each (s.waiters c [0x08, 0x09, 0x0A]) fun s n => match (s.chan n).msg with
        | some b =>
          if (parseMsg b).opcode = 0x09 then let r := s.saveDone c; r.2.endWait n r.1
          else s.endWait n { status := stOk, payload := leBytes 8 (unsign 64 (s.tau c)) }
        | none => s
    | _ => s
  if ckpt = 2 ^ 64 - 1 then s else
  s.each s.groupCtxs fun s c => match s.launch c, (s.generations c 2 false).find? fun r => r.tau == signed 64 ckpt with
    | some l, some r => s.recoverFrom c l (some r) 0x1D ((s.fld F.fltLogHeadNextIndex 0 + 1023) % 1024)
    | _, _ => s

/-- A RELEASE taken (R402, R403): late, the group is faulted; else every member acts at its G and cycle. -/
def State.takeRelease (s : State) (start cycle : Nat) (trim : Bool) (ckpt : Nat) : State := match s.group with
  | none => s
  | some g =>
    if start < s.groupTick ∨ (start = s.groupTick ∧ cycle < s.cyc) then s.groupFault else
    let s := s.modGroup fun g => {
      g with
      number := g.number + 1, meet := none, sent := false, arrived := []
      release := if g.meet = some .stall then some (start, cycle, trim, ckpt) else none
      sequence := if g.meet.isNone then some start else g.sequence
      trimAt := if trim then some (start - 1) else g.trimAt }
    s.releaseActs g.meet start ckpt

/-- A RELEASE item (R404). -/
def releaseItem (rank number start cycle : Nat) (trim : Bool) (ckpt : Nat) : Nat :=
  2 ^ 238 + rank * 2 ^ 232 + number % 2 ^ 32 * 2 ^ 200 + start * 2 ^ 136 + cycle * 2 ^ 126 + (if trim then 1 else 0) * 2 ^ 86 + ckpt * 2 ^ 22

/-- Rank 0 releases a barrier: START lies at least 2 ticks ahead (R403). -/
def State.sendRelease (s : State) (g : Group) (cycle : Nat) (trim : Bool) (ckpt : Nat) : State :=
  let start := s.groupTick + (if trim then 3 else 2)
  let s := s.each (s.children g) fun s p => s.sendItem p 1 (releaseItem 0 g.number start cycle trim ckpt)
  s.takeRelease start cycle trim ckpt

/-- The rank that a barrier's largest offset is laid to: the peer whose arrival carries it. -/
def State.worstRank (s : State) (l : List Arrival) : Nat :=
  match l.find? fun a => l.all fun b => decide (max (-b.least) b.most ≤ max (-a.least) a.most) with
  | some a => s.peer a.port
  | none => 0

/-- Rank 0 holds ARRIVE from every child (R402, R403): the skew, its outcome, the release. -/
def State.rootReleases (s : State) (g : Group) (m : Meeting) (ckpt : Nat) : State :=
  let least := (g.arrived.map (·.least)).foldl min 0
  let most := (g.arrived.map (·.most)).foldl max 0
  let skew := (most - least).toNat
  let s := (s.setFld F.hubGroupSkewLast 0 skew).setFld F.hubGroupSkewWorst 0 (max (s.fld F.hubGroupSkewWorst 0) skew)
  let s := s.bump F.hubGroupSkewBarriers 0 1
  let s := if 48 < skew ∧ m ≠ .join then (s.raise F.hubGroupStatusSkewExc 0).logFault 0x1C 0 false 0 0 31 31 0 none 0 false else s
  if m = .join ∧ 48 < skew then
    let r := s.worstRank g.arrived
    (s.flood g none 5 (s.concordItem g 2 (r * 2 ^ 41 + 9 * 2 ^ 33))).refuseJoin r 9
  else if 512 < skew then s.groupFault
  else
    let cycle := match m, g.stalls with
      | .stall, x :: _ => if x.late then 48 else 0
      | _, _ => 0
    s.sendRelease g cycle (decide (16 < skew)) ckpt

/-- A member that has reached a barrier and holds ARRIVE from every child sends ARRIVE up, or releases as rank 0 (R403). -/
def State.tryArrive (s : State) : State := match s.group with
  | none => s
  | some g => match g.meet with
    | none => s
    | some m =>
      if g.sent || !((s.children g).all fun p => g.arrived.any fun a => a.port == p) then s else
      let own := if s.rank = 0 then 0 else s.ownOffset
      let ckpt := (g.arrived.map (·.ckpt)).foldl min (s.ownCkpt (m == .stall && g.stalls.any fun x => x.cause == 0))
      match s.parent g with
      | none => s.rootReleases g m ckpt
      | some p =>
        let least := (g.arrived.map (·.least)).foldl min own
        let most := (g.arrived.map (·.most)).foldl max own
        let s := s.sendItem p 1 (s.rank * 2 ^ 232 + g.number % 2 ^ 32 * 2 ^ 200 + unsign 16 least * 2 ^ 110 + unsign 16 most * 2 ^ 94 + ckpt * 2 ^ 22)
        (s.modGroup fun g => { g with sent := true }).bump F.hubGroupSkewBarriers 0 1

/-- This member reaches a barrier. -/
def State.meetAt (s : State) (m : Meeting) : State :=
  if s.group.any fun g => g.meet.isNone then (s.modGroup fun g => { g with meet := some m }).tryArrive else s

/-- A frame from a member has come on a port (R411). -/
def State.heardFrom (s : State) (p : Nat) : State := s.modGroup fun g => { g with heard := sput 0 g.heard (s.peer p) s.tick }

/-- BARRIER_ARRIVE (R403). -/
def State.arriveIn (s : State) (p : Nat) (body : BitVec 240) : State :=
  let b := body.toNat
  let a : Arrival := { port := p, least := signed 16 (bits b 110 16), most := signed 16 (bits b 94 16), ckpt := bits b 22 64 }
  ((s.heardFrom p).modGroup fun g => { g with arrived := (g.arrived.filter (·.port != p)) ++ [a] }).tryArrive

def execBarrierArrive (p : Port) (body : BitVec 240) (s : State) : Out := .next (s.arriveIn p.val body)

/-- BARRIER_RELEASE (R403): passed down the tree and taken. -/
def State.releaseIn (s : State) (p : Nat) (body : BitVec 240) : State := match s.group with
  | none => s
  | some g =>
    let b := body.toNat
    if s.parent g ≠ some p then s else
    let s := (s.heardFrom p).each (s.children g) fun s q => s.sendItem q 1 b
    s.takeRelease (bits b 136 64) (bits b 126 10) (bits b 86 8 % 2 == 1) (bits b 22 64)

def execBarrierRelease (p : Port) (body : BitVec 240) (s : State) : Out := .next (s.releaseIn p.val body)

/-! ## Joining (R397) -/

/-- An alignment item to every child (R400). -/
def State.sendAlignment (s : State) (g : Group) : State :=
  s.each (s.children g) fun s p => s.sendItem p 2 (s.groupTick * 2 ^ 176 + s.cyc * 8 * 2 ^ 163 + s.rank * 2 ^ 157 + unsign 16 s.ownOffset * 2 ^ 141)

/-- Every rank has answered READY: rank 0 is aligned with itself, and alignment runs down the tree (R397). -/
def State.allReady (s : State) : State := match s.group with
  | none => s
  | some g =>
    if s.rank = 0 ∧ s.fld F.hubGroupStatusState 0 = 1 ∧ g.meet.isNone ∧ (List.range s.members).all (fun r => (g.entries r).any (·.ready)) then
      (s.sendAlignment g).meetAt .join
    else s

/-- The table compared once it holds an entry for every rank (R396, R397). -/
def State.compare (s : State) : State := match s.group with
  | none => s
  | some g =>
    if s.fld F.hubGroupStatusState 0 ≠ 1 ∨ (List.range s.members).any (fun r => (g.entries r).isEmpty) then s
    else match ((List.range s.members).map fun r => (r, s.reason g r)).find? fun x => x.2 != 0 with
      | some x => (s.flood g none 5 (s.concordItem g 2 (x.1 * 2 ^ 41 + x.2 * 2 ^ 33))).refuseJoin x.1 x.2
      | none =>
        if (g.entries s.rank).any (·.ready) then s else
        let s := s.flood g none 5 (s.concordItem g 1 0)
        (s.modGroup fun g => { g with table := g.table.map fun m => if m.rank = s.rank then { m with ready := true } else m }).allReady

/-- A member announces itself once its group ports may carry group traffic (R397, R490). -/
def State.announce (s : State) : State := match s.group with
  | none => s
  | some g =>
    if s.fld F.hubGroupStatusState 0 ≠ 1 ∨ g.table.any (fun m => m.rank == s.rank && m.mask == g.mask) ∨
        (g.enc && g.ports.any fun p => s.portUp p && (s.port p).session.isNone) then s
    else
      let item := s.concordItem g 0 0
      ((s.flood g none 5 item).modGroup fun g => { g with table := g.table ++ [memberOf item] }).compare

/-- GROUP_JOIN taken (R397). -/
def State.joinMsg (s : State) (n : Nat) (m : Msg) : Done :=
  if s.group.isSome then .answer { status := stBusy } s else
  let g : Group := {
    id := m.p 0 4, mask := m.p 0x18 2, enc := m.p 0x1C 1 % 2 == 1, schedHash := BitVec.ofNat 64 (m.p 0x10 8), config := BitVec.ofNat 64 (m.p 8 8)
    chan := some n, joinAt := s.tick, table := [], number := 0, meet := none, sent := false, arrived := [], release := none, stalls := []
    trimAt := none, alignDue := false, powerDies := [], votes := [], cast := [], results := [], sequence := none, sums := [], totals := []
    sumsSent := none, heard := [] }
  let s := ({ s with group := some g } : State).showGroup (m.p 4 1) (m.p 5 1) 1
  let s := ((s.setReg .hubGroupSkew 0 0).setReg .hubGroupOffset 0 0).showPath g
  let s := if g.enc then s.each (g.ports.filter fun p => s.portUp p && !s.responds p && (s.port p).session.isNone) fun s p => s.sendHello p else s
  .wait s

/-- GROUP_JOIN (R397). -/
def execGroupJoin (n : Channel) (s : State) : Out :=
  .next (s.message (s.chan n.val) n.val 0x0F fun m s => s.joinMsg n.val m).announce

/-- FINISH taken up (R487). A session that goes live on a group port lets the join go on (R490). -/
def State.finishMsg (s : State) (p : Nat) (body : List Byte) : State := match (s.port p).setup with
  | some x => if !x.initiator && x.answered then (s.finishIn p x body).announce else s
  | none => s

/-- FINISH (R487). -/
def execFinish (p : Port) (body : List Byte) (s : State) : Out := .next (s.finishMsg p.val body)

/-- CONFIRM taken up (R487). -/
def State.confirmMsg (s : State) (p : Nat) (body : List Byte) : State := match (s.port p).setup with
  | some x => if x.initiator && x.answered then (s.confirmIn p x body).announce else s
  | none => s

/-- CONFIRM (R487). -/
def execConfirm (p : Port) (body : List Byte) (s : State) : Out := .next (s.confirmMsg p.val body)

/-- CONCORD_ANNOUNCE (R397): recorded, and forwarded when it has not been seen before. -/
def State.announceIn (s : State) (p : Nat) (body : BitVec 240) : State := match s.group with
  | none => s
  | some g =>
    let m := memberOf body.toNat
    let s := s.heardFrom p
    if g.table.any fun x => x.rank == m.rank && x.word == m.word && x.groupId == m.groupId && x.mask == m.mask && x.members == m.members &&
      x.enc == m.enc then s
    else ((s.flood g (some p) 5 body.toNat).modGroup fun g => { g with table := g.table ++ [m] }).compare

def execConcordAnnounce (p : Port) (body : BitVec 240) (s : State) : Out := .next (s.announceIn p.val body)

/-- CONCORD_READY (R397). -/
def State.readyIn (s : State) (p : Nat) (body : BitVec 240) : State := match s.group with
  | none => s
  | some g =>
    let r := bits body.toNat 74 6
    let s := s.heardFrom p
    if (g.entries r).isEmpty || (g.entries r).any (·.ready) then s else
    let s := s.flood g (some p) 5 body.toNat
    (s.modGroup fun g => { g with table := g.table.map fun m => if m.rank = r then { m with ready := true } else m }).allReady

def execConcordReady (p : Port) (body : BitVec 240) (s : State) : Out := .next (s.readyIn p.val body)

/-- CONCORD_REFUSE (R396, R397). -/
def State.refuseIn (s : State) (p : Nat) (body : BitVec 240) : State := match s.group with
  | none => s
  | some g =>
    if s.fld F.hubGroupStatusState 0 ≠ 1 then s
    else (s.flood g (some p) 5 body.toNat).refuseJoin (bits body.toNat 41 6) (bits body.toNat 33 8)

def execConcordRefuse (p : Port) (body : BitVec 240) (s : State) : Out := .next (s.refuseIn p.val body)

/-- JOIN_TIMEOUT (R397): a table still incomplete 2^20 ticks after the message refuses with ABSENT. -/
def execJoinTimeout (s : State) : Out :=
  .next (match s.group with
  | none => s
  | some g =>
    match (List.range s.members).find? fun r => (g.entries r).isEmpty with
    | some r => if s.fld F.hubGroupStatusState 0 = 1 ∧ g.joinAt + 2 ^ 20 ≤ s.tick then s.refuseJoin r 1 else s
    | none => s)

/-- TICK_ALIGNMENT (R400): the offset measured; in a join OFFSET is set and the boundary moved by an alignment tick, and once nothing is
left to move the member aligns its own children and reaches the joining barrier. -/
def State.alignIn (s : State) (p : Nat) (body : BitVec 240) (arrival : Nat) : State := match s.group with
  | none => s
  | some g =>
    if s.parent g ≠ some p then s else
    let b := body.toNat
    let own := (arrival : Int) - bits b 163 13 - 8 * s.fld F.lnkDelayDelay p
    let near := (own + 4096) % 8192 - 4096
    let s := (s.heardFrom p).setFld F.hubGroupSkewOwn 0 (unsign 16 (near + signed 16 (bits b 141 16)))
    if s.fld F.hubGroupStatusState 0 ≠ 1 then s else
    let s := s.setReg .hubGroupOffset 0 (BitVec.ofNat 64 (bits b 176 64 + 2 ^ 64 - s.tick))
    if -4 ≤ near ∧ near ≤ 4 then (s.sendAlignment g).meetAt .join
    else s.modGroup fun g => { g with alignDue := true }

def execTickAlignment (p : Port) (body : BitVec 240) (arrival : Nat) (s : State) : Out := .next (s.alignIn p.val body arrival)

/-- TRIM_TICK (R402): in the trim tick the member removes its cumulative offset, in whole cycles, −63 to +63. -/
def execTrimTick (s : State) : Out :=
  .next (match s.group with
  | some g =>
    if g.trimAt = some s.groupTick then
      let n := clampInt (-63) 63 (divAway s.ownOffset 8)
      (s.setFld F.hubGroupSkewOwn 0 (unsign 16 (s.ownOffset - 8 * n))).modGroup fun g => { g with trimAt := none }
    else s
  | none => s)

/-! ## Leaving and losses (R410, R411) -/

/-- GROUP_LEAVE (R410). -/
def State.leaveMsg (s : State) : Done := match s.groupCtxs.head? with
  | some c => .answer (busy c) s
  | none =>
    let s := match s.group with
      | some g => s.flood g none 5 (s.concordItem g 4 0)
      | none => s
    .answer { status := stOk } s.noGroup

def execGroupLeave (n : Channel) (s : State) : Out := .next (s.message (s.chan n.val) n.val 0x10 fun _ s => s.leaveMsg)

/-- CONCORD_LEAVE (R410). -/
def State.leaveIn (s : State) (p : Nat) (body : BitVec 240) : State := match s.group with
  | none => s
  | some g => (s.flood g (some p) 5 body.toNat).noGroup

def execConcordLeave (p : Port) (body : BitVec 240) (s : State) : Out := .next (s.leaveIn p.val body)

/-- MEMBER_LOST (R411): no frame from a member on any group port for 2^10 ticks. -/
def execMemberLost (rank : Fin 64) (s : State) : Out :=
  .next (match s.group with
  | some g =>
    if s.fld F.hubGroupStatusState 0 = 2 ∧ rank.val < s.members ∧ rank.val ≠ s.rank ∧ sget 0 g.heard rank.val + 1024 ≤ s.tick then
      let s := (s.logFault 0x1D 0xA false 0 0 31 31 0 s.groupCtxs.head? 0 false).groupDown
      s.each s.groupCtxs fun s c => s.faultStream c stDegraded
    else s
  | none => s)

/-! ## Stalls (R408) -/

/-- The stalls in logical order. -/
def stallBefore (x y : Stall) : Bool := decide (x.tau < y.tau) || (x.tau == y.tau && (!x.late || y.late))

/-- A stall recorded. -/
def State.addStall (s : State) (x : Stall) : State :=
  if s.group.any fun g => g.stalls.any fun y => y.tau == x.tau && y.late == x.late then s else
  (s.modGroup fun g => { g with stalls := (g.stalls ++ [x]).mergeSort stallBefore }).setFld F.hubGroupStatusStalled 0 1

/-- This member detects a late item and floods a stall (R408). -/
def State.raiseStall (s : State) (tau : Int) (late : Bool) (cause : Nat) : State := match s.group with
  | none => s
  | some g =>
    let body := s.rank * 2 ^ 234 + unsign 64 tau * 2 ^ 170 + (if late then 1 else 0) * 2 ^ 169 + cause * 2 ^ 161
    (s.flood g none 6 body).addStall { tau := tau, late := late, cause := cause, since := s.tick, mine := true }

/-- GROUP_STALL (R408). -/
def State.stallIn (s : State) (p : Nat) (body : BitVec 240) : State := match s.group with
  | none => s
  | some g =>
    let b := body.toNat
    let x : Stall := { tau := signed 64 (bits b 170 64), late := bits b 169 1 == 1, cause := bits b 161 8, since := s.tick, mine := false }
    let s := s.heardFrom p
    if g.stalls.any fun y => y.tau == x.tau && y.late == x.late then s else (s.flood g (some p) 6 b).addStall x

def execGroupStall (p : Port) (body : BitVec 240) (s : State) : Out := .next (s.stallIn p.val body)

/-- GROUP_STALL_TIMEOUT (R408, R411): a stall that has lasted 2^20 ticks. -/
def execGroupStallTimeout (s : State) : Out :=
  .next (if s.group.any fun g => g.stalls.any fun x => decide (x.since + 2 ^ 20 ≤ s.tick) then s.groupFault else s)

/-- FRAME_DEADLINE_MISS (R311, R408): counted, and the stall flooded on every fabric port of the group. -/
def execFrameDeadlineMiss (p : Port) (c : CtxId) (item : BitVec 240) (s : State) : Out :=
  let b := item.toNat
  .next (
    let s := s.bump F.lnkSlackDeadlineMiss p.val 1
    if s.launch c.val |>.any (·.group) then s.raiseStall (signed 64 (bits b 170 64)) (bits b 169 1 == 1) (bits b 161 8) else s)

/-- RECOVERY (R417): the launch stops; a failing stook is spared; the generation that R342 and R421 name is restored and the replay
begins; or the context is ended. A launch that the cause does not concern runs on (R38). A LOADED launch has no state to lose: it is
loaded afresh. A group launch stalls the group, whose members restore together (R420). -/
def execRecovery (c : CtxId) (cause : FaultRep) (s : State) : Out :=
  let x := s.ctx c.val
  let a := cause.die.val * 8 + cause.acre.val
  let entry := s.entryOf cause
  .next (match x.launch with
  | none => s
  | some l =>
    if !(x.state == .loaded || x.state == .running || x.state == .held || x.state == .paused) || !(s.concerned cause).contains c.val then s else
    let spare := decide (cause.stook.val < 17) && (actionOf cause.code == 2 || ((cause.code == 1 || cause.code == 4) && decide (2 ≤ s.sameRow cause))) &&
      s.spareFree a
    let s := if spare then s.retireStook a cause.stook.val else s
    let s := { s with announced := s.announced.filter fun k => !(decide (k.1 ≤ 9) && k.2 == (a, cause.stook.val)) }
    let place := if cause.stook.val < 17 then some (a, cause.stook.val) else none
    let go := s.modLaunch c.val fun l => { l with stopped := none }
    if x.state == .loaded then (go.releaseUnits c.val).reload c.val
    else if l.group && s.grouped then go.raiseStall (if l.holds.contains .stop then l.tau else l.tau + 1) false 0
    else if cause.code = 0x09 then
      match s.lastPassed c.val l with
      | none => s.faultStream c.val stDegraded
      | some t => match (s.generations c.val 2 false).find? fun g => decide (g.tau ≤ t) with
        | some g => s.recoverFrom c.val l (some g) cause.code entry place
        | none => s.faultStream c.val stDegraded
    else if cause.code = 0x13 ∨ cause.code = 0x14 then
      match s.newestMirrored c.val with
      | some g => s.recoverFrom c.val l (some g) cause.code entry place
      | none => s.faultStream c.val stDegraded
    else s.recoverFrom c.val l (s.newestComplete c.val) cause.code entry place)

/-! ## Ports of a group (R302, R319, R411) -/

/-- A port is lost (R302): reported; a group port with booked frames, or one without which R394 no longer holds, faults the group. -/
def State.portLost (s : State) (p st : Nat) : State :=
  let booked := s.flag F.lnkCtrlSched p && !s.groupCtxs.isEmpty
  let s := s.stopPort p st
  match s.group with
  | some g =>
    if !g.ports.contains p then s.logFault 0x16 0 false 0 0 31 31 p none 0 false
    else if booked then (s.logFault 0x16 0xA true 0 0 31 31 p s.groupCtxs.head? 0 false).groupFault
    else
      let s := (s.logFault 0x16 0 false 0 0 31 31 p none 0 false).showPath g
      if s.fld F.hubGroupStatusState 0 = 2 ∧ s.rank ≠ 0 ∧ ((s.parent g).isNone ∨ 144 < (s.ownPath g).2) then s.groupFault else s
  | none => s.logFault 0x16 0 false 0 0 31 31 p none 0 false

/-- LANE_FAILURE (R302): the spare takes the lane's place, or the port goes down. -/
def execLaneFailure (p : Port) (lane : Fin 8) (s : State) : Out :=
  let n := p.val
  .next (if !s.portUp n || decide (portWidth n ≤ lane.val) then s
    else if s.flag F.lnkStatusSpareInUse n then
      if s.fld F.lnkStatusFailedLane n = lane.val then s else s.portLost n 4
    else if s.flag F.lnkCtrlSpareEn n then
      let s := ((s.setFld F.lnkStatusFailedLane n lane.val).setFld F.lnkStatusSpareInUse n 1).setFld F.lnkStatusState n 3
      (s.setBitOf F.lnkStatusLanesUp n lane.val false).logFault 0x15 0 false 0 0 31 31 n none 0 false
    else s.portLost n 4)

/-- LNK_CTRL_p takes a value at a frame boundary (R318, R319). -/
def State.applyCtrl (s : State) (p : Nat) (v : BitVec 32) : State :=
  let was := s.flag F.lnkCtrlEn p
  let booked := s.flag F.lnkCtrlSched p && !s.groupCtxs.isEmpty
  let s := s.setReg .lnkCtrl p (BitVec.ofNat 64 (if p < 16 then v.toNat % 16 else v.toNat % 16 / 8 * 8 + v.toNat % 4 + 4))
  let s := s.showEnc p
  if s.flag F.lnkCtrlEn p && !was then s.setFld F.lnkStatusState p 1
  else if !s.flag F.lnkCtrlEn p && was then (if booked then s.portLost p 0 else s.stopPort p 0)
  else s

/-- LNK_CTRL_WRITE (R319): at the next frame boundary of a port that runs; at once on one that does not. -/
def State.lnkCtrlWrite (s : State) (p : Nat) (v : BitVec 32) : State :=
  if s.portUp p then s.setPort p { s.port p with ctrlNext := some v } else s.applyCtrl p v

def execLnkCtrlWrite (p : Port) (v : BitVec 32) (s : State) : Out := .next (s.lnkCtrlWrite p.val v)

/-- FRAME_SEND (R303, R319): the frame boundary of a port that runs, and the frame that begins there. -/
def execFrameSend (p : Port) (s : State) : Out :=
  let n := p.val
  .next (if !s.portUp n then s else
    let s := match (s.port n).ctrlNext with
      | some v => (s.setPort n { s.port n with ctrlNext := none }).applyCtrl n v
      | none => s
    s.sendFrame n)

/-! ## Votes of a group (R407) -/

/-- Whether a context holds a group launch. -/
def State.isGroup (s : State) (c : Nat) : Bool := (s.launch c).any (·.group)

/-- This member's own vote (R407): none before it has reached the tick before the one voted for; a member without the patch, or with items not
staged, is not ready. -/
def State.ownVote (s : State) (b : Ballot) : Option Bool :=
  (s.groupCtxs.findSome? s.launch).bind fun l =>
    if l.tau < b.tau - 1 then none
    else some (if b.switch then s.group.any (·.sequence.isSome) else l.patches.any fun p => p.apply == b.tau && decide (p.due ≤ s.tick))

/-- A combined result is known (R407). One that is not ready, or comes after cycle 512 of the tick before, stalls the group (R408). -/
def State.combined (s : State) (b : Ballot) (ready : Bool) : State :=
  let s := s.modGroup fun g => { g with results := (g.results.filter (·.1 != b)) ++ [(b, ready)] }
  let late := s.groupCtxs.any fun c => (s.launch c).any fun l => l.tau == b.tau - 1 && decide (512 < s.cyc)
  if (ready && !late) || s.group.any (fun g => g.stalls.any fun x => x.tau == b.tau && !x.late) then s else s.raiseStall b.tau false 3

/-- A member's vote goes up once its children have voted; rank 0 sends the combined result down. A vote that has changed is cast again. -/
def State.tryVote (s : State) (b : Ballot) : State := match s.group, s.ownVote b with
  | some g, some own =>
    let from_ := g.votes.filter fun v => v.2.1 == b
    let all := own && from_.all fun v => v.2.2
    if g.cast.contains (b, all) || !((s.children g).all fun p => from_.any fun v => v.1 == p) then s else
    let item := fun (result : Bool) => (if b.switch then 2 else 1) * 2 ^ 236 + s.rank * 2 ^ 230 + unsign 64 b.tau * 2 ^ 166 +
      (if all then 2 ^ 165 else 0) + (if result then 2 ^ 164 else 0)
    let s := s.modGroup fun g => { g with cast := (g.cast.filter (·.1 != b)) ++ [(b, all)] }
    match s.parent g with
    | some p => s.sendItem p 4 (item false)
    | none => (s.each (s.children g) fun s p => s.sendItem p 4 (item true)).combined b all
  | _, _ => s

/-- Launch ticks of a member's votes that are open at launch tick `tau` (R407): patches of this tick or the next, a switch named by a release,
and what its children have voted on. -/
def State.openBallots (s : State) (c : Nat) (tau : Int) : List Ballot := match s.launch c, s.group with
  | some l, some g =>
    let mine := (l.patches.filter fun p => p.apply == tau || p.apply == tau + 1).map fun p => ({ switch := false, tau := p.apply } : Ballot)
    let switches := if g.sequence.any fun n => decide (n ≤ s.groupTick + 1) then [({ switch := true, tau := tau + 1 } : Ballot)] else []
    mine ++ switches ++ ((g.votes.map (·.2.1)).filter fun b => b.tau == tau + 1)
  | _, _ => []

/-- The votes of a group launch cast at a tick (R407). -/
def State.castVotes (s : State) (c : Nat) : State :=
  if s.isGroup c then (s.openBallots c (s.tau c)).foldl State.tryVote s else s

/-- VOTE_ITEM (R407): a vote from below, or the combined result from above. -/
def State.voteIn (s : State) (p : Nat) (body : BitVec 240) : State := match s.group with
  | none => s
  | some g =>
    let n := body.toNat
    let b : Ballot := { switch := bits n 236 4 == 2, tau := signed 64 (bits n 166 64) }
    let ready := bits n 165 1 == 1
    let s := s.heardFrom p
    if bits n 164 1 = 1 then
      if s.parent g ≠ some p then s
      else (s.each (s.children g) fun s q => s.sendItem q 4 n).combined b ready
    else
      (s.modGroup fun g => { g with votes := (g.votes.filter fun v => !(v.1 == p && v.2.1 == b)) ++ [(p, b, ready)] }).tryVote b

def execVoteItem (p : Port) (body : BitVec 240) (s : State) : Out := .next (s.voteIn p.val body)

/-! ## Reductions of a group (R148, R406) -/

/-- Reduction items of a list of energies: four replicas each (R404). -/
def State.sumItems (s : State) (down : Bool) (e : List Int) : List Nat :=
  (List.range (ceilDiv e.length 4)).map fun k =>
    let four := (e.drop (4 * k)).take 4
    4 * k * 2 ^ 232 + (four.length - 1) * 2 ^ 230 + s.rank * 2 ^ 224 + (if down then 2 ^ 223 else 0) +
      ((List.range four.length).map fun i => unsign 48 ((four[i]?).getD 0) * 2 ^ (48 * i)).sum

/-- The group totals of a launch are known: every member decides from them (R406). Totals that come after their tick, in early mode, only
complete its audits (R153, R160). -/
def State.groupTotals (s : State) (c : Nat) (e : List Int) : State :=
  let s := s.modGroup fun g => { g with totals := [], sums := [] }
  match s.launch c with
  | some l =>
    if s.reduces c l then s.decideReduction c l e
    else s.modLaunch c fun l => { l with
      audits := l.audits.map fun x => if x.energy.isNone then { x with energy := some ((e[x.replica]?).getD 0) } else x }
  | none => s

/-- A member's sums go up once those of its children are in; rank 0 sends the totals down (R406). -/
def State.trySums (s : State) (c : Nat) (l : Launch) : State := match s.group with
  | none => s
  | some g =>
    let n := l.replicas
    let from_ := fun p r => g.sums.find? fun x => x.1 == p && x.2.1 == r
    if !s.reduces c l ∨ g.sumsSent = some l.tau ∨ !((s.children g).all fun p => (List.range n).all fun r => (from_ p r).isSome) then s else
    let own := s.moduleEnergies l (s.blocksOf c)
    let e := (List.range n).map fun r => (own[r]?).getD 0 + ((s.children g).map fun p => ((from_ p r).map (·.2.2)).getD 0).sum
    let s := s.modGroup fun g => { g with sumsSent := some l.tau }
    match s.parent g with
    | some p => (s.sumItems false e).foldl (fun s b => s.sendItem p 3 b) s
    | none =>
      let s := s.each (s.children g) fun s p => (s.sumItems true e).foldl (fun s b => s.sendItem p 3 b) s
      s.groupTotals c e

/-- The group launch that stands in a reduction tick, or still waits for the totals of one. -/
def State.reducing (s : State) : Option (Nat × Launch) :=
  s.groupCtxs.findSome? fun c => match s.launch c with
    | some l => if s.reduces c l || l.audits.any (·.energy.isNone) then some (c, l) else none
    | none => none

/-- REDUCTION_ITEM (R406). -/
def State.sumsIn (s : State) (p : Nat) (body : BitVec 240) : State := match s.group, s.reducing with
  | some g, some (c, l) =>
    let b := body.toNat
    let got := (List.range (bits b 230 2 + 1)).map fun i => (bits b 232 8 + i, signed 48 (bits b (48 * i) 48))
    let s := s.heardFrom p
    if bits b 223 1 = 0 then
      let rest := g.sums.filter fun x => !(x.1 == p && got.any fun y => y.1 == x.2.1)
      let mine := got.map fun y => (p, y.1, y.2)
      (s.modGroup fun g => { g with sums := rest ++ mine }).trySums c l
    else if s.parent g ≠ some p then s
    else
      let s := s.each (s.children g) fun s q => s.sendItem q 3 b
      let totals := (g.totals.filter fun x => got.all fun y => y.1 != x.1) ++ got
      let s := s.modGroup fun g => { g with totals := totals }
      if (List.range l.replicas).all fun r => totals.any fun x => x.1 == r then
        s.groupTotals c ((List.range l.replicas).map fun r => ((totals.find? fun x => x.1 == r).map (·.2)).getD 0)
      else s
  | _, _ => s

def execReductionItem (p : Port) (body : BitVec 240) (s : State) : Out := .next (s.sumsIn p.val body)

/-- REDUCTION_TICK (R148, R406): module sums at cycles 64–611; the root decides, in a group after the exchange of totals. -/
def execReductionTick (c : CtxId) (s : State) : Out :=
  .next (s.within 611 1023 fun s' => match s'.launch c.val with
  | none => s
  | some l =>
    if !s'.reduces c.val l then s else
    let s := s'.takeParts c.val l (s'.blocksOf c.val)
    if l.group then s.trySums c.val l
    else (s.upTo 935).decideReduction c.val l (s.moduleEnergies l (s.blocksOf c.val)))

/-! ## Messages of a group launch (R405, R409) -/

/-- The CHECK word of this member for a launch (R404, R405): version image hash, version, context state OPEN or FAULTED. -/
def State.checkWord (s : State) (c : Nat) (v : Version) : Nat :=
  v.hash.toNat * 2 ^ 48 + v.num % 2 ^ 32 * 2 ^ 16 + (match (s.ctx c).state with | .faulted => 7 | _ => 1) * 2 ^ 8

/-- The CHECK items of a launch compared once every member's is in (R405): the launch loads and goes to its starting barrier, or every
member refuses. -/
def State.groupChecked (s : State) : State := match s.group with
  | none => s
  | some g =>
    let seen := (List.range s.members).map fun r => (g.entries r).findSome? (·.check)
    if seen.any Option.isNone then s else
    match (List.range 128).find? fun n => (s.chan n).waits && (s.chan n).msg.any fun b => (parseMsg b).opcode == 0x07 with
    | none => s
    | some n => match (s.chan n).msg with
      | none => s
      | some b =>
        let m := parseMsg b
        let a := { s.askOf m with image := (s.ctx m.ctx).staged }
        let s := s.modGroup fun g => { g with table := g.table.map fun x => { x with check := none } }
        let s := s.setCtx m.ctx { s.ctx m.ctx with staged := [] }
        if !(seen.all fun x => x == seen.headD none) then s.endWait n { status := stConcord, detail := m.ctx }
        else match s.launchChecks m.ctx a with
          | .error r => s.endWait n r
          | .ok (w, v) =>
            let r := s.launchLoad m.ctx a w v
            if (r.2.ctx m.ctx).state = .loaded then r.2.meetAt (.start m.ctx) else r.2.endWait n r.1

/-- CONCORD_CHECK (R405). -/
def State.checkIn (s : State) (p : Nat) (body : BitVec 240) : State := match s.group with
  | none => s
  | some g =>
    let r := bits body.toNat 74 6
    let s := s.heardFrom p
    if (g.entries r).all fun m => m.check.isSome then s else
    ((s.flood g (some p) 5 body.toNat).modGroup fun g => { g with table := g.table.map fun m =>
      if m.rank = r then { m with check := some (bits body.toNat 112 112) } else m }).groupChecked

def execConcordCheck (p : Port) (body : BitVec 240) (s : State) : Out := .next (s.checkIn p.val body)

/-- The FINAL part of a group launch (R405): the image hash, checks 1 to 5, and the CHECK item of this member. -/
def State.groupFinal (s : State) (m : Msg) (a : Ask) (g : Group) : Done :=
  if hash64 a.image ≠ g.schedHash then .answer { status := stConcord, detail := m.ctx } (s.setCtx m.ctx { s.ctx m.ctx with staged := [] })
  else match s.launchChecks m.ctx a with
    | .error r => .answer r (s.setCtx m.ctx { s.ctx m.ctx with staged := [] })
    | .ok (_, v) =>
      let w := s.checkWord m.ctx v
      let item := w * 2 ^ 112 + g.id * 2 ^ 80 + s.rank * 2 ^ 74 + s.members * 2 ^ 67 + 3 * 2 ^ 63
      let s := s.setCtx m.ctx { s.ctx m.ctx with staged := a.image }
      let table := g.table.map fun (x : Member) => if x.rank = s.rank then { x with check := some w } else x
      .wait ((s.flood g none 5 item).modGroup fun g => { g with table := table })

/-- LAUNCH (R384, R405). -/
def State.launchAny (s : State) (m : Msg) : Done :=
  let a := s.askOf m
  match s.group, Config.readSched a.image with
  | some g, some w =>
    if m.p 8 4 % 2 = 1 && s.groupLaunch w && s.takesImage m.ctx then s.groupFinal m a g else s.launchMsg m
  | _, _ => s.launchMsg m

def execLaunch (n : Channel) (s : State) : Out := .next (s.message (s.chan n.val) n.val 0x07 fun m s => s.launchAny m).groupChecked

/-- Rank 0 names the tick at which every member begins a sequence (R409); the message waits for the barrier that ends it. -/
def State.groupBegin (s : State) (m : Msg) : Done := match s.group with
  | none => .answer (busy m.ctx) s
  | some g =>
    if s.rank ≠ 0 then .answer (busy m.ctx) s
    else .wait ((s.hostMark m.ctx m.opcode m.seq).sendRelease g 0 false (2 ^ 64 - 1))

/-- PAUSE (R374, R379, R409). -/
def State.pauseAny (s : State) (n : Nat) (m : Msg) : Done :=
  if s.isGroup m.ctx && ((s.ctx m.ctx).state == .running || (s.ctx m.ctx).state == .held) then s.groupBegin m else s.pauseMsg n m

def execPause (n : Channel) (s : State) : Out := .next (s.message (s.chan n.val) n.val 0x08 fun m s => s.pauseAny n.val m)

/-- SAVE (R277, R374, R409). -/
def State.saveAny (s : State) (n : Nat) (m : Msg) : Done :=
  if s.isGroup m.ctx then
    if s.rank ≠ 0 then .answer (busy m.ctx) s
    else if (s.ctx m.ctx).state == .running || (s.ctx m.ctx).state == .held then s.groupBegin m else s.saveMsg n m
  else s.saveMsg n m

def execSave (n : Channel) (s : State) : Out := .next (s.message (s.chan n.val) n.val 0x09 fun m s => s.saveAny n.val m)

/-- SAVED contexts that hold a launch of this group: their images have its SCHED_HASH (R410). -/
def State.groupSaved (s : State) : List Nat := keysWhere s.ctxs fun x => x.state == .saved && x.saved.any fun w =>
  (Config.readSched w.sched).any s.groupLaunch && s.group.any fun g => hash64 w.sched == g.schedHash

/-- RESUME of a SAVED group launch (R409): to rank 0 alone, whose release names the tick at which every member loads its own. -/
def State.resumeGroup (s : State) (m : Msg) : Done :=
  let r := s.resumeHeld m
  if s.rank ≠ 0 then .answer (busy m.ctx) s
  else if (r.2.ctx m.ctx).state ≠ .loaded then .answer r.1 r.2
  else match s.group with
    | some g => .wait (s.sendRelease g 0 false (2 ^ 64 - 1))
    | none => .answer (busy m.ctx) s

/-- RESUME (R279, R374, R409). A group launch placed again starts at a group barrier (R405). -/
def State.resumeAny (s : State) (m : Msg) : Done :=
  if s.isGroup m.ctx && (s.ctx m.ctx).state == .paused && !m.stage then s.groupBegin m
  else if s.groupSaved.contains m.ctx && !m.stage then s.resumeGroup m
  else match s.resumeMsg m with
    | .answer r t =>
      if (t.ctx m.ctx).state = .loaded ∧ t.isGroup m.ctx ∧ (s.ctx m.ctx).state ≠ .loaded then .wait (t.meetAt (.start m.ctx)) else .answer r t
    | .wait t => .wait t

def execResume (n : Channel) (s : State) : Out := .next (s.message (s.chan n.val) n.val 0x0A fun m s => s.resumeAny m)

/-- CONTEXT_SWITCH (R134): at the end of the second tick of a drain, once its resolution points have passed and every engine has voted, the
switch is made; the drain of a checkpoint (R338) ends without one. A group launch then goes to the barrier that ends the sequence (R409). -/
def execContextSwitch (c : CtxId) (s : State) : Out :=
  .next (match s.launch c.val with
  | some l => match l.drain with
    | some (f, ch, 3) =>
      if f = .ckpt ∨ l.vote ≠ some true ∨ !((s.enabledLanes c.val l).all fun x => (s.lane x.2).resolved) then s
      else
      let s := s.upTo 1023
      if l.group && s.grouped then
        ((s.setState c.val .paused).modLaunch c.val fun l =>
          { l with drain := none, phase := .whole, windowOnly := false, holds := [], vote := none }).meetAt (.ended c.val)
      else s.drained c.val f ch
    | _ => s
  | none => s)

/-! ## The group at a tick boundary -/

/-- A SAVED context of a group launch loaded at the tick that rank 0 has named: under the RESUME that waits, else under its old stream. -/
def State.loadSequence (s : State) (c : Nat) : State :=
  let n := (s.waiters c [0x0A]).head?
  let sent := (n.bind fun n => (s.chan n).msg).map parseMsg
  let m := sent.getD { parseMsg [] with opcode := 0x0A, ctx := c, seq := (s.ctx c).savedAs.2 }
  let stream := match sent with
    | some m => m.p 0x0C 4 % 4096
    | none => (s.ctx c).savedAs.1
  match (s.ctx c).saved with
  | none => s
  | some w =>
    let r := match s.version w.graph w.version with
      | some v => s.resumeLoad c stream m w w.graph v
      | none => ({ status := stRetired, detail := w.version }, s)
    if (r.2.ctx c).state = .loaded then r.2.meetAt (.start c) else match n with
      | some n => r.2.endWait n r.1
      | none => r.2

/-- The sequence that rank 0 has named begins (R409): running group launches drain, paused ones run on; where there is none of either, saved
ones load. -/
def State.beginSequence (s : State) : State :=
  let on := s.groupCtxs
  let s := s.modGroup fun g => { g with sequence := none }
  if on.isEmpty then s.each s.groupSaved State.loadSequence else
  s.each on fun s c => match (s.ctx c).state with
    | .running => s.askDrain c .pause none
    | .held => s.askDrain c .pause none
    | .paused =>
      ((s.setState c .running).modLaunch c fun l => { l with phase := .whole, resumeAt := some s.tick }).meetAt (.ended c)
    | _ => s

/-- Whether a named sequence waits for the combined vote on its switch (R407): of each launch of the group that runs. -/
def State.switchWaits (s : State) : List (Int × Bool) := match s.group with
  | none => []
  | some g => s.groupCtxs.filterMap fun c => match (s.ctx c).state, s.launch c with
    | .running, some l => waits g l
    | .held, some l => waits g l
    | _, _ => none
where
  /-- The launch tick voted for, and whether this member has cast its vote on it. -/
  waits (g : Group) (l : Launch) : Option (Int × Bool) :=
    let at_ := fun (t : Int) => ({ switch := true, tau := t } : Ballot)
    if g.results.contains (at_ l.tau, true) || g.results.contains (at_ (l.tau + 1), true) then none
    else some (l.tau + 1, g.cast.any fun x => x.1 == at_ (l.tau + 1))

/-- A sequence that falls due at a boundary (R407, R409): it begins once every vote on its switch is ready. -/
def State.sequenceDue (s : State) : State :=
  if !(s.grouped && s.group.any fun g => g.stalls.isEmpty && g.meet.isNone && g.sequence.any fun n => decide (n ≤ s.groupTick)) then s
  else match s.switchWaits with
    | [] => s.beginSequence
    | x :: _ => if x.2 then s.raiseStall x.1 false 3 else s

/-- Whether the first stall has been released for this boundary. -/
def State.stallOver (s : State) : Bool := match s.group with
  | some g => !g.stalls.isEmpty && match g.release with
    | some r => decide (r.1 ≤ s.groupTick)
    | none => false
  | none => false

/-- What a group does at a boundary (R400, R403, R407, R408): a release that falls due, and alignment items every 1,024 group ticks. -/
def State.groupBoundary (s : State) : State := match s.group with
  | none => s
  | some g =>
    let due := g.release.any fun r => decide (r.1 ≤ s.groupTick)
    let s := s.sequenceDue
    let s := if due && !g.stalls.isEmpty then
        (s.modGroup fun g => { g with release := none, stalls := g.stalls.drop 1 }).setFld F.hubGroupStatusStalled 0
          (if g.stalls.length ≤ 1 then 0 else 1)
      else s
    let s := s.setFld F.pwrStatusGroupPower 0 (if s.group.any fun g => g.stalls.any fun x => x.cause == 4 then 1 else 0)
    if s.grouped && s.groupTick % 1024 == 0 then s.sendAlignment g else s

/-- Whether the present wall tick is an alignment tick or a trim tick, in which every launch holds (R400, R402). -/
def State.groupHolds (s : State) : Bool := match s.group with
  | some g => g.alignDue || g.trimAt == some s.groupTick
  | none => false

/-- The stall at which a group launch at launch tick `tau` holds: its cycle. -/
def State.stallAt (s : State) (c : Nat) (tau : Int) : Option Nat := match s.group with
  | some g => if s.isGroup c then match g.stalls with
      | x :: _ => if x.tau = tau then some (if x.late then 48 else 0) else none
      | [] => none
    else none
  | none => none

end Sys2Proof.Machine
end

