-- ==== Sys2Proof/Machine/Power.lean ====
section
/-!
DEFINITION. Power (R443–R467): sleep and wake, leave and its ledger, the ceilings and fallow ticks, monitors; and the SHEAF station's
operations (R202), whose lanes start under leave.
-/
namespace Sys2Proof.Machine

/-! ## Sleep and wake (R20, R449) -/

/-- AWAKE shows which dies have an awake acre (R466). -/
def State.showAwake (s : State) : State :=
  s.each (List.range 8) fun s d => s.setBitOf F.pwrStatusAwake 0 d ((List.range 8).any fun a => s.fld F.pwrAcreStateState (8 * d + a) == 2)

/-- ACRE_WAKE (R449, R450). -/
def execAcreWake (a : AcreId) (s : State) : Out := .next (s.wakeAcre a.ix)

/-- ACRE_AWAKE (R449): after the sixth tick of the wake the acre reads AWAKE. -/
def execAcreAwake (a : AcreId) (s : State) : Out :=
  .next (if s.fld F.pwrAcreStateState a.ix = 1 ∧ s.fld F.pwrAcreStateWakeLeft a.ix = 0 then
    (s.setFld F.pwrAcreStateState a.ix 2).showAwake else s)

/-- A tick of every wake has passed; in the third the die's GDDR 7 leaves self-refresh (R335, R449). -/
def State.wakeTick (s : State) : State :=
  s.each (List.range 64) fun s a =>
    if s.fld F.pwrAcreStateState a = 1 ∧ s.fld F.pwrAcreStateWakeLeft a ≠ 0 then
      let left := s.fld F.pwrAcreStateWakeLeft a - 1
      let s := s.setFld F.pwrAcreStateWakeLeft a left
      if left = 3 then s.setFld F.gddStatusSelfRefresh (a / 8) 0 else s
    else s

/-- Whether a launch that is not paused has a unit in an acre. -/
def State.acreWorks (s : State) (a : Nat) : Bool :=
  s.ctxs.any fun e => (e.2.state == .loaded || e.2.state == .running || e.2.state == .held) &&
    e.2.launch.any fun l => (l.acres (s.blocksOf e.1)).any fun x => x.2.2 % 64 == a

/-- Awake acres without work sleep; the GDDR 7 of a die whose acres all sleep enters self-refresh (R20, R335, R379). -/
def State.sleepTick (s : State) : State :=
  let s := s.each (List.range 64) fun s a =>
    if s.fld F.pwrAcreStateState a = 2 ∧ s.acreWorks a = false then s.setFld F.pwrAcreStateState a 0 else s
  (s.each (List.range 8) fun s d =>
    if (List.range 8).all fun a => s.fld F.pwrAcreStateState (8 * d + a) == 0 then s.setFld F.gddStatusSelfRefresh d 1 else s).showAwake

/-! ## Leave items and caps (R452–R457) -/

/-- LEAVE_REQUEST (R453, R454). -/
def execLeaveRequest (a : AcreId) (item : Word) (s : State) : Out :=
  let w := item.toNat
  .next (if bits w 62 2 ≠ 0 then s else
    s.askLeave a.ix (bits w 53 8) (bits w 41 12) (bits w 17 24) (bits w 61 1 == 1))

/-- LEAVE_RELEASE (R452, R453): an open grant of the unit leaves the ledger. -/
def execLeaveRelease (a : AcreId) (item : Word) (s : State) : Out :=
  let w := item.toNat
  let x := s.acre a.ix
  let mine := x.grants.filter fun (g : Grant) => g.unit == bits w 53 8 && g.ends.isNone
  .next (if bits w 62 2 ≠ 1 then s else
    match (mine.find? fun g => g.lu == bits w 41 12) <|> mine.head? with
    | some g => (s.setAcre a.ix { x with grants := x.grants.erase g }).countLeave a.ix
    | none => s)

/-- QUEUED_LEAVE_GRANT (R456): the head of the queue, once it fits. -/
def execQueuedLeaveGrant (a : AcreId) (s : State) : Out :=
  let s := s.settleLeave a.ix
  .next (match (s.acre a.ix).queue with
  | q :: rest =>
    if s.leaveFits a.ix q.lu then
      let x := s.acre a.ix
      (s.setAcre a.ix { x with queue := rest, waitMax := max x.waitMax (s.now - (q.since + 4)) }).grant a.ix
        { unit := q.unit, lu := q.lu, classE := false, ends := s.grantEnd q.duration }
    else s
  | [] => s)

/-- TIMED_GRANT_EXPIRY (R452). -/
def execTimedGrantExpiry (a : AcreId) (s : State) : Out := .next (s.settleLeave a.ix |>.expireLeave a.ix)

/-- A write of an acre's cap (R457): below the reservations it is refused. -/
def State.capWrite (s : State) (a : Nat) (v : Nat) : State :=
  let s := if bits v 12 1 = 1 then s.setFld F.pwrAcreCapCapRefused a 0 else s
  if min (bits v 0 12) 1920 < s.fld F.pwrAcreStateRes a then s.raise F.pwrAcreCapCapRefused a
  else s.setFld F.pwrAcreCapCap a (min (bits v 0 12) 1920)

/-- ACRE_CAP_WRITE (R457). -/
def execAcreCapWrite (a : AcreId) (v : BitVec 32) (s : State) : Out := .next (s.capWrite a.ix v.toNat)

/-! ## SHEAF operations (R202, R451) -/

/-- Lanes set in a mask. -/
def laneCount (m : Nat) : Nat := ((List.range 4).filter m.testBit).length

/-- Lanes of an engine start. -/
def State.startLanes (s : State) (e mask : Nat) : State :=
  ((s.setEngine e { s.engine e with want := 0 }).setFld F.shfCtrlLaneEn e (s.fld F.shfCtrlLaneEn e ||| mask)).showLanes e

/-- LANE_START (R202, R451): leave of 2 LU per lane is asked; the lanes start with the grant, which booked leave has at once. -/
def execLaneStart (e : EngineId) (mask : BitVec 4) (s : State) : Out :=
  let n := e.ix
  let new := mask.toNat - (mask.toNat &&& s.fld F.shfCtrlLaneEn n)
  .next (match (s.engine n).ctx with
  | some c =>
    if new = 0 ∨ s.movingOn c (n / 8) = false then s else
    let s := s.askLeave (n / 136) (s.unitOf (n / 8) (n % 8)) (2 * laneCount new) 0 (s.bookedLeave c)
    if s.bookedLeave c then s.startLanes n new else s.setEngine n { s.engine n with want := new }
  | none => s)

/-- LEAVE_GRANT (R454): a grant reaches its unit, 8 cycles after the request; the lanes of an engine that waited for it start. -/
def execLeaveGrant (a : AcreId) (item : Word) (s : State) : Out :=
  let w := item.toNat
  let k := s.physStook a.die.val a.acre.val (bits w 57 4)
  let e := 8 * k + bits w 53 4
  .next (if bits w 62 2 ≠ 2 then s else
    s.awaitLeave a.ix (bits w 53 8) fun s =>
      if bits w 53 4 < 8 ∧ (s.engine e).want ≠ 0 ∧ s.hasLeave a.ix (bits w 53 8) (2 * laneCount (s.engine e).want) then
        (s.takeLeave a.ix (bits w 53 8) (2 * laneCount (s.engine e).want)).startLanes e (s.engine e).want
      else s)

/-- LANE_STOP (R202, R451): the lanes stop and their leave is released. -/
def execLaneStop (e : EngineId) (mask : BitVec 4) (s : State) : Out :=
  let n := e.ix
  let a := n / 136
  let left := s.fld F.shfCtrlLaneEn n - (s.fld F.shfCtrlLaneEn n &&& mask.toNat)
  let unit := s.unitOf (n / 8) (n % 8)
  let stopped := 2 * laneCount (s.fld F.shfCtrlLaneEn n &&& mask.toNat)
  .next (if (s.engine n).ctx.isNone then s else
    let s := ((s.setEngine n { s.engine n with want := (s.engine n).want - ((s.engine n).want &&& mask.toNat) }).setFld F.shfCtrlLaneEn n
      left).showLanes n
    if left = 0 then s.dropGrants a unit
    else match (s.acre a).grants.find? fun (g : Grant) => g.unit == unit && g.lu == stopped && g.ends.isNone with
      | some g => (s.setAcre a { s.acre a with grants := (s.acre a).grants.erase g }).countLeave a
      | none => s)

/-- STATE_CAPTURE (R110, R202): lane states of an engine are captured. -/
def execStateCapture (e : EngineId) (mask : BitVec 4) (s : State) : Out :=
  let lanes := ((List.range 4).filter mask.toNat.testBit).map (4 * e.ix + ·)
  .next (if (s.engine e.ix).ctx.isNone then s else
    { s with captured := (s.captured.filter fun x => !lanes.contains x.1) ++ lanes.map fun n => (n, s.saveLane n (s.tau ((s.engine e.ix).ctx.getD 0))) })

/-- STATE_LOAD (R202): lane state is loaded into an engine: what was captured of the lane, or the initial state of its replica. -/
def execStateLoad (e : EngineId) (mask : BitVec 4) (s : State) : Out :=
  let n := e.ix
  .next (match (s.engine n).ctx with
  | none => s
  | some c => match s.launch c, s.versionOf c with
    | some l, some v =>
      s.each ((List.range 4).filter mask.toNat.testBit) fun s k =>
        match s.captured.find? fun x => x.1 == 4 * n + k with
        | some x => s.restoreLane (4 * n + k) x.2 x.2.field
        | none => s.loadLane l v.coeffs n ((s.engine n).pos) k
    | _, _ => s)

/-! ## Ceilings (R458–R463) -/

/-- ENERGY_REPORT (R458): at cycle 900 the energies of the last tick are known. -/
def execEnergyReport (dies : List Nat) (input vin iin : Nat) (s : State) : Out :=
  let e := (List.range 8).map (fun k => (dies[k]?).getD 0) ++ [input]
  .next (s.within 900 1023 fun s =>
    let s := s.each (List.range 9) fun s j => s.wrap F.pwrEnergyEu j ((e[j]?).getD 0)
    ({ s with energies := e }.setFld F.pwrInputVin 0 vin).setFld F.pwrInputIin 0 iin)

/-- Budget of a tick at a power in watts (R458): 15.6032 EU per watt, ties away from zero. -/
def tickBudget (watts : Nat) : Nat := (2 * watts * 156032 + 10000) / 20000

/-- Whole degrees of a die's hottest sensor above T_THROTTLE, and whether it reads above it (R460). -/
def State.overheat (s : State) (t : Int) : Bool × Nat :=
  let d := t - 16 * s.fld F.pwrCfgTThrottle 0
  (decide (0 < d), d.toNat / 16)

/-- Budget of a field die (R459, R460). -/
def State.dieBudget (s : State) (t : Int) : Nat :=
  let o := s.overheat t
  if o.1 then 7490 * max 4 (16 - o.2) / 16 else 7490

/-- BURST_TICKS, whose 0 reads as 1 (R466). -/
def State.burst (s : State) : Nat := max 1 (s.fld F.pwrCfgBurstTicks 0)

/-- A bucket after a decision (R459). -/
def State.bucket (s : State) (j u : Nat) : Int :=
  min (s.sfld F.pwrBucketBucket j + u - (s.energies[j]?).getD 0) (s.burst * u)

/-- Group launches that run, and the dies that carry one. -/
def State.groupRuns (s : State) : List Nat := s.groupCtxs.filter s.runningCtxs.contains

def State.groupDies (s : State) : List Nat :=
  (s.groupRuns.flatMap fun c => match s.launch c with
    | some l => l.homes
    | none => []).eraseDups

/-- POWER_MANAGER_DECISION (R459–R462): buckets, the fallow mask of the next tick, and a power stall for a group launch. -/
def execPowerManagerDecision (temps : List Int) (s : State) : Out :=
  .next (s.within 960 991 fun s =>
    let t := fun k => (temps[k]?).getD 0
    let new := (List.range 8).map (fun k => s.bucket k (s.dieBudget (t k))) ++ [s.bucket 8 (tickBudget (s.fld F.pwrCeilingWatts 0))]
    let s := s.each (List.range 9) fun s j => s.setFld F.pwrBucketBucket j (unsign 32 ((new[j]?).getD 0))
    let s := s.each (List.range 8) fun s k => (s.setBitOf F.pwrStatusThermal 0 k (s.overheat (t k)).1).setBitOf F.pwrStatusDieLimit 0 k
      (decide ((new[k]?).getD 0 < 0))
    let spent := decide ((new[8]?).getD 0 < 0)
    let s := (s.setFld F.pwrStatusModuleLimit 0 (if spent then 1 else 0)).showAwake
    let wants := (List.range 8).filter fun k => decide ((new[k]?).getD 0 < 0) || (spent && (s.fld F.pwrStatusAwake 0).testBit k)
    let shared := wants.filter s.groupDies.contains
    let mask := (wants.filter fun k => !shared.contains k).foldl (fun m k => m + 2 ^ k) 0
    let s := { s with temps := (List.range 8).map t }.setFld F.pwrStatusFallowNext 0 mask
    let still := fun (g : Group) => g.powerDies.filter fun k => decide ((new[k]?).getD 0 < 0)
    let s := s.modGroup fun g => { g with powerDies := still g ++ (shared.filter fun k => !(still g).contains k) }
    let calm := fun (g : Group) => g.stalls.map fun (x : Stall) => if x.cause = 4 ∧ g.powerDies.isEmpty then { x with mine := false } else x
    let s := s.modGroup fun g => { g with stalls := calm g }
    let mine := s.groupRuns.filter fun c => (s.launch c).any fun l => l.homes.any shared.contains
    if mine.isEmpty then s else (s.each mine fun s c => s.raiseStall (s.tau c + 2) false 4).setFld F.pwrStatusGroupPower 0 1)

/-- The ceiling that a write sets: the value, or the nearer bound (R463). -/
def ceilingOf (v : Nat) : Nat := max 2000 (min 5600 (bits v 0 13))

/-- A write of PWR_CEILING (R459, R463). -/
def State.ceilingWrite (s : State) (v : Nat) : State :=
  s.each (List.range 9) (fun s j => s.setFld F.pwrBucketBucket j 0) |>.setFld F.pwrCeilingWatts 0 (ceilingOf v)

/-- PWR_CEILING_WRITE (R463). -/
def execPwrCeilingWrite (v : BitVec 32) (s : State) : Out := .next (s.ceilingWrite v.toNat)

/-- THERMAL_TRIP (R460, R526): the die is isolated with DIE_FATAL and lost. -/
def execThermalTrip (d : Die) (s : State) : Out :=
  .next (if s.dieLost d.val then s else (s.logLoss 0x14 5 true d.val 0 0 (s.onDie d.val).head? 0).loseDie d.val)

/-- REFERENCE_LOSS (R446). -/
def execReferenceLoss (s : State) : Out := .next { s.raise F.pwrStatusRefLost 0 with refValid := false }

/-! ## Monitors (R464, R465) -/

/-- A monitor point cleared. -/
def State.clearPoint (s : State) (i : Nat) : State :=
  s.each (List.range 16) (fun s b => s.setReg .monHist (16 * i + b) 0) |>.setReg .monCur i 0 |>.setReg .monMinmax i Reg.monMinmax.reset |>.setReg
    .monCount i 0

/-- CLR_ALL (R467). -/
def State.clearPoints (s : State) : State := s.each (List.range 512) State.clearPoint

/-- CLR_ALL (R467). -/
def execClrAll (s : State) : Out := .next s.clearPoints

/-- A write of MON_SEL (R464). -/
def State.monSel (s : State) (i : Nat) (v : Word) : State :=
  let was := (s.fld F.monSelSource i, s.fld F.monSelIndex i)
  let s := s.setReg .monSel i (Reg.written .monSel (s.reg .monSel i) v)
  if (s.fld F.monSelSource i, s.fld F.monSelIndex i) ≠ was then s.clearPoint i else s

/-- MON_SEL_WRITE (R464). -/
def execMonSelWrite (i : Fin 512) (v : Word) (s : State) : Out := .next (s.monSel i.val v)

/-- Sources whose unit lies in an acre (R465). -/
def acreSource (src : Nat) : Bool := [0x01, 0x02, 0x20, 0x21, 0x22, 0x40, 0x41].contains src

/-- The value of a source for the tick just ended (R465); none for OFF and reserved codes. What no unit of the state gives is measured. -/
def State.sourceValue (s : State) (point src index : Nat) : Option Int :=
  let d := point / 64
  let a := 8 * d + bits index 13 3
  let k := a * 17 + bits index 8 5
  let sub := bits index 0 8
  if src = 0x01 then some (((List.range 2).map fun b =>
      if s.fld (queueState b) (queueIx k sub) = qFilling then 0 else s.queueWords k sub b).sum : Nat)
  else if src = 0x02 then some (s.packets k sub)
  else if src = 0x20 then some (s.acre a).waitMax
  else if src = 0x21 then some (s.fld F.pwrAcreStateHeld a)
  else if src = 0x22 then some (s.fld F.pwrAcreStateQueue a)
  else if src = 0x32 ∧ sub = 16 then some ((s.temps[d]?).getD 0)
  else if src = 0x40 then some (s.engine (8 * k + sub % 8)).accept
  else if src = 0x41 then some (((List.range 136).map fun e => (s.engine (136 * a + e)).accept).sum : Nat)
  else if src = 0x50 then some ((s.energies[d]?).getD 0 : Nat)
  else if src = 0x51 then some (if s.fallow.testBit d then 1 else 0)
  else if [0x10, 0x11, 0x12, 0x30, 0x31, 0x32].contains src then some (Config.sensor point s.tick)
  else none

/-- One sample into a point (R464). -/
def State.sampleInto (s : State) (i : Nat) (v : Int) : State :=
  let s := s.setFld F.monCurValue i (unsign 32 v)
  let s := if v < s.sfld F.monMinmaxMin i then s.setFld F.monMinmaxMin i (unsign 32 v) else s
  let s := if s.sfld F.monMinmaxMax i < v then s.setFld F.monMinmaxMax i (unsign 32 v) else s
  let s := s.bump F.monCountSamples i 1
  let bin := (clampInt 0 15 ((v - s.sfld F.monSelLo i) / (2 ^ s.fld F.monSelShift i : Nat))).toNat
  s.bump F.monHistCount (16 * i + bin) 1

/-- Whether a source is sampled in this tick (R464): the always-on domain samples rails and temperatures every 25 pilot cycles, 1,050 cycles (log
47). -/
def State.sampleDue (s : State) (src : Nat) : Bool :=
  !(src == 0x30 || src == 0x31 || src == 0x32) || s.tick * 1024 / 1050 != (s.tick + 1) * 1024 / 1050

/-- Every enabled point takes its sample of the tick just ended (R464). -/
def State.samplePoints (s : State) : State :=
  if s.flag F.monCtrlFreeze 0 then s else
  s.each (List.range 512) fun s i =>
    if !s.flag F.monSelEn i then s else
    let src := s.fld F.monSelSource i
    let acre := 8 * (i / 64) + bits (s.fld F.monSelIndex i) 13 3
    if (acreSource src && s.fld F.pwrAcreStateState acre == 0) || !s.sampleDue src then s else
    match s.sourceValue i src (s.fld F.monSelIndex i) with
    | some v => s.sampleInto i v
    | none => s

end Sys2Proof.Machine
end

