-- ==== Sys2Proof/Machine/Operands.lean ====
section
/-!
DEFINITION. Operand forms of the gleaner instructions (R239, R245, R248, R249, R259): general registers with their poison and their
latency, immediates, effective addresses, page addresses, and the program counter.
-/
namespace Sys2Proof.Machine

/-! ## General registers (R239) -/

/-- Value of a general register of a core: g0 reads as zero. -/
def State.g (s : State) (n : Nat) (r : GReg) : Word := if r = 0 then 0 else sget 0 (s.core n).g r.val

/-- Poison bit of a general register (R259). -/
def State.gp (s : State) (n : Nat) (r : GReg) : Bool := r != 0 && (s.core n).poison.getLsbD r.val

/-- Any register of a list carries its poison bit. -/
def State.anyPoison (s : State) (n : Nat) (l : List GReg) : Bool := l.any (s.gp n)

/-- A result on its way to a general register: the register holds it from now on, may be read at its latency (R240, R241), and what it
held before is kept for a fault (R260). Writes to g0 are discarded (R239). DESIGN CHOICE (log 149): a result for a register that still has one in
flight takes its place at its own latency; R241 waits for sources alone. -/
def State.setG (s : State) (n c : Nat) (r : GReg) (v : Word) (p : Bool) (lat : Nat) : State :=
  if r = 0 then s else
  let x := s.core n
  let now := s.logical c
  let old := if now < sget 0 x.ready r.val then sget (0, false) x.before r.val else (s.g n r, s.gp n r)
  s.setCore n { x with
    g := sput 0 x.g r.val v
    poison := setBit32 x.poison r.val p
    ready := sput 0 x.ready r.val (now + lat)
    before := sput (0, false) x.before r.val old }

/-- The group of four registers that QRD and QWR name: g4, g8 … g28 (R248). -/
def groupOk (r : GReg) : Bool := r.val % 4 == 0 && r != 0

/-- Register `k` of a group. -/
def groupReg (r : GReg) (k : Nat) : GReg := Fin.ofNat 32 (r.val + k)

/-! ## Immediates and addresses (R245) -/

/-- A sign-extended immediate. -/
def immS (v : BitVec 16) : Word := v.signExtend 64
/-- A zero-extended immediate. -/
def immZ (v : BitVec 16) : Word := v.setWidth 64
/-- Shift amount of a register or immediate operand: bits [5:0]. -/
def shiftOf (v : Nat) : Nat := v % 64

/-- Effective address of class M: base plus signed byte offset. -/
def State.effective (s : State) (n : Nat) (ra : GReg) (off : BitVec 16) : Nat := (s.g n ra + immS off).toNat

/-- Instruction index of a branch or jump target; 14 bits (log 62). -/
def target (pc : Nat) (off : Int) : Nat := unsign 14 (pc + off)

/-! ## Page addresses (R249) -/

/-- Rows and unit that a page address of a core of stook `k` selects, or none for a reserved page. -/
def pageOf (k p : Nat) : Option (List RegRow × Nat) :=
  if p < 8 then some (rowsShf, 8 * k + p)
  else if p = 8 then some (rowsHrw, k)
  else if p = 9 then some (rowsStk, k)
  else if p = 10 then some (rowsAcr, k / 17)
  else none

/-! ## The program counter -/

/-- Instruction index of the next instruction to issue (R262). -/
def State.pc (s : State) (n : Nat) : Nat := s.fld F.stkCoreStatusPc n

/-- The instruction has issued: the next one is at `pc`, no sooner than `cost` cycles from now. -/
def State.next (s : State) (n c pc cost : Nat) : State :=
  (s.setCore n { s.core n with free := s.logical c + cost }).setFld F.stkCoreStatusPc n pc

/-- The instruction has issued and the one after it is next (R241). -/
def State.advance (s : State) (n c : Nat) : State := s.next n c (s.pc n + 1) 1

end Sys2Proof.Machine
end

