-- ==== Sys2Proof/Machine/Gleaner.lean ====
section
/-!
DEFINITION. The gleaner cores (R238–R262): issue, faults, and the instructions of R246. An instruction issues at the first cycle that
R241 allows; where that lies beyond the present wall tick, or a hold stops the launch before it, the core waits and the command has to
come again.
-/
namespace Sys2Proof.Machine

/-! ## Faults (R260) -/

def causeIllegal : Nat := 1
def causeAlign : Nat := 2
def causeVtrap : Nat := 3
def causePoison : Nat := 4

/-- The running entry of a core: its stream, SEQ, address and start. -/
def State.gleanEntry (s : State) (k : CoreId) : Option (Entry × Running) :=
  ((s.stook k.st.ix).running.find? fun r => r.station == 5 && r.unit % 4 == k.core.val).map fun r => (s.entry k.st.ix r.addr, r)

/-- The capture record of a core (R438, R439). No fault log entry goes with it, so its LOG_SEQ is a free value. -/
def State.captureCore (s : State) (k : CoreId) (c : Nat) : State :=
  let n := k.ix
  let st := (s.core n).ident / 64
  let sections := [sectionOf 6 k.st.ix (8 + k.core.val) k.core.val st (s.coreBody n), sectionOf 4 k.st.ix 15 0 st (s.pageBytes rowsStk k.st.ix 0 4096)]
  let d := s.draw
  match s.gleanEntry k with
  | some (x, r) => d.2.captureRecord k.st.die.val 3 d.1 (some c) x.stream x.seq (k.st.ix * 2 ^ 23 + r.addr) (r.began / 1024) (r.began % 1024).toNat
      sections
  | none => d.2.captureRecord k.st.die.val 3 d.1 (some c) 0 0 0 0 0 sections

/-- A core faults: it stops, records cause and instruction index, and what its launch becomes follows R260. -/
def State.coreFault (s : State) (k : CoreId) (c cause : Nat) : State :=
  let s := s.stopCore k.ix c cause
  if cause = causeIllegal ∨ cause = causeAlign then (s.captureCore k c).faultStream c stQuarantined
  else if cause = causeVtrap then
    let s := match (s.launch c).bind (·.replay) with
      | some r => s.setCtx c { s.ctx c with report := replayReport r }
      | none => s
    s.faultStream c stLevel
  else if cause = causePoison then (s.report 0x05 k.st.ix (8 + k.core.val) 0 0 (some c)).faultStream c stPoisoned
  else s.report 0x06 k.st.ix (8 + k.core.val) 0 0 (some c)

/-! ## Issue (R241, R244) -/

/-- First logical cycle at which an instruction with these sources may issue. -/
def State.issueAt (s : State) (n c : Nat) (srcs : List GReg) (divides : Bool) : Int :=
  let x := s.core n
  let t := srcs.foldl (fun (t : Int) r => max t (sget 0 x.ready r.val)) (max (s.logical c) x.free)
  if divides then max t x.divFree else t

/-- Whether a core or a tile of a stook issues at the present cycle for all that its launch decides: no hold and no drain stops it (R170, R244),
and its die does not hold for the rest of a fold frame (R273). -/
def State.issues (s : State) (c stook : Nat) : Bool := s.movingOn c stook && (s.launch c).all fun l => !l.windowOnly

/-- Whether a core runs and waits for nothing but an operand. -/
def State.ready (s : State) (n : Nat) : Bool :=
  s.fld F.stkCoreStatusState n == 1 || (s.fld F.stkCoreStatusState n == 2 && (s.core n).wait == .none)

/-- An instruction of a core issues: at its cycle `f` does its work. An uncorrectable word of instruction memory faults (R260), and a
reserved word at the PC is ILLEGAL whatever instruction the command carries (R246, R260). -/
def State.issue (s : State) (k : CoreId) (srcs : List GReg) (divides : Bool) (f : Nat → State → State) : State :=
  let n := k.ix
  match (s.core n).ctx with
  | none => s
  | some c =>
    let cyc := s.issueAt n c srcs divides - s.tau c * 1024
    let s' := s.upTo cyc.toNat
    if !s.ready n || !s.issues c k.st.ix then s
    else if 1024 ≤ cyc ∨ !s'.issues c k.st.ix then s.setFld F.stkCoreStatusState n 2
    else
      let s := s'.setFld F.stkCoreStatusState n 1
      let word := imemAt n (s.pc n)
      if s.poisoned word 4 then s.coreFault k c causeImem
      else if (gleanDecode k (BitVec.ofNat 32 (s.rdNat word 4))).isNone then s.coreFault k c causeIllegal
      else f c s

/-- An instruction whose registers must not be poisoned (R259). -/
def State.issueClean (s : State) (k : CoreId) (srcs clean : List GReg) (f : Nat → State → State) : State :=
  s.issue k srcs false fun c s => if s.anyPoison k.ix clean then s.coreFault k c causePoison else f c s

/-! ## Arithmetic (R246, R247) -/

/-- An arithmetic instruction: one result, poisoned when an operand is (R259). -/
def State.alu (s : State) (k : CoreId) (rd : GReg) (srcs : List GReg) (lat : Nat) (v : State → Word) : State :=
  s.issue k srcs false fun c s => (s.setG k.ix c rd (v s) (s.anyPoison k.ix srcs) lat).advance k.ix c

/-- An arithmetic instruction of two registers. -/
def State.alu2 (s : State) (k : CoreId) (rd ra rb : GReg) (lat : Nat) (f : Word → Word → Word) : State :=
  s.alu k rd [ra, rb] lat fun s => f (s.g k.ix ra) (s.g k.ix rb)

/-- An arithmetic instruction of one register. -/
def State.alu1 (s : State) (k : CoreId) (rd ra : GReg) (f : Word → Word) : State := s.alu k rd [ra] 1 fun s => f (s.g k.ix ra)

/-- A divide: 34 cycles on the unpipelined divider (R247). -/
def State.divide (s : State) (k : CoreId) (rd ra rb : GReg) (f : Word → Word → Word) : State :=
  s.issue k [ra, rb] true fun c s =>
    let s := s.setG k.ix c rd (f (s.g k.ix ra) (s.g k.ix rb)) (s.anyPoison k.ix [ra, rb]) 34
    (s.setCore k.ix { s.core k.ix with divFree := s.logical c + 34 }).advance k.ix c

/-- A truth value as a register value. -/
def wordOf (b : Bool) : Word := if b then 1 else 0

/-- Number of 1 bits. -/
def popCount (v : Word) : Word := BitVec.ofNat 64 ((List.range 64).filter fun k => v.getLsbD k).length

/-- Leading zeros; 64 for zero. -/
def leadingZeros (v : Word) : Word :=
  BitVec.ofNat 64 (match ((List.range 64).reverse).find? fun k => v.getLsbD k with
  | some k => 63 - k
  | none => 64)

/-- Quotient rounded toward zero; all ones for a divisor of zero (R247). -/
def quotS (a b : Word) : Word := if b = 0 then BitVec.allOnes 64 else BitVec.ofInt 64 (a.toInt.tdiv b.toInt)
/-- Unsigned quotient. -/
def quotU (a b : Word) : Word := if b = 0 then BitVec.allOnes 64 else BitVec.ofNat 64 (a.toNat / b.toNat)
/-- Remainder with the sign of the dividend; the dividend for a divisor of zero (R247). -/
def remS (a b : Word) : Word := if b = 0 then a else BitVec.ofInt 64 (a.toInt.tmod b.toInt)
/-- Unsigned remainder. -/
def remU (a b : Word) : Word := if b = 0 then a else BitVec.ofNat 64 (a.toNat % b.toNat)

def execAdd (k : CoreId) (rd ra rb : GReg) (s : State) : Out := .next (s.alu2 k rd ra rb 1 fun a b => a + b)
def execSub (k : CoreId) (rd ra rb : GReg) (s : State) : Out := .next (s.alu2 k rd ra rb 1 fun a b => a - b)
def execAnd (k : CoreId) (rd ra rb : GReg) (s : State) : Out := .next (s.alu2 k rd ra rb 1 fun a b => a &&& b)
def execOr (k : CoreId) (rd ra rb : GReg) (s : State) : Out := .next (s.alu2 k rd ra rb 1 fun a b => a ||| b)
def execXor (k : CoreId) (rd ra rb : GReg) (s : State) : Out := .next (s.alu2 k rd ra rb 1 fun a b => a ^^^ b)
def execShl (k : CoreId) (rd ra rb : GReg) (s : State) : Out := .next (s.alu2 k rd ra rb 1 fun a b => a <<< shiftOf b.toNat)
def execShr (k : CoreId) (rd ra rb : GReg) (s : State) : Out := .next (s.alu2 k rd ra rb 1 fun a b => a >>> shiftOf b.toNat)
def execSar (k : CoreId) (rd ra rb : GReg) (s : State) : Out := .next (s.alu2 k rd ra rb 1 fun a b => a.sshiftRight (shiftOf b.toNat))
def execSlt (k : CoreId) (rd ra rb : GReg) (s : State) : Out := .next (s.alu2 k rd ra rb 1 fun a b => wordOf (a.slt b))
def execSltu (k : CoreId) (rd ra rb : GReg) (s : State) : Out := .next (s.alu2 k rd ra rb 1 fun a b => wordOf (a.ult b))
def execMin (k : CoreId) (rd ra rb : GReg) (s : State) : Out := .next (s.alu2 k rd ra rb 1 fun a b => if a.slt b then a else b)
def execMax (k : CoreId) (rd ra rb : GReg) (s : State) : Out := .next (s.alu2 k rd ra rb 1 fun a b => if a.slt b then b else a)
def execPopc (k : CoreId) (rd ra : GReg) (s : State) : Out := .next (s.alu1 k rd ra popCount)
def execClz (k : CoreId) (rd ra : GReg) (s : State) : Out := .next (s.alu1 k rd ra leadingZeros)
def execMul (k : CoreId) (rd ra rb : GReg) (s : State) : Out := .next (s.alu2 k rd ra rb 3 fun a b => a * b)
def execMulh (k : CoreId) (rd ra rb : GReg) (s : State) : Out :=
  .next (s.alu2 k rd ra rb 3 fun a b => BitVec.ofInt 64 (a.toInt * b.toInt / (2 ^ 64 : Nat)))
def execMulhu (k : CoreId) (rd ra rb : GReg) (s : State) : Out :=
  .next (s.alu2 k rd ra rb 3 fun a b => BitVec.ofNat 64 (a.toNat * b.toNat / 2 ^ 64))
def execDiv (k : CoreId) (rd ra rb : GReg) (s : State) : Out := .next (s.divide k rd ra rb quotS)
def execDivu (k : CoreId) (rd ra rb : GReg) (s : State) : Out := .next (s.divide k rd ra rb quotU)
def execRem (k : CoreId) (rd ra rb : GReg) (s : State) : Out := .next (s.divide k rd ra rb remS)
def execRemu (k : CoreId) (rd ra rb : GReg) (s : State) : Out := .next (s.divide k rd ra rb remU)

def execAddi (k : CoreId) (rd ra : GReg) (imm : BitVec 16) (s : State) : Out := .next (s.alu1 k rd ra fun a => a + immS imm)
def execAndi (k : CoreId) (rd ra : GReg) (imm : BitVec 16) (s : State) : Out := .next (s.alu1 k rd ra fun a => a &&& immZ imm)
def execOri (k : CoreId) (rd ra : GReg) (imm : BitVec 16) (s : State) : Out := .next (s.alu1 k rd ra fun a => a ||| immZ imm)
def execXori (k : CoreId) (rd ra : GReg) (imm : BitVec 16) (s : State) : Out := .next (s.alu1 k rd ra fun a => a ^^^ immZ imm)
def execSlti (k : CoreId) (rd ra : GReg) (imm : BitVec 16) (s : State) : Out := .next (s.alu1 k rd ra fun a => wordOf (a.slt (immS imm)))
def execSltiu (k : CoreId) (rd ra : GReg) (imm : BitVec 16) (s : State) : Out := .next (s.alu1 k rd ra fun a => wordOf (a.ult (immS imm)))
def execShli (k : CoreId) (rd ra : GReg) (imm : BitVec 16) (s : State) : Out := .next (s.alu1 k rd ra fun a => a <<< shiftOf imm.toNat)
def execShri (k : CoreId) (rd ra : GReg) (imm : BitVec 16) (s : State) : Out := .next (s.alu1 k rd ra fun a => a >>> shiftOf imm.toNat)
def execSari (k : CoreId) (rd ra : GReg) (imm : BitVec 16) (s : State) : Out :=
  .next (s.alu1 k rd ra fun a => a.sshiftRight (shiftOf imm.toNat))

/-- MOVK (R246): one half-word of rd; the other bits are kept, so rd is also an operand. -/
def execMovk (k : CoreId) (rd : GReg) (hw : Fin 4) (imm : BitVec 16) (s : State) : Out :=
  .next (s.alu1 k rd rd fun a => BitVec.ofNat 64 (putBits a.toNat (16 * hw.val) 16 imm.toNat))

/-! ## Branches and jumps -/

/-- A branch: 1 cycle when not taken, 3 when taken (R246). -/
def State.branch (s : State) (k : CoreId) (ra rb : GReg) (off : BitVec 16) (p : Word → Word → Bool) : State :=
  s.issueClean k [ra, rb] [ra, rb] fun c s =>
    if p (s.g k.ix ra) (s.g k.ix rb) then s.next k.ix c (target (s.pc k.ix) off.toInt) 3 else s.advance k.ix c

def execBeq (k : CoreId) (ra rb : GReg) (off : BitVec 16) (s : State) : Out := .next (s.branch k ra rb off fun a b => a == b)
def execBne (k : CoreId) (ra rb : GReg) (off : BitVec 16) (s : State) : Out := .next (s.branch k ra rb off fun a b => a != b)
def execBlt (k : CoreId) (ra rb : GReg) (off : BitVec 16) (s : State) : Out := .next (s.branch k ra rb off fun a b => a.slt b)
def execBge (k : CoreId) (ra rb : GReg) (off : BitVec 16) (s : State) : Out := .next (s.branch k ra rb off fun a b => !a.slt b)
def execBltu (k : CoreId) (ra rb : GReg) (off : BitVec 16) (s : State) : Out := .next (s.branch k ra rb off fun a b => a.ult b)
def execBgeu (k : CoreId) (ra rb : GReg) (off : BitVec 16) (s : State) : Out := .next (s.branch k ra rb off fun a b => !a.ult b)

def execJr (k : CoreId) (ra : GReg) (s : State) : Out :=
  .next (s.issueClean k [ra] [ra] fun c s => s.next k.ix c ((s.g k.ix ra).toNat % 2 ^ 14) 3)

def execJ (k : CoreId) (off : BitVec 26) (s : State) : Out :=
  .next (s.issue k [] false fun c s => s.next k.ix c (target (s.pc k.ix) off.toInt) 3)

/-- JAL writes index + 1 to g31 (R239, R246). -/
def execJal (k : CoreId) (off : BitVec 26) (s : State) : Out :=
  .next (s.issue k [] false fun c s =>
    (s.setG k.ix c 31 (BitVec.ofNat 64 (s.pc k.ix + 1)) false 1).next k.ix c (target (s.pc k.ix) off.toInt) 3)

/-! ## Data memory -/

/-- Whether an access of `n` bytes is aligned and lies within a space (R260 ALIGN). -/
def accessOk (a n size : Nat) : Bool := a % n == 0 && decide (a + n ≤ size)

/-- A load (R240, R246, R259): zero-extended, two cycles. -/
def State.load (s : State) (k : CoreId) (rd ra : GReg) (off : BitVec 16) (n : Nat) : State :=
  s.issueClean k [ra] [ra] fun c s =>
    let a := s.effective k.ix ra off
    if !accessOk a n 65536 then s.coreFault k c causeAlign
    else (s.setG k.ix c rd (BitVec.ofNat 64 (s.rdNat (dmemAt k.ix a) n)) (s.poisoned (dmemAt k.ix a) n) 2).advance k.ix c

/-- A store (R246, R259): a poisoned register marks the memory word. -/
def State.storeD (s : State) (k : CoreId) (rd ra : GReg) (off : BitVec 16) (n : Nat) : State :=
  s.issueClean k [rd, ra] [ra] fun c s =>
    let a := s.effective k.ix ra off
    if !accessOk a n 65536 then s.coreFault k c causeAlign
    else (s.store (dmemAt k.ix a) (leBytes n (s.g k.ix rd).toNat) (s.gp k.ix rd)).advance k.ix c

def execLdb (k : CoreId) (rd ra : GReg) (off : BitVec 16) (s : State) : Out := .next (s.load k rd ra off 1)
def execLdh (k : CoreId) (rd ra : GReg) (off : BitVec 16) (s : State) : Out := .next (s.load k rd ra off 2)
def execLdw (k : CoreId) (rd ra : GReg) (off : BitVec 16) (s : State) : Out := .next (s.load k rd ra off 4)
def execLdd (k : CoreId) (rd ra : GReg) (off : BitVec 16) (s : State) : Out := .next (s.load k rd ra off 8)
def execStb (k : CoreId) (rd ra : GReg) (off : BitVec 16) (s : State) : Out := .next (s.storeD k rd ra off 1)
def execSth (k : CoreId) (rd ra : GReg) (off : BitVec 16) (s : State) : Out := .next (s.storeD k rd ra off 2)
def execStw (k : CoreId) (rd ra : GReg) (off : BitVec 16) (s : State) : Out := .next (s.storeD k rd ra off 4)
def execStd (k : CoreId) (rd ra : GReg) (off : BitVec 16) (s : State) : Out := .next (s.storeD k rd ra off 8)

/-! ## The crib port (R205, R206, R242) -/

/-- Whether a crib operation issues at a bank cycle booked for the core; a bounded-mode launch books none (R242). -/
def State.booked (s : State) (n c bank : Nat) : Bool := match s.launch c with
  | some l => l.sched.bounded || l.sched.coreBooks.contains ((s.core n).ident, l.tau, s.cyc, bank)
  | none => false

/-- Latency of a crib operation (R240): 4 cycles in scheduled mode; a free value of 4–11 in bounded mode, or of 4–83 at a delta bank
of a running engine. -/
def State.cribLatency (s : State) (k : CoreId) (c bank : Nat) : Nat × State :=
  if (s.launch c).all (fun l => !l.sched.bounded) then (4, s)
  else
    let d := s.draw
    (4 + d.1 % (if s.isDeltaBank k.st.ix bank then 80 else 8), d.2)

/-- A crib operation at an address: ALIGN, then BOOK_MISS, which drops it (R242), or the operation. -/
def State.cribOp (s : State) (k : CoreId) (c a n : Nat) (drop : State → State) (f : State → State) : State :=
  if !accessOk a n (2 ^ 23) then s.coreFault k c causeAlign
  else if s.booked k.ix c (bankOf a) then (f s).advance k.ix c
  else (drop (s.raise F.stkCoreStatusBookMiss k.ix)).advance k.ix c

/-- The result of a crib read or atomic on its way to a register. -/
def State.cribResult (r : (List Byte × Bool) × State) (k : CoreId) (c bank : Nat) (rd : GReg) : State :=
  let lat := r.2.cribLatency k c bank
  lat.2.setG k.ix c rd (BitVec.ofNat 64 (leNat r.1.1)) r.1.2 lat.1

/-- A dropped read or atomic returns zero with the poison tag (R242). -/
def State.dropRead (s : State) (k : CoreId) (c : Nat) (rd : GReg) : State := s.setG k.ix c rd 0 true 4

/-- A crib read. -/
def State.cribLoad (s : State) (k : CoreId) (rd ra : GReg) (off : BitVec 16) (n : Nat) : State :=
  s.issueClean k [ra] [ra] fun c s =>
    let a := s.effective k.ix ra off
    s.cribOp k c a n (·.dropRead k c rd) fun s => State.cribResult (s.bankRead k.st.ix a n (asUnit c)) k c (bankOf a) rd

/-- A crib write. -/
def State.cribStore (s : State) (k : CoreId) (rd ra : GReg) (off : BitVec 16) (n : Nat) : State :=
  s.issueClean k [rd, ra] [ra] fun c s =>
    let a := s.effective k.ix ra off
    s.cribOp k c a n id fun s =>
      s.bankWrite k.st.ix a (asUnit c) ((leBytes n (s.g k.ix rd).toNat).map some) (s.gp k.ix rd)

/-- A crib atomic on a word of `n` bytes (R206): `f` of the old word and the operand; rd takes the old word. -/
def State.cribAtomic (s : State) (k : CoreId) (rd ra rb : GReg) (n : Nat) (f : Nat → Nat → Nat) (mix : Bool) : State :=
  s.issueClean k [ra, rb] [ra] fun c s =>
    let a := (s.g k.ix ra).toNat
    s.cribOp k c a n (·.dropRead k c rd) fun s =>
      State.cribResult (s.bankAtomic k.st.ix a n (asUnit c) (fun old => f old (s.g k.ix rb).toNat % 2 ^ (8 * n)) mix (s.gp k.ix rb)) k c
        (bankOf a) rd

def execCldw (k : CoreId) (rd ra : GReg) (off : BitVec 16) (s : State) : Out := .next (s.cribLoad k rd ra off 4)
def execCldd (k : CoreId) (rd ra : GReg) (off : BitVec 16) (s : State) : Out := .next (s.cribLoad k rd ra off 8)
def execCstw (k : CoreId) (rd ra : GReg) (off : BitVec 16) (s : State) : Out := .next (s.cribStore k rd ra off 4)
def execCstd (k : CoreId) (rd ra : GReg) (off : BitVec 16) (s : State) : Out := .next (s.cribStore k rd ra off 8)
def execCadd16 (k : CoreId) (rd ra rb : GReg) (s : State) : Out := .next (s.cribAtomic k rd ra rb 2 (fun old v => old + v) true)
def execCadd32 (k : CoreId) (rd ra rb : GReg) (s : State) : Out := .next (s.cribAtomic k rd ra rb 4 (fun old v => old + v) true)
def execCswapw (k : CoreId) (rd ra rb : GReg) (s : State) : Out := .next (s.cribAtomic k rd ra rb 4 (fun _ v => v) false)
def execCswapd (k : CoreId) (rd ra rb : GReg) (s : State) : Out := .next (s.cribAtomic k rd ra rb 8 (fun _ v => v) false)

/-! ## Logical time and identity -/

def execTick (k : CoreId) (rd : GReg) (s : State) : Out :=
  .next (s.issue k [] false fun c s => (s.setG k.ix c rd (BitVec.ofInt 64 (s.tau c)) false 1).advance k.ix c)

def execCyc (k : CoreId) (rd : GReg) (s : State) : Out :=
  .next (s.issue k [] false fun c s => (s.setG k.ix c rd (BitVec.ofNat 64 s.cyc) false 1).advance k.ix c)

def execCore (k : CoreId) (rd : GReg) (s : State) : Out :=
  .next (s.issue k [] false fun c s => (s.setG k.ix c rd (BitVec.ofNat 64 (s.core k.ix).ident) false 1).advance k.ix c)

/-- A core that waits: STATE WAIT, and the condition. -/
def State.holdCore (s : State) (n : Nat) (w : Wait) : State :=
  (s.setCore n { s.core n with wait := w }).setFld F.stkCoreStatusState n 2

/-- The next issue no sooner than a logical cycle. -/
def State.waitUntil (s : State) (n : Nat) (t : Int) (w : Wait) : State :=
  (s.setCore n { s.core n with free := max (s.core n).free t }).holdCore n w

/-- WAITC (R246): the next cycle whose cycle-in-tick is ra[9:0]. -/
def execWaitc (k : CoreId) (ra : GReg) (s : State) : Out :=
  .next (s.issue k [ra] false fun c s =>
    let r := (s.g k.ix ra).toNat % 1024
    let t := s.logical c + 1
    (s.advance k.ix c).waitUntil k.ix (t + (r - t) % 1024) (.cycle r))

/-- WAITT (R246): cycle 0 of launch tick ra, or at once when it has passed. -/
def execWaitt (k : CoreId) (ra : GReg) (s : State) : Out :=
  .next (s.issue k [ra] false fun c s =>
    let t := (s.g k.ix ra).toInt
    let s := s.advance k.ix c
    if t * 1024 ≤ (s.core k.ix).free then s else s.waitUntil k.ix (t * 1024) (.tick t))

/-! ## Queues (R248) -/

/-- QRD (R248, R225). A core that stalled on the bank has its first word 2 cycles after READY. -/
def execQrd (k : CoreId) (rd ra : GReg) (s : State) : Out :=
  .next (s.issueClean k [ra] [ra] fun c s =>
    let q := (s.g k.ix ra).toNat % 32
    let i := queueIx k.st.ix q
    if !groupOk rd then s.coreFault k c causeIllegal
    else if !s.flag F.stkQueueCfgEn i || !s.queueHas k.st.ix q then
      (s.raise F.stkQueueStatusConsStall i).holdCore k.ix (.queueRead q)
    else
      let r := s.queueGet k.st.ix q (asUnit c) (some c)
      let p := bits r.1.2 31 1 == 1
      let lat := match (s.core k.ix).wordAt with
        | some t => (t - s.logical c).toNat
        | none => 4
      let s := r.2.setCore k.ix { r.2.core k.ix with tag := BitVec.ofNat 32 r.1.2, wordAt := none }
      ((List.range 4).foldl (fun s j => s.setG k.ix c (groupReg rd j) (BitVec.ofNat 64 (bytesAt r.1.1 (8 * j) 8)) p lat) s).advance k.ix c)

/-- QWR (R248, R225): END from rb[30], LANES from rb[29:27]. -/
def execQwr (k : CoreId) (rd ra rb : GReg) (s : State) : Out :=
  let group := (List.range 4).map (groupReg rd)
  .next (s.issueClean k (ra :: rb :: group) [ra, rb] fun c s =>
    let q := (s.g k.ix ra).toNat % 32
    let i := queueIx k.st.ix q
    let tag := (s.g k.ix rb).toNat
    if !groupOk rd then s.coreFault k c causeIllegal
    else if !s.flag F.stkQueueCfgEn i || !s.queueTakes k.st.ix q then
      (s.raise F.stkQueueStatusProdStall i).holdCore k.ix (.queueWrite q)
    else
      let data := group.flatMap fun r => leBytes 8 (s.g k.ix r).toNat
      (s.queuePut k.st.ix q (asUnit c) (queueSlot data (bits tag 30 1 == 1) (bits tag 27 3) (s.anyPoison k.ix group)) false).advance k.ix c)

/-- QCLOSE (R223, R246). -/
def execQclose (k : CoreId) (ra : GReg) (s : State) : Out :=
  .next (s.issueClean k [ra] [ra] fun c s => (s.queueClose k.st.ix ((s.g k.ix ra).toNat % 32)).advance k.ix c)

/-- QPKT (R224). -/
def execQpkt (k : CoreId) (rd ra : GReg) (s : State) : Out :=
  .next (s.issueClean k [ra] [ra] fun c s =>
    let i := queueIx k.st.ix ((s.g k.ix ra).toNat % 32)
    (s.setG k.ix c rd (BitVec.ofNat 64 (s.packets (i / 32) (i % 32))) false 2).advance k.ix c)

/-- QTAG (R248). -/
def execQtag (k : CoreId) (rd : GReg) (s : State) : Out :=
  .next (s.issue k [] false fun c s => (s.setG k.ix c rd ((s.core k.ix).tag.setWidth 64) false 1).advance k.ix c)

/-! ## Register pages (R249) -/

/-- RRD (R249): eight cycles; an offset without a register reads as zero. -/
def execRrd (k : CoreId) (rd ra : GReg) (s : State) : Out :=
  .next (s.issueClean k [ra] [ra] fun c s =>
    let a := (s.g k.ix ra).toNat % 65536
    match pageOf k.st.ix (a / 4096) with
    | none => s.coreFault k c causeAlign
    | some p =>
      let v := match regAt p.1 p.2 (a % 4096) with
        | some x => s.shown x.1 x.2
        | none => 0
      (s.setG k.ix c rd v false 8).advance k.ix c)

/-- RWR (R249): under the rules of the register; a write to the ACR_ page is ignored. -/
def execRwr (k : CoreId) (ra rb : GReg) (s : State) : Out :=
  .next (s.issueClean k [ra, rb] [ra, rb] fun c s =>
    let a := (s.g k.ix ra).toNat % 65536
    match pageOf k.st.ix (a / 4096) with
    | none => s.coreFault k c causeAlign
    | some p =>
      let s' := match (if a / 4096 = 10 then none else regAt p.1 p.2 (a % 4096)) with
        | some x => s.unitWrite x.1 x.2 (s.g k.ix rb)
        | none => s
      s'.advance k.ix c)

/-! ## Owner writes, chains and fences -/

/-- OWN (R216, R250): bank ra[7:4], ra[3:0]; FROM rb[31:16], TO rb[15:0]. A full result queue stalls it. -/
def execOwn (k : CoreId) (ra rb : GReg) (s : State) : Out :=
  .next (s.issueClean k [ra, rb] [ra, rb] fun c s =>
    let x := s.core k.ix
    let a := (s.g k.ix ra).toNat
    let v := (s.g k.ix rb).toNat
    if 4 ≤ x.results.length then s.holdCore k.ix .owner
    else
      let s := s.issueOwner (k.st.ix / 17) (x.ident / 64 % 16) (some k) (bits a 4 4) (bits a 0 4) (BitVec.ofNat 16 (bits v 16 16))
        (BitVec.ofNat 16 (bits v 0 16))
      (s.setCore k.ix { s.core k.ix with owed := x.owed + 1 }).advance k.ix c)

/-- OWNR (R250): the oldest result, or zero when the queue is empty. -/
def execOwnr (k : CoreId) (rd : GReg) (s : State) : Out :=
  .next (s.issue k [] false fun c s =>
    let x := s.core k.ix
    let v := x.results.headD 0
    ((s.setCore k.ix { x with results := x.results.drop 1 }).setG k.ix c rd (v.setWidth 64) false 1).advance k.ix c)

/-- CHAIN (R251): hands over the entry, which the chain unit receives 8 cycles later, or stalls while the unit is full. -/
def execChain (k : CoreId) (ra : GReg) (s : State) : Out :=
  .next (s.issueClean k [ra] [ra] fun c s =>
    if 32 ≤ (s.stook k.st.ix).chain.length then s.holdCore k.ix .chain
    else (s.offer k.st.ix ((s.g k.ix ra).toNat % 2 ^ 23) (s.logical c + 8)).advance k.ix c)

/-- FSIG (R246, R368). -/
def execFsig (k : CoreId) (ra : GReg) (s : State) : Out :=
  .next (s.issueClean k [ra] [ra] fun c s => (s.fence ((s.g k.ix ra).toNat % 2 ^ 14) 1).advance k.ix c)

/-! ## Variable operations (R252–R255) -/

/-- A VRESULT record for a core, a SUB value and a logical cycle (R254). -/
def isResult (ident sub : Nat) (tau : Int) (cyc : Nat) (r : JRec) : Bool := match r.body with
  | .vresult i b _ _ => i == ident && b == sub && r.tau == tau && r.cycle == cyc
  | _ => false

/-- Result and status of a VRESULT record. -/
def resultOf (r : JRec) : Word × Nat := match r.body with
  | .vresult _ _ v st => (v, st)
  | _ => (0, 0)

/-- A V instruction of a replay without a matching record: BAD_SEQ names the record expected (R254, R287). -/
def Replay.misses (r : Replay) (ident : Nat) : Replay :=
  let want := r.records.find? fun x => match x.body with
    | .vresult i _ _ _ => i == ident
    | _ => false
  { r with badSeq := r.badSeq.orElse fun _ => want.map (·.seq) }

/-- A V result journalled as it is used, or VTRAP where the journal has no room (R254, R282). -/
def State.vJournal (s : State) (k : CoreId) (c sub : Nat) (v : Word × Nat) (f : Word × Nat → State → State) : State :=
  let b : JBody := .vresult (s.core k.ix).ident sub v.1 v.2
  if s.journalFits c b then f v (s.journal c b (s.tau c) s.cyc) else s.coreFault k c causeVtrap

/-- A V instruction (R252–R255): `read` gives the value and status of its source, `f` takes them. -/
def State.vop (s : State) (k : CoreId) (d : Bool) (srcs clean : List GReg) (sub : Nat) (read : State → (Word × Nat) × State)
    (f : Nat → Word × Nat → State → State) : State :=
  s.issueClean k srcs clean fun c s =>
    match s.launch c with
    | none => s
    | some l =>
      let s := s.bump F.stkCoreStatusVops k.ix 1
      let hit := isResult (s.core k.ix).ident (subV sub d) l.tau s.cyc
      if l.sched.classT then let r := read s; f c r.1 r.2
      else if !d then s.coreFault k c causeVtrap
      else match l.vres.find? hit with
      | some x => f c (resultOf x) (s.modLaunch c fun l => { l with vres := l.vres.erase x })
      | none => match l.replay with
        | some r => match r.records.find? hit with
          | some x => (s.modLaunch c fun l => { l with replay := some { r with records := r.records.erase x } }).vJournal k c (subV sub d)
              (resultOf x) (f c)
          | none => (s.modLaunch c fun l => { l with replay := some (r.misses (s.core k.ix).ident) }).coreFault k c causeVtrap
        | none =>
          if l.repeats s.cyc then s.coreFault k c causeVtrap
          else let r := read s; r.2.vJournal k c (subV sub d) r.1 (f c)

/-- The result of a V instruction reaches rd after 64 cycles (R252), poisoned when an operand is. -/
def State.vResult (k : CoreId) (rd : GReg) (srcs : List GReg) (c : Nat) (v : Word × Nat) (s : State) : State :=
  (s.setG k.ix c rd v.1 (s.anyPoison k.ix srcs) 64).advance k.ix c

def execWall (k : CoreId) (d : Bool) (rd : GReg) (s : State) : Out :=
  .next (s.vop k d [] [] 0x40 (fun s => ((s.reg .hubTick 0, stOk), s)) (State.vResult k rd []))

def execFrd (k : CoreId) (d : Bool) (rd ra : GReg) (s : State) : Out :=
  .next (s.vop k d [ra] [ra] 0x41 (fun s => ((s.reg .fncValue ((s.g k.ix ra).toNat % 2 ^ 14), stOk), s)) (State.vResult k rd [ra]))

/-- TEMP (R246): the hottest sensor of the die at the last decision of the power manager; a free value before the first. -/
def execTemp (k : CoreId) (d : Bool) (rd : GReg) (s : State) : Out :=
  .next (s.vop k d [] [] 0x42 (fun s => match s.temps[k.st.die.val]? with
    | some t => ((BitVec.ofInt 64 t, stOk), s)
    | none => ((BitVec.ofNat 64 s.draw.1, stOk), s.draw.2)) (State.vResult k rd []))

/-- LSTAT (R246): the link status word of a port; a port above 17 does not exist and gives a free value. -/
def execLstat (k : CoreId) (d : Bool) (rd ra : GReg) (s : State) : Out :=
  .next (s.vop k d [ra] [] 0x43 (fun s =>
    let p := (s.g k.ix ra).toNat % 32
    if p < 18 then ((s.shown .lnkStatus p, stOk), s) else ((BitVec.ofNat 64 s.draw.1, stOk), s.draw.2)) (State.vResult k rd [ra]))

/-- MON (R246): the current value of monitor point ra[5:0] of the core's die. -/
def execMon (k : CoreId) (d : Bool) (rd ra : GReg) (s : State) : Out :=
  .next (s.vop k d [ra] [] 0x44 (fun s => ((s.shown .monCur (64 * k.st.die.val + (s.g k.ix ra).toNat % 64), stOk), s)) (State.vResult k rd [ra]))

/-- ENT (R252, R479): 64 bits of the software port in rd and a status code in rb. -/
def execEnt (k : CoreId) (d : Bool) (rd rb : GReg) (s : State) : Out :=
  .next (s.vop k d [] [] 0x45 (fun s => let r := s.entPort; ((r.1.2, r.1.1), r.2)) fun c v s =>
    ((s.setG k.ix c rd v.1 false 64).setG k.ix c rb (BitVec.ofNat 64 v.2) false 64).advance k.ix c)

/-! ## Running a program (R256, R257) -/

/-- GLEAN_START (R256): an idle core of a launch takes g1–g7 and ENTRY from the descriptor. -/
def execGleanStart (k : CoreId) (desc : CribAddr) (s : State) : Out :=
  let n := k.ix
  let d := s.rdN (cribAt k.st.ix desc.toNat) 64
  .next (match (s.core n).ctx with
  | none => s
  | some c =>
    if s.fld F.stkCoreStatusState n ≠ 0 ∨ !s.issues c k.st.ix ∨ s.actor k.st.ix desc.toNat ≠ some c then s
    else
      let stream := match (s.stook k.st.ix).running.find? fun r => r.station == 5 && (s.entry k.st.ix r.addr).payload == desc.toNat with
        | some r => (s.entry k.st.ix r.addr).stream
        | none => match s.launch c with
          | some l => l.stream
          | none => 0
      let x := s.core n
      let g := (List.range 7).foldl (fun g j => sput 0 g (j + 1) (BitVec.ofNat 64 (bytesAt d (8 + 8 * j) 8))) x.g
      let s := s.setCore n { x with
        g := g, poison := x.poison &&& ~~~(0xFE : BitVec 32), wait := .none, stream := some stream
        free := s.logical c, ready := [], before := [], halted := false }
      (s.setFld F.stkCoreStatusState n 1).setFld F.stkCoreStatusPc n (bytesAt d 0 4 % 2 ^ 14))

/-- HALT (R257): the operation is complete; CHAIN_ENTRY_COMPLETE follows in the next cycle. -/
def execHalt (k : CoreId) (s : State) : Out :=
  .next (s.issue k [] false fun c s =>
    let s := s.advance k.ix c
    let s := ((s.setCore k.ix { s.core k.ix with stream := none, halted := true }).bump F.stkCoreStatusGleans k.ix 1).setFld
      F.stkCoreStatusState k.ix 0
    match s.gleanEntry k with
    | some (x, _) => s.modRunning k.st.ix 5 x.payload fun r => { r with finishes := some (s.logical c + 1) }
    | none => s)

/-- Whether the condition that a waiting core names has come about (R241). -/
def State.released (s : State) (k : CoreId) : Wait → Bool
  | .queueRead q => s.flag F.stkQueueCfgEn (queueIx k.st.ix q) && s.queueHas k.st.ix q
  | .queueWrite q => s.flag F.stkQueueCfgEn (queueIx k.st.ix q) && s.queueTakes k.st.ix q
  | .chain => decide ((s.stook k.st.ix).chain.length < 32)
  | .owner => decide ((s.core k.ix).results.length < 4)
  | _ => true

/-- CORE_STALL_RELEASE (R241): the core goes on where its condition holds. The clock moves up to the cycle that WAITC or WAITT names,
when that lies in this tick. -/
def execCoreStallRelease (k : CoreId) (s : State) : Out :=
  let n := k.ix
  .next (match (s.core n).ctx with
  | none => s
  | some c =>
    let cyc := (max (s.logical c) (s.core n).free) - s.tau c * 1024
    let s' := s.upTo cyc.toNat
    if s.fld F.stkCoreStatusState n ≠ 2 ∨ !s.issues c k.st.ix ∨ 1024 ≤ cyc ∨ !s'.issues c k.st.ix ∨ !s.released k (s.core n).wait then s
    else
      let s' := match (s.core n).wait with
        | .queueRead q => s'.resumeRead k.st.ix q
        | .queueWrite q => s'.setFld F.stkQueueStatusProdStall (queueIx k.st.ix q) 0
        | _ => s'
      if (s'.core n).wait = .none then s' else s'.wake n)

end Sys2Proof.Machine
end

