-- ==== Sys2Proof/Machine/Harrow.lean ====
section
/-!
DEFINITION. The harrow tile (R169–R185), its output pipeline, and the proposal generators (R186–R197). A kernel's reads and writes take
effect together when its command comes; its chain entry completes after the cycles of R185 (log 50).
-/
namespace Sys2Proof.Machine

/-! ## Element formats (R172–R174) -/

/-- Bits of an element format. -/
def fmtBits : Nat → Nat
  | 0 => 2
  | 1 => 4
  | 2 => 8
  | 5 => 4
  | 6 => 8
  | 8 => 16
  | 9 => 32
  | 10 => 128
  | _ => 0

/-- Signed integer formats. -/
def fmtSigned (f : Nat) : Bool := f == 0 || f == 1 || f == 2
/-- Integer formats. -/
def fmtInt (f : Nat) : Bool := f == 0 || f == 1 || f == 2 || f == 5 || f == 6
/-- Least and greatest value of an integer format. -/
def fmtLow (f : Nat) : Int := if fmtSigned f then -(2 ^ (fmtBits f - 1) : Nat) else 0
def fmtHigh (f : Nat) : Int := if fmtSigned f then (2 ^ (fmtBits f - 1) : Nat) - 1 else (2 ^ fmtBits f : Nat) - 1

/-- Bytes from one row of an array to the next: rows start on 32-byte boundaries (R173). -/
def rowBytes (f n : Nat) : Nat := 32 * ceilDiv (n * fmtBits f) 256

/-- Element `k` of a row at a byte address, as `rd` reads bytes (R173). -/
def element (rd : Nat → Nat) (f base k : Nat) : Int :=
  let v := bits (rd (base + k * fmtBits f / 8)) (k * fmtBits f % 8) (fmtBits f)
  if fmtSigned f then signed (fmtBits f) v else v

/-! ## Kernel descriptors (R184) -/

/-- A kernel descriptor taken apart. -/
structure Kernel where
  op : Nat
  afmt : Nat
  wfmt : Nat
  ofmt : Nat
  autoPass : Bool
  rescale : Nat
  bias : Bool
  act : Bool
  actSel : Nat
  oexpAuto : Bool
  accExp : Int
  outExp : Int
  n : Nat
  m : Nat
  bk : Nat
  kb : Nat
  aAt : Nat
  aScaleAt : Nat
  wAt : Nat
  wScaleAt : Nat
  outAt : Nat
  outScaleAt : Nat
  biasAt : Nat
  mapAt : Nat
  deriving DecidableEq, Repr

def parseKernel (b : List Byte) : Kernel :=
  let w := bytesAt b 0 4
  let e := bytesAt b 4 4
  let d := bytesAt b 8 4
  let g := bytesAt b 12 4
  let at_ := fun i => bytesAt b (0x10 + 4 * i) 4 % 2 ^ 23
  { op := bits w 28 4, afmt := bits w 24 4, wfmt := bits w 20 4, ofmt := bits w 16 4, autoPass := bits w 15 1 == 1
    rescale := bits w 12 3, bias := bits w 11 1 == 1, act := bits w 10 1 == 1, actSel := bits w 8 2, oexpAuto := bits w 7 1 == 1
    accExp := signed 8 (bits e 24 8), outExp := signed 8 (bits e 16 8), n := bits d 16 16, m := bits d 0 16, bk := bits g 16 5
    kb := bits g 0 12, aAt := at_ 0, aScaleAt := at_ 1, wAt := at_ 2, wScaleAt := at_ 3, outAt := at_ 4, outScaleAt := at_ 5
    biasAt := at_ 6, mapAt := at_ 7 }

/-- The arrays a kernel reads: address and length. -/
def Kernel.reads (k : Kernel) : List (Nat × Nat) :=
  [(k.aAt, k.m * rowBytes k.afmt (32 * k.kb)), (k.aScaleAt, k.m * k.kb), (k.wAt, k.n * rowBytes k.wfmt (32 * k.kb)),
   (k.wScaleAt, k.n * k.kb)] ++ (if k.bias then [(k.biasAt, 2 * k.n)] else []) ++
  (if k.ofmt = 10 then [(k.mapAt, 16 * k.m * k.n)] else [])

/-- The arrays a kernel writes. -/
def Kernel.writes (k : Kernel) : List (Nat × Nat) :=
  [(k.outAt, if k.ofmt = 10 then 16 * k.m * k.n else k.m * rowBytes k.ofmt k.n)] ++
  (if k.oexpAuto && fmtInt k.ofmt then [(k.outScaleAt, k.m * ceilDiv k.n 32)] else [])

/-- Whether a descriptor has its form for an operation (R172, R173, R184). -/
def Kernel.formed (k : Kernel) (op : Nat) : Bool :=
  k.op == op && fmtInt k.afmt && (k.wfmt == 0 || k.wfmt == 1 || k.wfmt == 2) && fmtBits k.ofmt != 0 && (!k.autoPass || k.rescale != 0) &&
  decide (1 ≤ k.n) && decide (k.n ≤ 16384) && decide (1 ≤ k.m) && decide (k.m ≤ 512) && decide (1 ≤ k.kb) && decide (k.kb ≤ 2048) &&
  (op == 1 || (k.m == 1 && decide (1 ≤ k.bk) && decide (k.bk ≤ 16))) &&
  (k.reads ++ k.writes).all fun a => a.1 % 256 == 0 && decide (a.1 + a.2 ≤ 2 ^ 23)

/-! ## Reads and writes of a crib -/

/-- Banks that a region touches. -/
def banksOf (a n : Nat) : List Nat := if n = 0 then [] else (List.range ((a + n - 1) / 2 ^ 19 - a / 2 ^ 19 + 1)).map fun i => (a / 2 ^ 19 + i) % 16

/-- One byte as a unit of a context reads it: a denied read returns zero (R215). -/
def State.unitByte (s : State) (k c a : Nat) : Nat := if s.bankPass k a (asUnit c) then (s.rd (cribAt k a)).toNat else 0

/-- The 512-byte row pieces of a region. -/
def rowPieces (a n : Nat) : List (Nat × Nat) :=
  (List.range ((a + n + 511) / 512 - a / 512)).filterMap fun i =>
    let lo := max a ((a / 512 + i) * 512)
    let hi := min (a + n) ((a / 512 + i + 1) * 512)
    if lo < hi then some (lo, hi - lo) else none

/-- A region read: whether any of it was poisoned or denied, and the state with what its banks record (R204, R215, R236). -/
def State.regionRead (s : State) (k c a n : Nat) : Bool × State :=
  (rowPieces a n).foldl (fun r p =>
    let q := r.2.bankRead k p.1 p.2 (asUnit c)
    (r.1 || q.1.2, q.2)) (false, s)

/-- A region written. -/
def State.regionWrite (s : State) (k c a : Nat) (v : List Byte) (p : Bool) : State :=
  (rowPieces a v.length).foldl (fun s q => s.bankWrite k q.1 (asUnit c) (((v.drop (q.1 - a)).take q.2).map some) p) s

/-! ## Accumulation (R174–R179) -/

/-- The block partial P_b; zero for a zero block (R174, R175). -/
def Kernel.partial_ (q : Kernel) (rd : Nat → Nat) (m n b : Nat) : Int :=
  if rd (q.aScaleAt + m * q.kb + b) = 0x80 ∨ rd (q.wScaleAt + n * q.kb + b) = 0x80 then 0
  else ((List.range 32).map fun i =>
    element rd q.afmt (q.aAt + m * rowBytes q.afmt (32 * q.kb)) (32 * b + i) *
      element rd q.wfmt (q.wAt + n * rowBytes q.wfmt (32 * q.kb)) (32 * b + i)).sum

/-- A block's contribution under an accumulator exponent (R175). -/
def contribution (p : Int) (d : Int) : Int :=
  clampInt (-(2 ^ 31)) (2 ^ 31 - 1) (if 0 ≤ d then p * (2 ^ d.toNat : Nat) else divEven p (2 ^ (-d).toNat))

/-- Highest bit position of |acc| (R178). -/
def topBit (acc : Int) : Nat := acc.natAbs.log2

/-- The accumulator of one output: its value, PEAK, and whether an add saturated (R176, R178). -/
def Kernel.accumulate (q : Kernel) (rd : Nat → Nat) (accExp : Int) (m n : Nat) : Int × Nat :=
  (List.range q.kb).foldl (fun (r : Int × Nat) b =>
    let d := signed 8 (rd (q.aScaleAt + m * q.kb + b)) + signed 8 (rd (q.wScaleAt + n * q.kb + b)) - accExp
    let sum := r.1 + contribution (q.partial_ rd m n b) d
    let acc := clampInt (-(2 ^ 31)) (2 ^ 31 - 1) sum
    (acc, max r.2 (if acc = sum then topBit acc else 32))) (0, 0)

/-- All outputs of a pass, row by row: accumulators and PEAK of each. -/
def Kernel.pass (q : Kernel) (rd : Nat → Nat) (accExp : Int) : List (Int × Nat) :=
  (List.range (q.m * q.n)).map fun i => q.accumulate rd accExp (i / q.n) (i % q.n)

/-- PEAK of a pass. -/
def peakOf (l : List (Int × Nat)) : Nat := l.foldl (fun p x => max p x.2) 0

/-! ## The output pipeline (R181–R183) -/

/-- Largest finite binary32. -/
def f32Max : Dyadic := (2 ^ 24 - 1, 104)

/-- A dyadic number as the nearest binary32 code; beyond the range, the largest finite value of its sign, and whether that happened. -/
def roundF32 (d : Dyadic) : Nat × Bool :=
  if (ofF32 (toF32 d)).isSome then (toF32 d, false) else (toF32 (if d.1 < 0 then -f32Max.1 else f32Max.1, f32Max.2), true)

/-- A binary32 code that host software wrote, and a binary16 code as binary32: nothing fixes what an infinity or a NaN is taken for. -/
def f32Const (v : Nat) : Nat := if (ofF32 v).isSome then v else Config.oddFloat v
def f16Const (v : Nat) : Nat := match ofBinary 10 5 v with
  | some d => if d.1 = 0 then 2 ^ 31 * bits v 15 1 else toF32 d
  | none => Config.oddFloat (2 ^ 32 + v)

/-- The value of a finite binary32 code. -/
def f32Value (v : Nat) : Dyadic := (ofF32 v).getD (0, 0)

/-- Sign bit of a binary32 code. -/
def f32Neg (v : Nat) : Bool := bits v 31 1 == 1

/-- `a × x + b` with a single rounding (R181, R182). A sum that is exactly zero has the sign that both terms share, else none. -/
def fma32 (a x b : Nat) : Nat :=
  let d := dyadicAdd (dyadicMul (f32Value a) (f32Value x)) (f32Value b)
  let neg := f32Neg a != f32Neg x
  if d.1 = 0 then (if neg && f32Neg b then 2 ^ 31 else 0) else (roundF32 d).1

/-- Segment of an activation table (R182). -/
def segmentOf (x x0 : Dyadic) (wexp : Int) : Nat :=
  let d := dyadicSub x x0
  let e := d.2 - wexp
  let q := if 0 ≤ e then d.1 * (2 ^ e.toNat : Nat) else d.1 / (2 ^ (-e).toNat : Nat)
  (clampInt 0 63 q).toNat

/-- The activation function of table `t` of tile `k` (R182), from one binary32 code to another. -/
def State.activate (s : State) (k t x : Nat) : Nat :=
  let seg := segmentOf (f32Value x) (f32Value (f32Const (s.fld F.hrwActCfgX0 (4 * k + t)))) (s.sfld F.hrwActCfgWexp (4 * k + t))
  fma32 (f32Const (s.fld F.hrwActTabA (256 * k + 64 * t + seg))) x (f32Const (s.fld F.hrwActTabB (256 * k + 64 * t + seg)))

/-- The binary32 code of 1. -/
def f32One : Nat := 127 * 2 ^ 23

/-- Steps 1 to 3 of R181: the binary32 code of y, and whether step 1 was clamped. -/
def State.outputValue (s : State) (k : Nat) (q : Kernel) (rd : Nat → Nat) (accExp : Int) (n : Nat) (acc : Int) : Nat × Bool :=
  let r := roundF32 (acc, accExp)
  let x := if q.bias then fma32 f32One r.1 (f16Const (rd (q.biasAt + 2 * n) + 256 * rd (q.biasAt + 2 * n + 1))) else r.1
  (if q.act then s.activate k q.actSel x else x, r.2)

/-- `round_even(y × 2 ^ -e)` (R181). -/
def quantise (y : Dyadic) (e : Int) : Int :=
  let d := y.2 - e
  if 0 ≤ d then y.1 * (2 ^ d.toNat : Nat) else divEven y.1 (2 ^ (-d).toNat)

/-- Whether every output of a group fits an integer format at an exponent. -/
def groupFits (f : Nat) (l : List Dyadic) (e : Int) : Bool := l.all fun y => decide (fmtLow f ≤ quantise y e) && decide (quantise y e ≤ fmtHigh f)

/-- The exponent byte of a group of 32 outputs (R183), and the exponent to convert with. DEDUCED (log 144): the outputs are all zero where
every y is, whatever the codes q would be. -/
def groupExp (f : Nat) (l : List Dyadic) : Nat × Int :=
  if l.all fun y => y.1 == 0 then (0x80, 0)
  else match (List.range 255).find? fun (i : Nat) => groupFits f l ((i : Int) - 127) with
    | some i => (unsign 8 ((i : Int) - 127), (i : Int) - 127)
    | none => (127, 127)

/-- One output converted to an integer or floating-point format: its code, and whether it was clamped (R181). -/
def convert (f : Nat) (e : Int) (y : Nat) : Nat × Bool :=
  let d := f32Value y
  if f = 8 then
    if d.1 = 0 then (2 ^ 15 * bits y 31 1, false)
    else if dyadicLe (d.1.natAbs, d.2) (65504, 0) then (toBinary 10 5 d, false)
    else ((if f32Neg y then 0xFBFF else 0x7BFF), true)
  else if f = 9 then (y, false)
  else
    let v := quantise d e
    let w := clampInt (fmtLow f) (fmtHigh f) v
    (unsign (fmtBits f) w, v != w)

/-- A row of codes as bytes (R173). -/
def packRow (f : Nat) (l : List Nat) : List Byte :=
  leBytes (ceilDiv (l.length * fmtBits f) 8) ((l.zipIdx.map fun x => x.1 * 2 ^ (fmtBits f * x.2)).sum)

/-- A COEF entry (R198): VALUE with the map entry's KIND, PLANE, A and B; zero where KIND is 0b11. -/
def coefEntry (map y : Nat) : Nat :=
  if bits map 90 2 = 3 then 0 else y * 2 ^ 96 + bits map 90 3 * 2 ^ 90 + bits map 32 29 * 2 ^ 32 + bits map 0 29

/-- One row of a kernel's outputs written; answers the outputs clamped. -/
def State.writeRow (s : State) (k c : Nat) (q : Kernel) (rd : Nat → Nat) (m : Nat) (ys : List Nat) (p : Bool) : Nat × State :=
  if q.ofmt = 10 then
    (0, ys.zipIdx.foldl (fun s y =>
      let i := 16 * (m * q.n + y.2)
      let map := leNat ((List.range 16).map fun j => BitVec.ofNat 8 (rd (q.mapAt + i + j)))
      s.regionWrite k c (q.outAt + i) (leBytes 16 (coefEntry map y.1)) p) s)
  else
    let auto := q.oexpAuto && fmtInt q.ofmt
    let groups := (List.range (ceilDiv q.n 32)).map fun g => groupExp q.ofmt (((ys.drop (32 * g)).take 32).map f32Value)
    let conv := ys.zipIdx.map fun y => convert q.ofmt (if auto then ((groups[y.2 / 32]?).getD (0, 0)).2 else q.outExp) y.1
    let s := s.regionWrite k c (q.outAt + m * rowBytes q.ofmt q.n) (packRow q.ofmt (conv.map (·.1))) p
    let s := if auto then s.regionWrite k c (q.outScaleAt + m * groups.length) (groups.map fun g => BitVec.ofNat 8 g.1) p else s
    ((conv.filter (·.2)).length, s)

/-! ## A kernel -/

/-- Whether a kernel runs a second pass (R179). -/
def Kernel.secondPass (q : Kernel) (rd : Nat → Nat) : Bool := q.autoPass && peakOf (q.pass rd q.accExp) == 32

/-- A kernel of a context on the tile of stook `k` (R171, R175–R183, R201). -/
def State.kernel (s : State) (k c : Nat) (q : Kernel) : State :=
  let rd := s.unitByte k c
  let seen := q.reads.foldl (fun r a =>
    let x := r.2.regionRead k c a.1 a.2
    (r.1 || x.1, x.2)) (false, s)
  let first := q.pass rd q.accExp
  let again := q.secondPass rd
  let accExp := if again then min (q.accExp + q.rescale) 127 else q.accExp
  let last := if again then q.pass rd accExp else first
  let out := last.zipIdx.map fun x => s.outputValue k q rd accExp (x.2 % q.n) x.1.1
  let wide := (out.filter (·.2)).length
  let w := (List.range q.m).foldl (fun (r : Nat × State) m =>
    let x := r.2.writeRow k c q rd m (((out.drop (m * q.n)).take q.n).map (·.1)) seen.1
    (r.1 + x.1, x.2)) (wide, seen.2)
  let s := w.2
  let asat := (last.filter fun x => x.2 == 32).length
  let s := if seen.1 then s.raise F.hrwStatusPoison k else s
  let s := if w.1 = 0 then s else (s.raise F.hrwStatusOsat k).bump F.hrwSatCountOsatN k w.1
  let s := if asat = 0 then s else (s.raise F.hrwStatusAsat k).bump F.hrwSatCountAsatN k asat
  let s := if peakOf first = 32 then s.bump F.hrwRangeOvfKernels k 1 else s
  (s.setFld F.hrwRangePeak k (peakOf last)).bump F.hrwKernelsDone k 1

/-- Twice the cycle factor of R177. -/
def Kernel.factor (k : Kernel) : Nat :=
  let wide := k.afmt == 2 || k.afmt == 6
  if k.wfmt = 2 then (if wide then 8 else 4) else if wide then 4 else if k.afmt = 0 ∧ k.wfmt = 0 then 1 else 2

/-- Leave of a kernel or a generator step, by twice the cycle factor (R451). -/
def harrowLeave (f : Nat) : Nat := if f = 1 then 24 else if f = 2 then 16 else if f = 4 then 12 else 10

/-- Cycles of one pass of a kernel, and of a kernel (R185). -/
def Kernel.passTime (k : Kernel) : Nat :=
  if k.op = 1 then ceilDiv k.n 128 * ceilDiv k.kb 4 * ceilDiv (k.m * k.factor) 2 + 258
  else max (ceilDiv (k.n * rowBytes k.wfmt (32 * k.kb)) (512 * k.bk)) (ceilDiv (k.kb * 32 * k.n * k.factor) 32768) + 16
def Kernel.time (k : Kernel) : Nat :=
  (if k.autoPass then 2 else 1) * k.passTime + (if k.op = 1 then k.m * ceilDiv k.n 128 + 16 else ceilDiv k.n 128 + 8)

/-- The running entry of a kernel, with the cycles of its passes and its end. -/
def State.timeKernel (s : State) (k c payload : Nat) (q : Kernel) : State :=
  s.modRunning k 2 payload fun r => { r with
    begun := some (s.logical c), finishes := some (s.logical c + q.time)
    second := if q.secondPass (s.unitByte k c) then some (s.logical c + q.passTime) else none }

/-- A HARROW operation (R169, R170): on a tile that accepts it, for a launch that no hold stops, with its leave (R39). The result of a
malformed descriptor is open (R10, R11). DESIGN CHOICE (log 144): a poison tag on the descriptor's own bytes is not looked at; R171 speaks of
the words that the kernel reads. -/
def State.harrow (s : State) (st : StookId) (desc : CribAddr) (op : Nat) : Out :=
  let k := st.ix
  let q := parseKernel (s.rdN (cribAt k desc.toNat) 64)
  match s.actor k desc.toNat with
  | none => .next s
  | some c =>
    if !s.flag F.hrwCtrlEn k || !s.issues c k || (s.runningOf k 2 desc.toNat).any (·.finishes.isSome) then .next s
    else if !q.formed op then .next ((s.anything c).modRunning k 2 desc.toNat fun r => { r with finishes := some (s.logical c) })
    else .next (s.withLeave c (k / 17) (s.unitOf k 8) (harrowLeave q.factor) q.time fun s =>
      (s.timeKernel k c desc.toNat q).kernel k c q)

/-- GEMM (R175–R185). -/
def execGemm (st : StookId) (desc : CribAddr) (s : State) : Out := s.harrow st desc 1

/-- GEMV (R175–R185). -/
def execGemv (st : StookId) (desc : CribAddr) (s : State) : Out := s.harrow st desc 2

/-! ## The sampler (R188–R191) -/

/-- Token of no move, and the tokens that close, cancel and group one (R188). -/
def tokEnd : Nat := 1536
def tokCancel : Nat := 1537
def tokGroup : Nat := 1538
def tokIdle : Nat := 1539

/-- Whether a target may be named (R187). -/
def State.targetOk (s : State) (k t : Nat) : Bool := (s.fld F.hrwGenTargetMask (16 * k + t / 32)).testBit (t % 32)

/-- Whether the grammar state allows a token (R189). -/
def State.allowed (s : State) (k v : Nat) : Bool :=
  let pos := (s.gen k).positions
  if s.flag F.hrwGenStateOpen k then
    (decide (v < 1024) && decide (pos.length < 16) && !pos.contains v) || (v == tokEnd && !pos.isEmpty) || v == tokCancel ||
      (v == tokGroup && !s.flag F.hrwGenStateGroup k)
  else v == tokIdle || (decide (1024 ≤ v) && decide (v < 1536) && s.targetOk k (v - 1024))

/-- The noise key of a generator (R191): in field noise, the key of the tick in which the present step began. -/
def State.genKey (s : State) (k c : Nat) : BitVec 128 := match s.launch c with
  | some l => if l.sched.fieldNoise then ((s.gen k).key).getD 0 else l.seed
  | none => 0

/-- The logit of a token in 1/256 units (R190). -/
def State.logit (s : State) (k c logits v : Nat) : Int :=
  let code := s.unitByte k c (logits + 2 * v) + 256 * s.unitByte k c (logits + 2 * v + 1)
  let d := f32Value (f16Const code)
  clampInt (-(2 ^ 23)) (2 ^ 23 - 1) (quantise (d.1 * 256, d.2) 0)

/-- The token drawn at a step (R190): the largest score, ties to the lower index. -/
def State.drawToken (s : State) (k c logits : Nat) : Nat :=
  let h := noiseHash (s.genKey k c) (2 ^ 22 + (s.gen k).ident) (s.fld F.hrwGenStateN k) 0
  let tau := s.fld F.hrwGenTauTau k
  let score := fun v => s.logit k c logits v + (noiseG h v * tau / 4096 : Nat)
  let best := (List.range (s.fld F.hrwGenCtrlVocab k)).foldl (fun (b : Option (Nat × Int)) v =>
    if !s.allowed k v then b
    else match b with
      | none => some (v, score v)
      | some x => if x.2 < score v then some (v, score v) else b) none
  match best with
  | some x => x.1
  | none => tokIdle

/-! ## Moves and records (R189, R192, R195, R196) -/

/-- The lane that target `t` of a generator's acre stands for (R187). -/
def State.targetLane (s : State) (k t : Nat) : Nat :=
  4 * (8 * s.physStook (k / 136) (k / 17 % 8) (t / 32) + t / 4 % 8) + t % 4

/-- The proposal record of the open move (R92, R192). -/
def State.moveRecord (s : State) (k : Nat) : BitVec 192 :=
  let pos := (s.gen k).positions
  BitVec.ofNat 192 (s.fld F.hrwGenStateTag k * 2 ^ 176 + s.fld F.hrwGenStateGroup k * 2 ^ 175 + pos.length * 2 ^ 164 +
    (pos.zipIdx.map fun x => x.1 * 2 ^ (10 * x.2)).sum)

/-- No move is open. -/
def State.closeMove (s : State) (k : Nat) : State :=
  (((s.setFld F.hrwGenStateOpen k 0).setFld F.hrwGenStateGroup k 0).setFld F.hrwGenStateNpos k 0).setGen k { s.gen k with positions := [] }

/-- The grammar state after a token (R189), with the record that END emits (R192). -/
def State.takeToken (s : State) (k v : Nat) : State :=
  if v < 1024 then
    (s.setGen k { s.gen k with positions := (s.gen k).positions ++ [v] }).setFld F.hrwGenStateNpos k ((s.gen k).positions.length + 1)
  else if v < 1536 then ((s.closeMove k).setFld F.hrwGenStateOpen k 1).setFld F.hrwGenStateTarget k (v - 1024)
  else if v = tokEnd then
    let s := s.setGen k { s.gen k with onWay := (s.gen k).onWay ++ [(s.targetLane k (s.fld F.hrwGenStateTarget k), s.moveRecord k)] }
    ((s.closeMove k).wrap F.hrwGenStateTag k 1).bump F.hrwGenCountRecords k 1
  else if v = tokCancel then (s.closeMove k).bump F.hrwGenCountCancels k 1
  else if v = tokGroup then s.setFld F.hrwGenStateGroup k 1
  else s

/-- The token log word of a step (R195), in the area that the image names and in the log by generator that MON_READ copies. -/
def State.logToken (s : State) (k c v : Nat) : State :=
  if !s.flag F.hrwGenCtrlLogEn k then s else
  let n := s.fld F.hrwGenStateN k
  let id := (s.gen k).ident
  let w := leBytes 4 (n * 4096 + (if v = tokEnd then 2048 else 0) + v)
  let s := match s.launch c, (s.gen k).decl with
    | some l, some d => s.gddrPut c l (d.logAt + 4 * n) w
    | _, _ => s
  s.setCtx c { s.ctx c with tokens := sput [] (s.ctx c).tokens id (putPart (sget [] (s.ctx c).tokens id) (4 * n) w) }

/-- The end of a token step: the token number, the previous token, and the end of the stream (R193, R196). -/
def State.endStep (s : State) (k v : Nat) : State :=
  let n := s.fld F.hrwGenStateN k
  let s := (s.setFld F.hrwGenStateLast k v).wrap F.hrwGenStateN k 1
  if n = 1048575 then
    let s := s.raise F.hrwGenStateDone k
    if s.flag F.hrwGenStateOpen k then (s.closeMove k).bump F.hrwGenCountDropped k 1 else s
  else s

/-! ## The token step (R193) -/

/-- The kernels of a step, layer by layer: a stook that comes again begins the next layer. -/
def layersOf (l : List (StookId × CribAddr)) : List (List (StookId × CribAddr)) :=
  l.foldl (fun r x => match r.getLast? with
    | some last => if last.any fun y => y.1 == x.1 then r ++ [[x]] else r.dropLast ++ [last ++ [x]]
    | none => [[x]]) []

/-- The kernel at a place. -/
def State.kernelAt (s : State) (x : StookId × CribAddr) : Kernel := parseKernel (s.rdN (cribAt x.1.ix x.2.toNat) 64)

/-- A vector on its way over the acre router: elements, scales, and whether a word that made it was poisoned. -/
structure Vec where
  elements : List Byte
  scales : List Byte
  poison : Bool
  deriving DecidableEq, Repr

/-- A vector broadcast to the tiles of a layer as operand A; the poison tag goes with it (R171). -/
def State.broadcast (s : State) (c : Nat) (layer : List (StookId × CribAddr)) (v : Vec) : State :=
  layer.foldl (fun s x =>
    let q := s.kernelAt x
    (s.regionWrite x.1.ix c q.aAt (padTo (rowBytes q.afmt (32 * q.kb)) v.elements) v.poison).regionWrite x.1.ix c q.aScaleAt
      (padTo q.kb v.scales) v.poison) s

/-- The bytes of a region as a unit of a context reads them, whether any was poisoned, and the state with what its banks record. -/
def State.part (s : State) (k c a n : Nat) : List Byte × Bool × State :=
  let r := s.regionRead k c a n
  ((List.range n).map fun i => BitVec.ofNat 8 (s.unitByte k c (a + i)), r.1, r.2)

/-- The outputs of a layer gathered in the order of its kernels (DEDUCED, log 51). -/
def State.gather (s : State) (c : Nat) (layer : List (StookId × CribAddr)) : Vec × State :=
  layer.foldl (fun (r : Vec × State) x =>
    let q := r.2.kernelAt x
    let e := r.2.part x.1.ix c q.outAt (ceilDiv (q.n * fmtBits q.ofmt) 8)
    let groups := ceilDiv q.n 32
    let g := if q.oexpAuto && fmtInt q.ofmt then e.2.2.part x.1.ix c q.outScaleAt groups
      else (List.replicate groups (BitVec.ofInt 8 q.outExp), false, e.2.2)
    ({ elements := r.1.elements ++ e.1, scales := r.1.scales ++ g.1, poison := r.1.poison || e.2.1 || g.2.1 }, g.2.2)) (⟨[], [], false⟩, s)

/-- The layers of a step run in order, each on the outputs of the one before; the last gathers its logits in the home stook. -/
def State.runLayers (s : State) (k c logits : Nat) : List (List (StookId × CribAddr)) → Vec → State
  | [], _ => s
  | layer :: rest, v =>
    let s := (s.broadcast c layer v).cart (some c) chHarrow (cartPackets v.elements.length * layer.length) (stookSpot k) (stookSpot k)
    let s := layer.foldl (fun s x => s.kernel x.1.ix c (s.kernelAt x)) s
    let out := s.gather c layer
    match rest with
    | [] => out.2.regionWrite k c logits out.1.elements out.1.poison
    | _ => out.2.runLayers k c logits rest out.1

/-- Bytes copied within a crib by a unit of a context. -/
def State.regionCopy (s : State) (k c src dst n : Nat) : State :=
  let r := s.part k c src n
  r.2.2.regionWrite k c dst r.1 r.2.1

/-- Period of the step that may start at a launch tick, counted from T0 (R193). -/
def State.stepPeriod (s : State) (k : Nat) (tau : Int) : Int := (tau - s.fld F.hrwGenStartT0 k) / (max 1 (s.fld F.hrwGenCtrlPTok k) : Nat)

/-- Whether a step of a generator runs in the present tick (R193, R196): one for each period from T0 on, until DONE. -/
def State.stepDue (s : State) (k c : Nat) : Bool :=
  let t0 : Int := s.fld F.hrwGenStartT0 k
  s.flag F.hrwGenCtrlEn k && !s.flag F.hrwGenStateDone k && s.issues c k && decide (t0 ≤ s.tau c) && decide (s.tau c < (s.launch c).elim 0 fun l => l.sched.ticks) &&
    (s.gen k).stepped != some (s.stepPeriod k (s.tau c))

/-- Where the input area that a step reads lies, and its bytes: the buffer filled in the tick before it starts (R194). -/
def State.inputSpan (s : State) (k : Nat) (start : Int) : Nat × Nat :=
  match (s.gen k).input.find? fun x => x.1 + 1 == start with
  | some x => x.2
  | none => (0, 0)

/-- The input vector of a step (R193): from the embedding row of the previous token, the state area and the input area, with what the banks
record and the poison of any of them. -/
def State.stepInput (s : State) (k c at_ len : Nat) (start : Int) : Vec × State :=
  let row := match (s.gen k).decl with
    | some d => (d.rowsAt + s.fld F.hrwGenStateLast k * d.rowLen, d.rowLen)
    | none => (0, 0)
  let r := s.part k c row.1 row.2
  let a := r.2.2.part k c at_ len
  let i := a.2.2.part k c (s.inputSpan k start).1 (s.inputSpan k start).2
  let v := Config.inputVector r.1 a.1 i.1
  ({ elements := v.1, scales := v.2, poison := r.2.1 || a.2.1 || i.2.1 }, i.2.2)

/-- The leave of a generator step: each stook of it, for the kernels that its tile runs, the largest leave of them (R451; DEDUCED, log 144). -/
def State.stepNeeds (s : State) (layers : List (StookId × CribAddr)) : List Need :=
  (layers.map fun x => x.1.ix).eraseDups.map fun k =>
    let q := (layers.filter fun x => x.1.ix == k).map s.kernelAt
    ⟨k / 17, s.unitOf k 8, (q.map fun x => harrowLeave x.factor).foldl max 0, (q.map Kernel.time).sum⟩

/-- Whether a token step names what it may (R193): kernels of its acre, up to 32 layers, and areas inside the crib. -/
def State.stepFormed (s : State) (k : Nat) (layers : List (StookId × CribAddr)) (logits stateFrom stateTo stateLen : Nat) : Bool :=
  layers.all (fun x => (s.kernelAt x).formed 2 && x.1.ix / 17 == k / 17) && decide ((layersOf layers).length ≤ 32) &&
    decide (stateFrom + stateLen ≤ 2 ^ 23) && decide (stateTo + stateLen ≤ 2 ^ 23) && decide (stateLen ≤ 262144) &&
    decide (logits + 4096 ≤ 2 ^ 23)

/-- A token step carried out (R188–R196). -/
def State.tokenStep (s : State) (k c : Nat) (layers : List (StookId × CribAddr)) (logits stateFrom stateTo stateLen : Nat) : State :=
  let period := s.stepPeriod k (s.tau c)
  let input := s.stepInput k c stateTo stateLen (s.fld F.hrwGenStartT0 k + period * s.fld F.hrwGenCtrlPTok k)
  let s := input.2.runLayers k c logits (layersOf layers) input.1
  let v := s.drawToken k c logits
  let s := s.regionCopy k c stateFrom stateTo stateLen
  let s := ((s.logToken k c v).takeToken k v).endStep k v
  s.setGen k { s.gen k with stepped := some period }

/-- TOKEN_STEP (R188–R196): on tiles that accept HARROW operations, with their leave. -/
def execTokenStep (st : StookId) (layers : List (StookId × CribAddr)) (logits : CribAddr) (stateFrom stateTo : CribAddr) (stateLen : Nat)
    (s : State) : Out :=
  let k := st.ix
  match (s.gen k).ctx with
  | none => .next s
  | some c =>
    if !s.stepDue k c || !layers.all (fun x => s.flag F.hrwCtrlEn x.1.ix) then .next s
    else s.formed (some c) (s.stepFormed k layers logits.toNat stateFrom.toNat stateTo.toNat stateLen)
      (s.withLeaves c (s.stepNeeds layers) fun s => s.tokenStep k c layers logits.toNat stateFrom.toNat stateTo.toNat stateLen)

/-- GENERATOR_RESTART (R196): at a token boundary, the counters, the grammar state and the state area begin afresh. -/
def execGeneratorRestart (st : StookId) (stateFrom stateTo : CribAddr) (stateLen : Nat) (s : State) : Out :=
  let k := st.ix
  match (s.gen k).ctx with
  | none => .next s
  | some c =>
    let off := (s.tau c - s.fld F.hrwGenStartT0 k) % (max 1 (s.fld F.hrwGenCtrlPTok k) : Nat)
    if !s.issues c k || off != 0 || !s.flag F.hrwGenCtrlEn k then .next s
    else s.formed (some c) (decide (stateFrom.toNat + stateLen ≤ 2 ^ 23) && decide (stateTo.toNat + stateLen ≤ 2 ^ 23) && decide (stateLen ≤ 262144))
      (let s := ((((s.closeMove k).setFld F.hrwGenStateN k 0).setFld F.hrwGenStateTag k 0).setFld F.hrwGenStateDone k 0).setFld
         F.hrwGenStateLast k tokIdle
       (s.setGen k { s.gen k with stepped := none }).regionCopy k c stateFrom.toNat stateTo.toNat stateLen)

/-- Targets of a generator's mask, ascending. -/
def State.targets (s : State) (k : Nat) : List Nat := (List.range 512).filter (s.targetOk k)

/-- GENERATOR_INPUT_COPY (R194): the snapshot spins of the target lanes, 128 bytes each in the order of the targets, at a buffer of the
home stook; the two buffers hold the ticks that filled them. -/
def execGeneratorInputCopy (st : StookId) (buf : CribAddr) (s : State) : Out :=
  let k := st.ix
  match (s.gen k).ctx with
  | none => .next s
  | some c =>
    let v := (s.targets k).flatMap fun t => leBytes 128 (s.lane (s.targetLane k t)).snap.toNat
    s.formed (some c) (decide (buf.toNat + v.length ≤ 2 ^ 23))
      (s.within 100 379 fun s => if !s.issues c k then s else
        let s := s.regionWrite k c buf.toNat v false
        let kept := (s.gen k).input.filter fun x => x.2.1 != buf.toNat
        s.setGen k { s.gen k with input := (kept.drop (kept.length - 1)) ++ [(s.tau c, buf.toNat, v.length)] })

end Sys2Proof.Machine
end

