-- ==== Sys2Proof/Machine/Reads.lean ====
section
/-!
DEFINITION. What the mailbox reads out: READ_BEST (R155, R156, R375), CAPTURE_READ (R358, R437), MON_READ (R359); and REPLAY_START
(R285–R287).
-/
namespace Sys2Proof.Machine

/-! ## READ_BEST (R155, R156) -/

/-- The launch best (R155): the lowest best energy among the replicas of copies that still run, on a tie the lowest replica. -/
def launchBest (bests : List (Int × Nat)) (lost : List Nat) : Nat :=
  match (List.range bests.length).filter fun r => !lost.contains (r / 4) with
  | [] => 0
  | r :: rest => rest.foldl (fun b k => if ((bests[k]?).getD (0, 0)).1 < ((bests[b]?).getD (0, 0)).1 then k else b) r

/-- The audit record of a replica at a launch tick (R162). -/
def auditOf (l : List (List Byte)) (r tick : Nat) : Option (List Byte) :=
  l.find? fun x => bytesAt x 4 4 == r && bytesAt x 8 8 == tick

/-- The result of READ_BEST (R156): the header, and the spin vector of the graph in the layout of R47. -/
def bestImage (v : Coeffs) (r : Nat) (best : Int × Nat) (read : Int) (running : Bool) (audits : List (List Byte))
    (spins : Nat → BitVec 1024) : List Byte :=
  let audit := auditOf audits r best.2
  leBytes 4 r ++ leBytes 4 ((if audit.isSome then 2 else 0) + (if running then 1 else 0)) ++ leBytes 8 best.2 ++
    leBytes 8 (unsign 64 read) ++ leBytes 8 (unsign 64 best.1) ++ leBytes 4 (unsign 6 v.eG * 256 + v.mantissa % 256) ++ leBytes 4 0 ++
    leBytes 8 v.constK.toNat ++ (match audit with
      | some x => (x.drop 32).take 8
      | none => leBytes 8 0) ++ leBytes 8 0 ++
    (List.range v.blocks).flatMap fun b => leBytes 128 (spins b).toNat

/-- What READ_BEST reads of a context: coefficients, bests, lost copies, launch tick, audits and best spins (R156, R375). None when
the context holds no launch state. -/
def State.bestOf (s : State) (c : Nat) :
    Option (Coeffs × List (Int × Nat) × List Nat × Int × List (List Byte) × (Nat → Nat → BitVec 1024)) :=
  let x := s.ctx c
  match x.state, x.launch, x.saved, x.results with
  | .opened, _, _, some r => (s.version r.graph r.version).map fun v =>
      (v.coeffs, r.bests, r.lost, r.last, x.tally, fun k b => sget 0 r.spins (k * 2 ^ 20 + b))
  | .saved, _, some w, _ => (s.version w.graph w.version).map fun v =>
      (v.coeffs, w.bests, w.lost, w.tau, x.tally, fun k b =>
        match w.lanes.find? fun y => y.1 == 4 * (k / 4 * v.coeffs.blocks + b) + k % 4 with
        | some y => y.2.bestSpins
        | none => 0)
  | st, some l, _, _ =>
    if st == .loaded || st == .running || st == .held || st == .paused then (s.version l.graph l.version).map fun v =>
      (v.coeffs, l.bests, l.lost, l.tau, x.tally, fun k b => s.spinsOf l v.coeffs.blocks k true b)
    else none
  | _, _, _, _ => none

/-- READ_BEST carried out. A REPLICA that the launch does not have reads an arbitrary one of its replicas (R11). -/
def State.readBestNow (s : State) (m : Msg) : Reply × State :=
  match s.bestOf m.ctx with
  | none => (busy m.ctx, s)
  | some (v, bests, lost, tau, audits, spins) =>
    let asked := m.p 0 2
    let open_ := s.draw
    let r := if asked = 0xFFFF then (launchBest bests lost, s) else if asked < bests.length then (asked, s)
      else (open_.1 % max 1 bests.length, open_.2)
    if m.stageLen < 0x40 + 128 * v.blocks then ({ status := stCapacity }, s) else
    let running := (s.ctx m.ctx).state == .running || (s.ctx m.ctx).state == .held
    let best := (bests[r.1]?).getD (0, 0)
    ({ status := stOk, payload := leBytes 8 best.2 ++ leBytes 8 (unsign 64 best.1) },
      r.2.wrN (stagingAt m.stageOff) (bestImage v r.1 best tau running audits (spins r.1)))

/-- READ_BEST (R156): of a running launch at the first tick that starts at least 2 ticks later, else at once. -/
def State.readBest (s : State) (n : Nat) (m : Msg) : Done :=
  if (s.ctx m.ctx).state = .running ∨ (s.ctx m.ctx).state = .held then
    .wait (s.setChan n { s.chan n with due := s.tickAfter 2 })
  else let r := (s.wakeService m.ctx).readBestNow m; .answer r.1 r.2

def execReadBest (n : Channel) (s : State) : Out :=
  .next (s.message (s.chan n.val) n.val 0x0B fun m s => s.readBest n.val m)

/-- A READ_BEST that waits on a channel is carried out. -/
def State.answerBest (s : State) (n : Nat) : State := match (s.chan n).msg with
  | some b => let r := s.readBestNow (parseMsg b); r.2.endWait n r.1
  | none => s

/-- READ_BESTs that wait and whose tick has come (R156). -/
def State.serveBests (s : State) : State :=
  s.each (keysWhere s.chans fun h => h.waits && decide (h.due ≤ s.tick) && h.msg.any fun b => (parseMsg b).opcode == 0x0B) State.answerBest

/-! ## CAPTURE_READ (R358, R437) -/

/-- A journal record as bytes (R280). -/
def recordBytes (r : JRec) : List Byte :=
  let p := r.body.payload
  leBytes 4 (r.body.type * 2 ^ 24 + p.length) ++ leBytes 4 r.seq ++ leBytes 8 (unsign 64 r.tau) ++
    leBytes 4 r.cycle ++ leBytes 4 0 ++ leBytes 8 r.wall ++ padTo (32 * ceilDiv p.length 32) p

/-- The object that CAPTURE_READ names, but for the capture buffer: none when it is absent. The areas of a launch are there before their
first entry. -/
def State.objectOf (s : State) (source gen : Nat) (c : Nat) : Option (List Byte) :=
  let x := s.ctx c
  let some' := fun (l : List Byte) => if l.isEmpty then none else some l
  let area := fun (l : List Byte) => if l.isEmpty && x.launch.isNone && x.results.isNone then none else some l
  if source = 9 then some' s.groupReport
  else if x.state = .free then none
  else if source = 1 then some (x.journal.flatMap recordBytes)
  else if source = 2 then area (x.digests.flatMap (·.2))
  else if source = 3 then area x.tally.flatten
  else if source = 4 then (x.tokens.find? fun t => t.1 % 4 == gen).map (·.2)
  else if source = 5 then x.saved.map savedImage
  else if source = 6 then some' x.report
  else if source = 7 then area x.coefReports.flatten
  else if source = 8 then some' (slotBytes x.trace)
  else none

/-- CAPTURE_READ (R358). -/
def State.captureRead (s : State) (m : Msg) : Reply × State :=
  let off := m.p 8 8
  let reply := fun (len : Nat) (part : List Byte) (s : State) =>
    (({ status := stOk, payload := leBytes 8 len ++ leBytes 4 part.length } : Reply), s.wrN (stagingAt m.stageOff) part)
  if m.p 0 1 = 0 then
    if s.flag F.fltStatusCaptureBusy 0 then ({ status := stBusy }, s)
    else reply (2 ^ 29) (s.rdN (Space.capture.base + off) (min m.stageLen (2 ^ 29 - off))) (s.serviceCart (.north (off / 2 ^ 26 % 8)) m.stageLen)
  else match s.objectOf (m.p 0 1) (m.p 4 1 % 4) m.ctx with
    | none => ({ status := stNoSlot }, s)
    | some b => reply b.length ((b.drop off).take m.stageLen)
        (s.serviceCart (.north (((s.ctx m.ctx).segs.headD 0) / 256 % 8)) (min m.stageLen (b.length - off)))

def execCaptureRead (n : Channel) (s : State) : Out :=
  .next (s.message (s.chan n.val) n.val 0x12 fun m s => let r := s.captureRead m; .answer r.1 r.2)

/-! ## MON_READ (R359) -/

/-- The page that a TARGET names: its rows and its unit; none when it does not exist. -/
def State.monPage (s : State) (c target : Nat) : Option (List RegRow × Nat) :=
  let die := bits target 28 3
  let acre := bits target 25 3
  let st := bits target 20 5
  let page := bits target 16 4
  let place : Option (Nat × Nat) :=
    if bits target 31 1 = 0 then (if st < 17 ∨ page = 0xA then some (8 * die + acre, (8 * die + acre) * 17 + st) else none)
    else (s.launch c).bind fun l => (l.dieOf (l.first + die)).bind fun d =>
      if st < 16 ∨ page = 0xA then some (8 * d + acre, s.physStook d acre st) else none
  place.bind fun p =>
    if page < 8 then some (rowsShf, 8 * p.2 + page)
    else if page = 8 then some (rowsHrw, p.2)
    else if page = 9 then some (rowsStk, p.2)
    else if page = 0xA then some (rowsAcr, p.1)
    else none

/-- MON_READ (R359). Without STAGE at most 224 bytes are read. -/
def State.monRead (s : State) (m : Msg) : Reply × State :=
  let t := m.p 0 4
  match s.monPage m.ctx t with
  | none => ({ status := stNoSlot }, s)
  | some (rows, u) =>
    let b := s.pageBytes rows u (bits t 0 12) (min (m.p 4 2) (if m.stage then m.stageLen else 224))
    let s := s.serviceCart (stookSpot (if bits t 16 4 = 0xA then 17 * u else if bits t 16 4 < 8 then u / 8 else u)) b.length
    if m.stage then ({ status := stOk }, s.wrN (stagingAt m.stageOff) b) else ({ status := stOk, payload := b }, s)

def execMonRead (n : Channel) (s : State) : Out :=
  .next (s.message (s.chan n.val) n.val 0x14 fun m s => let r := s.monRead m; .answer r.1 r.2)

/-! ## REPLAY_START (R285–R287) -/

end Sys2Proof.Machine

namespace Sys2Proof
open Sys2Proof.Machine

/-- Records that a replay compares (R281): PATCH, INPUT, VRESULT, DIGEST. -/
def JBody.compared (b : JBody) : Bool := decide (2 ≤ b.type) && decide (b.type ≤ 5)

end Sys2Proof

namespace Sys2Proof.Machine

/-- The schedule image that a context still keeps. -/
def Ctx.image (x : Ctx) : Option (List Byte) := match x.launch, x.saved, x.results with
  | some l, _, _ => some l.image
  | none, some w, _ => some w.sched
  | none, none, some r => some r.image
  | none, none, none => none

/-- The patches of a journal, a run of PATCH records with one TAU being one patch (R281). -/
def patchesOf (l : List JRec) : List (Int × List Item) := l.foldl (fun out r => match r.body, out.getLast? with
  | .patch items, some x => if x.1 = r.tau then out.dropLast ++ [(r.tau, x.2 ++ items)] else out ++ [(r.tau, items)]
  | .patch items, none => [(r.tau, items)]
  | _, _ => out) []

/-- The replay that a message asks for, over the compared records of a journal from a launch tick on. -/
def replayOf (m : Msg) (j : List JRec) (from_ : Int) : Replay where
  ref := m.p 0 2 % 2 ^ 14
  records := j.filter fun r => r.body.compared && decide (from_ ≤ r.tau)
  windowStart := m.p 8 8
  windowEnd := m.p 0x10 8
  traceTick := m.p 0x18 8
  traceLane := if m.p 4 1 / 4 % 2 = 1 then 2 ^ 31 + m.p 0x20 4 % 2 ^ 21 / 4 else m.p 0x20 4 % 2 ^ 21
  stop := m.p 4 1 % 2 == 1
  firstBad := none
  lastGood := 0
  badSeq := none
  badLanes := 0
  trace := []

/-- Window of a replay as its START record carries it. -/
def Replay.window (r : Replay) : Option (Option (Nat × Nat)) :=
  some (if r.windowStart ≤ r.windowEnd then some (r.windowStart, r.windowEnd) else none)

/-- Last launch tick of a replay whose reference has no END record (R285). -/
def replayEnd (j : List JRec) (ticks : Nat) : Nat :=
  if j.any fun r => r.body.type == 8 then ticks
  else min ticks (((j.filter fun r => r.body.compared).map fun r => (r.tau + 1).toNat).foldl max 0)

/-- The launch of a replay given its inputs and patches, which its own journal takes too; on a patch that no longer fits, the load is undone
with CAPACITY. A patch that the image books is converted again at its hand-over (R199). -/
def State.feedReplay (s t : State) (c : Nat) (r : Replay) (ticks : Nat) : Reply × State :=
  let t := t.modLaunch c fun l => {
    l with replay := some r, inputs := journalInputs r.records l.tau, sched := { l.sched with ticks := ticks } }
  let coefs := (t.launch c).elim [] fun l => l.sched.coefs
  let patches := (patchesOf r.records).filter fun p => !coefs.any fun (d : CoefDecl) => d.apply == p.1
  let t := (r.records.filter fun x => match x.body with
    | .input _ => true
    | .patch _ => !coefs.any fun (d : CoefDecl) => d.apply == x.tau
    | _ => false).foldl (fun t x => t.journal c x.body x.tau x.cycle) t
  match t.rederive c (patches.map fun p => { apply := p.1, version := 0, items := p.2, booked := false }) with
  | none => ({ status := stCapacity }, s)
  | some t => ({ status := stOk }, t)

/-- A version that has retired serves a replay of a launch that held it; it retires again once the replay leaves it (R285, R382). -/
def State.revive (s : State) (g n : Nat) : State := match s.graph g with
  | none => s
  | some gr => s.setGraph g (some { gr with versions := gr.versions.map fun v =>
      if v.num = n ∧ v.state = .retired then { v with state := .live } else v })

/-- The start of a replay from a reference's START record. -/
def State.replayFresh (s : State) (m : Msg) (j : List JRec) (image : List Byte) (w : Sched) (seed : BitVec 128) (v : Version) (g : Nat) :
    Reply × State :=
  let r := replayOf m j (-w.prologue)
  let a : Ask := { graph := g, version := v.num, stream := m.p 0x24 4 % 4096, seq := m.seq, follow := false, seed := seed, image := image }
  let x := (s.revive g v.num).launchWith m.ctx a w v r.window
  if (x.2.ctx m.ctx).state = .loaded then s.feedReplay x.2 m.ctx r (replayEnd j w.ticks) else (x.1, x.2.sweep g)

/-- The start of a replay from a saved state. -/
def State.replaySaved (s : State) (m : Msg) (j : List JRec) (w : Sched) (saved : Saved) (v : Version) : Reply × State :=
  let r := replayOf m j saved.tau
  let t := s.setCtx m.ctx { s.ctx m.ctx with journal := [], journalNext := 0, digests := [], tally := [], report := [], trace := [] }
  let x := t.resumeLoad m.ctx (m.p 0x24 4 % 4096) m { saved with patches := [], inputs := [] } saved.graph v
  if (x.2.ctx m.ctx).state = .loaded then
    let t := match x.2.launch m.ctx with
      | some l => x.2.journal m.ctx (startRecord x.2 l r.window) l.tau 0
      | none => x.2
    s.feedReplay t m.ctx r (replayEnd j w.ticks)
  else (x.1, s)

/-- REPLAY_START (R285, R358). -/
def State.replayStart (s : State) (m : Msg) : Reply × State :=
  let ref := m.p 0 2 % 2 ^ 14
  let x := s.ctx ref
  let st := x.state
  let noSlot := (({ status := stNoSlot, detail := ref } : Reply), s)
  let own := (s.ctx m.ctx).state
  let fromSaved := m.p 4 1 / 2 % 2 == 1
  let saved := (s.ctx m.ctx).saved <|> x.saved
  if own == .free then ({ status := stNoSlot, detail := m.ctx }, s)
  else if st == .loaded || st == .running || st == .held then (busy ref, s)
  else if st == .free then noSlot
  else match x.journal.findSome? fun r => match r.body with
      | .start classT _ _ _ _ seed g v h _ => some (classT, seed, g, v, h)
      | _ => none with
    | none => noSlot
    | some (classT, seed, g, n, h) =>
      if classT then ({ status := stLevel, detail := ref }, s)
      else if !(own == .opened || own == .faulted || (fromSaved && own == .saved)) then (busy m.ctx, s)
      else if !s.streamFree (m.p 0x24 4 % 4096) m.ctx then ({ status := stNotOwner, detail := m.p 0x24 4 % 4096 }, s)
      else match x.image.bind fun i => (Config.readSched i).map fun w => (i, w) with
        | none => noSlot
        | some (image, w) =>
          if fromSaved then match saved with
            | none => noSlot
            | some k => match s.version k.graph k.version with
              | some v => s.replaySaved m x.journal w k v
              | none => noSlot
          else match s.version g n with
            | some v => if v.hash ≠ h then noSlot else s.replayFresh m x.journal image w seed v g
            | none => noSlot

def execReplayStart (n : Channel) (s : State) : Out :=
  .next (s.message (s.chan n.val) n.val 0x11 fun m s => let r := s.replayStart m; .answer r.1 r.2)

end Sys2Proof.Machine
end

