-- ==== Sys2Proof/Machine/Ticks.lean ====
section
/-!
DEFINITION. The tick (R136–R140): the tick word, the tick boundary with the holds of R138 and R139, the drains of R134 and R338, the start
and the end of a launch (R373, R375), and what the Badger does at booked ticks (R199, R200, R268, R284).
-/
namespace Sys2Proof.Machine

/-! ## Cycle 0 of a launch's tick (R107, R118) -/

/-- The launch that a staged write's unit serves; none for the pages that keep to wall ticks. -/
def State.stagedFor (s : State) (w : Staged) : Option Nat :=
  let u := w.idx / w.reg.copies
  match w.reg.page with
  | .shf => (s.engine u).ctx
  | .hrw => (s.gen u).ctx <|> (s.core (4 * u)).ctx
  | _ => none

/-- Staged writes of which a property holds take effect, in order (R108, R201, R237). -/
def State.takeStaged (s : State) (p : Staged → Bool) : State :=
  let due := s.staged.filter p
  due.foldl (fun s w => s.settle w.reg w.idx w.value) { s with staged := s.staged.filter fun w => !p w }

/-- RUN of an engine at a launch tick: 1 from τ = 0 on, or as the last write booked in an earlier tick says (R108, R140). -/
def runBooked (w : Sched) (pos : Nat) (tau : Int) : Nat :=
  if tau < 0 then 0 else match (w.writes.filter fun x => x.reg == 3 && x.block == pos && decide (x.tau < tau)).getLast? with
    | some x => x.value.toNat % 2
    | none => 1

/-- The pending GROUP proposals of an engine are withdrawn (R131). -/
def State.withdrawGroup (s : State) (e : Nat) : State :=
  s.each ((List.range 4).map (4 * e + ·)) fun s n => s.withdraw n fun p => recGroup p.record

/-- A lane at cycle 0 of a tick: logs and journals change parity, the snapshot is taken, and the fields of the spins in the last log are
latched (R102, R107, R118). -/
def State.beginLane (s : State) (n : Nat) (tau : Int) : State :=
  let ln := s.lane n
  let keep := ln.field.filter fun x => ln.undo.any fun u => u.pos == x.1 % 1024
  let s := s.setLane n { ln with
    undoPrev := ln.undo, undo := [], flips := [], flipsPrev := ln.flips, flipsOld := ln.flipsPrev, snap := ln.spins, snapTau := tau
    latched := keep, resolved := false, rolled := [] }
  (s.setFld F.shfSnapEnergySnap n (s.fld F.shfEnergyEnergy n)).setFld F.shfUndoUsed n 0

/-- The items of a live patch that fall to an engine at its apply tick. -/
def State.itemsFor (s : State) (c e : Nat) (l : Launch) : List Item :=
  match l.patches.find? fun p => p.apply == l.tau with
  | some p => p.items.filter fun x => x.a / 1024 == s.graphBlock c e
  | none => []

/-- An engine at cycle 0 of a tick of its launch (R107). `fresh` is the first tick with decisions after a stop. The overlay has written its codes
by then (R132). An engine that decides no longer withdraws its GROUP proposals (R131). -/
def State.beginEngine (s : State) (c e : Nat) (l : Launch) (fresh : Bool) : State :=
  let s := s.flushOverlay e
  let g := s.engine e
  let drains := l.windowOnly && l.drain.isSome
  let s := if l.windowOnly then s else (l.sched.writes.filter fun w => w.tau + 1 == l.tau && w.block == g.pos).foldl (fun s w => s.cfgWrite e w) s
  let s := if drains then s.setFld F.shfCtrlRun e 0
    else if fresh || l.tau == 0 then s.setFld F.shfCtrlRun e (runBooked l.sched g.pos l.tau) else s
  let s := if !s.flag F.shfCtrlRun e && s.fld F.shfStatusLaneRun e != 0 then s.withdrawGroup e else s
  let s := s.openTiles c e l l.turn
  let points := (List.range (s.fld F.shfSchedCtrlPoints e)).map fun k => (s.fld F.shfSchedTick (256 * e + k), s.fld F.shfSchedBase (256 * e + k))
  let s := (s.setReg .shfTick e (BitVec.ofInt 64 l.tau)).setFld F.shfStatusNoiseHeld e (if l.windowOnly && !drains then 1 else 0)
  let items := if l.windowOnly then [] else s.itemsFor c e l
  let s := s.setEngine e { s.engine e with
    base := baseAt points l.tau, slot := 0, outUsed := [], tilesPrev := g.tiles, tiles := [], noticesPrev := g.notices, notices := []
    items := items, voted := false }
  (s.each ((List.range 4).map (4 * e + ·)) fun s n => s.beginLane n l.tau).showLanes e

/-- Whether a launch tick is a token boundary of a generator that runs (R193, R197), and whether a step may start in it. -/
def State.genBoundary (s : State) (k : Nat) (tau : Int) : Bool :=
  decide ((tau - s.fld F.hrwGenStartT0 k) % (max 1 (s.fld F.hrwGenCtrlPTok k) : Nat) = 0)

/-- The field-noise keys of the acres as they stand at cycle 0 (R85, R477). -/
def State.acreKeys (s : State) : Sparse (Option (BitVec 128)) := s.acres.foldl (fun m a => sput none m a.1 a.2.key) []

/-- The generators of a launch whose step starts in a tick take the key of that tick (R191). -/
def State.stepKeys (s : State) (c : Nat) (l : Launch) : State :=
  s.each ((s.gensOf c).filter fun k => !l.windowOnly && s.genBoundary k l.tau) fun s k =>
    s.setGen k { s.gen k with key := (s.acre (k / 17)).key }

/-- A tick of a launch begins on a list of its engines (R107, R118). A write of a generator's register waits for the token boundary of that
generator (R201). -/
def State.beginOn (s : State) (c : Nat) (fresh : Bool) (engines : List Nat) : State :=
  let keys := s.acreKeys
  let s := s.modLaunch c fun l => { l with
    phase := .none, holds := [], vote := none, resumeAt := none, void := false, again := none, keys := if l.sched.fieldNoise then keys else [] }
  match s.launch c with
  | none => s
  | some l =>
    let s := s.takeStaged fun w => s.stagedFor w == some c &&
      (!w.token || (!l.windowOnly && s.genBoundary (w.idx / w.reg.copies) l.tau))
    let s := s.stepKeys c l
    let s := if s.applyTick c && !l.windowOnly then s.withdrawAll c else s
    s.each engines fun s e => s.beginEngine c e l fresh

/-- A tick of a launch begins. -/
def State.beginTick (s : State) (c : Nat) (fresh : Bool) : State :=
  let s := s.modLaunch c fun l => { l with turn := l.turn + 1 }
  let s := s.beginOn c fresh (s.enginesOf c)
  s.castVotes c

/-! ## Holds (R138, R139) -/

/-- Whether a fallow tick holds a launch (R461). -/
def State.fallowFor (s : State) (l : Launch) : Bool := l.homes.any fun d => s.fallow.testBit d

/-- Whether the field-noise key of the tick is missing for a launch (R109). -/
def State.keyMissing (s : State) (c : Nat) (l : Launch) : Bool :=
  l.sched.fieldNoise && ((s.enginesOf c).any fun e => decide (e < 8704) && ((s.acre (e / 136)).key).isNone)

/-- Whether the items of the patch that applies in a launch's tick are still to be staged in the stooks' cribs (R132). -/
def State.itemsMissing (s : State) (l : Launch) : Bool := !l.windowOnly && l.patches.any fun p => p.apply == l.tau && decide (s.tick < p.due)

/-- Causes that hold a launch at cycle 0, but for the key. `group` says that the tick is an alignment or trim tick. -/
def State.zeroHolds (s : State) (c : Nat) (l : Launch) (group : Bool) : List Hold :=
  (if l.stopped.isSome then [.stop] else []) ++ (if s.fallowFor l then [.fallow] else []) ++ (if s.itemsMissing l then [.patch] else []) ++
    (if group || s.stallAt c l.tau == some 0 then [.group] else [])

/-- Causes of a hold inside a tick that still stand. -/
def State.midHolds (s : State) (c : Nat) (l : Launch) : List Hold :=
  let span := match s.winnowAcre c with
    | some a => s.fld F.acrTallyCtrlAuditSpan a
    | none => 0
  l.holds.filter fun h => match h with
    | .tile => (s.enginesOf c).any fun e => !s.tilesIn c e
    | .verdict => true
    | .tally => l.audits.any fun a => decide ((a.tick : Int) ≤ l.tau - span) && a.energy.isNone
    | .group => s.stallAt c l.tau == some 48
    | _ => false

/-- Whether what a stall waits for on this member has come (R408, R462). -/
def State.stallMet (s : State) (c : Nat) (x : Stall) : Bool :=
  !x.mine || (if x.cause = 3 then (match s.group with
    | some g => (g.results.any (·.1.tau == x.tau)) && g.results.all fun r => r.1.tau != x.tau || r.2
    | none => false)
  else if x.cause = 4 then false
  else (s.enginesOf c).all fun e => s.tilesIn c e)

/-- A member that a group stall holds at its hold point reaches the barrier (R408). -/
def State.meetStall (s : State) (c : Nat) : State :=
  match s.group with
  | some g => match g.stalls with
    | x :: _ => if s.stallMet c x then s.meetAt .stall else s
    | [] => s
  | none => s

/-- The engines of a launch that holds a whole wall tick decide nothing; for want of a key NOISE_HELD is set (R109) and GROUP proposals are
withdrawn (R131). -/
def State.quiet (s : State) (c : Nat) (key : Bool) : State :=
  s.each (s.enginesOf c) fun s e => (if key then (s.withdrawGroup e).setFld F.shfStatusNoiseHeld e 1 else s).setFld F.shfStatusLaneRun e 0

/-- Whether a patch of a group launch waits for the combined vote of its apply tick (R407, R408). -/
def State.votesDue (s : State) (c : Nat) (l : Launch) : Bool :=
  s.isGroup c && !l.windowOnly && l.patches.any (·.apply == l.tau) &&
    s.group.any fun g => !g.results.contains (({ switch := false, tau := l.tau } : Ballot), true)

/-- A patch without its combined vote stalls the group at cycle 0 (R408); a member whose items have come since votes again. -/
def State.stallVotes (s : State) (c : Nat) (l : Launch) : State :=
  let s := if s.votesDue c l then s.castVotes c else s
  if s.votesDue c l && s.stallAt c l.tau != some 0 then s.raiseStall l.tau false 3 else s

/-- A launch tries to begin its tick (R138): it begins, or holds the whole wall tick at cycle 0. A launch whose key alone is missing runs
the exchange window without deciding, once, and is HELD (R109). -/
def State.enterTick (s : State) (c : Nat) (group fresh : Bool) : State :=
  match s.launch c with
  | none => s
  | some l =>
    let patchDue := s.votesDue c l
    let s := s.stallVotes c l
    let holds := s.zeroHolds c l group
    let drains := l.windowOnly && l.drain.isSome
    let key := !drains && s.keyMissing c l
    if !holds.isEmpty || patchDue then
      let at_ := if holds.isEmpty then [.group] else holds
      let s := (s.modLaunch c fun l => { l with phase := .whole, holdAt := 0, holds := at_ ++ (if key then [.key] else []) }).quiet c key
      if at_.contains .group then s.meetStall c else s
    else if key then
      if (s.ctx c).state = .held ∨ fresh then
        ((s.modLaunch c fun l => { l with phase := .whole, holdAt := 0, holds := [.key], windowOnly := false }).quiet c true).setState c .held
      else ((s.modLaunch c fun l => { l with windowOnly := true }).setState c .held).beginTick c false
    else
      let was := (s.ctx c).state == .held
      let s := if was && !drains then s.setState c .running else s
      let s := s.beginTick c (fresh || was)
      if s.stallAt c l.tau = some 48 then s.modLaunch c (·.hold .group 48) else s

/-! ## From one launch tick to the next -/

/-- The report of a booked coefficient patch (R200): in the list of the launch's reports, and in the area in GDDR 7 that its image names. -/
def State.coefReported (s : State) (c : Nat) (l : Launch) (apply : Int) (report : List Byte) : State :=
  let s := s.setCtx c { s.ctx c with coefReports := (s.ctx c).coefReports ++ [report] }
  match l.sched.coefs.find? fun d => d.apply == apply with
  | some d => s.gddrPut c l d.report report
  | none => s

/-- A live patch that has taken effect at the tick that ends (R132, R133): the launch holds its version; a booked coefficient patch
reports (R200). -/
def State.settlePatch (s : State) (c : Nat) (l : Launch) : State :=
  match l.patches.find? fun p => p.apply == l.tau with
  | none => s
  | some p =>
    if l.vote ≠ some true then s else
    let s := s.modLaunch c fun l => { l with
      version := p.version, patches := l.patches.filter (·.apply != p.apply), past := l.past ++ [p] }
    let s := if p.booked then s.coefReported c l p.apply p.report else s
    s.sweep l.graph

/-- A launch that has passed the logical time at which its interruption ends, and the one up to which it replays (R417, R427). -/
def State.settleRecovery (s : State) (c : Nat) (l : Launch) : State :=
  match l.recover with
  | none => s
  | some r =>
    let s := if r.faults.isEmpty ∨ l.tau < r.untilTau then s else s.closeRecovery c ((s.tick - 1) * 1024 + r.untilCyc)
    if l.tau < r.tau then s else s.modLaunch c fun l => { l with recover := none }

/-- Whether a checkpoint is due at a launch tick (R338). -/
def State.ckptDue (s : State) (c : Nat) (l : Launch) : Bool :=
  decide (0 ≤ l.tau) && decide (l.tau < l.sched.ticks) && decide (l.ckpt < l.tau / 256 * 256) && s.tokenBoundary c l.tau

/-- A drain begins (R134): RUN is cleared at this boundary, and GROUP proposals are withdrawn (R131). -/
def State.startDrain (s : State) (c : Nat) (f : DrainFor) (ch : Option Nat) : State :=
  let s := s.modLaunch c fun l => { l with drain := some (f, ch, 2), windowOnly := true }
  s.each (s.enginesOf c) State.withdrawGroup

/-- What a waiting PAUSE or SAVE drains for. -/
def State.drainFor (s : State) (n : Nat) : DrainFor :=
  if (s.chan n).msg.any fun b => (parseMsg b).opcode == 0x09 then .save else .pause

/-- The drain that the launch's tick asks for, if any: one that a message waits for, else a checkpoint. A PAUSE or SAVE that came
during the drain of a checkpoint has its turn after it. -/
def State.chooseDrain (s : State) (c : Nat) : State := match s.launch c with
  | none => s
  | some l => match l.drain with
    | some (f, ch, 1) => if s.tokenBoundary c l.tau then s.startDrain c f ch else s
    | some _ => s
    | none =>
      if s.ckptDue c l then s.startDrain c .ckpt none else
      match s.waiters c [0x08, 0x09] with
      | n :: _ => if s.tokenBoundary c l.tau then s.startDrain c (s.drainFor n) (some n) else s
      | [] => s

/-- The wall tick that ends was a whole tick of the launch: what the next one is (R134, R338). Answers whether decisions start afresh. -/
def State.advanceLogical (s : State) (c : Nat) (l : Launch) : Bool × State :=
  let drain := fun (d : Option (DrainFor × Option Nat × Nat)) (w : Bool) => s.modLaunch c fun l => { l with drain := d, windowOnly := w }
  match l.windowOnly, l.drain with
  | true, some (f, ch, n) =>
    if n = 1 then (false, (s.modLaunch c fun l => { l with windowOnly := false }).chooseDrain c)
    else if n = 2 then (false, drain (some (f, ch, 3)) true)
    else if f = .ckpt then
      if n < 3 + max 1 l.sched.captureTicks then (false, drain (some (f, ch, n + 1)) true)
      else if l.ckpt = l.tau then (true, drain none false)
      else (false, s)
    else (false, s)
  | true, none => (false, (s.modLaunch c fun l => { l with windowOnly := false }).chooseDrain c)
  | false, _ =>
    let s := ((s.sampleTick c (896 * 16)).settlePatch c l).settleRecovery c l
    (false, (s.modLaunch c fun l => { l with tau := l.tau + 1 }).chooseDrain c)

/-- A whole tick of hold is no part of an interruption (R417), unless the launch holds for its recovery alone. -/
def State.countHold (s : State) (c : Nat) : State :=
  s.modLaunch c fun l => if l.holds.all (· == .stop) then l else { l with
    recover := l.recover.map fun (r : Recovery) => { r with held := r.held + 1 }
    stopped := l.stopped.map fun (x : Stopped) => { x with held := x.held + 1 } }

/-- A launch held whole at cycle 0 tries again; a drain that a message waits for starts without its key. -/
def State.retryTick (s : State) (c : Nat) (group : Bool) : State := (s.chooseDrain c).enterTick c group false

/-- A folded launch at a boundary at which no hold inside a tick stands (R273): its frame goes on in the wall tick that begins, unless a cause
holds it. A logical tick ends with the last wall tick of its frame. -/
def State.frameBoundary (s : State) (c : Nat) (l : Launch) (group : Bool) : State :=
  let ended := decide (l.phase ≠ .whole) && l.frame == 74
  let r := if ended then s.advanceLogical c l else (l.fresh, s)
  match r.2.launch c with
  | none => r.2
  | some m =>
    let s := if m.frame = 74 then r.2.stallVotes c m else r.2
    let holds := s.zeroHolds c m group ++ (if m.frame = 74 && s.votesDue c m then [.group] else [])
    let s := s.modLaunch c fun l => { l with phase := .whole, holdAt := 0, holds := holds, fresh := r.1 }
    if holds.isEmpty then s else
      let s := (s.countHold c).quiet c false
      if holds.contains .group then s.meetStall c else s

/-- A launch at a tick boundary. -/
def State.launchBoundary (s : State) (c : Nat) (group : Bool) : State :=
  match s.launch c with
  | none => s
  | some l =>
    if !((s.ctx c).state == .running || (s.ctx c).state == .held) then s
    else match l.resumeAt with
    | some t =>
      if s.tick < t ∨ (s.releaseOf c).any (fun r => decide (s.tick < r.tick)) ∨ s.awakeFor l (s.blocksOf c) = false then s
      else if l.folded then
        ((s.acted c).modLaunch c fun l => { l with resumeAt := none }).frameBoundary c { l with phase := .whole, fresh := true } group
      else ((s.acted c).modLaunch c fun l => { l with resumeAt := none }).enterTick c group true
    | none =>
      let l := match l.phase, l.again with
        | .ends, some t => { l with phase := .begins, holdAt := t, again := none }
        | _, _ => l
      let s := s.modLaunch c fun _ => l
      let mid := decide (l.phase = .begins) || (decide (l.phase = .whole) && decide (l.holdAt ≠ 0))
      if mid then
        let still := s.midHolds c l ++ (if l.stopped.isSome then [.stop] else []) ++ (if s.fallowFor l then [.fallow] else []) ++ (if group then [.group] else [])
        if still.isEmpty then s.each (s.enginesOf c) State.showLanes |>.modLaunch c fun l => { l with phase := .ends, holds := [] }
        else
          let s := ((s.modLaunch c fun l => { l with phase := .whole, holds := still }).countHold c).quiet c false
          if still.contains .group && s.stallAt c l.tau == some 48 then s.meetStall c else s
      else if l.folded then
        s.frameBoundary c l group
      else if l.phase = .whole then (s.countHold c).retryTick c group
      else
        let r := s.advanceLogical c l
        r.2.enterTick c group r.1

/-! ## The boundary (R136, R137) -/

/-- TICK_WORD (R137): the word for the next boundary arrives at cycle 1,008. -/
def execTickWord (w : BitVec 96) (s : State) : Out := .next (s.within 1008 1023 fun s => { s with arrived := some w })

/-- One cycle of the wall tick passes while no command waits; the last one of a tick stands until TICK_BOUNDARY (log 11). -/
def State.idle (s : State) : State := { s with cyc := min (s.cyc + 1) 1023 }

/-- T advances, and the fallow mask of the new tick takes effect (R136, R137, R461); a trim tick is fallow everywhere (R402). The refresh windows
of the tick that ends have rewritten the stale members (R332, R334). -/
def State.nextTick (s : State) : State :=
  let mask := match s.arrived with
    | some w => bits w.toNat 24 8
    | none => s.fld F.pwrStatusFallowNext 0
  let trim := s.group.any fun g => g.trimAt == some ((s.groupTick + 1) % 2 ^ 64)
  let mask := if trim then 255 else mask
  let stale := s.stale
  let s : State := { (s.setReg .hubTick 0 (s.reg .hubTick 0 + 1)) with
    cyc := 0, arrived := none, fallow := mask, entAsked := 0, stale := [], standbyTick := s.standbyTick + 1 }
  let s := s.each (stale.map (·.1)).eraseDups fun s d => s.setFld F.gddStatusStaleUsed d 0
  let s := s.each ((List.range 8).filter mask.testBit) fun s d => s.wrap F.pwrFallowTicks d 1
  let s := s.each (List.range 64) fun s a => s.setAcre a { s.acre a with key := (s.acre a).keyNext, keyNext := none, waitMax := 0 }
  let s := s.each (keysWhere s.engines fun e => e.accept != 0) fun s e => s.setEngine e { s.engine e with accept := 0 }
  let s : State := { s with sources := s.sources.map fun x => (x.1, { x.2 with inTick := 0 }) }
  if s.tick % 32 = 0 then s.each (List.range 32) fun s k => s.wrap F.grnEccScrubRow k 1 else s

/-- Watchdogs do not count while their context does not run or recovers (R364, R416). -/
def State.watchdogTick (s : State) : State :=
  s.each (keysWhere s.streams fun x => x.deadline.isSome && x.ctx.isSome) fun s x =>
    let still : Bool := match (s.stream x).ctx with
      | some c => !((s.ctx c).state == .running) || (s.launch c).any fun l => l.recover.isSome || l.stopped.isSome
      | none => false
    if still then s.setStream x { s.stream x with deadline := (s.stream x).deadline.map (· + 1) } else s

/-- The counters of the two barn dies are compared (R25); a disagreement is reported once (R431). The field dies follow HUB_TICK, so that it is
the standby's count that differs from theirs. -/
def State.compareTicks (s : State) : State :=
  if s.standbyTick = s.reg .hubTick 0 ∨ s.barnLost ≠ [] ∨ s.reports.any (·.code == 0x17) then s
  else s.reportAt 0x17 0 0 31 31 (1 - s.fld F.hubStatusActiveBarn 0) 0 none

/-- TICK_BOUNDARY (R136). -/
def State.boundary (s : State) : State :=
  let s := ((s.cartTo ((s.tick + 1) * 1024)).samplePoints.clearOuts.nextTick).compareTicks.groupBoundary
  let group := s.groupHolds
  let s := s.modGroup fun g => { g with alignDue := false }
  let s := s.wakeTick.sleepTick
  let s := s.each (s.ctxs.map (·.1)) fun s c => s.launchBoundary c group
  let idle := fun (c : Option Nat) => match c with
    | some c => !((s.ctx c).state == .running || (s.ctx c).state == .held)
    | none => true
  let s := s.takeStaged fun w => idle (s.stagedFor w)
  (s.drawKeys.serveReads).serveBests.watchdogTick

def execTickBoundary (s : State) : Out := .next (if s.powered then s.boundary else s)

/-! ## Start and end of a launch -/

/-- LAUNCH_START (R292, R373, R379, R450): at wall tick T0, once the barrier release has come and its acres are awake, a LOADED context becomes RUNNING, or HELD without its first key. -/
def execLaunchStart (c : CtxId) (s : State) : Out :=
  let n := c.val
  .next (s.within 0 0 fun s' => match s'.launch n with
  | some l =>
    if (s'.ctx n).state = .loaded ∧ l.t0 ≤ s'.tick ∧ !(s'.waiters n [0x07, 0x0A]).any (fun _ => l.group) ∧
        ((s'.releaseOf n).all fun r => decide (r.tick ≤ s'.tick)) ∧ s'.awakeFor l (s'.blocksOf n) = true then
      let s := (s'.acted n).setState n .running
      if l.folded then
        (s.modLaunch n fun l => { l with frame := 74 }).frameBoundary n { l with phase := .whole, fresh := true } s.groupHolds
      else s.enterTick n s.groupHolds true
    else s
  | none => s)

/-- Results of a launch that ends (R375). -/
def State.resultsOf (s : State) (l : Launch) (v : Coeffs) (last : Int) : Results where
  graph := l.graph
  version := l.version
  sched := l.sched
  image := l.image
  copies := l.copies
  bests := l.bests
  spins := (List.range l.replicas).foldl (fun m r => (List.range v.blocks).foldl (fun m b =>
    sput 0 m (r * 2 ^ 20 + b) (s.spinsOf l v.blocks r true b)) m) []
  audits := []
  hist := l.hist
  perm := l.perm
  lost := l.lost
  last := last
  winnowCount := match l.root with
    | some a => s.reg .acrWinnowCount a
    | none => 0
  statSamples := (l.acres v.blocks).map fun a => (8 * a.1 + a.2.1, s.reg .acrStatSamples a.2.2)
  statCribs := (l.acres v.blocks).map fun a => (8 * a.1 + a.2.1, 0, s.counters a.2.2)

/-- The acres' parts of the energy of a replica's best state, by `8 * field + acre` (R161). -/
def State.bestParts (s : State) (l : Launch) (blocks r : Nat) : Sparse Int :=
  (l.acres blocks).foldl (fun p a => sput 0 p (8 * a.1 + a.2.1) (((l.placed blocks).filter fun idx =>
    idx / 128 == 8 * a.1 + a.2.1 && idx / blocks == r / 4).map fun idx => match s.engineAt l idx with
      | some e => (s.lane (4 * e + r % 4)).bestEnergy.toInt
      | none => 0).sum) []

/-- The audit of the launch best (R159), under the coefficients in force when its state was captured. -/
def State.bestAudit (s : State) (l : Launch) (blocks : Nat) : Audit where
  tick := ((l.bests[launchBest l.bests l.lost]?).getD (0, 0)).2
  replica := launchBest l.bests l.lost
  version := s.versionAt l ((l.bests[launchBest l.bests l.lost]?).getD (0, 0)).2
  spins := s.auditSpins l blocks (launchBest l.bests l.lost) true
  parts := s.bestParts l blocks (launchBest l.bests l.lost)
  energy := some ((l.bests[launchBest l.bests l.lost]?).getD (0, 0)).1

/-- Audit records that are emitted at the end of a launch (R159, R162): those due later whose reduction was made, in ascending tick, then the
audit of the launch best; a part that differs there is reported like any other (R161). -/
def State.finalAudits (s : State) (c : Nat) (l : Launch) (v : Coeffs) : State :=
  let on := (s.winnowAcre c).any fun a => s.flag F.acrTallyCtrlAuditEn a
  let s := s.emitAudits c l ((l.audits.filter (·.energy.isSome)).mergeSort fun x y => decide (x.tick ≤ y.tick))
  let x := s.bestAudit l v.blocks
  let w := ((s.version l.graph x.version).map (·.coeffs)).getD v
  let r := ({ s with free := s.free + 1 } : State).auditRecord l w x true
  let s := if on then (r.2.each (auditParts l w x).1 fun s a => s.mismatch c a).putAudit c l r.1 else s
  s.auditBusy c 0

/-- The end of a launch (R281, R365, R375): results, audits, END, the replay's report, the completion word; the context is OPEN. A folded
launch has the verdict of its last logical tick applied first (R273, R274). -/
def State.endLaunch (s : State) (c : Nat) (l : Launch) (v : Coeffs) (last : Int) : State :=
  let s := match l.verdict with
    | some w => if l.folded then s.applyVerdict c l w else s
    | none => s
  let l := (s.launch c).getD l
  let s := ((s.withdrawAll c).sampleTick c (2 ^ 20)).finalAudits c l v
  let res := s.resultsOf l v last
  let s := s.dropObject c
  let s := match s.allocKeep (segsFor (128 * l.replicas * v.blocks)) with
    | some (segs, s) => s.setCtx c { s.ctx c with objSegs := segs }
    | none => s
  let s := (s.journal c (.fin last.toNat) last 0).release c
  let s := s.setCtx c { s.ctx c with
    state := .opened, launch := none, results := some res
    report := match l.replay with | some r => replayReport r | none => (s.ctx c).report
    trace := match l.replay with | some r => r.trace | none => (s.ctx c).trace }
  let s := s.done l.stream l.seq stOk
  let s := s.each (s.waiters c [0x0B]) State.answerBest
  (s.failWaiters c).sweepAll

/-- LAUNCH_END (R375): the last launch tick has ended. -/
def execLaunchEnd (c : CtxId) (s : State) : Out :=
  .next (match s.launch c.val, s.versionOf c.val with
  | some l, some v =>
    if ((s.ctx c.val).state = .running ∨ (s.ctx c.val).state = .held) ∧ (l.sched.ticks : Int) ≤ l.tau then
      s.endLaunch c.val l v.coeffs (l.sched.ticks - 1)
    else s
  | _, _ => s)

/-- DIGEST_WRITE (R284, R285): at cycle 1,000 of a digest tick; a replay with STOP ends at its first mismatch. -/
def execDigestWrite (c : CtxId) (s : State) : Out :=
  let n := c.val
  .next (s.within 1000 1023 fun s' => match s'.launch n, s'.versionOf n with
  | some l, some v =>
    let lanes := s'.enabledLanes n l
    if s'.moving n && l.digestTick && (lanes.all fun p => (s'.lane p.2).resolved) && (!l.folded || l.frame == 74) then
      let t := s'.writeDigest n l
      match t.launch n with
      | some l' => if l'.replay.any fun r => r.stop && r.firstBad.isSome then t.endLaunch n l' v.coeffs l'.tau else t
      | none => t
    else s
  | _, _ => s)

/-! ## Inputs and coefficient patches -/

/-- STREAM_INPUT_APPLY (R268): at cycle 0 of its apply tick an input is written into the launch's input area. -/
def execStreamInputApply (c : CtxId) (s : State) : Out :=
  let n := c.val
  .next (s.within 0 0 fun s' => match s'.launch n with
  | some l =>
    if s'.moving n && !l.windowOnly then
      let due := l.inputs.filter fun i => i.apply == l.tau
      let s := due.foldl (fun s i => s.gddrPut n l l.sched.inputArea i.data) s'
      s.modLaunch n fun l => { l with inputs := l.inputs.filter fun i => i.apply != l.tau }
    else s
  | none => s)

/-- One coefficient entry of an area (R158, R198). -/
structure CoefEntry where
  word : BitVec 128
  value : Dyadic
  plane : Nat
  kind : Nat
  a : Nat
  b : Nat
  deriving DecidableEq, Repr

/-- An entry taken apart; none where it produces no coefficient (R198) or names none. DESIGN CHOICE (log 148): an entry with a reserved KIND, a
VALUE that is no finite number, a spin coupled to itself or a block outside the graph forms no item and is counted nowhere. -/
def parseCoef (blocks : Nat) (w : BitVec 128) : Option CoefEntry :=
  let n := w.toNat
  let kind := bits n 90 2
  let a := bits n 32 29
  let b := bits n 0 29
  match ofF32 (bits n 96 32) with
  | none => none
  | some v => if 2 ≤ kind ∨ blocks ≤ a / 1024 ∨ (kind = 0 ∧ (a = b ∨ blocks ≤ b / 1024)) then none
    else some { word := w, value := v, plane := bits n 92 1, kind := kind, a := a, b := b }

/-- A code under a scale word, clamped; the second part counts a clamp (R61, R199). -/
def codeUnder (m : Nat) (e : Int) (lo hi : Int) (v : Dyadic) : Int × Nat :=
  let q := dyadicDivAway v ((m : Int), e)
  (clampInt lo hi q, if q < lo ∨ hi < q then 1 else 0)

end Sys2Proof.Machine

namespace Sys2Proof
open Sys2Proof.Machine

/-- A block in residual mode (R74). -/
def Coeffs.residual (v : Coeffs) (b : Nat) : Bool := (v.word b 1).getLsbD 15

/-- Change items of one coefficient entry, and the codes clamped (R199). DESIGN CHOICE (log 148): a plane marked EMPTY has no scale to divide by;
an entry on it forms no item and is counted nowhere. -/
def Coeffs.entryItems (v : Coeffs) (x : CoefEntry) : List Item × Nat :=
  let b := x.a / 1024
  let item := fun (plane new : Nat) => ({ kind := if x.kind = 0 then 1 else 2, plane := plane, hasValue := true, guarded := false
                                          a := x.a, b := x.b, new := new, value := BitVec.ofNat 32 (bits x.word.toNat 96 32) } : Item)
  if x.kind = 1 then
    let p := if v.residual b then 1 else x.plane
    if v.empty b p then ([], 0) else
    let q := codeUnder v.mantissa (v.exp b p) (-32768) 32767 x.value
    ([item p (unsign 16 q.1)], q.2)
  else if v.residual b then
    let p := codeUnder v.mantissa (v.exp b 0) (-7) 7 x.value
    let rest := dyadicSub x.value (p.1 * v.mantissa, v.exp b 0)
    let q := codeUnder v.mantissa (v.exp b 1) (-7) 7 rest
    ([item 0 (unsign 4 p.1), item 1 (unsign 4 q.1)], p.2 + q.2)
  else if v.empty b x.plane then ([], 0)
  else
    let q := codeUnder v.mantissa (v.exp b x.plane) (-7) 7 x.value
    ([item x.plane (unsign 4 q.1)], q.2)

end Sys2Proof

namespace Sys2Proof.Machine

/-- Items without those that a later one replaces (R199). -/
def lastItems : List Item → List Item
  | [] => []
  | x :: rest => if rest.any (sameCoef x) then lastItems rest else x :: lastItems rest

/-- The report of a coefficient patch (R200). -/
def coefReport (status items clamped notLocal : Nat) (apply : Int) : List Byte :=
  leBytes 4 status ++ leBytes 4 items ++ leBytes 4 clamped ++ leBytes 4 notLocal ++ leBytes 8 (unsign 64 apply) ++ leBytes 8 0

/-- The entries of a coefficient area. PRESUMED (log 148): the area lies in the launch's GDDR 7, like the report area. -/
def State.coefArea (s : State) (c : Nat) (l : Launch) (area count : Nat) : List (BitVec 128) :=
  let byte := fun k => match s.gddrByte c l (area + k) 0 with
    | some f => s.rd f
    | none => 0
  (List.range count).map fun i => BitVec.ofNat 128 (leNat ((List.range 16).map fun k => byte (16 * i + k)))

/-- A coefficient patch converted, journalled and put to its launch (R199, R200, R281). -/
def State.handOver (s : State) (c : Nat) (l : Launch) (d : CoefDecl) (parent : Version) : State :=
  let v := parent.coeffs
  let entries := (s.coefArea c l d.area d.entries).filterMap (parseCoef v.blocks)
  let far := entries.filter fun x => x.kind == 0 && x.a / 1024 != x.b / 1024
  let near := entries.filter fun x => !(x.kind == 0 && x.a / 1024 != x.b / 1024)
  let made := near.map fun x => (x, v.entryItems x)
  let items := lastItems (made.flatMap (·.2.1))
  let clamped := (made.map (·.2.2)).sum
  let report := fun st => coefReport st items.length clamped far.length d.apply
  let refuse := s.coefReported c l d.apply (report stCapacity)
  if crowded items then refuse
  else match s.derive l.graph parent items (items.flatMap itemWord) with
    | .error _ => refuse
    | .ok (w, s) =>
      let exacts := (made.filter fun m => !m.2.1.isEmpty).foldl (fun x m =>
        putExact x (exactEntry (bits m.1.word.toNat 96 32) m.1.plane m.1.kind m.1.a (if m.1.kind = 1 then m.1.a else m.1.b))) v.exacts
      let s := (patchRuns items).foldl (fun s b => s.journal c b d.apply 0) (s.setExacts l.graph w.num exacts)
      s.draw.2.modLaunch c fun l => { l with patches := l.patches ++ [{
        apply := d.apply, version := w.num, items := items, booked := true, report := report stOk, due := s.tick + 1 + s.draw.1
        exacts := some exacts }] }

/-- COEFFICIENT_PATCH_HANDOVER (R199): at the booked hand-over tick the Badger takes the coefficient area. -/
def execCoefficientPatchHandover (c : CtxId) (area count : Nat) (apply : Int) (s : State) : Out :=
  let n := c.val
  .next (match s.launch n with
  | some l =>
    match l.sched.coefs.find? fun d => d.handover == l.tau && d.area == area && d.entries == count && d.apply == apply with
    | some d =>
      let taken := (l.patches ++ l.past).any fun (p : LivePatch) => p.apply == apply
      let refused := (s.ctx n).coefReports.any fun r => bytesAt r 0x10 8 == unsign 64 apply
      if !s.moving n || l.windowOnly || taken || refused then s
      else match s.version l.graph l.lastVersion with
        | some v => s.handOver n l d v
        | none => s
    | none => s
  | none => s)

end Sys2Proof.Machine
end

