-- ==== Sys2Proof/Machine/Fold.lean ====
section
/-!
DEFINITION. Fold frames (R273): the verdict tick, the two slots, and the swap of the parked and the resident field of each folded die. A
parked field stands at the keys of the shadow dies 8–15.
-/
namespace Sys2Proof.Machine

/-! ## The swap -/

/-- Stooks of a shadow die begin here, acres here. -/
def shadowStook : Nat := 1088
def shadowAcre : Nat := 64

/-- A number and its shadow exchanged, where either stands in a list of resident numbers. -/
def shadow (l : List Nat) (off n : Nat) : Nat :=
  if n < off then (if l.contains n then n + off else n) else if decide (n < 2 * off) && l.contains (n - off) then n - off else n

/-- A number of a part of a stook, `per` to a stook, exchanged with its shadow. -/
def shadowIn (l : List Nat) (per n : Nat) : Nat := shadow l shadowStook (n / per) * per + n % per

/-- Key of a register exchanged with its shadow: the registers of the pages of stooks of a list, and of acres of another. -/
def shadowReg (stooks acres : List Nat) (key : Nat) : Nat :=
  let i := keyCopy key
  match regRows.find? fun w => w.reg.code == keyCode key with
  | none => key
  | some w =>
    let per := w.outN * w.inN
    let j := match w.page with
      | .shf => shadowIn stooks (8 * per) i
      | .hrw => shadowIn stooks per i
      | .stk => shadowIn stooks per i
      | .acr => shadow acres shadowAcre (i / per) * per + i % per
      | .window => i
    j * 1024 + keyCode key

/-- Flat address exchanged with its shadow: cribs, sheaf stores, instruction and data memories. -/
def shadowByte (stooks : List Nat) (a : Nat) : Nat :=
  let base := a / 2 ^ 44 * 2 ^ 44
  let off := a % 2 ^ 44
  if base = Space.crib.base then base + shadowIn stooks (2 ^ 23) off
  else if base = Space.sheaf.base then base + shadowIn stooks (8 * 2 ^ 20) off
  else if base = Space.imem.base then base + shadowIn stooks (4 * 2 ^ 16) off
  else if base = Space.dmem.base then base + shadowIn stooks (4 * 2 ^ 16) off
  else a

/-- A table with its keys exchanged. -/
def rekey {α : Type} (f : Nat → Nat) (m : Sparse α) : Sparse α := (m.map fun e => (f e.1, e.2)).mergeSort fun x y => decide (x.1 ≤ y.1)

/-- Resident stooks of the folded dies of a launch: those its image uses, and those of its engines. -/
def State.foldedStooks (s : State) (c : Nat) (l : Launch) : List Nat :=
  let used := l.foldedDies.flatMap fun d => l.sched.uses.filterMap fun u =>
    if (l.dieOf u.1).map (· % 8) = some d then some (s.physStook d u.2.1 u.2.2) else none
  (used ++ ((s.enginesOf c).map fun e => e / 8 % shadowStook).filter fun k => l.foldedDies.contains (k / 136)).eraseDups

/-- Resident acres of the folded dies of a launch. -/
def Launch.foldedAcres (l : Launch) : List Nat := l.foldedDies.flatMap fun d => (List.range 8).map (8 * d + ·)

/-- An acre with the tally unit of another; keys, wardens and repair belong to the acre. -/
def Acre.withTally (p q : Acre) : Acre := { p with
  ctx := q.ctx, stats := q.stats, statStook := q.statStook, statOff := q.statOff, parts := q.parts
  sample := q.sample, added := q.added, sampled := q.sampled }

/-- The tally units of an acre and its shadow exchanged. -/
def State.swapAcre (s : State) (a : Nat) : State :=
  (s.setAcre a ((s.acre a).withTally (s.acre (a + shadowAcre)))).setAcre (a + shadowAcre) ((s.acre (a + shadowAcre)).withTally (s.acre a))

/-- A key of the slot table exchanged (R293): the slots that a launch books on a folded die go to the other field of the die. -/
def shadowSlot (dies : List Nat) (c : Nat) (x : Nat × Option Nat) : Nat × Option Nat :=
  (if x.2 = some c then shadow dies 8 (x.1 / (96 * 1024)) * (96 * 1024) + x.1 % (96 * 1024) else x.1, x.2)

/-- A staged write for the unit's shadow. -/
def shadowStaged (stooks acres : List Nat) (w : Staged) : Staged :=
  { w with idx := shadowReg stooks acres (w.idx * 1024 + w.reg.code) / 1024 }

/-- The swap of a fold frame (R273): the parked fields are resident and the resident ones parked. -/
def State.swapFields (s : State) (c : Nat) (l : Launch) : State :=
  let k := s.foldedStooks c l
  let a := l.foldedAcres
  let s := a.foldl State.swapAcre s
  let s := { s with
    engines := rekey (shadowIn k 8) s.engines, lanes := rekey (shadowIn k 32) s.lanes, stooks := rekey (shadowIn k 1) s.stooks
    cores := rekey (shadowIn k 4) s.cores, gens := rekey (shadowIn k 1) s.gens, regs := rekey (shadowReg k a) s.regs
    staged := s.staged.map (shadowStaged k a)
    slotTable := (s.slotTable.map (shadowSlot l.foldedDies c)).mergeSort fun x y => decide (x.1 ≤ y.1)
    mem := rekey (shadowByte k) s.mem, poison := rekey (fun i => shadowByte k (8 * i) / 8) s.poison }
  s.modLaunch c fun l => { l with dies := l.dies.map fun d =>
    if 8 ≤ d ∧ d < 16 then d - 8 else if d < 8 ∧ l.foldedDies.contains d then d + 8 else d }

/-! ## The frame -/

/-- Whether an engine lies on a folded die, resident or parked. -/
def Launch.foldsEngine (l : Launch) (e : Nat) : Bool := l.foldedDies.contains (e / 1088 % 8)

/-- The votes of cycles 16–23 that the folded dies form in the verdict tick, for both their fields (R132, R273). -/
def State.frameVotes (s : State) (c : Nat) (l : Launch) : State :=
  if s.voting c then s.each ((s.enginesOf c).filter l.foldsEngine) fun s e => s.setEngine e { s.engine e with voted := true } else s

/-- The verdict tick (R273): the verdict of the last logical tick is applied, and the next logical tick begins for every field; the tiles
between its engines are taken, and the votes of the folded dies cast. No unit runs. -/
def State.verdictTick (s : State) (c : Nat) : State :=
  let s := match s.launch c with
    | some l => match l.verdict with
      | some v => s.applyVerdict c l v
      | none => s
    | none => s
  let s := s.beginTick c ((s.launch c).any (·.fresh))
  let s := (s.quiet c false).modLaunch c fun l => { l with phase := .whole, holdAt := 0, fresh := false }
  match s.launch c with
  | some l => (s.frameTiles c l).frameVotes c l
  | none => s

/-- A slot of the frame (R273): the resident fields of the dies of a list run the logical tick, and the others hold. -/
def State.slotTick (s : State) (c : Nat) (dies : List Nat) : State :=
  let mine := fun (e : Nat) => decide (e < 8704) && dies.contains (e / 1088)
  let s := s.each (s.enginesOf c) fun s e => s.setEngine e { s.engine e with slot := if mine e then 0 else 1024 }
  let s := s.each ((s.enginesOf c).filter mine) State.showLanes
  s.modLaunch c fun l => { l with phase := .none, holds := [], again := none }

/-- The first slot (R273): with the notices of the verdict tick, once every tile is in; a group stall at cycle 48 holds here (R408). -/
def State.firstSlot (s : State) (c : Nat) (l : Launch) : State :=
  let s := (s.frameNotices c l).slotTick c (List.range 8)
  if s.stallAt c l.tau = some 48 then s.modLaunch c (·.hold .group 48) else s

/-- FOLD_FRAME (R273): the next wall tick of a folded launch's frame, once per wall tick in which no cause holds it. -/
def execFoldFrame (c : CtxId) (s : State) : Out :=
  let n := c.val
  .next (match s.launch n with
  | none => s
  | some l =>
    let f := (l.frame + 1) % 75
    if !l.folded || l.phase ≠ .whole || l.holdAt ≠ 0 || !l.holds.isEmpty || l.framed == some s.tick || l.resumeAt.isSome ||
        (s.ctx n).state ≠ .running || (f == 1 && (s.enginesOf n).any fun e => !s.tilesIn n e) then s
    else
      let s := s.modLaunch n fun l => { l with frame := f, framed := some s.tick }
      if f = 0 then s.verdictTick n
      else if f = 1 then s.firstSlot n l
      else if f = 73 then s.swapFields n l
      else if f = 74 then s.slotTick n l.foldedDies
      else s)

end Sys2Proof.Machine
end

