-- ==== Sys2Proof/Machine/Streams.lean ====
section
/-!
DEFINITION. Streams and fences from the mailbox (R361–R364, R368), and hung descriptors: compute-plane reset and quarantine
(R433–R439).
-/
namespace Sys2Proof.Machine

/-! ## STREAM_SUBMIT (R362) -/

/-- What a STREAM_SUBMIT asks (R358). -/
structure Submit where
  stream : Nat
  ms : Nat
  stook : Nat
  addr : Nat
  input : Bool
  restart : Bool
  apply : Int
  bytes : List Byte
  deriving DecidableEq, Repr

/-- The payload of a STREAM_SUBMIT taken apart. -/
def Msg.submit (m : Msg) : Submit where
  stream := m.p 0 4 % 2 ^ 12
  ms := bits (m.p 0 4) 16 16
  stook := m.p 4 4 % 2 ^ 10
  addr := m.p 8 4 % 2 ^ 23
  input := bits (m.p 12 4) 0 1 == 1
  restart := bits (m.p 12 4) 1 1 == 1
  apply := signed 64 (m.p 16 8)
  bytes := padTo 64 ((m.payload.drop 0x20).take 64)

/-- A launch whose class takes no fence wait from outside (R263). -/
def State.classE (s : State) (c : Nat) : Bool := (s.launch c).any fun l => !l.sched.classT

/-- Checks of a STREAM_SUBMIT, in the order of R361 to R364, then R263, R268, R282 and R215: the refusal, or the stook. -/
def State.submitCheck (s : State) (c : Nat) (a : Submit) (data : List Byte) : Except Reply Nat :=
  if !s.streamFree a.stream c then .error { status := stNotOwner, detail := a.stream }
  else if s.streamEnded a.stream && !a.restart then .error { status := stBusy, detail := a.stream }
  else if s.classE c && (parseEntry a.bytes).waits then .error { status := stLevel, detail := a.stream }
  else if a.input && decide (a.apply ≤ s.tau c + 8) then .error { status := stLate, detail := a.stream }
  else if a.input && !s.journalFits c (.input data) then .error { status := stCapacity }
  else match (s.launch c).bind fun l => s.stookOf l a.stook with
    | some k => .ok k
    | none => .error { status := stNotOwner, detail := a.stream }

/-- What an accepted STREAM_SUBMIT does (R362–R364). -/
def State.placeEntry (s : State) (c k : Nat) (a : Submit) (data : List Byte) : State :=
  let s := s.bind a.stream c
  let s := if a.restart then (s.setReg .doneWord a.stream 0).setStream a.stream { s.stream a.stream with writes := none } else s
  let s := if a.ms ≠ 0 then s.setStream a.stream { s.stream a.stream with limit := a.ms } else s
  let s := if a.input then (s.journal c (.input data) a.apply 0).modLaunch c fun l =>
      { l with inputs := l.inputs ++ [{ apply := a.apply, data := data }] } else s
  let s := (s.store (cribAt k a.addr) a.bytes false).offer k a.addr (s.logical c + handoff k k)
  let s := s.setStream a.stream { s.stream a.stream with
    waiting := (s.stream a.stream).waiting ++ [.chain k a.addr (parseEntry a.bytes).seq] }
  if (s.stream a.stream).deadline.isNone then s.rewatch a.stream else s

/-- STREAM_SUBMIT (R362). A crib bank that the context does not own denies the write (R215). -/
def State.submitMsg (s : State) (m : Msg) : Reply × State :=
  let a := m.submit
  let data := if a.input then s.stagedOf m else []
  match s.submitCheck m.ctx a data with
  | .error r => (r, s)
  | .ok k =>
    if s.ownerWord k (bankOf a.addr) ≠ 0x4000 + m.ctx then
      ({ status := stNotOwner, detail := a.stream }, s.deny k (bankOf a.addr))
    else ({ status := stOk, payload := leBytes 4 (parseEntry a.bytes).seq }, s.placeEntry m.ctx k a data)

def execStreamSubmit (n : Channel) (s : State) : Out :=
  .next (s.message (s.chan n.val) n.val 0x0C fun m s => let r := s.submitMsg m; .answer r.1 r.2)

/-! ## Fences (R363, R368) -/

/-- FENCE_SIGNAL (R368). -/
def State.fenceSignal (s : State) (m : Msg) : Reply × State :=
  let f := m.p 0 4 % 2 ^ 14
  let s := s.fence f (m.p 8 8)
  ({ status := stOk, payload := leBytes 8 (s.reg .fncValue f).toNat }, s)

def execFenceSignal (n : Channel) (s : State) : Out :=
  .next (s.message (s.chan n.val) n.val 0x0D fun m s => let r := s.fenceSignal m; .answer r.1 r.2)

/-- FENCE_WAIT (R362, R363). -/
def State.fenceWait (s : State) (m : Msg) : Reply × State :=
  let x := bits (m.p 0 4) 16 12
  if !s.streamFree x m.ctx then ({ status := stNotOwner, detail := x }, s)
  else if s.classE m.ctx then ({ status := stLevel, detail := x }, s)
  else
    let s := s.bind x m.ctx
    ({ status := stOk }, s.setStream x { s.stream x with
      waiting := (s.stream x).waiting ++ [.fence (m.p 0 4 % 2 ^ 14) (BitVec.ofNat 64 (m.p 8 8))] })

def execFenceWait (n : Channel) (s : State) : Out :=
  .next (s.message (s.chan n.val) n.val 0x0E fun m s => let r := s.fenceWait m; .answer r.1 r.2)

/-! ## The capture of a hang (R438, R439) -/

/-- Entries of a stream that have started and not completed, with their stooks, lowest stook first (R364). -/
def State.hungOf (s : State) (x : Nat) : List (Nat × Running) :=
  s.stooks.flatMap fun k => (k.2.running.filter fun r => (s.entry k.1 r.addr).stream == x && (s.actor k.1 r.addr).isSome &&
    s.actor k.1 r.addr == (s.stream x).ctx).map fun r => (k.1, r)

/-- Number of a stook in the form of R229, in the launch of a context. -/
def State.numberOf (s : State) (c k : Nat) : Nat := match s.launch c with
  | some l => ((List.range 1024).find? fun n => s.stookOf l n == some k).getD 0
  | none => 0

/-- The section of a chain entry and its station descriptor, 128 bytes. -/
def State.entrySection (s : State) (c k addr : Nat) : Section :=
  sectionOf 1 k 15 0 (s.numberOf c k) (s.rdN (cribAt k addr) 64 ++ s.rdN (cribAt k (s.entry k addr).payload) 64)

/-- The banks of the queues whose producer or consumer is a unit. -/
def State.queueSections (s : State) (c k station unit : Nat) : List Section :=
  ((List.range 32).filter fun q =>
    let i := queueIx k q
    s.flag F.stkQueueCfgEn i && ((s.fld F.stkQueueCfgProd i == station && s.fld F.stkQueueCfgProdUnit i == unit) ||
      (s.fld F.stkQueueCfgCons i == station && s.fld F.stkQueueCfgConsUnit i == unit))).flatMap fun q =>
    (List.range 2).map fun b => sectionOf 7 k 13 ((2 * q + b) % 8) (s.numberOf c k) (s.rdN (cribAt k (s.queueWordAt k q b 0)) 4096)

/-- The sections of a HANG or QUARANTINE record (R439). -/
def State.hangSections (s : State) (c k : Nat) (r : Running) (others : List (Nat × Running)) : List Section :=
  s.entrySection c k r.addr :: (s.stookSections c k (s.numberOf c k) ++ s.queueSections c k r.station r.unit ++
    (others.filter (·.1 != k)).flatMap fun o =>
      [sectionOf 4 o.1 15 0 (s.numberOf c o.1) (s.pageBytes rowsStk o.1 0 4096), s.entrySection c o.1 o.2.addr])

/-- The record of a hang written (R433, R436). -/
def State.captureHang (s : State) (kind c x k : Nat) (r : Running) : State :=
  s.captureRecord (k / 136 % 8) kind (s.fld F.fltLogHeadNextSeq 0) (some c) x (s.entry k r.addr).seq (s.numberOf c k * 2 ^ 23 + r.addr)
    (r.began / 1024) (r.began % 1024).toNat (s.hangSections c k r (s.hungOf x))

/-! ## Compute-plane reset (R434) -/

/-- Registers of the unit pages, which a compute-plane reset brings to their reset values. -/
def unitKey (key : Nat) : Bool := regRows.any fun w => w.page != .window && w.reg.code == keyCode key

/-- The logic of every unit of the field dies reset. Memories, ports, keys, repair map and hedgerow keep what they hold. -/
def State.wipeUnits (s : State) : State :=
  let s : State := { s with
    regs := s.regs.filter fun e => !unitKey e.1
    staged := s.staged.filter fun w => w.reg.page == .window
    engines := [], lanes := [], stooks := [], cores := [], gens := [], captured := [], latch := ([], false) }
  s.each (List.range 64) fun s a =>
    (s.setAcre a { s.acre a with ctx := none, writes := [], results := [], grants := [], queue := [], asks := [], stats := [], statStook := 0
                                 statOff := 0, parts := [], sample := [], added := 0, sampled := [], waitMax := 0 }).countLeave a

/-- The generation that a PAUSED context takes at its paused tick before the reset (R434). -/
def State.keepPaused (s : State) (c : Nat) : State := match s.launch c with
  | some l => s.takeGeneration c l 2
  | none => s

/-- A PAUSED context restored to that generation; it stays PAUSED at the same TAU. -/
def State.restorePaused (s : State) (c : Nat) : State := match s.launch c, s.newestComplete c with
  | some l, some g => (s.restoreSaved c l g.saved).modLaunch c fun x => { x with
      resumeAt := l.resumeAt, phase := l.phase, holdAt := l.holdAt, checkUntil := l.checkUntil, ckpt := l.ckpt, patches := l.patches
      past := l.past, inputs := l.inputs, frame := l.frame }
  | _, _ => s

/-- Contexts in a state. -/
def State.ctxsIn (s : State) (x : CtxState) : List Nat := keysWhere s.ctxs fun c => c.state == x

/-- The window of R436 that a reset or a hang falls in; a new one begins with its counts at 0. -/
def State.hangWindow (s : State) : State :=
  if s.tick < s.hangStart + 2 ^ 35 then s
  else { (s.setFld F.fltHangResetsWindow 0 0).setFld F.fltStatusResetLimit 0 0 with hangStart := s.tick }

/-- A compute-plane reset with the replays that follow it (R434). -/
def State.planeReset (s : State) : State :=
  let s := (s.bump F.fltHangResets 0 1).bump F.fltHangResetsWindow 0 1
  let s := if 4 ≤ s.fld F.fltHangResetsWindow 0 then s.raise F.fltStatusResetLimit 0 else s
  let s := (s.each (s.ctxsIn .paused) State.keepPaused).wipeUnits
  let s := (s.each (s.ctxsIn .loaded) State.reload).each (s.ctxsIn .paused) State.restorePaused
  s.recoverRunning 0x18

/-! ## Quarantine (R436) and the watchdog (R364, R433) -/

/-- The chain entries of a context discarded. -/
def State.dropChains (s : State) (c : Nat) : State :=
  s.each (s.stooks.map (·.1)) fun s k =>
    let mine := fun a => s.actor k a == some c
    (s.setStook k { s.stook k with
      chain := (s.stook k).chain.filter fun x => !mine x.addr
      running := (s.stook k).running.filter fun x => !mine x.addr
      offered := (s.stook k).offered.filter fun x => !mine x.addr }).countChain k

/-- A fault log entry of a hang: the unit that the entry names, and what is interrupted. -/
def State.logHang (s : State) (code action k : Nat) (r : Running) (c us : Nat) : State :=
  let unit := if r.station = 1 then r.unit else if r.station = 2 then 12 else if r.station = 5 then 8 + r.unit
    else if r.station = 0 then 14 else 31
  s.logFault code action false (k / 136 % 8) (k / 17 % 8) (k % 17) unit 0 (some c) us true

/-- A quarantine of a hung descriptor (R436). -/
def State.quarantine (s : State) (c x k : Nat) (r : Running) : State :=
  let s := (s.captureHang 2 c x k r).logHang 0x19 8 k r c 0
  let s := ((s.bump F.fltHangQuarantines 0 1).dropChains c).faultCtx c
  (s.setCtx c { s.ctx c with suspect := none }).endStream x stQuarantined

/-- The first hang of a descriptor (R433): capture, suspect entry, compute-plane reset. -/
def State.hang (s : State) (c x k : Nat) (r : Running) : State :=
  let seq := (s.entry k r.addr).seq
  let us := if (s.ctxsIn .running).isEmpty && (s.ctxsIn .held).isEmpty then 0 else 2 ^ 32 - 1
  let s := (s.captureHang 1 c x k r).logHang 0x18 7 k r c us
  (s.setCtx c { s.ctx c with suspect := some (x, seq) }).planeReset

/-- WATCHDOG_EXPIRY (R364, R433). -/
def State.expire (s : State) (x : Nat) : State :=
  match s.hungOf x, (s.stream x).ctx with
  | (k, r) :: _, some c =>
    let s := s.hangWindow
    if (s.ctx c).suspect = some (x, (s.entry k r.addr).seq) ∨ 4 ≤ s.fld F.fltHangResetsWindow 0 then s.quarantine c x k r
    else s.hang c x k r
  | _, _ => s.endStream x stWatchdog

def execWatchdogExpiry (x : StreamId) (s : State) : Out :=
  .next (if (s.stream x.val).deadline.any fun d => decide (d ≤ s.tick) then s.expire x.val else s)

end Sys2Proof.Machine
end

