-- ==== Sys2Proof/Machine/Startup.lean ====
section
/-!
DEFINITION. Start-up and module reset (R494–R500, R512, R515), the configuration store (R501–R509) with CFG_WRITE (R483–R486), the
I2C sideband (R516–R518) and the test connector (R519, R520).
-/
namespace Sys2Proof.Machine

/-! ## Records (R502–R506) -/

/-- An item of a record as bytes (R503). -/
def recItem (x : Nat × Nat × List Byte) : List Byte :=
  leBytes 8 (x.1 * 2 ^ 48 + x.2.1 * 2 ^ 40 + x.2.2.length) ++ padTo (8 * ceilDiv x.2.2.length 8) x.2.2

/-- A record or an image with header and CRC (R502). -/
def recordImage (image : Bool) (seq : Nat) (payload : List Byte) : List Byte :=
  let b := leBytes 4 (if image then 0x57465145 else 0x46435145) ++ leBytes 4 seq ++ leBytes 4 payload.length ++ leBytes 4 0 ++ payload
  b ++ leBytes 4 (crc32c b)

/-- The area of a record or an image in a bank erased (R501, R506). -/
def State.eraseArea (s : State) (bank : Nat) (image : Bool) : State :=
  if image then s.blank (storeAt bank 0) 0x800000 else s.blank (storeAt bank 0x800000) 0x100000

/-- The bank that a write goes to: the one that does not hold the winner (R506). -/
def State.spareBank (s : State) (image : Bool) : Nat := match s.winner image with
  | some w => 1 - w.1
  | none => 0

/-- All items of the winning record, signed or not. -/
def State.rawItems (s : State) : List (Nat × Nat × List Byte) := match s.winner false with
  | some w => itemsOf w.2.2.length w.2.2
  | none => []

/-- An item added, or put in the place of the one with its KIND and INDEX. -/
def putItem (l : List (Nat × Nat × List Byte)) (x : Nat × Nat × List Byte) : List (Nat × Nat × List Byte) :=
  if l.any fun y => y.1 == x.1 && y.2.1 == x.2.1 then l.map fun y => if y.1 = x.1 ∧ y.2.1 = x.2.1 then x else y else l ++ [x]

/-- The CFG_ registers show the banks and the winner (R505, R509). -/
def State.syncCfg (s : State) : State :=
  let s := s.each [0, 1] fun s b =>
    let s := s.setReg .cfgBank b (match s.storeRead b false with
      | some r => BitVec.ofNat 64 (r.1 * 2 ^ 32 + r.2.length * 2 ^ 11 + 1)
      | none => 0)
    s.setReg .cfgImage b (match s.storeRead b true with
      | some r => BitVec.ofNat 64 (r.1 * 2 ^ 32 + (Config.imageCheck r.2).2.1 % 2 ^ 16 * 2 ^ 16 + (Config.imageCheck r.2).2.2.1 % 2 ^ 16)
      | none => 0)
  match s.winner false with
  | some w => (s.setFld F.cfgStatusWinBank 0 w.1).setFld F.cfgStatusNone 0 0
  | none => (s.setFld F.cfgStatusWinBank 0 0).setFld F.cfgStatusNone 0 1

/-- Lifecycle state of the store: a module without a valid record acts as RETIRED (R485, R503). -/
def State.storedLifecycle (s : State) : Nat := match s.item 2 0 with
  | some b => Config.lifecycleOf b % 4
  | none => 2

/-- The SEC_ registers show the items of the winning record (R483–R486, R493). -/
def State.syncSec (s : State) : State :=
  let keys := ((List.range 4).filter fun i => (s.item 4 i).isSome).length
  let s := (s.setFld F.secLifecycleState 0 s.storedLifecycle).setFld F.secLifecycleOwnerKeys 0 keys
  let s := s.setFld F.secBootMinSvn 0 (match s.item 3 0 with
    | some b => Config.minSvnOf b
    | none => 0)
  s.each (List.range 6) fun s n => s.setReg .secIdent n (match s.identity with
    | some k => BitVec.ofNat 64 (leNat (((bytes48 (Config.sha384 (Config.p384Public k))).drop (8 * n)).take 8))
    | none => 0)

/-! ## The repair map (R504) -/

/-- Spare wires in use of one link of a die, two bits a group. -/
def State.wireWord (s : State) (d : Nat) (west : Bool) : Nat :=
  ((List.range 16).map fun g => min 2 (s.wires.filter (· == (d, west, g))).length * 4 ^ g).sum

/-- The body of the REPAIR item as the module stands. -/
def State.repairBody (s : State) : List Byte := (List.range 8).flatMap fun k =>
  leBytes 8 (s.reg .fltSpare k).toNat ++ leBytes 1 (if s.dieLost k then 1 else 0) ++ leBytes 1 (s.fld F.grnStatusLost k) ++
    leBytes 1 (s.fld F.gddStatusLost k) ++ leBytes 5 0 ++ leBytes 8 (s.wireWord k true * 2 ^ 32 + s.wireWord k false) ++ leBytes 8 0

/-- Physical stook that FLT_SPARE names as retired in an acre. -/
def State.spareRetired (s : State) (a : Nat) : List Nat :=
  let r := bits (s.reg .fltSpare (a / 8)).toNat (8 * (a % 8)) 5
  if r < 17 then [r] else []

/-- The repair map loaded (R495 step 4). -/
def State.loadRepair (s : State) : State := match s.item 8 0 with
  | none => s
  | some b =>
    let s := s.each (List.range 8) fun s k =>
      let s := s.setReg .fltSpare k (BitVec.ofNat 64 (bytesAt b (32 * k) 8))
      let s := if bytesAt b (32 * k + 8) 1 % 2 = 1 then s.setBitOf F.fltStatusDieLost 0 k true else s
      let s := (s.setFld F.grnStatusLost k (bytesAt b (32 * k + 9) 1)).setFld F.gddStatusLost k (bytesAt b (32 * k + 10) 1)
      let used := fun west => (List.range 16).flatMap fun g =>
        List.replicate (bits (bytesAt b (32 * k + 16) 8) ((if west then 32 else 0) + 2 * g) 2) (k, west, g)
      { s with wires := s.wires ++ used false ++ used true }
    s.each (List.range 64) fun s a => s.setAcre a { s.acre a with retired := s.spareRetired a }

/-! ## Writes of the store (R506, R507) -/

/-- A record or image written to the bank that does not hold the winner, with the SEQ after the winner's (R506). A store without a
winner takes SEQ 0 in bank 0. -/
def State.writeStore (s : State) (image : Bool) (payload : List Byte) : State :=
  let seq := match s.winner image with
    | some w => (w.2.1 + 1) % 2 ^ 32
    | none => 0
  let bank := s.spareBank image
  let s := (s.eraseArea bank image).wrN (storeAt bank (if image then 0 else 0x800000)) (recordImage image seq payload)
  (s.bump F.cfgStatusWrites 0 1).syncCfg

/-- The record with a list of items added or replaced. -/
def State.writeItems (s : State) (l : List (Nat × Nat × List Byte)) : State :=
  s.writeStore false ((l.foldl putItem s.rawItems).flatMap recItem)

/-- RETIRE (R485): the wrapped keys, the helper data and the owner keys are erased in both banks. -/
def State.retireModule (s : State) (body : List Byte) : State :=
  let old := match s.winner false with
    | some w => w.1
    | none => 1
  let kept := s.rawItems.filter fun x => !(x.1 == 4 || x.1 == 5 || x.1 == 6)
  ((s.writeStore false ((putItem kept (2, 0, body)).flatMap recItem)).eraseArea old false).syncCfg

/-- The change from TEST to DEPLOYED (R484): the key block draws the identity key from the expander and wraps it for both barn dies. -/
def State.deploy (s : State) (body : List Byte) : State := match s.takeBlocks 3, s.item 6 0, s.item 6 1 with
  | some (r, s), some h0, some h1 =>
    s.writeItems [(2, 0, body), (5, 0, Config.wrapKey (Config.deviceKey 0 h0) (Config.deviceKey 1 h1) (num48 r))]
  | _, _, _ => s.writeItems [(2, 0, body)]

/-- What a job writes. -/
def State.runJob (s : State) (j : StoreJob) : State :=
  if j.image then s.writeStore true j.body
  else if j.kind = 8 then s.writeItems [(8, 0, s.repairBody)]
  else if j.kind = 2 ∧ Config.lifecycleOf j.body % 4 = 2 then s.retireModule j.body
  else if j.kind = 2 ∧ s.fld F.secLifecycleState 0 = 0 then s.deploy j.body
  else s.writeItems [(j.kind, j.index, j.body)]

/-- Control sessions of a retired module end (R485). -/
def State.endSessions (s : State) : State := if s.fld F.secLifecycleState 0 = 2 then (s.endSession 16).endSession 17 else s

/-- RECORD_WRITE_COMPLETE (R506, R507): the oldest write ends with its CRC and read-back; a CFG_WRITE is answered. -/
def State.storeDone (s : State) : State := match s.jobs with
  | [] => s
  | j :: rest =>
    let s := ({ s with jobs := rest }.runJob j).syncSec
    let s := s.setFld F.cfgStatusBusy 0 (if rest.isEmpty then 0 else 1)
    match j.chan with
    | none => s
    | some n =>
      let seq := match s.winner j.image with
        | some w => w.2.1
        | none => 0
      ((s.setFld F.cfgStatusLastResult 0 stOk).endWait n { status := stOk, payload := leBytes 4 seq }).endSessions

def execRecordWriteComplete (s : State) : Out := .next s.storeDone

/-! ## CFG_WRITE (R507) -/

/-- Whether a firmware image passes every check of R481 and R508. -/
def State.imagePasses (s : State) (b : List Byte) : Nat :=
  let c := Config.imageCheck b
  if c.1 ≠ 0 then c.1 else if c.2.1 < s.fld F.secBootMinSvn 0 ∨ c.2.2.2 ≠ 1 then 4 else 0

/-- The rules of R483, R485 and R486 for an item that a message on a control port brings. -/
def State.mayWrite (s : State) (port kind index : Nat) (body : List Byte) : Bool :=
  let owners := s.fld F.secLifecycleOwnerKeys 0
  let auth := s.flag F.secSessionHostAuth port
  let life := s.fld F.secLifecycleState 0
  if life = 1 ∧ owners = 0 ∧ kind ≠ 4 then false
  else if kind = 4 then decide (index < 4) && (owners == 0 || auth)
  else if kind = 2 then Config.itemVerifies 2 body && decide (life < Config.lifecycleOf body % 4) &&
    (Config.lifecycleOf body % 4 == 1 || (Config.lifecycleOf body % 4 == 2 && auth))
  else if kind = 3 then Config.itemVerifies 3 body && decide (s.fld F.secBootMinSvn 0 < Config.minSvnOf body) && auth
  else kind == 9

/-- The write that a CFG_WRITE asks for, or the status that refuses it. The staged bytes are the item with its header (DEDUCED). -/
def State.cfgJob (s : State) (n : Nat) (m : Msg) : Except Nat StoreJob :=
  let kind := m.p 0 2
  let data := s.stagedOf m
  let port := (s.chan n).port
  if kind = Config.imageKind ∧ (kind = 0 ∨ 9 < kind) then
    if (s.fld F.secLifecycleState 0 = 1 ∧ s.fld F.secLifecycleOwnerKeys 0 = 0) ∨ s.imagePasses data ≠ 0 then .error stAuthFailed
    else if 8388588 < data.length then .error stCapacity
    else .ok { chan := some n, image := true, kind := kind, index := 0, body := data }
  else
    let h := bytesAt data 0 8
    let index := bits h 40 8
    let body := (data.drop 8).take (bits h 0 32)
    if bits h 48 16 ≠ kind ∨ s.mayWrite port kind index body = false then .error stAuthFailed
    else if 1048556 < ((putItem s.rawItems (kind, index, body)).flatMap recItem).length then .error stCapacity
    else .ok { chan := some n, image := false, kind := kind, index := index, body := body }

/-- CFG_WRITE (R507). -/
def State.cfgMsg (s : State) (n : Nat) (m : Msg) : Done :=
  if s.jobs.any (·.chan.isSome) then .answer { status := stBusy } (s.setFld F.cfgStatusLastResult 0 stBusy)
  else match s.cfgJob n m with
    | .error st =>
      let s := if st = stAuthFailed ∧ signedKind (m.p 0 2) then s.bump F.secAuthFailRecordFails 0 1 else s
      .answer { status := st } (s.setFld F.cfgStatusLastResult 0 st)
    | .ok j => .wait (({ s with jobs := s.jobs ++ [j] } : State).setFld F.cfgStatusBusy 0 1)

def execCfgWrite (n : Channel) (s : State) : Out := .next (s.message (s.chan n.val) n.val 0x13 fun m s => s.cfgMsg n.val m)

/-! ## Start-up (R495–R499) -/

/-- What a reset of the module leaves (R500, R512): the configuration store, with the area of a write that was cut erased (R506); the
pins; the commands that wait. -/
def State.cold (s : State) : State :=
  let s := match s.jobs with
    | j :: _ => s.eraseArea (s.spareBank j.image) j.image
    | [] => s
  { State.reset with
    pending := s.pending
    mem := s.mem.filter fun e => decide (Space.store.base ≤ e.1) && decide (e.1 < Space.store.base + 2 ^ 25)
    refValid := s.refValid, testEnN := s.testEnN, barnLost := s.barnLost, free := s.free }

/-- The result for the image of one bank (R481, R482): a failure, or the bank with FW_SVN and FW_VERSION. -/
def State.tryImage (s : State) (b : Nat) : Nat × Option (Nat × Nat × Nat) := match s.storeRead b true with
  | none => (5, none)
  | some r =>
    let f := s.imagePasses r.2
    if f ≠ 0 then (f, none) else (0, some (b, (Config.imageCheck r.2).2.1, (Config.imageCheck r.2).2.2.1))

/-- The image that boots: the result of the first one tried, and the one that runs (R482, R505). -/
def State.bootImage (s : State) : Nat × Option (Nat × Nat × Nat) :=
  let first := match s.winner true with
    | some w => w.1
    | none => 0
  let a := s.tryImage first
  if a.2.isSome then a else (a.1, (s.tryImage (1 - first)).2)

/-- Barn dies that a loss had taken may come up again or not; the manual does not say (R429, R432). -/
def State.barnsBack (s : State) : State :=
  s.barnLost.foldl (fun s b => let d := s.draw; if d.1 % 2 = 0 then { d.2 with barnLost := d.2.barnLost.erase b } else d.2) s

/-- The values that the DEFAULTS item gives (R503). -/
def State.loadDefaults (s : State) : State := match s.item 9 0 with
  | none => s
  | some b =>
    let d := Config.defaultsOf b
    let s := s.setReg .pwrCeiling 0 (Reg.written .pwrCeiling (s.reg .pwrCeiling 0) (BitVec.ofNat 64 d.1))
    let s := s.setFld F.pwrCeilingWatts 0 (max 2000 (min 5600 (s.fld F.pwrCeilingWatts 0)))
    let s := s.setReg .pwrCfg 0 (Reg.written .pwrCfg (s.reg .pwrCfg 0) (BitVec.ofNat 64 d.2.1))
    s.setReg .hubWatchdog 0 (Reg.written .hubWatchdog (s.reg .hubWatchdog 0) (BitVec.ofNat 64 d.2.2))

/-- A control port trains at step 4. -/
def State.trainDjc (s : State) (p : Nat) (up : Bool) : State :=
  let s := s.setReg .lnkCtrl p 5
  if up then (s.setFld F.lnkStatusState p 2).setFld F.lnkStatusLanesUp p 3 else s.setFld F.lnkStatusState p 1

/-- A die lost at this start-up. -/
def State.startLose (s : State) (d : Nat) : State :=
  if s.dieLost d then s else (s.setBitOf F.fltStatusDieLost 0 d true).setBitOf F.cfgStartDiesLost 0 d true

/-- Self-test of the stooks of an acre (R497): one failure is retired, a second loses the die. -/
def State.testAcre (s : State) (a : Nat) (failed : List Nat) : State :=
  let new := failed.filter fun p => !(s.acre a).retired.contains p
  match (s.acre a).retired, new with
  | _, [] => s
  | [], [p] =>
    let s := (s.setAcre a { s.acre a with retired := [p] }).bump F.cfgStartRetired 0 1
    s.setReg .fltSpare (a / 8) (BitVec.ofNat 64 (putBits (s.reg .fltSpare (a / 8)).toNat (8 * (a % 8)) 8 ((if p = 16 then 0 else 128) + p)))
  | _, _ => s.startLose (a / 8)

/-- Self-test of stooks, acre units, dies and links (R497). -/
def State.selfTest (s : State) (f : StartUp) : State :=
  let s := s.each (List.range 64) fun s a =>
    s.testAcre a (((f.stooks.filter fun x => x.ix / 17 == a).map (·.stook.val)).eraseDups)
  let s := s.each (f.acreUnits.map (·.die.val) ++ f.dies.map (·.val)) State.startLose
  let s := f.wires.foldl (fun s w =>
    let x := (w.1.val, w.2.1, w.2.2.val)
    if (s.wires.filter (· == x)).length < 2 then { s with wires := s.wires ++ [x] }
    else { s with lostLinks := s.lostLinks ++ [((if w.2.1 then w.1.val + 7 else w.1.val) % 8, none)] }) s
  { s with lostLinks := (s.lostLinks ++ (f.ringLinks.map fun (d : Die) => (d.val, none)) ++ f.acreLinks.map fun (a : AcreId) => (a.die.val, some a.acre.val)).eraseDups }

/-- Memory training and self-test (R336, R337, R498). -/
def State.trainMemory (s : State) (f : StartUp) : State :=
  let s := f.gddr.foldl (fun s x => s.setBitOf F.gddStatusLost x.1.val x.2.val true) s
  let s := f.granary.foldl (fun s x => s.setBitOf F.grnStatusLost x.1.val x.2.val true) s
  s.each (List.range 8) fun s d =>
    let n := ((List.range 6).filter (s.fld F.gddStatusLost d).testBit).length
    let s := if 0 < n then s.setFld F.gddStatusDegraded d 1 else s
    if 1 < n then s.startLose d else s

/-- Steps 4 to 9 (R495): map, defaults, control ports, self-test, memory, the repair map written when it changed, READY. -/
def State.bringUp (s : State) (f : StartUp) : State :=
  let s := (s.loadRepair).loadDefaults
  let s := (s.trainDjc 16 f.controlUp.1).trainDjc 17 f.controlUp.2
  let s := (s.selfTest f).trainMemory f
  let s := if (s.item 8 0).getD (({ s with regs := [], wires := [] } : State).repairBody) ≠ s.repairBody then
    s.writeItems [(8, 0, s.repairBody)] else s
  let s := { s with powered := true }.sleepTick
  ((s.setFld F.cfgStartElapsedMs 0 (min 65535 f.elapsedMs)).setFld F.hubStatusReady 0 1).setFld F.cfgStartPhase 0 9

/-- Step 3 and what follows it (R481, R482, R495). A module of which no barn die boots stops there. -/
def State.boot (s : State) (f : StartUp) : State :=
  let s := ((s.barnsBack).syncCfg.syncSec).setFld F.cfgStartPhase 0 3
  let fails := (s.rawItems.filter fun x => signedKind x.1 && !Config.itemVerifies x.1 x.2.2).length
  let s := s.bump F.secAuthFailRecordFails 0 fails
  let r := s.bootImage
  let s := s.setFld F.secBootFirstResult 0 r.1
  let alive := [0, 1].filter fun b => !s.barnLost.contains b
  match r.2, alive with
  | some (bank, svn, version), b :: rest =>
    let both := if rest.isEmpty then 0 else 1
    let s := ((s.setFld F.secBootFwSvn 0 svn).setFld F.secBootBank 0 bank).setFld F.secBootStbyBooted 0 both
    let s := (s.setFld F.hubStatusActiveBarn 0 b).setFld F.hubStatusStandbyReady 0 both
    let s := (s.setFld F.hubIdentFwVersion 0 version).setFld F.hubIdentStepping 0 (match s.item 1 0 with
      | some i => Config.identStepping i
      | none => Config.romStepping)
    (s.syncEnt).bringUp f
  | _, _ => s

/-- Start-up from step 2 on (R495, R515, R520): both entropy sources begin, and the module waits for a reference and for TEST_EN_N. -/
def State.startFrom (s : State) (f : StartUp) : State :=
  let s := s.setFld F.cfgStartPhase 0 2
  let s := (s.setSource 0 { state := 1 }).setSource 1 { state := 1 }
  let s := { s with refValid := f.refValid }
  if !s.testEnN then s
  else if !f.refValid then { s with startWaits := some f }
  else s.boot f

/-- Whether the management plane serves (R495 step 2). -/
def State.managed (s : State) : Bool := s.fld F.cfgStartPhase 0 != 0

/-- POWER_UP (R495, R512). -/
def execPowerUp (found : StartUp) (s : State) : Out := .next (if s.managed then s else s.cold.startFrom found)

/-- REFERENCE_VALID (R515). -/
def execReferenceValid (s : State) : Out :=
  .next (match s.startWaits with
  | some f => { s with refValid := true, startWaits := none }.boot f
  | none => { s with refValid := true })

/-- A module reset (R500). -/
def State.moduleReset (s : State) (f : StartUp) : State := if s.managed then s.cold.startFrom f else s

/-- A write of CFG_CTRL (R500, R509). -/
def State.cfgCtrl (s : State) (unlock : Nat) (reset : Bool) (f : StartUp) : State :=
  if unlock = 0xA5C3 ∧ reset then s.moduleReset f else s

def execModuleReset (unlock : BitVec 16) (found : StartUp) (s : State) : Out := .next (s.cfgCtrl unlock.toNat true found)

/-- A write of CFG_CTRL that carries no findings: what the start-up finds is open; the reference is as it stands. -/
def State.cfgCtrlWrite (s : State) (v : Nat) : State :=
  s.cfgCtrl (bits v 16 16) (v % 2 == 1) { Config.selfTest s.free with refValid := s.refValid }

/-- UNDER_VOLTAGE_TRIP and OVER_VOLTAGE_TRIP (R512): every rail goes down. -/
def execUnderVoltageTrip (s : State) : Out := .next s.cold

def execOverVoltageTrip (s : State) : Out := .next s.cold

/-! ## The test connector (R519, R520) -/

/-- TEST_EN_N_CHANGE (R520): the pin changes, and takes effect through a module reset. -/
def execTestEnNChange (high : Bool) (found : StartUp) (s : State) : Out :=
  .next (if s.testEnN = high then s else ({ s with testEnN := high, taps := [] } : State).moduleReset found)

/-- Place of a die on the TAP chain. -/
def tapIx : TapDie → Nat
  | .barn b => b.val
  | .field d => 2 + d.val

/-- A TAP acts while TEST_EN_N is low and the module holds at step 2; while it is high it stays in Test-Logic-Reset. -/
def State.tap (s : State) (t : TapDie) (f : Tap → Tap) : State :=
  if s.testEnN || !s.managed then s else { s with taps := sput {} s.taps (tapIx t) (f (sget {} s.taps (tapIx t))) }

/-- BYPASS (R519): the one-bit register between TDI and TDO. -/
def execBypass (tdi : Bool) (t : TapDie) (s : State) : Out :=
  .next (s.tap t fun x => { ir := 0, dr := if tdi then 1 else 0, tdo := x.ir == 0 && x.dr % 2 == 1 })

/-- IDCODE of a die (R519). -/
def idcodeOf (s : State) : TapDie → Nat
  | .barn _ => (s.fld F.hubIdentStepping 0 - 0x40) % 16 * 2 ^ 28 + 0x4602 * 2 ^ 12 + 0x2B3 * 2 + 1
  | .field _ => (s.fld F.hubIdentStepping 0 - 0x40) % 16 * 2 ^ 28 + 0x4601 * 2 ^ 12 + 0x2B3 * 2 + 1

def execIdcode (t : TapDie) (s : State) : Out :=
  .next (s.tap t fun _ => { ir := 1, dr := idcodeOf s t, tdo := true })

/-- SAMPLE/PRELOAD (R519): the boundary cells take the states of the pads, which the manual leaves open. -/
def execSamplePreload (t : TapDie) (s : State) : Out :=
  let d := s.draw
  .next (if s.testEnN || !s.managed then s else d.2.tap t fun _ => { ir := 2, dr := d.1, tdo := d.1 % 2 == 1 })

/-- EXTEST (R519): the boundary cells drive the pads with what they hold. -/
def execExtest (t : TapDie) (s : State) : Out := .next (s.tap t fun x => { x with ir := 3 })

/-! ## The I2C sideband (R516–R518) -/

/-- Registers that the sideband reads (R517). -/
def sideRegs : List Reg := [.hubStatus, .pwrStatus, .pwrInput, .fltStatus, .secBoot, .secLifecycle, .cfgStart]

/-- Whether `n` bytes of a page from an offset cover every 64-bit register that they touch (R347, R517). -/
def coversWhole (rows : List RegRow) (u off n : Nat) : Bool :=
  (List.range n).all fun k => match byteAt rows u (off + k) with
    | some c => c.1.bytes != 8 || (decide (c.2.2 ≤ k) && decide (k + 8 ≤ n + c.2.2))
    | none => true

/-- Rows of the registers that the sideband reads. -/
def sideRows : List RegRow := regRows.filter fun w => sideRegs.contains w.reg

/-- I2C_READ (R517): 4 or 8 bytes, least significant first; addresses of no reachable register read as zero. The bytes go to the
latch. A read of another length, or of part of a 64-bit register, returns bytes that nothing fixes (R10, R11). -/
def execI2cRead (addr : BitVec 24) (len : Nat) (s : State) : Out :=
  let r := s.openBytes len
  .next (if !s.managed then s
    else if (len == 4 || len == 8) && coversWhole sideRows 0 addr.toNat len then
      { s with latch := (s.pageBytes sideRows 0 addr.toNat len, false) }
    else { r.2 with latch := (r.1, false) })

/-- I2C_WRITE (R500, R517): only CFG_CTRL is reachable. -/
def execI2cWrite (addr : BitVec 24) (v : BitVec 32) (s : State) : Out :=
  .next (if addr.toNat = 0x800048 then s.cfgCtrlWrite v.toNat else s)

/-- SB_ALERT_N is low (R518). -/
def State.alert (s : State) : Bool :=
  s.fld F.pwrStatusThermal 0 != 0 || s.fld F.fltStatusDieLost 0 != 0 || s.fld F.cfgStartPhase 0 == 3

end Sys2Proof.Machine
end

