-- ==== Sys2Proof/Machine/Host.lean ====
section
/-!
DEFINITION. The host register window (R345–R350): host access packets, message slots, channel resets, and writes to registers (R13).
-/
namespace Sys2Proof.Machine

/-! ## What the window shows (R345) -/

/-- The registers of the window. -/
def rowsWindow : List RegRow := regRows.filter (·.page == .window)

/-- Bodies of the items of a record payload, from a byte of the payload on: KIND, first byte, length (R503). -/
def itemSpans : Nat → Nat → List Byte → List (Nat × Nat × Nat)
  | 0, _, _ => []
  | n + 1, at_, b =>
    if b.length < 8 then [] else
    let len := bits (bytesAt b 0 8) 0 32
    let step := 8 * ceilDiv (8 + len) 8
    (bits (bytesAt b 0 8) 48 16, at_ + 8, len) :: itemSpans n (at_ + step) (b.drop step)

/-- Bytes of a bank that the aperture hides: the bodies of IDKEY_WRAP and HELPER items (R508). -/
def State.hidden (s : State) (bank byte : Nat) : Bool :=
  if byte < 0x800010 ∨ 0x900000 ≤ byte then false else
  let len := min (s.rdNat (storeAt bank 0x800008) 4) 1048556
  (itemSpans len 0x800010 (s.rdN (storeAt bank 0x800010) len)).any fun x =>
    (x.1 == 5 || x.1 == 6) && decide (x.2.1 ≤ byte) && decide (byte < x.2.1 + x.2.2)

/-- A byte of the configuration store aperture. -/
def State.apertureByte (s : State) (off : Nat) : Byte :=
  let bank := s.fld F.cfgApertureBank 0
  let byte := s.fld F.cfgAperturePage 0 * 2 ^ 22 + off
  if s.hidden bank byte then 0 else s.rd (storeAt bank byte)

/-- A byte of the window. An address that no row maps reads as zero (R345). -/
def State.windowByte (s : State) (a : Nat) : Byte :=
  if 0x1000000 ≤ a ∧ a < 0x4000000 then s.rd (stagingAt (a - 0x1000000))
  else if 0xC00000 ≤ a ∧ a < 0x1000000 then s.apertureByte (a - 0xC00000)
  else if 0x701000 ≤ a ∧ a < 0x709000 then s.rd (Space.log.base + (a - 0x701000))
  else if 0x100000 ≤ a ∧ a < 0x180000 ∧ a % 4096 < 512 then s.rd (slotAt ((a - 0x100000) / 4096) (a % 4096))
  else ((s.pageBytes rowsWindow 0 a 1)[0]?).getD 0

/-- `n` bytes of the window from an address. -/
def State.windowBytes (s : State) (a n : Nat) : List Byte := (List.range n).map fun k => s.windowByte (a + k)

/-! ## Writes to registers of the window (R13) -/

/-- A channel reset (R370): at once, or once the message in progress has been answered. -/
def State.channelReset (s : State) (n : Nat) : State :=
  if (s.chan n).msg.isNone then s.resetChan n else s.setChan n { s.chan n with resetAsked := true }

/-- CHANNEL_RESET (R370). -/
def execChannelReset (n : Channel) (s : State) : Out := .next (s.channelReset n.val)

/-- A write to a register copy of the window: the effects of the registers that act, and R13 for the rest. -/
def State.windowWrite (s : State) (r : Reg) (i : Nat) (v : Word) : State :=
  let n := v.toNat
  match r with
  | .lnkCtrl => s.lnkCtrlWrite i (BitVec.ofNat 32 n)
  | .lnkClear =>
    let s := if n.testBit 1 then s.setReg .lnkSlack i 0 else s
    if n.testBit 0 then s.setReg .lnkErr i 0 else s
  | .mbxCtrl => if n.testBit 1 then s.channelReset i else s
  | .fltClear =>
    let s := if n.testBit 2 then s.clrResetLimit else s
    let s := if n.testBit 1 then s.clrLog else s
    if n.testBit 0 then s.clrAvail else s
  | .monCtrl =>
    let s := s.setReg .monCtrl 0 (Reg.written .monCtrl (s.reg .monCtrl 0) v)
    if n.testBit 0 then s.clearPoints else s
  | .monSel => s.monSel i v
  | .pwrCeiling => s.ceilingWrite n
  | .pwrAcreCap => s.capWrite i n
  | .cfgCtrl => s.cfgCtrlWrite n
  | .entTest => s.entTestWrite v
  | .entPattern => if s.fld F.secLifecycleState 0 = 0 then s.setReg .entPattern 0 v else s
  | .entCtrl =>
    let s := s.setReg .entCtrl 0 (Reg.written .entCtrl (s.reg .entCtrl 0) v)
    let s := s.setFld F.entCtrlReseedExp 0 (max 12 (min 20 (s.fld F.entCtrlReseedExp 0)))
    s.each [0, 1] fun s b => s.setSource b (s.supply (s.source b))
  | _ => s.setReg r i (r.written (s.reg r i) v)

/-- A write of bytes to the registers of the window that they cover. -/
def State.windowRegs (s : State) (a : Nat) (data : List Byte) : State :=
  (List.range data.length).foldl (fun s k => match regAt rowsWindow 0 (a + k) with
    | some c => s.windowWrite c.1 c.2 (BitVec.ofNat 64 (bytesAt data k c.1.bytes))
    | none => s) s

/-- Rows and unit of a page (R249, R359). -/
def pageRows : Page → List RegRow × Nat
  | .window => (rowsWindow, 0)
  | .shf e => (rowsShf, e.ix)
  | .hrw st => (rowsHrw, st.ix)
  | .stk st => (rowsStk, st.ix)
  | .acr a => (rowsAcr, a.ix)

/-- REGISTER_WRITE (R13, R108, R201, R237): a write at an address of no register is ignored (R345). -/
def execRegisterWrite (page : Page) (addr : Nat) (v : Word) (s : State) : Out :=
  let p := pageRows page
  .next (match regAt p.1 p.2 addr with
  | none => s
  | some c =>
    let v := if c.1.bytes = 8 then v else (v.setWidth 32).setWidth 64
    match page with
    | .window => s.windowWrite c.1 c.2 v
    | _ => s.unitWrite c.1 c.2 v)

/-! ## Message slots (R352–R354) -/

/-- Channels whose message slot a write reaches. -/
def slotsHit (a n : Nat) : List Nat :=
  (List.range 128).filter fun c => decide (a < 0x100000 + 4096 * c + 256) && decide (0x100000 + 4096 * c < a + n)

/-- Whether a write that reaches the slot of a channel is a whole message (R353): from offset 0, with the header and LENGTH bytes of payload,
for that channel, with an opcode of R358. A LENGTH above 224 is counted, not malformed. -/
def wholeMessage (a c : Nat) (data : List Byte) : Bool :=
  a == 0x100000 + 4096 * c && decide (0x20 ≤ data.length) &&
    (decide (224 < bytesAt data 16 1) || (decide (0x20 + bytesAt data 16 1 ≤ data.length) && bytesAt data 0 1 % 128 == c &&
      decide (1 ≤ bytesAt data 3 1) && decide (bytesAt data 3 1 ≤ 0x15)))

/-- A message that arrives at a channel over a control port. Before READY it is only counted (R495). -/
def State.takeMessage (s : State) (port c : Nat) (slot : List Byte) : State :=
  if !s.flag F.hubStatusReady 0 then s.bump F.mbxStatusDropped c 1
  else
    let was := (s.chan c).msg.isSome
    let s := s.arrive c slot
    if was then s else s.setChan c { s.chan c with port := port }

/-! ## Host access packets (R346–R349) -/

/-- The module serves host accesses on a control port: it runs, a barn die is left, and the port carries a live session (R429, R489). -/
def State.serves (s : State) (port : Nat) : Bool :=
  s.powered && !(s.barnLost.contains 0 && s.barnLost.contains 1) && (s.port (16 + port)).session.isSome

/-- The form of a request (R346, R347). -/
def requestForm (a n : Nat) : Bool :=
  decide (a % 4 = 0) && decide (n % 4 = 0) && decide (4 ≤ n) && decide (n ≤ 1952) && decide (a + n ≤ 2 ^ 26) && coversWhole rowsWindow 0 a n

/-- The bytes of a WRITE take effect together: staging window, messages, registers. -/
def State.applyWrite (s : State) (port a : Nat) (data : List Byte) : State :=
  if 0x1000000 ≤ a then s.wrN (stagingAt (a - 0x1000000)) data
  else
    let s := (slotsHit a data.length).foldl (fun s c => s.takeMessage port c (data.take 256)) s
    (s.windowRegs a (data.take (0x1000000 - a))).wrN (stagingAt 0) (data.drop (0x1000000 - a))

/-- A HOST_WRITE on a port that serves, with its WRITE_ACK. -/
def State.hostWrite (s : State) (port : Nat) (tag : BitVec 16) (a : Nat) (data : List Byte) : State :=
  let s := s.applyWrite port a data
  if s.serves port then { s with answers := s.answers ++ [{ port := port, tag := tag, addr := a, data := none }] } else s

/-- The form of a WRITE (R346, R347, R353). -/
def writeForm (a : Nat) (data : List Byte) : Bool :=
  requestForm a data.length && (slotsHit a data.length).all fun c => wholeMessage a c data

/-- An answer packet on its way (R346, R348). -/
def State.answer (s : State) (port : Nat) (tag : BitVec 16) (a : Nat) (data : Option (List Byte)) : State :=
  { s with answers := s.answers ++ [{ port := port, tag := tag, addr := a, data := data }] }

/-- Completion words and fences that `n` bytes at a window address touch: the registers that belong to streams. -/
def streamWords (a n : Nat) : List (Reg × Nat) :=
  (List.range n).filterMap fun k => match byteAt rowsWindow 0 (a + k) with
    | some c => if c.1 = .doneWord ∨ c.1 = .fncValue then some (c.1, c.2.1) else none
    | none => none

/-- A WRITE that breaks its form (R10, R11): the staging bytes, message slots, completion words and fences it reaches hold anything; no
message is taken, no other register changes, and it is answered (log 125). -/
def State.strayWrite (s : State) (port : Nat) (tag : BitVec 16) (a n : Nat) : State :=
  let r := s.openBytes n
  let slots := (List.range n).foldl (fun s k =>
    let x := a + k
    let v := ((r.1)[k]?).toList
    if 0x1000000 ≤ x ∧ x < 0x4000000 then s.wrN (stagingAt (x - 0x1000000)) v
    else if 0x100000 ≤ x ∧ x < 0x180000 ∧ x % 4096 < 256 then s.wrN (slotAt ((x - 0x100000) / 4096) (x % 4096)) v
    else s) r.2
  ((streamWords a n).foldl (fun s w => s.draw.2.setReg w.1 w.2 (BitVec.ofNat 64 s.draw.1)) slots).answer port tag a none

/-- A WRITE on a port that serves. -/
def State.writeIn (s : State) (port : Nat) (tag : BitVec 16) (a : Nat) (data : List Byte) : State :=
  if writeForm a data then s.hostWrite port tag a data else s.strayWrite port tag a data.length

/-- A READ on a port that serves; the data of one that breaks its form are open (R10, R11). -/
def State.readIn (s : State) (port : Nat) (tag : BitVec 16) (a n : Nat) : State :=
  let r := s.openBytes n
  if requestForm a n then s.answer port tag a (some (s.windowBytes a n)) else r.2.answer port tag a (some r.1)

/-- HOST_WRITE (R346, R347, R353). A port that serves no host drops what arrives (R429, R489). -/
def execHostWrite (port : ControlPort) (tag : BitVec 16) (addr : Nat) (data : List Byte) (s : State) : Out :=
  .next (if s.serves port.val then s.writeIn port.val tag addr data else s)

/-- HOST_READ (R346). -/
def execHostRead (port : ControlPort) (tag : BitVec 16) (addr len : Nat) (s : State) : Out :=
  .next (if s.serves port.val then s.readIn port.val tag addr len else s)

end Sys2Proof.Machine
end

