-- ==== Sys2Proof/Machine/Frames.lean ====
section
/-!
DEFINITION. FRAME_RECEIVE: the check, the number, the tag and the acknowledgement of a Dualjo frame (R306–R308, R316, R317), and what
it delivers: a control item (R304, R404), set-up messages (R487), host access packets (R346).
-/
namespace Sys2Proof.Machine

/-! ## What a frame delivers -/

/-- A concord item, by its phase (R404). -/
def State.concordIn (s : State) (p : Nat) (body : BitVec 240) : State :=
  let phase := bits body.toNat 63 3
  if phase = 0 then s.announceIn p body
  else if phase = 1 then s.readyIn p body
  else if phase = 2 then s.refuseIn p body
  else if phase = 3 then s.checkIn p body
  else if phase = 4 then s.leaveIn p body
  else s

/-- The control item of a frame (R304, R404). Idle flits, link management and reserved kinds reach no launch; a fabric port of a group
with ENC = 1 carries no group traffic before its session is live (R490). -/
def State.itemIn (s : State) (p : Nat) (ctl : BitVec 256) : State :=
  let kind := bits ctl.toNat 248 8
  let body : BitVec 240 := BitVec.ofNat 240 ctl.toNat
  let barred := s.group.any (·.enc) && (s.port p).session.isNone
  if 16 ≤ p ∨ barred then s
  else if kind = 1 then (if bits body.toNat 238 2 = 0 then s.arriveIn p body else if bits body.toNat 238 2 = 1 then s.releaseIn p body else s)
  else if kind = 2 then s.alignIn p body (s.cyc * 8)
  else if kind = 3 then s.sumsIn p body
  else if kind = 4 then s.voteIn p body
  else if kind = 5 then s.concordIn p body
  else if kind = 6 then s.stallIn p body
  else s

/-- A set-up message in the clear (R317, R487): header, then LENGTH bytes of body. -/
def State.setupIn (s : State) (p : Nat) (b : List Byte) : State :=
  let h := bytesAt b 0 8
  let body := (b.drop 8).take (bits h 40 16)
  let type := bits h 56 8
  if bits h 32 8 ≠ 1 then s
  else if type = 1 then s.helloIn p body
  else if type = 2 then s.replyMsg p body
  else if type = 3 then s.finishMsg p body
  else if type = 4 then s.confirmMsg p body
  else s

/-- A host access packet (R346): KIND, TAG, ADDR, LENGTH, data. -/
structure Packet where
  kind : Nat
  tag : BitVec 16
  addr : Nat
  len : Nat
  data : List Byte
  deriving DecidableEq, Repr

/-- The host access packets of a payload, in order. The list ends at a KIND that the host does not send. -/
def packetsOf : Nat → List Byte → List Packet
  | 0, _ => []
  | n + 1, b =>
    let h := bytesAt b 0 16
    let kind := bits h 120 8
    let len := bits h 0 12
    let one := fun d => ({ kind := kind, tag := BitVec.ofNat 16 (bits h 104 16), addr := bits h 32 26, len := len, data := d } : Packet)
    if kind = 1 then one ((b.drop 16).take len) :: packetsOf n (b.drop (16 + len))
    else if kind = 2 then one [] :: packetsOf n (b.drop 16)
    else []

/-- A host access packet carried out (R348); a WRITE whose data the payload cuts short breaks its form (R346, R11). -/
def State.packetIn (s : State) (port : Nat) (x : Packet) : State :=
  if !s.serves port then s
  else if x.kind = 1 then
    if x.data.length = x.len then s.writeIn port x.tag x.addr x.data else s.strayWrite port x.tag x.addr x.len
  else s.readIn port x.tag x.addr x.len

/-! ## The frame (R306–R308, R316) -/

/-- A frame that failed its check, or came out of order: dropped, and the next trailer carries NAK (R305, R307). -/
def State.nak (s : State) (p : Nat) : State := s.setPort p { s.port p with nakDue := true }

/-- The payload under the session (R314, R315): none when the tag fails or no key of the frame's epoch is held. -/
def State.openFrame (s : State) (p : Nat) (f : Frame) : Option (List Byte) := match (s.port p).session with
  | none => none
  | some x =>
    let dir := if x.dirZero then 1 else 0
    if f.epoch ≠ x.rxEpoch ∧ f.epoch ≠ x.rxEpoch + 1 then none else
    Config.gcmOpen (sessionKey x.secret p dir f.epoch) (linkNonce p dir f.epoch f.seq) (linkAad f.ctl f.head) f.payload f.tag

/-- A tag failure (R316): counted; the fourth in 1,024 frames takes the port down. -/
def State.tagFail (s : State) (p : Nat) : State :=
  let s := (s.bump F.lnkErrAuthFail p 1).nak p
  let x := s.port p
  let fails := (x.tagFails.filter fun n => decide (x.received < n + 1024)) ++ [x.received]
  let s := s.setPort p { x with tagFails := fails }
  if 4 ≤ fails.length then s.portLost p 4 else s

/-- A frame accepted (R305, R308): the next one is expected, and its ACK and NAK are taken. -/
def State.acceptFrame (s : State) (p : Nat) (f : Frame) : State :=
  let s := s.setFld F.lnkSeqRxExpect p (f.seq + 1)
  let s := s.setPort p { s.port p with
    acked := f.ack, session := (s.port p).session.map fun x => { x with rxEpoch := if f.enc then f.epoch else x.rxEpoch } }
  if f.nak then (s.bump F.lnkErrRetries p 1).setPort p { s.port p with resend := (s.port p).unacked } else s

/-- A frame that its sender should have encrypted (R317). -/
def State.bare (s : State) (p : Nat) (f : Frame) : Bool :=
  decide (16 ≤ p) && !f.enc && !f.empty && (s.port p).session.any fun x => f.seq == x.rxFrom || serialAbove f.seq x.rxFrom

/-- Whether a clear payload is a set-up message: on a fabric port of a group that does not encrypt, the payloads of a launch are cartway packets
(DEDUCED, log 151). -/
def State.clearSetup (s : State) (p : Nat) : Bool := decide (16 ≤ p) || s.groupCtxs.isEmpty || s.group.any (·.enc)

/-- What an accepted frame delivers. Cartway packets of a fabric port arrive by commands of their own. -/
def State.deliver (s : State) (p : Nat) (f : Frame) (payload : List Byte) : State :=
  let s := if p < 16 then s.heardFrom p else s
  let s := s.itemIn p f.ctl
  if f.empty then s
  else if !f.enc then (if s.bare p f then s.bump F.lnkErrAuthFail p 1 else if s.clearSetup p then s.setupIn p payload else s)
  else if p < 16 then s
  else (packetsOf payload.length payload).foldl (fun s x => s.packetIn (p - 16) x) s

/-- A frame that has arrived on a port. -/
def State.frameIn (s : State) (p : Nat) (f : Frame) : State :=
  if !s.portUp p then s else
  let s := s.setPort p { s.port p with received := (s.port p).received + 1 }
  let expect := s.fld F.lnkSeqRxExpect p
  if f.payload.length ≠ 1984 ∨ linkCheck f.ctl f.payload f.head ≠ f.check then (s.bump F.lnkErrCheckFail p 1).nak p
  else if f.seq ≠ expect then (if serialAbove f.seq expect then s.nak p else s)
  else if f.enc then match s.openFrame p f with
    | none => s.tagFail p
    | some payload => (s.acceptFrame p f).deliver p f payload
  else (s.acceptFrame p f).deliver p f f.payload

/-- FRAME_RECEIVE (R306, R307, R316). -/
def execFrameReceive (p : Port) (f : Frame) (s : State) : Out := .next (s.frameIn p.val f)

end Sys2Proof.Machine
end

