-- ==== Sys2Proof/Machine/Dispatch.lean ====
section
/-!
DEFINITION. Dispatch of the commands: one arm per constructor, each a direct call of its meaning.
-/
namespace Sys2Proof.Machine

/-- The effect of a command on everything but the queue. -/
def exec (i : Instr) (s : State) : Host.Outcome State Fault Refusal :=
  match i with
  | .hostWrite port tag addr data => Sys2Proof.Machine.execHostWrite port tag addr data s
  | .hostRead port tag addr len => Sys2Proof.Machine.execHostRead port tag addr len s
  | .ctxOpen n => Sys2Proof.Machine.execCtxOpen n s
  | .ctxClose n => Sys2Proof.Machine.execCtxClose n s
  | .graphCreate n => Sys2Proof.Machine.execGraphCreate n s
  | .graphLoad n => Sys2Proof.Machine.execGraphLoad n s
  | .graphPatch n => Sys2Proof.Machine.execGraphPatch n s
  | .graphRetire n => Sys2Proof.Machine.execGraphRetire n s
  | .launch n => Sys2Proof.Machine.execLaunch n s
  | .pause n => Sys2Proof.Machine.execPause n s
  | .save n => Sys2Proof.Machine.execSave n s
  | .resume n => Sys2Proof.Machine.execResume n s
  | .readBest n => Sys2Proof.Machine.execReadBest n s
  | .streamSubmit n => Sys2Proof.Machine.execStreamSubmit n s
  | .fenceSignal n => Sys2Proof.Machine.execFenceSignal n s
  | .fenceWait n => Sys2Proof.Machine.execFenceWait n s
  | .groupJoin n => Sys2Proof.Machine.execGroupJoin n s
  | .groupLeave n => Sys2Proof.Machine.execGroupLeave n s
  | .replayStart n => Sys2Proof.Machine.execReplayStart n s
  | .captureRead n => Sys2Proof.Machine.execCaptureRead n s
  | .cfgWrite n => Sys2Proof.Machine.execCfgWrite n s
  | .monRead n => Sys2Proof.Machine.execMonRead n s
  | .entRead n => Sys2Proof.Machine.execEntRead n s
  | .channelReset n => Sys2Proof.Machine.execChannelReset n s
  | .moduleReset unlock found => Sys2Proof.Machine.execModuleReset unlock found s
  | .clrResetLimit => Sys2Proof.Machine.execClrResetLimit s
  | .clrLog => Sys2Proof.Machine.execClrLog s
  | .clrAvail => Sys2Proof.Machine.execClrAvail s
  | .clrSlack p => Sys2Proof.Machine.execClrSlack p s
  | .clrErr p => Sys2Proof.Machine.execClrErr p s
  | .clrAll => Sys2Proof.Machine.execClrAll s
  | .monSelWrite j v => Sys2Proof.Machine.execMonSelWrite j v s
  | .pwrCeilingWrite v => Sys2Proof.Machine.execPwrCeilingWrite v s
  | .acreCapWrite a v => Sys2Proof.Machine.execAcreCapWrite a v s
  | .lnkCtrlWrite p v => Sys2Proof.Machine.execLnkCtrlWrite p v s
  | .entTestWrite v => Sys2Proof.Machine.execEntTestWrite v s
  | .registerWrite page addr v => Sys2Proof.Machine.execRegisterWrite page addr v s
  | .add k rd ra rb => Sys2Proof.Machine.execAdd k rd ra rb s
  | .sub k rd ra rb => Sys2Proof.Machine.execSub k rd ra rb s
  | .and k rd ra rb => Sys2Proof.Machine.execAnd k rd ra rb s
  | .or k rd ra rb => Sys2Proof.Machine.execOr k rd ra rb s
  | .xor k rd ra rb => Sys2Proof.Machine.execXor k rd ra rb s
  | .shl k rd ra rb => Sys2Proof.Machine.execShl k rd ra rb s
  | .shr k rd ra rb => Sys2Proof.Machine.execShr k rd ra rb s
  | .sar k rd ra rb => Sys2Proof.Machine.execSar k rd ra rb s
  | .slt k rd ra rb => Sys2Proof.Machine.execSlt k rd ra rb s
  | .sltu k rd ra rb => Sys2Proof.Machine.execSltu k rd ra rb s
  | .min k rd ra rb => Sys2Proof.Machine.execMin k rd ra rb s
  | .max k rd ra rb => Sys2Proof.Machine.execMax k rd ra rb s
  | .popc k rd ra => Sys2Proof.Machine.execPopc k rd ra s
  | .clz k rd ra => Sys2Proof.Machine.execClz k rd ra s
  | .mul k rd ra rb => Sys2Proof.Machine.execMul k rd ra rb s
  | .mulh k rd ra rb => Sys2Proof.Machine.execMulh k rd ra rb s
  | .mulhu k rd ra rb => Sys2Proof.Machine.execMulhu k rd ra rb s
  | .div k rd ra rb => Sys2Proof.Machine.execDiv k rd ra rb s
  | .divu k rd ra rb => Sys2Proof.Machine.execDivu k rd ra rb s
  | .rem k rd ra rb => Sys2Proof.Machine.execRem k rd ra rb s
  | .remu k rd ra rb => Sys2Proof.Machine.execRemu k rd ra rb s
  | .jr k ra => Sys2Proof.Machine.execJr k ra s
  | .cadd16 k rd ra rb => Sys2Proof.Machine.execCadd16 k rd ra rb s
  | .cadd32 k rd ra rb => Sys2Proof.Machine.execCadd32 k rd ra rb s
  | .cswapw k rd ra rb => Sys2Proof.Machine.execCswapw k rd ra rb s
  | .cswapd k rd ra rb => Sys2Proof.Machine.execCswapd k rd ra rb s
  | .addi k rd ra imm => Sys2Proof.Machine.execAddi k rd ra imm s
  | .andi k rd ra imm => Sys2Proof.Machine.execAndi k rd ra imm s
  | .ori k rd ra imm => Sys2Proof.Machine.execOri k rd ra imm s
  | .xori k rd ra imm => Sys2Proof.Machine.execXori k rd ra imm s
  | .slti k rd ra imm => Sys2Proof.Machine.execSlti k rd ra imm s
  | .sltiu k rd ra imm => Sys2Proof.Machine.execSltiu k rd ra imm s
  | .shli k rd ra imm => Sys2Proof.Machine.execShli k rd ra imm s
  | .shri k rd ra imm => Sys2Proof.Machine.execShri k rd ra imm s
  | .sari k rd ra imm => Sys2Proof.Machine.execSari k rd ra imm s
  | .movk k rd hw imm => Sys2Proof.Machine.execMovk k rd hw imm s
  | .ldb k rd ra off => Sys2Proof.Machine.execLdb k rd ra off s
  | .ldh k rd ra off => Sys2Proof.Machine.execLdh k rd ra off s
  | .ldw k rd ra off => Sys2Proof.Machine.execLdw k rd ra off s
  | .ldd k rd ra off => Sys2Proof.Machine.execLdd k rd ra off s
  | .stb k rd ra off => Sys2Proof.Machine.execStb k rd ra off s
  | .sth k rd ra off => Sys2Proof.Machine.execSth k rd ra off s
  | .stw k rd ra off => Sys2Proof.Machine.execStw k rd ra off s
  | .std k rd ra off => Sys2Proof.Machine.execStd k rd ra off s
  | .cldw k rd ra off => Sys2Proof.Machine.execCldw k rd ra off s
  | .cldd k rd ra off => Sys2Proof.Machine.execCldd k rd ra off s
  | .cstw k rd ra off => Sys2Proof.Machine.execCstw k rd ra off s
  | .cstd k rd ra off => Sys2Proof.Machine.execCstd k rd ra off s
  | .beq k ra rb off => Sys2Proof.Machine.execBeq k ra rb off s
  | .bne k ra rb off => Sys2Proof.Machine.execBne k ra rb off s
  | .blt k ra rb off => Sys2Proof.Machine.execBlt k ra rb off s
  | .bge k ra rb off => Sys2Proof.Machine.execBge k ra rb off s
  | .bltu k ra rb off => Sys2Proof.Machine.execBltu k ra rb off s
  | .bgeu k ra rb off => Sys2Proof.Machine.execBgeu k ra rb off s
  | .j k off => Sys2Proof.Machine.execJ k off s
  | .jal k off => Sys2Proof.Machine.execJal k off s
  | .halt k => Sys2Proof.Machine.execHalt k s
  | .waitc k ra => Sys2Proof.Machine.execWaitc k ra s
  | .waitt k ra => Sys2Proof.Machine.execWaitt k ra s
  | .tick k rd => Sys2Proof.Machine.execTick k rd s
  | .cyc k rd => Sys2Proof.Machine.execCyc k rd s
  | .core k rd => Sys2Proof.Machine.execCore k rd s
  | .qrd k rd ra => Sys2Proof.Machine.execQrd k rd ra s
  | .qwr k rd ra rb => Sys2Proof.Machine.execQwr k rd ra rb s
  | .qclose k ra => Sys2Proof.Machine.execQclose k ra s
  | .qpkt k rd ra => Sys2Proof.Machine.execQpkt k rd ra s
  | .qtag k rd => Sys2Proof.Machine.execQtag k rd s
  | .rrd k rd ra => Sys2Proof.Machine.execRrd k rd ra s
  | .rwr k ra rb => Sys2Proof.Machine.execRwr k ra rb s
  | .own k ra rb => Sys2Proof.Machine.execOwn k ra rb s
  | .ownr k rd => Sys2Proof.Machine.execOwnr k rd s
  | .chain k ra => Sys2Proof.Machine.execChain k ra s
  | .fsig k ra => Sys2Proof.Machine.execFsig k ra s
  | .wall k d rd => Sys2Proof.Machine.execWall k d rd s
  | .frd k d rd ra => Sys2Proof.Machine.execFrd k d rd ra s
  | .temp k d rd => Sys2Proof.Machine.execTemp k d rd s
  | .lstat k d rd ra => Sys2Proof.Machine.execLstat k d rd ra s
  | .mon k d rd ra => Sys2Proof.Machine.execMon k d rd ra s
  | .ent k d rd rb => Sys2Proof.Machine.execEnt k d rd rb s
  | .coreStallRelease k => Sys2Proof.Machine.execCoreStallRelease k s
  | .gleanStart k desc => Sys2Proof.Machine.execGleanStart k desc s
  | .cribRead q st addr len => Sys2Proof.Machine.execCribRead q st addr len s
  | .cribWrite q st addr data => Sys2Proof.Machine.execCribWrite q st addr data s
  | .scatterWrite e => Sys2Proof.Machine.execScatterWrite e s
  | .add16 q st addr v => Sys2Proof.Machine.execAdd16 q st addr v s
  | .add32 q st addr v => Sys2Proof.Machine.execAdd32 q st addr v s
  | .swap32 q st addr v => Sys2Proof.Machine.execSwap32 q st addr v s
  | .swap64 q st addr v => Sys2Proof.Machine.execSwap64 q st addr v s
  | .ownerWriteApply a => Sys2Proof.Machine.execOwnerWriteApply a s
  | .ownerResultDelivery a => Sys2Proof.Machine.execOwnerResultDelivery a s
  | .queueBankRelease st q b => Sys2Proof.Machine.execQueueBankRelease st q b s
  | .queueConsumerResume st q => Sys2Proof.Machine.execQueueConsumerResume st q s
  | .queueProducerResume st q => Sys2Proof.Machine.execQueueProducerResume st q s
  | .chainEntryArrival st addr => Sys2Proof.Machine.execChainEntryArrival st addr s
  | .chainEntryStart st addr => Sys2Proof.Machine.execChainEntryStart st addr s
  | .chainEntryComplete st addr => Sys2Proof.Machine.execChainEntryComplete st addr s
  | .copy st desc => Sys2Proof.Machine.execCopy st desc s
  | .laneStart e mask => Sys2Proof.Machine.execLaneStart e mask s
  | .laneStop e mask => Sys2Proof.Machine.execLaneStop e mask s
  | .stateLoad e mask => Sys2Proof.Machine.execStateLoad e mask s
  | .stateCapture e mask => Sys2Proof.Machine.execStateCapture e mask s
  | .gemm st desc => Sys2Proof.Machine.execGemm st desc s
  | .gemv st desc => Sys2Proof.Machine.execGemv st desc s
  | .tokenStep st layers logits stateFrom stateTo stateLen => Sys2Proof.Machine.execTokenStep st layers logits stateFrom stateTo stateLen s
  | .generatorRestart st stateFrom stateTo stateLen => Sys2Proof.Machine.execGeneratorRestart st stateFrom stateTo stateLen s
  | .generatorInputCopy st buf => Sys2Proof.Machine.execGeneratorInputCopy st buf s
  | .proposalRecordArrival e l rec => Sys2Proof.Machine.execProposalRecordArrival e l rec s
  | .proposalPending e l => Sys2Proof.Machine.execProposalPending e l s
  | .coefficientPatchHandover c area count apply => Sys2Proof.Machine.execCoefficientPatchHandover c area count apply s
  | .decision e => Sys2Proof.Machine.execDecision e s
  | .linkWalkerRead e => Sys2Proof.Machine.execLinkWalkerRead e s
  | .tickBoundary => Sys2Proof.Machine.execTickBoundary s
  | .tickWord w => Sys2Proof.Machine.execTickWord w s
  | .deltaTileArrival e slots => Sys2Proof.Machine.execDeltaTileArrival e slots s
  | .tileLateHold c => Sys2Proof.Machine.execTileLateHold c s
  | .rollbackNoticeArrival e rank block words => Sys2Proof.Machine.execRollbackNoticeArrival e rank block words s
  | .voteCast e => Sys2Proof.Machine.execVoteCast e s
  | .voteResult c => Sys2Proof.Machine.execVoteResult c s
  | .resolutionPoint e l => Sys2Proof.Machine.execResolutionPoint e l s
  | .patchOverlayWriteback e => Sys2Proof.Machine.execPatchOverlayWriteback e s
  | .contextSwitch c => Sys2Proof.Machine.execContextSwitch c s
  | .reductionTick c => Sys2Proof.Machine.execReductionTick c s
  | .verdictArrival c => Sys2Proof.Machine.execVerdictArrival c s
  | .verdictLateHold c => Sys2Proof.Machine.execVerdictLateHold c s
  | .bestCapture e l => Sys2Proof.Machine.execBestCapture e l s
  | .audit c => Sys2Proof.Machine.execAudit c s
  | .auditRecordEmit c => Sys2Proof.Machine.execAuditRecordEmit c s
  | .statisticsSample a => Sys2Proof.Machine.execStatisticsSample a s
  | .streamInputApply c => Sys2Proof.Machine.execStreamInputApply c s
  | .launchStart c => Sys2Proof.Machine.execLaunchStart c s
  | .launchEnd c => Sys2Proof.Machine.execLaunchEnd c s
  | .checkpoint c => Sys2Proof.Machine.execCheckpoint c s
  | .checkpointComplete c d => Sys2Proof.Machine.execCheckpointComplete c d s
  | .mirrorSend d => Sys2Proof.Machine.execMirrorSend d s
  | .mirrorComplete d => Sys2Proof.Machine.execMirrorComplete d s
  | .digestWrite c => Sys2Proof.Machine.execDigestWrite c s
  | .watchdogExpiry x => Sys2Proof.Machine.execWatchdogExpiry x s
  | .faultReport r => Sys2Proof.Machine.execFaultReport r s
  | .recovery c cause => Sys2Proof.Machine.execRecovery c cause s
  | .granaryDieLoss d p => Sys2Proof.Machine.execGranaryDieLoss d p s
  | .gddrDeviceLoss d p => Sys2Proof.Machine.execGddrDeviceLoss d p s
  | .poisonedRowRewrite d row mirror => Sys2Proof.Machine.execPoisonedRowRewrite d row mirror s
  | .linkReroute d acre => Sys2Proof.Machine.execLinkReroute d acre s
  | .wireRepair d west g => Sys2Proof.Machine.execWireRepair d west g s
  | .fieldDieLoss d => Sys2Proof.Machine.execFieldDieLoss d s
  | .foldFrame c => Sys2Proof.Machine.execFoldFrame c s
  | .pscLoss c => Sys2Proof.Machine.execPscLoss c s
  | .barnBothLoss => Sys2Proof.Machine.execBarnBothLoss s
  | .badgerTakeover => Sys2Proof.Machine.execBadgerTakeover s
  | .heartbeatTimeout standbyDiffers => Sys2Proof.Machine.execHeartbeatTimeout standbyDiffers s
  | .commitRecord n => Sys2Proof.Machine.execCommitRecord n s
  | .frameSend p => Sys2Proof.Machine.execFrameSend p s
  | .frameReceive p f => Sys2Proof.Machine.execFrameReceive p f s
  | .linkReset p => Sys2Proof.Machine.execLinkReset p s
  | .laneFailure p lane => Sys2Proof.Machine.execLaneFailure p lane s
  | .frameDeadlineMiss p c item => Sys2Proof.Machine.execFrameDeadlineMiss p c item s
  | .referenceLoss => Sys2Proof.Machine.execReferenceLoss s
  | .barrierArrive p body => Sys2Proof.Machine.execBarrierArrive p body s
  | .barrierRelease p body => Sys2Proof.Machine.execBarrierRelease p body s
  | .tickAlignment p body arrival => Sys2Proof.Machine.execTickAlignment p body arrival s
  | .trimTick => Sys2Proof.Machine.execTrimTick s
  | .reductionItem p body => Sys2Proof.Machine.execReductionItem p body s
  | .voteItem p body => Sys2Proof.Machine.execVoteItem p body s
  | .concordAnnounce p body => Sys2Proof.Machine.execConcordAnnounce p body s
  | .concordReady p body => Sys2Proof.Machine.execConcordReady p body s
  | .concordRefuse p body => Sys2Proof.Machine.execConcordRefuse p body s
  | .concordCheck p body => Sys2Proof.Machine.execConcordCheck p body s
  | .concordLeave p body => Sys2Proof.Machine.execConcordLeave p body s
  | .joinTimeout => Sys2Proof.Machine.execJoinTimeout s
  | .groupStall p body => Sys2Proof.Machine.execGroupStall p body s
  | .groupStallTimeout => Sys2Proof.Machine.execGroupStallTimeout s
  | .memberLost rank => Sys2Proof.Machine.execMemberLost rank s
  | .hello p body => Sys2Proof.Machine.execHello p body s
  | .reply p body => Sys2Proof.Machine.execReply p body s
  | .finish p body => Sys2Proof.Machine.execFinish p body s
  | .confirm p body => Sys2Proof.Machine.execConfirm p body s
  | .setupTimeout p => Sys2Proof.Machine.execSetupTimeout p s
  | .sessionEnd p => Sys2Proof.Machine.execSessionEnd p s
  | .entropyStartup b => Sys2Proof.Machine.execEntropyStartup b s
  | .healthTestFailure b rct => Sys2Proof.Machine.execHealthTestFailure b rct s
  | .seedConditioned b samples => Sys2Proof.Machine.execSeedConditioned b samples s
  | .reseed b => Sys2Proof.Machine.execReseed b s
  | .fieldNoiseKeyCommit a => Sys2Proof.Machine.execFieldNoiseKeyCommit a s
  | .powerManagerDecision temps => Sys2Proof.Machine.execPowerManagerDecision temps s
  | .energyReport dies input vin iin => Sys2Proof.Machine.execEnergyReport dies input vin iin s
  | .thermalTrip d => Sys2Proof.Machine.execThermalTrip d s
  | .leaveRequest a item => Sys2Proof.Machine.execLeaveRequest a item s
  | .leaveRelease a item => Sys2Proof.Machine.execLeaveRelease a item s
  | .leaveGrant a item => Sys2Proof.Machine.execLeaveGrant a item s
  | .queuedLeaveGrant a => Sys2Proof.Machine.execQueuedLeaveGrant a s
  | .timedGrantExpiry a => Sys2Proof.Machine.execTimedGrantExpiry a s
  | .acreWake a => Sys2Proof.Machine.execAcreWake a s
  | .acreAwake a => Sys2Proof.Machine.execAcreAwake a s
  | .powerUp found => Sys2Proof.Machine.execPowerUp found s
  | .referenceValid => Sys2Proof.Machine.execReferenceValid s
  | .underVoltageTrip => Sys2Proof.Machine.execUnderVoltageTrip s
  | .overVoltageTrip => Sys2Proof.Machine.execOverVoltageTrip s
  | .testEnNChange high found => Sys2Proof.Machine.execTestEnNChange high found s
  | .bypass tdi t => Sys2Proof.Machine.execBypass tdi t s
  | .idcode t => Sys2Proof.Machine.execIdcode t s
  | .samplePreload t => Sys2Proof.Machine.execSamplePreload t s
  | .extest t => Sys2Proof.Machine.execExtest t s
  | .i2cRead addr len => Sys2Proof.Machine.execI2cRead addr len s
  | .i2cWrite addr v => Sys2Proof.Machine.execI2cWrite addr v s
  | .recordWriteComplete => Sys2Proof.Machine.execRecordWriteComplete s
  | .linkTrainingComplete p delay peerPort peerRank => Sys2Proof.Machine.execLinkTrainingComplete p delay peerPort peerRank s

end Sys2Proof.Machine
end

