-- ==== Sys2Proof/Machine/Step.lean ====
section
/-!
DEFINITION. The step of the module: the command at the front of the queue runs on the state with the rest of the queue.
-/
namespace Sys2Proof.Machine

/-- One step. On an empty queue the block idles: one cycle passes (log 11). -/
def step (s : State) : Host.Outcome State Fault Refusal :=
  match s.pending with
  | [] => .next s.idle
  | c :: rest => exec c { s with pending := rest }

/-- The state with the command that a word spells at the front of its queue. The table gives no bits, so no word spells one. -/
def State.withFetchWord (s : State) (nbits w : Nat) : State :=
  match Sys2Proof.decodeTableWord nbits w with
  | some c => { s with pending := c :: s.pending }
  | none => s

end Sys2Proof.Machine
end

