-- ==== Sys2Proof/Safety.lean ====
section
/-!
DEFINITION. The terms in which statements speak of a run: a command that completes, a run without a stop, what two states share, and
the invariants of the module's clock and tables.
-/
namespace Sys2Proof.Machine

/-- A command completes on a state with a given next state. -/
def Completes (c : Instr) (s t : State) : Prop := exec c s = .next t

/-- A step that does not stop. -/
def Goes (s : State) : Prop := ∃ t, step s = .next t

/-- The queue of commands, the draws of free values and the clock's bound from one state to the next: no command touches the queue, a
draw is never repeated, and the cycle-in-tick stays within R136. -/
structure Kept (s t : State) : Prop where
  queue : t.pending = s.pending
  draws : s.free ≤ t.free
  clock : s.cyc ≤ 1023 → t.cyc ≤ 1023

/-- The clock lies within a tick (R136). -/
def Clocked (s : State) : Prop := s.cyc ≤ 1023

/-- A sound state: the clock within its tick (R136), and the memory in its canonical form. -/
def Sound (s : State) : Prop := Clocked s ∧ Memory.wf s.mem = true

/-- Two states with the same memories and poison tags (R204, R320, R350). -/
def SameMemory (s t : State) : Prop := t.mem = s.mem ∧ t.poison = s.poison

/-- Every byte outside `n` bytes at `a` reads as before. -/
def SameBytes (s t : State) (a n : Nat) : Prop := ∀ b, b < a ∨ a + n ≤ b → t.rd b = s.rd b

/-- Every register copy but one reads as before. -/
def SameRegsBut (s t : State) (r : Reg) (i : Nat) : Prop := ∀ q j, q.key j ≠ r.key i → t.reg q j = s.reg q j

/-- `n` bytes at an address now hold `v`, and every other byte reads as before. -/
def Wrote (s t : State) (a : Nat) (v : List Byte) : Prop := t.rdN a v.length = v ∧ SameBytes s t a v.length

/-- Nothing but the register file has changed. -/
def OnlyRegs (s t : State) : Prop := t = { s with regs := t.regs }

/-- Nothing but one copy of one register has changed, and it holds `v`. -/
def OnlyReg (s t : State) (r : Reg) (i : Nat) (v : Word) : Prop := OnlyRegs s t ∧ t.reg r i = v ∧ SameRegsBut s t r i

/-! ## Messages -/

/-- The commands that execute a message, with their opcodes (R358). -/
def mailbox : List ((Channel → Instr) × Nat) :=
  [(.ctxOpen, 0x01), (.ctxClose, 0x02), (.graphCreate, 0x03), (.graphLoad, 0x04), (.graphPatch, 0x05), (.graphRetire, 0x06), (.launch, 0x07),
   (.pause, 0x08), (.save, 0x09), (.resume, 0x0A), (.readBest, 0x0B), (.streamSubmit, 0x0C), (.fenceSignal, 0x0D), (.fenceWait, 0x0E),
   (.groupJoin, 0x0F), (.groupLeave, 0x10), (.replayStart, 0x11), (.captureRead, 0x12), (.cfgWrite, 0x13), (.monRead, 0x14),
   (.entRead, 0x15)]

/-- A channel holds a message in progress of an opcode, taken apart as `m`, that the sequence check lets execute (R354, R356) and whose staged
bytes and image parts overlap no others (R360). -/
structure Due (s : State) (n opcode : Nat) (m : Msg) : Prop where
  held : (s.chan n).msg.map parseMsg = some m
  op : m.opcode = opcode
  fresh : (s.chan n).waits = false
  seq : s.seqCheck n m.seq = .execute
  clear : s.stagedClash n m = false ∧ s.partClash m = false

/-- The state in which a message executes: LAST names it (R356). -/
def State.executing (s : State) (n : Nat) (m : Msg) : State := s.setFld F.mbxStatusLast n m.seq

/-- The message of a channel has ended with an answer in its response slot (R355). -/
structure Answered (t : State) (n : Nat) (m : Msg) (r : Reply) : Prop where
  slot : t.rdN (slotAt n 256) 256 = responseBytes n m.opcode m.seq t.tick r.status r.status r.detail r.payload
  idle : (t.chan n).msg = none
  busy : t.fld F.mbxStatusBusy n = 0

/-- A patch of well-formed items on a version of a graph may be made (R64, R381, R388): numbers and places for a version are left, every engine keeps
its bounds, and GDDR 7 has room for the tiles. -/
structure Derives (s : State) (g : Nat) (gr : Graph) (v : Version) (items : List Item) : Prop where
  graph : s.graph g = some gr
  formed : items.all (itemFormed v.coeffs.blocks) = true
  alive : (gr.versions.filter fun x => x.state != .retired).length < 256
  top : gr.top < 2 ^ 32 - 1
  bounds : (items.foldl Coeffs.change v.coeffs).firstBad = none
  room : (s.allocKeep (segsFor (8192 * ((items.flatMap v.coeffs.tilesOf).eraseDups).length))).isSome = true

/-- The version that a patch of a version makes (R381, R387, R388). -/
structure Derived (gr : Graph) (v w : Version) (items : List Item) (raw : List Byte) : Prop where
  num : w.num = gr.top + 1
  parent : w.parent = v.num
  live : w.state = .live
  coeffs : w.coeffs = items.foldl Coeffs.change v.coeffs
  hash : w.hash = hash64 (leBytes 8 v.hash.toNat ++ raw.take (16 * items.length))

/-! ## Errors of the host and leave -/

/-- What an unpredictable result of a context leaves (R10): the bytes, lanes and cores of others, and all that is no byte, lane, core or running
operation of the context. -/
structure Erred (s t : State) (c : Nat) : Prop where
  bytes : ∀ a, s.owns c a = false → t.rd a = s.rd a
  lanes : ∀ n, n / 4 ∉ s.enginesOf c → t.lane n = s.lane n
  cores : ∀ k, k ∉ s.coresOf c → t.core k = s.core k
  regs : ∀ q j, q ≠ .shfEnergy → t.reg q j = s.reg q j
  rest : t = { s with
    free := t.free, mem := t.mem, poison := t.poison, lanes := t.lanes, regs := t.regs, cores := t.cores, stooks := t.stooks, latch := t.latch }

/-- An error of the context that a request acts for, or of none (R10, R11). -/
def Strays (s t : State) : Option Nat → Prop
  | some c => Erred s t c
  | none => t = { s with free := t.free, latch := t.latch }

/-- The state in which an operation of a launch begins that needs leave for some units (R39, R454, R455): class E leave is granted with the request,
and else the grants are there and no request is on its way. None while leave is wanting. -/
def State.begins (s : State) (c : Nat) (l : List Need) : Option State :=
  if s.bookedLeave c then some (l.foldl (fun s x => s.askLeave x.acre x.unit x.lu x.duration true) s)
  else if l.all fun x => s.hasLeave x.acre x.unit x.lu && (s.acre x.acre).asks.all (·.unit != x.unit) then
    some (l.foldl (fun s x => s.takeLeave x.acre x.unit x.lu) s)
  else none

/-- The state after the requests of an operation that have not yet been sent are sent (R454). None where all have been, or none is needed. -/
def State.sends (s : State) (c : Nat) (l : List Need) : Option State :=
  if s.bookedLeave c || l.all s.asked then none
  else some (l.foldl (fun s x => if s.asked x then s else s.askLeave x.acre x.unit x.lu x.duration false) s)

/-- The leave that a COPY needs (R39, R451). -/
def State.copyNeeds (s : State) (k : Nat) (l : Launch) (d : CopyDesc) (r : Option Running) : List Need :=
  if d.leave = 0 then [] else [⟨k / 17, s.unitOf k (9 + match r with
    | some r => r.unit % 4
    | none => 0), d.leave, (s.copyTime l d).getD 1⟩]

/-! ## Gleaner instructions -/

/-- The arithmetic instructions of two registers: constructor, result, latency (R246, R247). -/
def glean2 : List ((CoreId → GReg → GReg → GReg → Instr) × (Word → Word → Word) × Nat) :=
  [(.add, fun a b => a + b, 1), (.sub, fun a b => a - b, 1), (.and, fun a b => a &&& b, 1), (.or, fun a b => a ||| b, 1),
   (.xor, fun a b => a ^^^ b, 1), (.shl, fun a b => a <<< (b.toNat % 64), 1), (.shr, fun a b => a >>> (b.toNat % 64), 1),
   (.sar, fun a b => a.sshiftRight (b.toNat % 64), 1), (.slt, fun a b => if a.toInt < b.toInt then 1 else 0, 1),
   (.sltu, fun a b => if a.toNat < b.toNat then 1 else 0, 1), (.min, fun a b => if a.toInt < b.toInt then a else b, 1),
   (.max, fun a b => if a.toInt < b.toInt then b else a, 1), (.mul, fun a b => BitVec.ofNat 64 (a.toNat * b.toNat), 3),
   (.mulh, fun a b => BitVec.ofInt 64 (a.toInt * b.toInt / 2 ^ 64), 3), (.mulhu, fun a b => BitVec.ofNat 64 (a.toNat * b.toNat / 2 ^ 64), 3)]

/-- The divides (R247): constructor and result; a divisor of zero gives all ones, or the dividend as remainder. -/
def gleanDiv : List ((CoreId → GReg → GReg → GReg → Instr) × (Word → Word → Word)) :=
  [(.div, fun a b => if b = 0 then BitVec.allOnes 64 else BitVec.ofInt 64 (a.toInt.tdiv b.toInt)),
   (.divu, fun a b => if b = 0 then BitVec.allOnes 64 else BitVec.ofNat 64 (a.toNat / b.toNat)),
   (.rem, fun a b => if b = 0 then a else BitVec.ofInt 64 (a.toInt.tmod b.toInt)),
   (.remu, fun a b => if b = 0 then a else BitVec.ofNat 64 (a.toNat % b.toNat))]

/-- The arithmetic instructions of one register and an immediate (R245, R246). -/
def gleanImm : List ((CoreId → GReg → GReg → BitVec 16 → Instr) × (Word → BitVec 16 → Word)) :=
  [(.addi, fun a v => a + v.signExtend 64), (.andi, fun a v => a &&& v.setWidth 64), (.ori, fun a v => a ||| v.setWidth 64),
   (.xori, fun a v => a ^^^ v.setWidth 64), (.slti, fun a v => if a.toInt < v.toInt then 1 else 0),
   (.sltiu, fun a v => if a.toNat < (v.signExtend 64).toNat then 1 else 0), (.shli, fun a v => a <<< (v.toNat % 64)),
   (.shri, fun a v => a >>> (v.toNat % 64)), (.sari, fun a v => a.sshiftRight (v.toNat % 64))]

/-- The loads and the stores of the data memory with their widths in bytes (R246). -/
def gleanLoad : List ((CoreId → GReg → GReg → BitVec 16 → Instr) × Nat) := [(.ldb, 1), (.ldh, 2), (.ldw, 4), (.ldd, 8)]
def gleanStore : List ((CoreId → GReg → GReg → BitVec 16 → Instr) × Nat) := [(.stb, 1), (.sth, 2), (.stw, 4), (.std, 8)]

/-- The crib loads and stores with their widths (R246). -/
def cribLoad : List ((CoreId → GReg → GReg → BitVec 16 → Instr) × Nat) := [(.cldw, 4), (.cldd, 8)]
def cribStore : List ((CoreId → GReg → GReg → BitVec 16 → Instr) × Nat) := [(.cstw, 4), (.cstd, 8)]

/-- The crib atomics: constructor, width, and the new word from the old one and the operand (R206, R246). -/
def cribAtomics : List ((CoreId → GReg → GReg → GReg → Instr) × Nat × (Nat → Nat → Nat)) :=
  [(.cadd16, 2, fun old v => (old + v) % 2 ^ 16), (.cadd32, 4, fun old v => (old + v) % 2 ^ 32), (.cswapw, 4, fun _ v => v % 2 ^ 32),
   (.cswapd, 8, fun _ v => v)]

/-- The branches with their conditions (R246). -/
def gleanBranch : List ((CoreId → GReg → GReg → BitVec 16 → Instr) × (Word → Word → Bool)) :=
  [(.beq, fun a b => decide (a = b)), (.bne, fun a b => decide (a ≠ b)), (.blt, fun a b => decide (a.toInt < b.toInt)),
   (.bge, fun a b => decide (b.toInt ≤ a.toInt)), (.bltu, fun a b => decide (a.toNat < b.toNat)), (.bgeu, fun a b => decide (b.toNat ≤ a.toNat))]

/-- An instruction of a core with these operands issues in the present cycle: the core serves the launch `c` and runs, its launch moves and
does not drain, the operands and the core are ready, the divider where it is needed, and the word at the PC is a sound instruction (R241,
R244, R260). -/
structure Issues (s : State) (k : CoreId) (c : Nat) (srcs : List GReg) (divides : Bool) : Prop where
  serves : (s.core k.ix).ctx = some c
  runs : s.ready k.ix = true
  moves : s.issues c k.st.ix = true
  now : s.issueAt k.ix c srcs divides = s.logical c
  inTick : s.cyc ≤ 1023
  sound : s.poisoned (imemAt k.ix (s.pc k.ix)) 4 = false
  word : (gleanDecode k (BitVec.ofNat 32 (s.rdNat (imemAt k.ix (s.pc k.ix)) 4))).isSome = true

/-- A general register of a core takes a value and a poison bit that may be read `lat` cycles on, and every other one keeps its own; g0 keeps
reading as zero (R239, R240). -/
structure Result (s t : State) (k : CoreId) (c : Nat) (rd : GReg) (v : Word) (p : Bool) (lat : Nat) : Prop where
  value : rd ≠ 0 → t.g k.ix rd = v ∧ t.gp k.ix rd = p ∧ sget 0 (t.core k.ix).ready rd.val = s.logical c + lat
  zero : t.g k.ix 0 = 0 ∧ t.gp k.ix 0 = false
  others : ∀ r, r ≠ rd → t.g k.ix r = s.g k.ix r ∧ t.gp k.ix r = s.gp k.ix r

/-- No general register of a core has changed. -/
def SameG (s t : State) (k : CoreId) : Prop := ∀ r, t.g k.ix r = s.g k.ix r ∧ t.gp k.ix r = s.gp k.ix r

/-- The core runs on at an instruction index, and nothing but its own state and its status register has changed. -/
structure GoesOn (s t : State) (k : CoreId) (pc : Nat) : Prop where
  pc : t.pc k.ix = pc % 2 ^ 14
  state : t.fld F.stkCoreStatusState k.ix = 1
  rest : t = { s with regs := t.regs, cores := t.cores }
  regs : SameRegsBut s t .stkCoreStatus k.ix
  cores : ∀ n, n ≠ k.ix → t.core n = s.core n

/-- A core has faulted with a cause (R260): it stands in FAULT and its fault register names the cause and the instruction. -/
structure Faulted (s t : State) (k : CoreId) (cause : Nat) : Prop where
  state : t.fld F.stkCoreStatusState k.ix = 3
  valid : t.fld F.stkCoreFaultValid k.ix = 1
  cause : t.fld F.stkCoreFaultCause k.ix = cause
  fpc : t.fld F.stkCoreFaultFpc k.ix = s.pc k.ix

/-! ## Decisions -/

/-- The key of a candidate of a decision of a lane (R88, R89, R95): 0–1023 are its spins, 1024 the stay candidate, 1025 its pending
proposal. -/
def State.candKey (s : State) (e l c bq j : Nat) : Int :=
  let n := 4 * e + l
  let h := noiseHash (s.noiseKey e) (laneIdent (s.engine e).rank (s.engine e).block l)
    (match (s.engine e).ctx with | some x => s.tau x | none => 0) c
  if j < 1024 then
    let de := s.evaluate e (s.lane n).spins (s.lane n).field j
    if s.forced e l c bq j || !fits32 (s.evaluateWide e (s.lane n).spins (s.lane n).field j) then keyMax else keyOf de (s.theta e l) (noiseG h j) (s.db e)
  else if j = 1024 then keyOf (s.sfld F.shfStayStay n) (s.theta e l) (noiseG h 1024) (s.db e)
  else match (s.lane n).active with
    | some p => if s.moveForced e l c bq p then keyMax else keyOf (s.moveEval e l p) (s.theta e l) (noiseG h 1025) (s.db e)
    | none => keyMax

/-! ## What a change leaves -/

/-- A register copy that lies in the list. -/
def Among (l : List (Reg × Nat)) (q : Reg) (j : Nat) : Prop := ∃ x ∈ l, q.key j = x.1.key x.2

/-- Every register copy outside the list reads as before. -/
def RegsBut (s t : State) (l : List (Reg × Nat)) : Prop := ∀ q j, ¬ Among l q j → t.reg q j = s.reg q j

end Sys2Proof.Machine
end

