-- ==== Sys2Proof/Certificates/Slice0/Obligations.lean ====
section
/-!
DEFINITION. The statements for the provers, in the order of the command table. `Completes c s t` says that the command `c` on the state
`s` answers the next state `t`.
-/
open Sys2Proof Sys2Proof.Machine

/-- A step runs the command at the front of the queue on the state with the rest of the queue, and answers what that answers. -/
def Obligations.StepRunsFront : Prop :=
  ∀ (c : Instr) (rest : List Instr) (s : State), step { s with pending := c :: rest } = exec c { s with pending := rest }

/-- HOST_WRITE of a request in its form into the staging window, on a control port that serves: the bytes are stored there and nowhere else, no
register changes, and a WRITE_ACK with the request's TAG leaves on the same port (R346, R348). HOST_WRITE of a whole message into the slot
of a channel that holds none, once the module is READY: the slot holds it, the Badger takes it, BUSY reads 1, and the control port that
carried it is kept for the answer (R353, R354). HOST_WRITE of one register of the window: a plain one takes the bits that may be written,
and PWR_CEILING and ENT_TEST act as their own commands do; each is answered with a WRITE_ACK (R13, R346). HOST_READ of a request in its form
on a control port that serves: a READ_DATA with the bytes of the window leaves on the same port, and nothing else changes; in the staging
window these are the staged bytes (R346, R348). A request on a control port without a live session, or on a module that does not run, is
dropped (R429, R489). One that breaks its form is answered all the same: a READ with as many bytes, which nothing fixes, a WRITE with a
WRITE_ACK; no message is taken, and outside the bytes and stream words it reaches nothing changes (R10, R11; the answer is the choice of log
125). -/
def Obligations.HostAccess : Prop :=
  (∀ (port : ControlPort) (tag : BitVec 16) (a : Nat) (data : List Byte) (s : State),
    requestForm a data.length = true → 0x1000000 ≤ a → s.serves port.val = true →
    Completes (.hostWrite port tag a data) s { s.wrN (stagingAt (a - 0x1000000)) data with
      answers := s.answers ++ [{ port := port.val, tag := tag, addr := a, data := none }] } ∧
    Wrote s (s.wrN (stagingAt (a - 0x1000000)) data) (stagingAt (a - 0x1000000)) data) ∧
  (∀ (port : ControlPort) (tag : BitVec 16) (n : Channel) (data : List Byte) (s : State),
    requestForm (0x100000 + 4096 * n.val) data.length = true → data.length ≤ 256 →
    wholeMessage (0x100000 + 4096 * n.val) n.val data = true → bytesAt data 16 1 ≤ 224 →
    s.serves port.val = true → s.flag F.hubStatusReady 0 = true → (s.chan n.val).msg = none →
    ∃ t, Completes (.hostWrite port tag (0x100000 + 4096 * n.val) data) s t ∧ t.rdN (slotAt n.val 0) data.length = data ∧
      (t.chan n.val).msg = some (padTo 256 data) ∧ (t.chan n.val).port = port.val ∧ t.fld F.mbxStatusBusy n.val = 1 ∧
      t.answers = s.answers ++ [{ port := port.val, tag := tag, addr := 0x100000 + 4096 * n.val, data := none }] ∧
      t.ctxs = s.ctxs ∧ t.graphs = s.graphs ∧ t.streams = s.streams) ∧
  (∀ (port : ControlPort) (tag : BitVec 16) (v : BitVec 32) (s : State), s.serves port.val = true →
    (∀ x ∈ [(Reg.hubWatchdog, 0x20), (.pwrCfg, 0x500008), (.cfgAperture, 0x800030)], ∃ t,
      Completes (.hostWrite port tag x.2 (leBytes 4 v.toNat)) s t ∧
      t = { s with regs := t.regs, answers := s.answers ++ [{ port := port.val, tag := tag, addr := x.2, data := none }] } ∧
      t.reg x.1 0 = x.1.written (s.reg x.1 0) (v.setWidth 64) ∧ SameRegsBut s t x.1 0) ∧
    (∀ x ∈ [(Instr.pwrCeilingWrite v, 0x500000), (.entTestWrite v, 0x600028)], ∃ t, Completes x.1 s t ∧
      Completes (.hostWrite port tag x.2 (leBytes 4 v.toNat)) s
        { t with answers := t.answers ++ [{ port := port.val, tag := tag, addr := x.2, data := none }] })) ∧
  (∀ (port : ControlPort) (tag : BitVec 16) (a len : Nat) (s : State), requestForm a len = true → s.serves port.val = true →
    Completes (.hostRead port tag a len) s { s with
      answers := s.answers ++ [{ port := port.val, tag := tag, addr := a, data := some (s.windowBytes a len) }] } ∧
    (0x1000000 ≤ a → s.windowBytes a len = s.rdN (stagingAt (a - 0x1000000)) len)) ∧
  (∀ (port : ControlPort) (tag : BitVec 16) (a len : Nat) (data : List Byte) (s : State),
    (s.serves port.val = false → Completes (.hostRead port tag a len) s s ∧ Completes (.hostWrite port tag a data) s s) ∧
    (s.serves port.val = true → requestForm a len = false → ∃ t d, Completes (.hostRead port tag a len) s t ∧ d.length = len ∧
      t = { s with free := t.free, answers := s.answers ++ [{ port := port.val, tag := tag, addr := a, data := some d }] }) ∧
    (s.serves port.val = true → writeForm a data = false → ∃ t, Completes (.hostWrite port tag a data) s t ∧
      t = { s with
        regs := t.regs, mem := t.mem, free := t.free,
        answers := s.answers ++ [{ port := port.val, tag := tag, addr := a, data := none }] } ∧
      RegsBut s t (streamWords a data.length)))

/-- CHANNEL_RESET sets LAST to 0xFFFF_FFFF, empties the history and clears DROPPED; with a message in progress it waits for the end of that
message (R370). -/
def Obligations.ChannelReset : Prop :=
  ∀ (n : Channel) (s : State), ∃ t, Completes (.channelReset n) s t ∧ SameMemory s t ∧ t.ctxs = s.ctxs ∧
    ((s.chan n.val).msg = none → t.fld F.mbxStatusLast n.val = 0xFFFFFFFF ∧ t.fld F.mbxStatusDropped n.val = 0 ∧
      (t.chan n.val).history = [] ∧ t.fld F.mbxStatusBusy n.val = s.fld F.mbxStatusBusy n.val ∧ SameRegsBut s t .mbxStatus n.val) ∧
    ((s.chan n.val).msg ≠ none → (t.chan n.val).resetAsked = true ∧ (t.chan n.val).history = (s.chan n.val).history ∧ t.regs = s.regs)

/-- The counters that a write of a clear bit sets to zero: CLR_SLACK and CLR_ERR of a port, CLR_AVAIL, CLR_RESET_LIMIT. Nothing but the register
named changes (R318, R441). CLR_LOG empties the fault log and sets OVERWRITTEN to zero; NEXT_SEQ keeps its value, and no byte outside the
log changes (R441). CLR_ALL clears CUR, MIN, MAX, SAMPLES and the histogram of every point, and no other register (R467). MON_SEL_WRITE sets
the writable fields; a write that changes neither SOURCE nor INDEX touches nothing else, and one that changes either also clears the point
(R464, R467). -/
def Obligations.ClearBits : Prop :=
  (∀ (p : Port) (s : State),
    (∃ t, Completes (.clrSlack p) s t ∧ OnlyReg s t .lnkSlack p.val 0) ∧
    (∃ t, Completes (.clrErr p) s t ∧ OnlyReg s t .lnkErr p.val 0) ∧
    (∃ t, Completes .clrAvail s t ∧ OnlyReg s t .fltAvail 0 0) ∧
    (∃ t, Completes .clrResetLimit s t ∧ OnlyRegs s t ∧ t.fld F.fltStatusResetLimit 0 = 0 ∧ t.fld F.fltHangResetsWindow 0 = 0 ∧
      t.fld F.fltHangResets 0 = s.fld F.fltHangResets 0 ∧ t.fld F.fltHangQuarantines 0 = s.fld F.fltHangQuarantines 0 ∧
      t.fld F.fltStatusDieLost 0 = s.fld F.fltStatusDieLost 0 ∧ RegsBut s t [(.fltStatus, 0), (.fltHang, 0)])) ∧
  (∀ s : State, ∃ t, Completes .clrLog s t ∧ (∀ k, k < 32768 → t.rd (Space.log.base + k) = 0) ∧ SameBytes s t Space.log.base 32768 ∧
    t.fld F.fltLogHeadOverwritten 0 = 0 ∧ t.fld F.fltLogHeadNextSeq 0 = s.fld F.fltLogHeadNextSeq 0 ∧ SameRegsBut s t .fltLogHead 0) ∧
  (∀ s : State, ∃ t, Completes .clrAll s t ∧ OnlyRegs s t ∧
    (∀ i, i < 512 → t.reg .monCur i = 0 ∧ t.reg .monMinmax i = 0x800000007fffffff ∧ t.reg .monCount i = 0) ∧
    (∀ j, j < 8192 → t.reg .monHist j = 0) ∧
    (∀ (q : Reg) (j : Nat), q ≠ .monCur → q ≠ .monMinmax → q ≠ .monCount → q ≠ .monHist → t.reg q j = s.reg q j)) ∧
  (∀ (i : Fin 512) (v : Word) (s : State), ∃ t, Completes (.monSelWrite i v) s t ∧ OnlyRegs s t ∧
    t.reg .monSel i.val = Reg.written .monSel (s.reg .monSel i.val) v ∧
    ((s.fld F.monSelSource i.val, s.fld F.monSelIndex i.val) = (t.fld F.monSelSource i.val, t.fld F.monSelIndex i.val) →
      SameRegsBut s t .monSel i.val) ∧
    ((s.fld F.monSelSource i.val, s.fld F.monSelIndex i.val) ≠ (t.fld F.monSelSource i.val, t.fld F.monSelIndex i.val) →
      t.reg .monCur i.val = 0 ∧ t.reg .monMinmax i.val = 0x800000007fffffff ∧ t.reg .monCount i.val = 0 ∧
      (∀ b, b < 16 → t.reg .monHist (16 * i.val + b) = 0) ∧
      ∀ (q : Reg) (j : Nat), q ∉ [Reg.monSel, .monCur, .monMinmax, .monCount, .monHist] → t.reg q j = s.reg q j))

/-- PWR_CEILING may be written at any time: a value outside 2,000 W to 5,600 W is read as the nearer bound, the next decision of the power
manager uses it, and no reservation, booking or grant changes (R463). The write changes no register but the ceiling and the buckets, which
it sets to zero. -/
def Obligations.CeilingWrite : Prop :=
  ∀ (v : BitVec 32) (s : State) (watts : Nat), watts = max 2000 (min 5600 (v.toNat % 8192)) →
    ∃ t, Completes (.pwrCeilingWrite v) s t ∧ OnlyRegs s t ∧
      t.fld F.pwrCeilingWatts 0 = watts ∧ (∀ j, j < 9 → t.fld F.pwrBucketBucket j = 0) ∧
      (∀ (q : Reg) (j : Nat), q ≠ .pwrCeiling → q ≠ .pwrBucket → t.reg q j = s.reg q j) ∧
      (∀ temps, s.cyc ≤ 991 → s.groupCtxs = [] → ∃ u, Completes (.powerManagerDecision temps) t u ∧
        u.fld F.pwrBucketBucket 8 = unsign 32 (t.bucket 8 (tickBudget watts)))

/-- LNK_CTRL_WRITE on a port that runs waits for the next frame boundary; on a port that does not run, a write of EN = 1 starts training, ports
16 and 17 read ENC_REQ as 1 whatever is written, with EN 1 as before its state stays, and clearing EN takes a port that carries no booked
frames DOWN and ends its session (R318, R319, R489). LINK_RESET takes a port that is up to TRAINING and keeps its unacknowledged frames for
resending; LINK_TRAINING_COMPLETE takes it up again with the peer it found. LANE_FAILURE puts the spare in the lane's place, or takes the
port down when there is none. FRAME_DEADLINE_MISS counts, and a group launch's is flooded as a group stall on every group port (R302, R308,
R309, R311, R408). -/
def Obligations.PortControl : Prop :=
  (∀ (p : Port) (v : BitVec 32) (s : State),
    (s.portUp p.val = true → Completes (.lnkCtrlWrite p v) s (s.setPort p.val { s.port p.val with ctrlNext := some v })) ∧
    (s.portUp p.val = false → s.flag F.lnkCtrlEn p.val = false → v.getLsbD 0 = true →
      ∃ t, Completes (.lnkCtrlWrite p v) s t ∧ OnlyRegs s t ∧ t.fld F.lnkStatusState p.val = 1 ∧ t.fld F.lnkCtrlEn p.val = 1 ∧
        t.fld F.lnkCtrlSpareEn p.val = (if v.getLsbD 3 then 1 else 0) ∧
        (16 ≤ p.val → t.shown .lnkCtrl p.val &&& 4 = 4) ∧ RegsBut s t [(.lnkCtrl, p.val), (.lnkStatus, p.val)]) ∧
    (s.portUp p.val = false → s.flag F.lnkCtrlEn p.val = true → v.getLsbD 0 = true →
      ∃ t, Completes (.lnkCtrlWrite p v) s t ∧ OnlyRegs s t ∧ RegsBut s t [(.lnkCtrl, p.val), (.lnkStatus, p.val)] ∧
        t.fld F.lnkCtrlEn p.val = 1 ∧ t.fld F.lnkStatusState p.val = s.fld F.lnkStatusState p.val) ∧
    (s.portUp p.val = false → s.flag F.lnkCtrlEn p.val = true → s.flag F.lnkCtrlSched p.val = false → v.getLsbD 0 = false →
      ∃ t, Completes (.lnkCtrlWrite p v) s t ∧ SameMemory s t ∧ t.fld F.lnkStatusState p.val = 0 ∧ t.fld F.lnkStatusLanesUp p.val = 0 ∧
        (t.port p.val).session = none ∧ t.fld F.lnkCtrlEn p.val = 0)) ∧
  (∀ (p : Port) (s : State),
    (s.portUp p.val = false → Completes (.linkReset p) s s ∧ ∀ lane, Completes (.laneFailure p lane) s s) ∧
    (s.portUp p.val = true → ∃ t, Completes (.linkReset p) s t ∧ t.fld F.lnkStatusState p.val = 1 ∧
      (t.port p.val).resend = (s.port p.val).unacked ∧ t.fld F.lnkErrLinkResets p.val = min (s.fld F.lnkErrLinkResets p.val + 1) 65535 ∧
      t.fld F.fltLogHeadNextSeq 0 = (s.fld F.fltLogHeadNextSeq 0 + 1) % 2 ^ 32 ∧ t.ctxs = s.ctxs) ∧
    (∀ lane : Fin 8, s.portUp p.val = true → lane.val < portWidth p.val →
      (s.flag F.lnkStatusSpareInUse p.val = false → s.flag F.lnkCtrlSpareEn p.val = true → ∃ t, Completes (.laneFailure p lane) s t ∧
        t.fld F.lnkStatusState p.val = 3 ∧ t.fld F.lnkStatusFailedLane p.val = lane.val ∧ t.flag F.lnkStatusSpareInUse p.val = true ∧
        (t.fld F.lnkStatusLanesUp p.val).testBit lane.val = false ∧ t.ports = s.ports ∧ t.ctxs = s.ctxs) ∧
      (s.group = none → (s.flag F.lnkStatusSpareInUse p.val = false ∧ s.flag F.lnkCtrlSpareEn p.val = false ∨
          s.flag F.lnkStatusSpareInUse p.val = true ∧ s.fld F.lnkStatusFailedLane p.val ≠ lane.val) →
        ∃ t, Completes (.laneFailure p lane) s t ∧ t.fld F.lnkStatusState p.val = 4 ∧ t.fld F.lnkStatusLanesUp p.val = 0 ∧
          (t.port p.val).session = none ∧ t.ctxs = s.ctxs)) ∧
    (∀ (delay : Nat) (peerPort : Fin 18) (peerRank : Fin 64),
      (s.fld F.lnkStatusState p.val ≠ 1 → Completes (.linkTrainingComplete p delay peerPort peerRank) s s) ∧
      (s.fld F.lnkStatusState p.val = 1 → delay ≤ 512 → ∃ t, Completes (.linkTrainingComplete p delay peerPort peerRank) s t ∧
        t.fld F.lnkStatusState p.val = (if s.flag F.lnkStatusSpareInUse p.val then 3 else 2) ∧ t.fld F.lnkStatusPeerPort p.val = peerPort.val ∧
        t.fld F.lnkStatusPeerRank p.val = peerRank.val ∧ t.fld F.lnkDelayDelay p.val = (if p.val < 16 then delay else 0) ∧
        RegsBut s t [(.lnkStatus, p.val), (.lnkDelay, p.val)] ∧ t = { s with regs := t.regs })) ∧
    (∀ (c : CtxId) (item : BitVec 240),
      ((s.launch c.val).any (·.group) = false → ∃ t, Completes (.frameDeadlineMiss p c item) s t ∧
        t.fld F.lnkSlackDeadlineMiss p.val = min (s.fld F.lnkSlackDeadlineMiss p.val + 1) 65535 ∧ OnlyRegs s t ∧ SameRegsBut s t .lnkSlack p.val) ∧
      (∀ g x, (s.launch c.val).any (·.group) = true → s.group = some g →
        x = ({ tau := signed 64 (bits item.toNat 170 64), late := bits item.toNat 169 1 == 1, cause := bits item.toNat 161 8, since := s.tick, mine := true } : Stall) →
        (∀ y ∈ g.stalls, ¬(y.tau = x.tau ∧ y.late = x.late)) → ∃ t g', Completes (.frameDeadlineMiss p c item) s t ∧ t.group = some g' ∧
          g'.stalls.Perm (g.stalls ++ [x]) ∧ t.fld F.hubGroupStatusStalled 0 = 1 ∧
          t.fld F.lnkSlackDeadlineMiss p.val = min (s.fld F.lnkSlackDeadlineMiss p.val + 1) 65535 ∧
          RegsBut s t [(.lnkSlack, p.val), (.hubGroupStatus, 0)] ∧ ∀ q ∈ g.ports, (s.sendq.filter (·.1 == q)).length < 16 →
            (t.sendq.any fun y => y.1 == q && y.2.1 == 6) = true)))

/-- REGISTER_WRITE at an address of no register is ignored (R345). On a unit page write-one-to-clear bits clear at once; the other writable bits
take the value at once, or, while the engine or the stook's launch runs, at the next tick, and those of an enabled generator at its token
boundary (R13, R108, R201, R237). SHF_CTRL shows its lanes in LANE_RUN, a fault register cleared returns its core to IDLE; no other register
changes (R111, R262). A plain register of the window takes its writable bits. -/
def Obligations.RegisterWrites : Prop :=
  ∀ (page : Page) (addr : Nat) (v : Word) (s : State),
    (regAt (pageRows page).1 (pageRows page).2 addr = none → Completes (.registerWrite page addr v) s s) ∧
    (∀ (r : Reg) (i : Nat) (w : Word) (token : Bool), page ≠ .window → regAt (pageRows page).1 (pageRows page).2 addr = some (r, i) →
      w = (if r.bytes = 8 then v else (v.setWidth 32).setWidth 64) → token = (r.ofGen && s.flag F.hrwGenCtrlEn (i / r.copies)) →
      (r.settable = 0 ∨ token = false ∧ s.writeWaits r i = false → ∃ t, Completes (.registerWrite page addr v) s t ∧ OnlyRegs s t ∧
        t.reg r i = ((s.reg r i &&& ~~~(w &&& r.w1c) &&& ~~~r.settable) ||| (w &&& r.settable)) ∧
        RegsBut s t ((r, i) :: if r = .shfCtrl then [(.shfStatus, i)] else if r = .stkCoreFault then [(.stkCoreStatus, i)] else []) ∧
        (r = .shfCtrl → t.fld F.shfStatusLaneRun i =
          if t.flag F.shfCtrlRun i && !s.flag F.shfStatusNoiseHeld i then t.fld F.shfCtrlLaneEn i else 0) ∧
        (r = .stkCoreFault → w.getLsbD 4 = true → s.fld F.stkCoreStatusState i = 3 → t.fld F.stkCoreStatusState i = 0)) ∧
      (r.settable ≠ 0 → (token || s.writeWaits r i) = true → ∃ t, Completes (.registerWrite page addr v) s t ∧
        t = { s with regs := t.regs, staged := s.staged ++ [⟨r, i, w, token⟩] } ∧
        t.reg r i = s.reg r i &&& ~~~(w &&& r.w1c) ∧ SameRegsBut s t r i)) ∧
    (∀ x ∈ [(Reg.hubWatchdog, 0x20), (.pwrCfg, 0x500008), (.cfgAperture, 0x800030)], ∃ t, Completes (.registerWrite .window x.2 v) s t ∧
      OnlyReg s t x.1 0 (x.1.written (s.reg x.1 0) ((v.setWidth 32).setWidth 64)))

/-- ENT_TEST_WRITE: in a lifecycle state other than TEST the write is ignored; in TEST it sets both bits, and while either is 1 every source
that has powered and not failed stands in TEST, with its pool and its expander erased; when both return to 0 a source in TEST starts up
afresh (R480). ENT_READ answers a failed source, or one in start-up, without random bytes; from a source that serves, it answers BYTES bytes
of the expander once they have come, or waits in order (R475, R479). A source that starts up is READY with an expander and a seed in its
pool. A window of 1,024 samples is put to both health tests: one that fails erases expander and pool and starts the source afresh, and after
three restarts it has FAILED; one that passes is the start-up test, then a seed, with the second of which the source is READY, and after
that a seed while the pool has room; a reseed uses a seed, never before cycle 128. FIELD_NOISE_KEY_COMMIT at cycle 1,008 commits a delivered
key (R469–R475, R477). -/
def Obligations.EntropyService : Prop :=
  (∀ (v : BitVec 32) (s : State),
    (s.fld F.secLifecycleState 0 ≠ 0 → Completes (.entTestWrite v) s s) ∧
    (s.fld F.secLifecycleState 0 = 0 → v.setWidth 2 ≠ 0 → ∃ t, Completes (.entTestWrite v) s t ∧ SameMemory s t ∧
      t.reg .entTest 0 = (v.setWidth 2).setWidth 64 ∧
      ∀ b, b < 2 → (s.source b).state ≠ 0 → (s.source b).state ≠ 6 →
        (t.source b).state = 7 ∧ (t.source b).pool = [] ∧ (t.source b).drbg = none) ∧
    (s.fld F.secLifecycleState 0 = 0 → v.setWidth 2 = 0 → ∃ t, Completes (.entTestWrite v) s t ∧ SameMemory s t ∧ t.reg .entTest 0 = 0 ∧
      ∀ b, b < 2 → (s.source b).state = 7 → (t.source b).state = 1)) ∧
  (∀ (n : Channel) (m : Msg) (s u : State), Due s n.val 0x15 m → u = s.executing n.val m →
    (∀ st, u.entStatus = some st → ∃ t, Completes (.entRead n) s t ∧ Answered t n.val m { status := st } ∧ t.sources = s.sources) ∧
    (∀ got, u.entStatus = none → s.entWaits = [] → got = u.blocks (ceilDiv (m.p 0 1) 16) [] → ∃ t, Completes (.entRead n) s t ∧
      t.sources = got.2.sources ∧ (got.1.2 = 0 → Answered t n.val m { status := stOk, payload := got.1.1.take (m.p 0 1) }) ∧
      (got.1.2 ≠ 0 → (t.chan n.val).waits = true ∧ t.entWaits = [(n.val, got.1.2, got.1.1)])) ∧
    (u.entStatus = none → s.entWaits ≠ [] → ∃ t, Completes (.entRead n) s t ∧ (t.chan n.val).waits = true ∧
      t.entWaits = s.entWaits ++ [(n.val, ceilDiv (m.p 0 1) 16, [])] ∧ t.sources = s.sources)) ∧
  (∀ (b : Barn) (s : State) (x : Source), x = s.source b.val → (b.val ≠ s.activeBarn ∨ s.entWaits = [] ∧ s.keyAcres = []) →
    (x.state ∉ [1, 2] → Completes (.entropyStartup b) s s) ∧
    (x.state ∈ [1, 2] → ∃ t, Completes (.entropyStartup b) s t ∧ (t.source b.val).state = 3 ∧ (t.source b.val).pool.length = 1 ∧
      (t.source b.val).drbg.isSome ∧ (t.source b.val).blocks = 0 ∧ (∀ c, c ≠ b.val → t.source c = s.source c) ∧ SameMemory s t) ∧
    (∀ rct, x.state ∉ [0, 6, 7] → ∃ t, Completes (.healthTestFailure b rct) s t ∧ (t.source b.val).drbg = none ∧
      (t.source b.val).pool = [] ∧ (∀ c, c ≠ b.val → t.source c = s.source c) ∧
      (t.source b.val).rctFails = x.rctFails + (if rct then 1 else 0) ∧
      (x.restarts = 3 → (t.source b.val).state = 6) ∧
      (x.restarts ≠ 3 → (t.source b.val).state = 1 ∧ (t.source b.val).restarts = x.restarts + 1)) ∧
    (∀ v seed, x.state ≠ 7 → seed = Config.sha384 (leBytes 128 v.toNat) → ∃ t, Completes (.seedConditioned b v) s t ∧
      (∀ c, c ≠ b.val → t.source c = s.source c) ∧ SameMemory s t ∧ t.ctxs = s.ctxs ∧
      ((runsOf x.run v).2.2 ≠ 0 ∨ 794 ≤ firstCount v → x.state ∉ [0, 6] → (t.source b.val).drbg = none ∧ (t.source b.val).pool = [] ∧
        (t.source b.val).state = (if x.restarts = 3 then 6 else 1)) ∧
      ((runsOf x.run v).2.2 = 0 → firstCount v < 794 →
        (x.state = 1 → (t.source b.val).state = 2 ∧ (t.source b.val).pool = []) ∧
        (x.state = 2 → x.pool = [] → (t.source b.val).state = 2 ∧ (t.source b.val).pool = [seed]) ∧
        (∀ e rest, x.state = 2 → x.pool = e :: rest → (t.source b.val).state = 3 ∧ (t.source b.val).pool = rest ++ [seed] ∧ (t.source b.val).drbg.isSome ∧
          (t.source b.val).blocks = 0) ∧
        (x.state ∈ [3, 4, 5] → (t.source b.val).state = x.state ∧ (t.source b.val).drbg = x.drbg ∧
          (t.source b.val).pool = x.pool ++ (if x.pool.length < 2 then [seed] else [])))) ∧
    (x.drbg = none ∨ x.pool = [] ∨ x.state ∉ [3, 4, 5] ∨ x.blocks < s.reseedAt → Completes (.reseed b) s s) ∧
    (∀ d e rest, x.drbg = some d → x.pool = e :: rest → x.state ∈ [3, 4, 5] →
      s.reseedAt ≤ x.blocks → ∃ t, Completes (.reseed b) s t ∧ t.cyc = max s.cyc 128 ∧ (t.source b.val).state = 3 ∧
        (t.source b.val).pool = rest ∧ (t.source b.val).drbg = some (Config.drbgReseed d e) ∧ (t.source b.val).blocks = 0 ∧
        (t.source b.val).reseeds = x.reseeds + 1) ∧
    (∀ (a : AcreId), s.cyc ≤ 1023 → ((s.acre a.ix).keyWire = none → Completes (.fieldNoiseKeyCommit a) s (s.upTo 1008)) ∧
      ∀ k : BitVec 128, (s.acre a.ix).keyWire = some k → ∃ t, Completes (.fieldNoiseKeyCommit a) s t ∧
        t.cyc = max s.cyc 1008 ∧ (t.acre a.ix).keyNext = some k ∧ (t.acre a.ix).keyWire = none ∧ (t.acre a.ix).key = (s.acre a.ix).key ∧
        t.regs = s.regs ∧ SameMemory s t))

/-- A message whose SEQ the history holds is not executed again: the stored response comes once more with status ANSWERED_AGAIN and the first
status in ORIG_STATUS. One whose SEQ it does not hold is answered with LATE. Neither changes a context, a graph or a stream, nor LAST (R355,
R356). A message of another opcode, or one that waits for its end, is no work of a command of an opcode: nothing changes (log 12). -/
def Obligations.MessageRepeats : Prop :=
  (∀ x ∈ mailbox, ∀ (n : Channel) (b : List Byte) (s : State),
    s.group = none → (s.chan n.val).msg = some b → (s.chan n.val).waits = false → (s.chan n.val).resetAsked = false →
    (parseMsg b).opcode = x.2 →
    (∀ slot, s.seqCheck n.val (parseMsg b).seq = .again slot → 3 ≤ slot.length → ∃ t, Completes (x.1 n) s t ∧
      t.rdN (slotAt n.val 256) slot.length = slot.take 2 ++ [1] ++ slot.drop 3 ∧ t.fld F.mbxStatusBusy n.val = 0 ∧
      (t.chan n.val).msg = none ∧ t.fld F.mbxStatusLast n.val = s.fld F.mbxStatusLast n.val ∧
      t.ctxs = s.ctxs ∧ t.graphs = s.graphs ∧ t.streams = s.streams) ∧
    (s.seqCheck n.val (parseMsg b).seq = .late → ∃ t, Completes (x.1 n) s t ∧
      t.rd (slotAt n.val 258) = 5 ∧ t.fld F.mbxStatusBusy n.val = 0 ∧ (t.chan n.val).msg = none ∧
      t.fld F.mbxStatusLast n.val = s.fld F.mbxStatusLast n.val ∧ t.ctxs = s.ctxs ∧ t.graphs = s.graphs ∧ t.streams = s.streams)) ∧
  (∀ x ∈ mailbox, ∀ (n : Channel) (b : List Byte) (s : State), s.group = none → (s.chan n.val).msg = some b →
    ((parseMsg b).opcode ≠ x.2 ∨ (s.chan n.val).waits = true) → Completes (x.1 n) s s)

/-- CTX_OPEN of a FREE slot, named or the lowest one, with a journal of 1 to 4,096 MiB that finds room: the context is OPEN with an empty
journal and no launch, the answer is OK and names it, and no other context changes (R372, R374). CTX_CLOSE of a context that is OPEN,
LOADED, PAUSED, SAVED or FAULTED: the slot is FREE with nothing in it, and no stream is bound to it any more (R376). Of a running or held
one: BUSY, with DETAIL naming it; of a FREE slot NO_SLOT; no context changes (R374). -/
def Obligations.Contexts : Prop :=
  (∀ (n : Channel) (m : Msg) (s : State) (c : Nat), Due s n.val 0x01 m → c < 10240 → (s.ctx c).state = .free →
    (m.ctx = c ∨ m.ctx = 0x3FFF ∧ ∀ k, k < c → (s.ctx k).state ≠ .free) → 1 ≤ m.p 0 4 → m.p 0 4 ≤ 4096 →
    ((s.executing n.val m).allocKeep (segsFor (m.p 0 4 * 2 ^ 20))).isSome →
    ∃ t, Completes (.ctxOpen n) s t ∧ Answered t n.val m { status := stOk, payload := leBytes 4 c } ∧
      (t.ctx c).state = .opened ∧ (t.ctx c).journal = [] ∧ (t.ctx c).journalMiB = m.p 0 4 ∧ (t.ctx c).launch = none ∧
      (∀ k, k ≠ c → t.ctx k = s.ctx k) ∧ t.graphs = s.graphs ∧ t.streams = s.streams) ∧
  (∀ (n : Channel) (m : Msg) (s : State), Due s n.val 0x02 m →
    ((s.ctx m.ctx).state ∉ [CtxState.free, .running, .held] → ∃ t, Completes (.ctxClose n) s t ∧ Answered t n.val m { status := stOk } ∧
      t.ctx m.ctx = {} ∧ ∀ x, (t.stream x).ctx ≠ some m.ctx) ∧
    ((s.ctx m.ctx).state ∈ [CtxState.running, .held] → ∃ t, Completes (.ctxClose n) s t ∧
      Answered t n.val m { status := stBusy, detail := m.ctx } ∧ t.ctxs = s.ctxs) ∧
    ((s.ctx m.ctx).state = .free → ∃ t, Completes (.ctxClose n) s t ∧
      Answered t n.val m { status := stNoSlot, detail := m.ctx } ∧ t.ctxs = s.ctxs))

/-- GRAPH_CREATE takes the lowest free graph id for a graph of BLOCKS and MODULES with no version; BLOCKS of 0 or above 8,192 × MODULES, or
MODULES of 0 or above 64, returns CAPACITY and creates nothing (R380). GRAPH_LOAD into a graph without a version. With FINAL = 0 the part is
kept. With FINAL = 1 an image that is no graph image of the module's level returns LEVEL, and one that is larger than the graph, breaks the
bounds of R64 or finds no room returns CAPACITY, and makes no version; any other makes version 1, LIVE, with its coefficients and the hash
of the staged bytes, which the answer carries (R360, R380, R381). GRAPH_RETIRE of a version that has not retired answers the number of its
users; a version with no user is RETIRED at once (R382, R383). GRAPH_PATCH with LIVE = 0 on a graph whose newest version is LIVE: the graph
has a version more, with the next number, that parent and its coefficients changed by the items in order; APPLY_TICK is answered as all ones
(R381, R387, R388; the all ones are log 14's choice). With LIVE = 1 and no change of topology, on a launch that follows the graph, the
launch also takes the patch, which applies at APPLY_TICK (R389). -/
def Obligations.Graphs : Prop :=
  (∀ (n : Channel) (m : Msg) (s : State), Due s n.val 0x03 m →
    (∀ g blocks modules, blocks = m.p 0 4 % 2 ^ 20 → modules = m.p 4 4 % 2 ^ 7 →
      1 ≤ blocks → 1 ≤ modules → modules ≤ 64 → blocks ≤ 8192 * modules → g < 4096 → s.graph g = none → (∀ k, k < g → s.graph k ≠ none) →
      ∃ t, Completes (.graphCreate n) s t ∧ Answered t n.val m { status := stOk, payload := leBytes 4 g } ∧
        t.graph g = some { blocks := blocks, modules := modules, staged := [], versions := [] } ∧
        (∀ k, k ≠ g → t.graph k = s.graph k) ∧ t.ctxs = s.ctxs) ∧
    (m.p 0 4 % 2 ^ 20 = 0 ∨ m.p 4 4 % 2 ^ 7 = 0 ∨ 64 < m.p 4 4 % 2 ^ 7 ∨ 8192 * (m.p 4 4 % 2 ^ 7) < m.p 0 4 % 2 ^ 20 →
      ∃ t, Completes (.graphCreate n) s t ∧ Answered t n.val m { status := stCapacity } ∧ t.graphs = s.graphs)) ∧
  (∀ (n : Channel) (m : Msg) (s : State) (gr : Graph) (image : List Byte), Due s n.val 0x04 m → s.graph m.graph = some gr →
    gr.versions = [] → image = putPart gr.staged (m.p 0 8) (s.stagedOf m) →
    (m.p 8 4 % 2 = 0 → ∃ t, Completes (.graphLoad n) s t ∧ Answered t n.val m { status := stOk } ∧
      t.graph m.graph = some { gr with staged := image } ∧ (∀ k, k ≠ m.graph → t.graph k = s.graph k) ∧ t.ctxs = s.ctxs) ∧
    (m.p 8 4 % 2 = 1 → ∃ t r g, Completes (.graphLoad n) s t ∧ Answered t n.val m r ∧ t.graph m.graph = some g ∧ g.blocks = gr.blocks ∧
      g.staged = [] ∧ (∀ k, k ≠ m.graph → t.graph k = s.graph k) ∧ t.ctxs = s.ctxs ∧
      match Config.readGraph image with
      | none => r.status = stLevel ∧ g.versions = []
      | some c =>
        if c.level ≠ s.fld F.hubIdentLevel 0 then r.status = stLevel ∧ g.versions = []
        else if gr.blocks < c.blocks ∨ c.firstBad ≠ none ∨ ((s.executing n.val m).allocKeep (segsFor c.bytes)).isNone then
          r.status = stCapacity ∧ g.versions = []
        else r = { status := stOk, payload := leBytes 8 (hash64 image).toNat ++ leBytes 4 1 } ∧
          ∃ v, g.versions = [v] ∧ v.num = 1 ∧ v.state = .live ∧ v.coeffs = c ∧ v.hash = hash64 image)) ∧
  (∀ (n : Channel) (m : Msg) (s : State) (g : Graph) (v : Version), Due s n.val 0x06 m → s.graph m.graph = some g → v ∈ g.versions →
    (∀ x ∈ g.versions, x.num = v.num → x = v) → v.num = m.p 0 4 → m.p 4 4 % 2 = 0 → v.state ≠ .retired →
    ∃ t, Completes (.graphRetire n) s t ∧ Answered t n.val m { status := stOk, payload := leBytes 4 (s.users m.graph v.num).length } ∧
      t.ctxs = s.ctxs ∧
      ∀ g', t.graph m.graph = some g' → ∀ x ∈ g'.versions, x.num = v.num →
        x.state = (if (s.users m.graph v.num).isEmpty then VerState.retired else .retiring)) ∧
  (∀ (n : Channel) (m : Msg) (s : State) (gr : Graph) (v : Version) (raw : List Byte) (items : List Item),
    Due s n.val 0x05 m → m.p 8 4 ≤ 1048576 → raw = (if m.stage then s.stagedOf m else m.payload.drop 0x10) → items = parseItems (m.p 8 4) raw →
    (m.p 0x0C 4 % 2 = 0 → gr.newest = some v → v.state = .live → Derives (s.executing n.val m) m.graph gr v items →
      ∃ t w g', Completes (.graphPatch n) s t ∧ Derived gr v w items raw ∧ t.graph m.graph = some g' ∧ w ∈ g'.versions ∧
        Answered t n.val m { status := stOk, payload := leBytes 4 w.num ++ leBytes 4 0 ++ leBytes 8 (2 ^ 64 - 1) } ∧ t.ctxs = s.ctxs) ∧
    (∀ l apply, m.p 0x0C 4 % 2 = 1 → topologyPatch (bits (m.p 0x0C 4) 1 1 == 1) items = false → s.launch m.ctx = some l → l.follow = true →
      (s.ctx m.ctx).state ∈ [CtxState.loaded, .running, .held, .paused] → apply = signed 64 (m.p 0 8) → l.patchLate apply = false →
      gr.versions.find? (fun x => x.num == l.lastVersion) = some v → crowded items = false → s.journalFitsAll m.ctx (patchRuns items) = true →
      items.all (fun i => i.kind == 1 || i.kind == 2 || i.kind == 3) = true → Derives (s.executing n.val m) l.graph gr v items →
      ∃ t w g' l' p, Completes (.graphPatch n) s t ∧ Derived gr v w items raw ∧ t.graph l.graph = some g' ∧ w ∈ g'.versions ∧
        t.launch m.ctx = some l' ∧ l' = { l with patches := l.patches ++ [p] } ∧ p.apply = apply ∧ p.version = w.num ∧ p.items = items ∧
        p.booked = false ∧ Answered t n.val m { status := stOk, payload := leBytes 4 w.num ++ leBytes 4 0 ++ leBytes 8 (unsign 64 apply) }))

/-- LAUNCH outside a group, in a context that is OPEN or FAULTED. With FINAL = 0 the part is kept. With FINAL = 1 one that a check of R384
refuses is answered so and loads nothing; one that passes them and finds a placement without evictions makes the context LOADED with that
graph and version: its launch stands at tick −P, starts at the first wall tick 16 ticks on, and the answer carries the schedule hash, T0 and
the copies (R378, R379, R384). REPLAY_START in a context that is open, on a journal that a launch holds open, is BUSY, and in a FREE slot
NO_SLOT; one that it answers with OK loads a new launch in the message's context, which takes its inputs from compared records of the
reference (R285). -/
def Obligations.Launches : Prop :=
  (∀ (n : Channel) (m : Msg) (s u : State) (a : Ask), Due s n.val 0x07 m → s.group = none → (s.ctx m.ctx).state ∈ [CtxState.opened, .faulted] →
    a = (s.executing n.val m).askOf m → u = (s.executing n.val m).setCtx m.ctx { s.ctx m.ctx with staged := [] } →
    (m.p 8 4 % 2 = 0 → ∃ t, Completes (.launch n) s t ∧ Answered t n.val m { status := stOk } ∧
      t.ctx m.ctx = { s.ctx m.ctx with staged := a.image } ∧ ∀ k, k ≠ m.ctx → t.ctx k = s.ctx k) ∧
    (m.p 8 4 % 2 = 1 → ∃ t r, Completes (.launch n) s t ∧ Answered t n.val m r ∧
      match u.launchChecks m.ctx a with
      | .error e => r = e ∧ t.ctxs = u.ctxs
      | .ok (w, v) => match (if capacityBreak w then none else u.place m.ctx w v.coeffs.blocks none) with
        | none => r = { status := stCapacity } ∧ t.ctxs = u.ctxs
        | some p => p.evict = [] → ∃ l, (t.ctx m.ctx).state = .loaded ∧ t.launch m.ctx = some l ∧ l.graph = m.graph ∧ l.version = v.num ∧
          l.tau = -w.prologue ∧ l.t0 = s.tickAfter 16 ∧ l.seed = a.seed ∧ l.copies = p.copies ∧ (t.stream l.stream).ctx = some m.ctx ∧
          r = { status := u.placedStatus w, payload := leBytes 8 (hash64 a.image).toNat ++ leBytes 8 (s.tickAfter 16) ++ leBytes 4 p.copies })) ∧
  (∀ (n : Channel) (m : Msg) (s : State) (ref : Nat), Due s n.val 0x11 m → ref = m.p 0 2 % 2 ^ 14 →
    ((s.ctx m.ctx).state = .free → ∃ t, Completes (.replayStart n) s t ∧ Answered t n.val m { status := stNoSlot, detail := m.ctx } ∧
      t.ctxs = s.ctxs) ∧
    ((s.ctx m.ctx).state ≠ .free → (s.ctx ref).state ∈ [CtxState.loaded, .running, .held] → ∃ t, Completes (.replayStart n) s t ∧
      Answered t n.val m { status := stBusy, detail := ref } ∧ t.ctxs = s.ctxs) ∧
    ((s.ctx m.ctx).state ≠ .free → (s.ctx ref).state ∉ [CtxState.loaded, .running, .held] → ∃ t r, Completes (.replayStart n) s t ∧
      Answered t n.val m r ∧ (r.status = stOk → ∃ l x, (t.ctx m.ctx).state = .loaded ∧ t.launch m.ctx = some l ∧ l.replay = some x ∧
        x.ref = ref ∧ ∀ y ∈ x.records, y.body.compared = true)))

/-- PAUSE and SAVE of a running launch outside a group ask for its drain, which begins at the next tick boundary, and the message waits for its
end; in any other state but those R374 names, they return BUSY with DETAIL naming the context (R374, R379). SAVE of a PAUSED context needs
no drain: with room in GDDR 7 the context is SAVED at once and holds the saved state of its launch and no launch; the answer carries TAU;
without room it returns CAPACITY and stays PAUSED (R277, R374, R379). RESUME with STAGE = 0 of a PAUSED context outside a group: on a stream
that is free or its own it is RUNNING, with RUN set again at the first wall tick at least 2 ticks later, at the same TAU, which the answer
carries; on another's stream it returns NOT_OWNER and stays PAUSED. With STAGE = 1 and FINAL = 0, in a context that is OPEN or FAULTED, the
part is kept (R361, R374, R379). -/
def Obligations.Pauses : Prop :=
  (∀ (n : Channel) (m : Msg) (s : State), (s.launch m.ctx).all (fun l => !l.group) = true →
    (∀ l, s.launch m.ctx = some l → ∀ x ∈ [((.pause : Channel → Instr), 0x08, DrainFor.pause), (.save, 0x09, .save)], Due s n.val x.2.1 m →
      (s.ctx m.ctx).state ∈ [CtxState.running, .held] → l.drain = none →
      ∃ t k, Completes (x.1 n) s t ∧ (t.chan n.val).waits = true ∧ (t.chan n.val).msg = (s.chan n.val).msg ∧
        t.launch m.ctx = some k ∧ k = { l with drain := some (x.2.2, some n.val, 1) } ∧ (t.ctx m.ctx).state = (s.ctx m.ctx).state) ∧
    (Due s n.val 0x08 m → (s.ctx m.ctx).state ∉ [CtxState.running, .held] → ∃ t, Completes (.pause n) s t ∧
      Answered t n.val m { status := stBusy, detail := m.ctx } ∧ t.ctxs = s.ctxs) ∧
    (Due s n.val 0x09 m → (s.ctx m.ctx).state ∉ [CtxState.running, .held, .paused] → ∃ t, Completes (.save n) s t ∧
      Answered t n.val m { status := stBusy, detail := m.ctx } ∧ t.ctxs = s.ctxs)) ∧
  (∀ (n : Channel) (m : Msg) (s u : State) (l : Launch), Due s n.val 0x09 m → s.launch m.ctx = some l → l.group = false →
    (s.ctx m.ctx).state = .paused → u = ((s.executing n.val m).wakeService m.ctx).hostMark m.ctx 0x09 m.seq →
    ((u.allocKeep (segsFor (savedBytes (u.capture m.ctx l false)))).isSome →
      ∃ t, Completes (.save n) s t ∧ (t.ctx m.ctx).state = .saved ∧ (t.ctx m.ctx).launch = none ∧
        (t.ctx m.ctx).saved = some (u.capture m.ctx l false) ∧ (u.capture m.ctx l false).tau = l.tau ∧
        Answered t n.val m { status := stOk, payload := leBytes 8 (unsign 64 l.tau) ++ leBytes 8 (savedBytes (u.capture m.ctx l false)) }) ∧
    ((u.allocKeep (segsFor (savedBytes (u.capture m.ctx l false)))).isNone → ∃ t, Completes (.save n) s t ∧ (t.ctx m.ctx).state = .paused ∧
      t.launch m.ctx = some l ∧ Answered t n.val m { status := stCapacity })) ∧
  (∀ (n : Channel) (m : Msg) (s : State), Due s n.val 0x0A m → s.groupSaved.contains m.ctx = false →
    (∀ l, m.stage = false → s.launch m.ctx = some l → l.group = false → (s.ctx m.ctx).state = .paused →
      (s.streamFree (m.p 0x0C 4 % 4096) m.ctx = true → ∃ t k, Completes (.resume n) s t ∧
        Answered t n.val m { status := s.placedStatus l.sched, payload := leBytes 8 (unsign 64 l.tau) } ∧
        (t.ctx m.ctx).state = .running ∧ t.launch m.ctx = some k ∧ k.tau = l.tau ∧ k.resumeAt = some (s.tickAfter 2) ∧
        k.stream = m.p 0x0C 4 % 4096 ∧ (t.stream (m.p 0x0C 4 % 4096)).ctx = some m.ctx) ∧
      (s.streamFree (m.p 0x0C 4 % 4096) m.ctx = false → ∃ t, Completes (.resume n) s t ∧
        Answered t n.val m { status := stNotOwner, detail := m.p 0x0C 4 % 4096 } ∧ t.ctxs = s.ctxs)) ∧
    (m.stage = true → (s.ctx m.ctx).state ∈ [CtxState.opened, .faulted] → m.p 8 4 % 2 = 0 → ∃ t, Completes (.resume n) s t ∧
      Answered t n.val m { status := stOk } ∧
      t.ctx m.ctx = { s.ctx m.ctx with staged := putPart (s.ctx m.ctx).staged (m.p 0 8) (s.stagedOf m) }))

/-- READ_BEST of a context whose launch does not run: the staging window takes the header and the spin vector of the launch best (REPLICA
0xFFFF) or of the replica named, and the answer carries its tick and energy; a staging area that cannot hold them returns CAPACITY, and a
context without a result BUSY. Of a running launch the message waits for the first tick that starts at least 2 ticks later (R155, R156,
R374, R375). CAPTURE_READ copies the capture buffer (SOURCE 0) or the object that its SOURCE names, from the offset on and as far as the
staging area goes, into the staging window, and answers the object's length; an absent one is NO_SLOT. MON_READ answers the bytes of a
register page, or with STAGE writes them into the staging window; a page that does not exist is NO_SLOT. Neither changes a context (R358,
R359, R437). -/
def Obligations.Reads : Prop :=
  (∀ (n : Channel) (m : Msg) (s : State), Due s n.val 0x0B m →
    ((s.ctx m.ctx).state ∈ [CtxState.running, .held] → ∃ t, Completes (.readBest n) s t ∧ (t.chan n.val).waits = true ∧
      (t.chan n.val).due = s.tickAfter 2 ∧ t.mem = s.mem ∧ t.ctxs = s.ctxs) ∧
    ((s.ctx m.ctx).state ∉ [CtxState.running, .held] → s.bestOf m.ctx = none → ∃ t, Completes (.readBest n) s t ∧
      Answered t n.val m { status := stBusy, detail := m.ctx } ∧ t.ctxs = s.ctxs) ∧
    (∀ v bests lost tau audits spins, (s.ctx m.ctx).state ∉ [CtxState.running, .held] →
      s.bestOf m.ctx = some (v, bests, lost, tau, audits, spins) →
      (m.stageLen < 0x40 + 128 * v.blocks → ∃ t, Completes (.readBest n) s t ∧ Answered t n.val m { status := stCapacity } ∧ t.ctxs = s.ctxs) ∧
      (0x40 + 128 * v.blocks ≤ m.stageLen → ∃ t r, Completes (.readBest n) s t ∧ t.ctxs = s.ctxs ∧
        (m.p 0 2 = 0xFFFF → r = launchBest bests lost) ∧ (m.p 0 2 ≠ 0xFFFF → m.p 0 2 < bests.length → r = m.p 0 2) ∧
        Answered t n.val m ⟨stOk, 0, leBytes 8 ((bests[r]?).getD (0, 0)).2 ++ leBytes 8 (unsign 64 ((bests[r]?).getD (0, 0)).1)⟩ ∧
        (m.stageOff + 0x40 + 128 * v.blocks ≤ 2 ^ 26 → ∀ img, img = bestImage v r ((bests[r]?).getD (0, 0)) tau false audits (spins r) →
          t.rdN (stagingAt m.stageOff) img.length = img)))) ∧
  (∀ (n : Channel) (m : Msg) (s : State),
    (Due s n.val 0x12 m →
      (∀ obj part, (m.p 0 1 = 0 ∧ s.flag F.fltStatusCaptureBusy 0 = false ∧ m.p 8 8 ≤ 2 ^ 29 ∧ obj = s.rdN Space.capture.base (2 ^ 29) ∨
          m.p 0 1 ≠ 0 ∧ s.objectOf (m.p 0 1) (m.p 4 1 % 4) m.ctx = some obj) →
        part = (obj.drop (m.p 8 8)).take m.stageLen → m.stageOff + m.stageLen ≤ 2 ^ 26 → ∃ t, Completes (.captureRead n) s t ∧
          Answered t n.val m { status := stOk, payload := leBytes 8 obj.length ++ leBytes 4 part.length } ∧
          t.rdN (stagingAt m.stageOff) part.length = part ∧ t.ctxs = s.ctxs) ∧
      (m.p 0 1 ≠ 0 → s.objectOf (m.p 0 1) (m.p 4 1 % 4) m.ctx = none → ∃ t, Completes (.captureRead n) s t ∧
        Answered t n.val m { status := stNoSlot } ∧ t.ctxs = s.ctxs)) ∧
    (Due s n.val 0x14 m →
      (∀ rows unit b, s.monPage m.ctx (m.p 0 4) = some (rows, unit) →
        b = (s.executing n.val m).pageBytes rows unit (m.p 0 4 % 2 ^ 12) (min (m.p 4 2) (if m.stage then m.stageLen else 224)) →
        ∃ t, Completes (.monRead n) s t ∧ t.ctxs = s.ctxs ∧ (m.stage = false → Answered t n.val m { status := stOk, payload := b }) ∧
          (m.stage = true → Answered t n.val m { status := stOk } ∧
            (m.stageOff + m.stageLen ≤ 2 ^ 26 → t.rdN (stagingAt m.stageOff) b.length = b))) ∧
      (s.monPage m.ctx (m.p 0 4) = none → ∃ t, Completes (.monRead n) s t ∧ Answered t n.val m { status := stNoSlot } ∧ t.ctxs = s.ctxs)))

/-- STREAM_SUBMIT that passes its checks, into a crib bank that the context owns: the stream is bound to the context, the 64 bytes of the chain
entry stand in the crib and it is handed to the chain unit 8 cycles on, it waits in its stream, an input waits for its apply tick, and the
answer carries its SEQ. Into a bank of another owner: NOT_OWNER, DENIED, and nothing is placed. One that a check refuses is answered so
(R215, R233, R268, R361, R362). FENCE_SIGNAL adds its value to the fence counter, modulo 2^64, and answers the new value; no other fence
changes (R368). FENCE_WAIT on a stream that is free or its own puts a wait point at the end of the stream; of a context that a class E
launch holds it returns LEVEL, and on another's stream NOT_OWNER (R361, R363). -/
def Obligations.Streams : Prop :=
  (∀ (n : Channel) (m : Msg) (s u : State) (a : Submit) (data : List Byte), Due s n.val 0x0C m → u = s.executing n.val m →
    a = m.submit → data = (if a.input then s.stagedOf m else []) →
    (∀ e, u.submitCheck m.ctx a data = .error e → ∃ t, Completes (.streamSubmit n) s t ∧ Answered t n.val m e ∧ t.streams = s.streams ∧
      t.stooks = s.stooks ∧ t.ctxs = s.ctxs) ∧
    (∀ k l, u.submitCheck m.ctx a data = .ok k → k < 1088 → s.launch m.ctx = some l →
      (s.ownerWord k (bankOf a.addr) = 0x4000 + m.ctx → ∃ t l', Completes (.streamSubmit n) s t ∧
        Answered t n.val m { status := stOk, payload := leBytes 4 (parseEntry a.bytes).seq } ∧ (t.stream a.stream).ctx = some m.ctx ∧
        t.rdN (cribAt k a.addr) 64 = a.bytes ∧
        (t.stook k).offered = (s.stook k).offered ++ [{ addr := a.addr, arrived := s.logical m.ctx + 8, source := none }] ∧
        (t.stream a.stream).waiting = (s.stream a.stream).waiting ++ [.chain k a.addr (parseEntry a.bytes).seq] ∧
        t.launch m.ctx = some l' ∧ l' = { l with inputs := l.inputs ++ if a.input then [{ apply := a.apply, data := data }] else [] }) ∧
      (s.ownerWord k (bankOf a.addr) ≠ 0x4000 + m.ctx → ∃ t, Completes (.streamSubmit n) s t ∧
        Answered t n.val m { status := stNotOwner, detail := a.stream } ∧ t.flag F.stkBankStatusDenied (bankIx k (bankOf a.addr)) = true ∧
        t.streams = s.streams ∧ t.stooks = s.stooks ∧ t.ctxs = s.ctxs))) ∧
  (∀ (n : Channel) (m : Msg) (s : State),
    (Due s n.val 0x0D m → ∀ f v, f = m.p 0 4 % 2 ^ 14 → v = s.reg .fncValue f + BitVec.ofNat 64 (m.p 8 8) →
      ∃ t, Completes (.fenceSignal n) s t ∧ Answered t n.val m { status := stOk, payload := leBytes 8 v.toNat } ∧ t.reg .fncValue f = v ∧
        (∀ g, g ≠ f → t.reg .fncValue g = s.reg .fncValue g) ∧ t.ctxs = s.ctxs ∧ t.streams = s.streams) ∧
    (Due s n.val 0x0E m → ∀ x, x = m.p 0 4 / 2 ^ 16 % 2 ^ 12 →
      (s.streamFree x m.ctx = true → s.classE m.ctx = false → ∃ t, Completes (.fenceWait n) s t ∧ Answered t n.val m { status := stOk } ∧
        (t.stream x).ctx = some m.ctx ∧
        (t.stream x).waiting = (s.stream x).waiting ++ [.fence (m.p 0 4 % 2 ^ 14) (BitVec.ofNat 64 (m.p 8 8))] ∧
        ∀ y, y ≠ x → t.stream y = s.stream y) ∧
      (s.streamFree x m.ctx = true → s.classE m.ctx = true → ∃ t, Completes (.fenceWait n) s t ∧
        Answered t n.val m { status := stLevel, detail := x } ∧ t.streams = s.streams) ∧
      (s.streamFree x m.ctx = false → ∃ t, Completes (.fenceWait n) s t ∧
        Answered t n.val m { status := stNotOwner, detail := x } ∧ t.streams = s.streams)))

/-- CFG_WRITE with no other one in progress: of an item or image that its checks admit, CFG_STATUS.BUSY reads 1, the write is queued and the
message waits for its end; one that a check refuses is answered at once. A second one is BUSY. None writes the store yet (R507).
RECORD_WRITE_COMPLETE ends the oldest write: the job leaves the queue, BUSY clears with the last one, and the message that asked for it is
answered OK. With no write in progress nothing changes (R506, R507). -/
def Obligations.Store : Prop :=
  (∀ (n : Channel) (m : Msg) (s : State), Due s n.val 0x13 m →
    (s.jobs.any (·.chan.isSome) = true → ∃ t, Completes (.cfgWrite n) s t ∧ Answered t n.val m { status := stBusy } ∧ t.jobs = s.jobs) ∧
    (s.jobs.any (·.chan.isSome) = false → ∃ t, Completes (.cfgWrite n) s t ∧ t.ctxs = s.ctxs ∧
      (∀ k, k < 2 ^ 25 → t.rd (storeAt 0 k) = s.rd (storeAt 0 k)) ∧
      match (s.executing n.val m).cfgJob n.val m with
      | .ok j => (t.chan n.val).waits = true ∧ t.jobs = s.jobs ++ [j] ∧ j.chan = some n.val ∧ t.fld F.cfgStatusBusy 0 = 1
      | .error st => Answered t n.val m { status := st } ∧ t.jobs = s.jobs)) ∧
  (∀ s : State,
    (s.jobs = [] → Completes .recordWriteComplete s s) ∧
    (∀ j rest, s.jobs = j :: rest → ∃ t, Completes .recordWriteComplete s t ∧ t.jobs = rest ∧
      t.fld F.cfgStatusBusy 0 = (if rest.isEmpty then 0 else 1) ∧ t.ctxs = s.ctxs ∧ t.graphs = s.graphs ∧
      ∀ n, j.chan = some n → n < 128 → (s.chan n).msg.isSome → (t.chan n).msg = none ∧ t.fld F.cfgStatusLastResult 0 = 0))

/-- GROUP_JOIN on a module in no group begins a join: the module is JOINING at the rank and size that the message gives, and the message waits.
GROUP_LEAVE with no group launch returns OK and ends the membership; with one it is BUSY (R397, R410). Concord items in a join: an
announcement of a rank not yet known is recorded, and while another rank is missing nothing is compared; a READY and a CHECK are recorded at
their rank; a refusal, or a table still incomplete 2^20 ticks on, ends the join, answers GROUP_JOIN and leaves the module in no group, as
does a LEAVE (R396, R397, R405, R410). Barrier, alignment, stall, vote and reduction items of a group: an arrival is kept by its port; a
release from the parent port, ahead in group time, is taken and counted, ends a stall or names the tick of a sequence, and a late one faults
the group; an alignment item sets the own offset; a stall is recorded once; the combined vote from above is the result of its ballot, and
one that is not ready stalls the group; sums from below are kept by port and replica. A trim tick takes whole cycles off the offset, and a
stall of 2^20 ticks faults the group (R400–R403, R406–R408, R411). -/
def Obligations.Groups : Prop :=
  (∀ (n : Channel) (m : Msg) (s : State),
    (Due s n.val 0x0F m → s.group = none → 2 ≤ m.p 5 1 % 128 → ∃ t g, Completes (.groupJoin n) s t ∧ (t.chan n.val).waits = true ∧
      t.group = some g ∧ g.id = m.p 0 4 ∧ g.mask = m.p 0x18 2 ∧ g.schedHash = BitVec.ofNat 64 (m.p 0x10 8) ∧ g.chan = some n.val ∧
      t.fld F.hubGroupStatusState 0 = 1 ∧ t.fld F.hubGroupStatusRank 0 = m.p 4 1 % 64 ∧ t.fld F.hubGroupStatusMembers 0 = m.p 5 1 % 128) ∧
    (Due s n.val 0x0F m → s.group ≠ none → s.fld F.hubGroupStatusState 0 ≠ 1 → ∃ t, Completes (.groupJoin n) s t ∧
      Answered t n.val m { status := stBusy }) ∧
    (Due s n.val 0x10 m → s.groupCtxs = [] → ∃ t, Completes (.groupLeave n) s t ∧ Answered t n.val m { status := stOk } ∧ t.group = none ∧
      t.fld F.hubGroupStatusState 0 = 0) ∧
    (∀ c rest, Due s n.val 0x10 m → s.groupCtxs = c :: rest → ∃ t, Completes (.groupLeave n) s t ∧
      Answered t n.val m { status := stBusy, detail := c } ∧ t.group = s.group)) ∧
  (∀ (p : Port) (body : BitVec 240) (s : State) (g : Group) (m : Member) (r : Nat), s.group = some g → m = memberOf body.toNat →
    r = bits body.toNat 74 6 →
    ((∀ x ∈ g.table, x.rank ≠ m.rank) → (∃ q, q < s.members ∧ q ≠ m.rank ∧ g.entries q = []) → ∃ t g', Completes (.concordAnnounce p body) s t ∧
      t.group = some g' ∧ g'.table = g.table ++ [m] ∧ t.regs = s.regs ∧ SameMemory s t) ∧
    ((s.rank ≠ 0 ∨ ∃ q, q < s.members ∧ q ≠ r ∧ ∀ x ∈ g.entries q, x.ready = false) → g.entries r ≠ [] → (∀ x ∈ g.entries r, x.ready = false) → ∃ t g', Completes (.concordReady p body) s t ∧ t.group = some g' ∧
      g'.table = g.table.map (fun x => if x.rank = r then { x with ready := true } else x) ∧ t.regs = s.regs ∧ SameMemory s t) ∧
    ((∃ x ∈ g.entries r, x.check = none) → (∃ q, q < s.members ∧ q ≠ r ∧ ∀ x ∈ g.entries q, x.check = none) →
      ∃ t g', Completes (.concordCheck p body) s t ∧ t.group = some g' ∧ t.regs = s.regs ∧ SameMemory s t ∧
        g'.table = g.table.map fun x => if x.rank = r then { x with check := some (bits body.toNat 112 112) } else x) ∧
    (∀ n b, s.fld F.hubGroupStatusState 0 = 1 → g.chan = some n → (s.chan n).msg = some b → ∃ t, Completes (.concordRefuse p body) s t ∧
      t.group = none ∧ t.fld F.hubGroupStatusState 0 = 0 ∧ Answered t n (parseMsg b)
        { status := if bits body.toNat 33 8 = 9 then stSkew else stConcord, detail := bits body.toNat 41 6 }) ∧
    (∃ t, Completes (.concordLeave p body) s t ∧ t.group = none ∧ t.fld F.hubGroupStatusState 0 = 0 ∧ t.reg .hubGroupOffset 0 = 0 ∧ SameMemory s t) ∧
    (s.tick < g.joinAt + 2 ^ 20 → Completes .joinTimeout s s) ∧
    (∀ q, g.joinAt + 2 ^ 20 ≤ s.tick → s.fld F.hubGroupStatusState 0 = 1 → q < s.members → g.entries q = [] → ∃ t, Completes .joinTimeout s t ∧
      t.group = none ∧ t.fld F.hubGroupStatusState 0 = 0) ∧
    (∀ q : Fin 64, s.fld F.hubGroupStatusState 0 = 2 → q.val < s.members → q.val ≠ s.rank →
      (s.tick < sget 0 g.heard q.val + 1024 → Completes (.memberLost q) s s) ∧
      (sget 0 g.heard q.val + 1024 ≤ s.tick → s.groupCtxs = [] → ∃ t, Completes (.memberLost q) s t ∧ t.fld F.hubGroupStatusState 0 = 3 ∧
        t.fld F.fltLogHeadNextSeq 0 = (s.fld F.fltLogHeadNextSeq 0 + 1) % 2 ^ 32 ∧ t.ctxs = s.ctxs))) ∧
  (∀ (p : Port) (body : BitVec 240) (s : State) (g : Group) (b : Nat), s.group = some g → b = body.toNat →
    (g.meet = none → ∃ t g', Completes (.barrierArrive p body) s t ∧ t.group = some g' ∧ g'.arrived = g.arrived.filter (·.port != p.val) ++
      [{ port := p.val, least := signed 16 (bits b 110 16), most := signed 16 (bits b 94 16), ckpt := bits b 22 64 }] ∧ t.regs = s.regs) ∧
    (s.parent g ≠ some p.val → Completes (.barrierRelease p body) s s ∧ ∀ a, Completes (.tickAlignment p body a) s s) ∧
    (s.parent g = some p.val →
      (s.groupTick < bits b 136 64 → g.meet = none ∨ g.meet = some .stall → bits b 22 64 = 2 ^ 64 - 1 → ∃ t g', Completes (.barrierRelease p body) s t ∧
        t.group = some g' ∧ g'.number = g.number + 1 ∧ g'.meet = none ∧ g'.arrived = [] ∧ t.regs = s.regs ∧
        g'.release = (if g.meet = none then none else some (bits b 136 64, bits b 126 10, bits b 86 8 % 2 == 1, 2 ^ 64 - 1)) ∧
        g'.sequence = (if g.meet = none then some (bits b 136 64) else g.sequence)) ∧
      (bits b 136 64 < s.groupTick → s.groupCtxs = [] → ∃ t, Completes (.barrierRelease p body) s t ∧ t.fld F.hubGroupStatusState 0 = 3 ∧
        t.fld F.hubGroupStatusStalled 0 = 0) ∧
      (∀ (arrival : Nat) (near : Int), s.fld F.hubGroupStatusState 0 = 2 →
        near = ((arrival : Int) - bits b 163 13 - 8 * s.fld F.lnkDelayDelay p.val + 4096) % 8192 - 4096 →
        ∃ t, Completes (.tickAlignment p body arrival) s t ∧ SameRegsBut s t .hubGroupSkew 0 ∧ SameMemory s t ∧
          t.fld F.hubGroupSkewOwn 0 = unsign 16 (near + signed 16 (bits b 141 16))) ∧
      (∀ x, x = ({ switch := bits b 236 4 == 2, tau := signed 64 (bits b 166 64) } : Ballot) → bits b 164 1 = 1 →
        ∃ t g', Completes (.voteItem p body) s t ∧ t.group = some g' ∧
          g'.results = g.results.filter (·.1 != x) ++ [(x, bits b 165 1 == 1)] ∧
          (bits b 165 1 = 0 → ∃ y ∈ g'.stalls, y.tau = x.tau ∧ y.late = false) ∧
          (bits b 165 1 = 1 → s.cyc ≤ 512 → g'.stalls = g.stalls ∧ t.regs = s.regs))) ∧
    (∀ u q, u = ({ switch := bits b 236 4 == 2, tau := signed 64 (bits b 166 64) } : Ballot) → bits b 164 1 = 0 → q ∈ s.children g → q ≠ p.val →
      (∀ v ∈ g.votes, v.1 = q → v.2.1 ≠ u) →
      ∃ t g', Completes (.voteItem p body) s t ∧ t.group = some g' ∧ t.regs = s.regs ∧ g'.results = g.results ∧ g'.cast = g.cast ∧
        g'.votes = g.votes.filter (fun v => !(v.1 == p.val && v.2.1 == u)) ++ [(p.val, u, bits b 165 1 == 1)]) ∧
    (∀ x : Stall, x = { tau := signed 64 (bits b 170 64), late := bits b 169 1 == 1, cause := bits b 161 8, since := s.tick, mine := false } →
      (∀ y ∈ g.stalls, ¬(y.tau = x.tau ∧ y.late = x.late)) → ∃ t g', Completes (.groupStall p body) s t ∧ t.group = some g' ∧
        g'.stalls.Perm (g.stalls ++ [x]) ∧ t.fld F.hubGroupStatusStalled 0 = 1 ∧ SameRegsBut s t .hubGroupStatus 0) ∧
    ((∀ x ∈ g.stalls, s.tick < x.since + 2 ^ 20) → Completes .groupStallTimeout s s) ∧
    ((∃ x ∈ g.stalls, x.since + 2 ^ 20 ≤ s.tick) → s.groupCtxs = [] → ∃ t g', Completes .groupStallTimeout s t ∧ t.group = some g' ∧
      g'.stalls = [] ∧ t.fld F.hubGroupStatusState 0 = 3 ∧ t.fld F.hubGroupStatusStalled 0 = 0) ∧
    (g.trimAt ≠ some s.groupTick → Completes .trimTick s s) ∧
    (g.trimAt = some s.groupTick → ∃ t g', Completes .trimTick s t ∧ t.group = some g' ∧ g'.trimAt = none ∧ SameRegsBut s t .hubGroupSkew 0 ∧
      t.fld F.hubGroupSkewOwn 0 = unsign 16 (s.ownOffset - 8 * clampInt (-63) 63 (divAway s.ownOffset 8))) ∧
    (s.reducing = none → Completes (.reductionItem p body) s s) ∧
    (∀ c l q k got, s.reducing = some (c, l) → bits b 223 1 = 0 → q ∈ s.children g → q ≠ p.val → k < l.replicas →
      g.sums.find? (fun x => x.1 == q && x.2.1 == k) = none →
      got = (List.range (bits b 230 2 + 1)).map (fun i => (bits b 232 8 + i, signed 48 (bits b (48 * i) 48))) →
      ∃ t g', Completes (.reductionItem p body) s t ∧ t.group = some g' ∧ t.regs = s.regs ∧ t.ctxs = s.ctxs ∧
        g'.sums = g.sums.filter (fun x => !(x.1 == p.val && got.any fun y => y.1 == x.2.1)) ++ got.map fun y => (p.val, y.1, y.2)))

/-- POWER_UP of a module whose management plane does not run, with TEST_EN_N high and a reference: the module keeps only its configuration
store, both entropy sources begin their start-up test, and the barn dies boot; without a reference it waits at step 2. A module that runs
ignores it (R471, R495, R515). REFERENCE_VALID lets a start-up that waits at step 2 go on, and else only shows that the reference is there;
REFERENCE_LOSS sets REF_LOST and shows that it is gone (R446, R515). A trip of the rails takes the module down: every register back to its
reset value, every context and graph gone, and of the memories only the configuration store keeps its bytes (R512). MODULE_RESET with the
unlock value is the start-up of a running module from a cold state; with any other value, or on a module that does not run, nothing changes
(R500, R509). -/
def Obligations.StartsUp : Prop :=
  (∀ (f : StartUp) (s : State),
    (s.managed = true → Completes (.powerUp f) s s) ∧
    (s.managed = false → ∃ t, Completes (.powerUp f) s t ∧ t.fld F.cfgStartPhase 0 ≠ 0 ∧ t.ctxs = [] ∧ t.graphs = [] ∧ t.pending = s.pending ∧
      (s.testEnN = true → f.refValid = false → t.startWaits = some f ∧ t.powered = false ∧ t.fld F.cfgStartPhase 0 = 2 ∧
        ∀ b, b < 2 → (t.source b).state = 1))) ∧
  (∀ s : State,
    (s.startWaits = none → Completes .referenceValid s { s with refValid := true }) ∧
    (∀ f, s.startWaits = some f → ∃ t, Completes .referenceValid s t ∧ t.startWaits = none ∧ t.refValid = true ∧ 3 ≤ t.fld F.cfgStartPhase 0) ∧
    (∃ t, Completes .referenceLoss s t ∧ t = { s with regs := t.regs, refValid := false } ∧ t.fld F.pwrStatusRefLost 0 = 1 ∧
      SameRegsBut s t .pwrStatus 0)) ∧
  (∀ s : State, ∃ t, Completes .underVoltageTrip s t ∧ Completes .overVoltageTrip s t ∧
    t.regs = [] ∧ t.ctxs = [] ∧ t.graphs = [] ∧ t.streams = [] ∧ t.chans = [] ∧ t.powered = false ∧ t.jobs = [] ∧ t.pending = s.pending ∧
    (∀ a, a < storeAt 0 0 ∨ storeAt 0 0 + 2 ^ 25 ≤ a → t.rd a = 0) ∧
    (s.jobs = [] → ∀ k, k < 2 ^ 25 → t.rd (storeAt 0 k) = s.rd (storeAt 0 k))) ∧
  (∀ (unlock : BitVec 16) (f : StartUp) (s : State),
    (unlock ≠ 0xA5C3 ∨ s.managed = false → Completes (.moduleReset unlock f) s s) ∧
    (unlock = 0xA5C3 → s.managed = true → ∃ t, Completes (.moduleReset unlock f) s t ∧ t.ctxs = [] ∧ t.graphs = [] ∧ t.streams = [] ∧
      t.fld F.cfgStartPhase 0 ≠ 0 ∧ t.pending = s.pending))

/-- TEST_EN_N_CHANGE: no change of the pin, no effect; a change takes effect through a module reset, after which a module with the pin low holds
at step 2 (R520). The TAPs then act: BYPASS puts one bit between TDI and TDO, IDCODE loads the die's code with bit 0 set, SAMPLE/PRELOAD and
EXTEST select the boundary cells; with the pin high none of them does anything (R519). I2C_READ of 4 or 8 bytes shows the reachable
registers and zero elsewhere (R517); a read of another length, or of part of a 64-bit register, shows as many bytes, which nothing fixes
(R10, R11), and changes nothing else; I2C_WRITE reaches CFG_CTRL and nothing else (R517). A module whose management plane does not run
answers neither. -/
def Obligations.TestAccess : Prop :=
  (∀ (f : StartUp) (tdi : Bool) (d : TapDie) (s : State),
    Completes (.testEnNChange s.testEnN f) s s ∧
    (s.testEnN = true → s.managed = true → ∃ t, Completes (.testEnNChange false f) s t ∧ t.testEnN = false ∧ t.fld F.cfgStartPhase 0 = 2 ∧
      t.powered = false) ∧
    (s.testEnN = true → Completes (.bypass tdi d) s s ∧ Completes (.idcode d) s s ∧ Completes (.samplePreload d) s s ∧
      Completes (.extest d) s s) ∧
    (s.testEnN = false → s.managed = true →
      (∃ t, Completes (.bypass tdi d) s t ∧ t = { s with taps := t.taps } ∧ (sget {} t.taps (tapIx d)).dr = (if tdi then 1 else 0) ∧
        (sget {} t.taps (tapIx d)).ir = 0) ∧
      (∃ t, Completes (.idcode d) s t ∧ t = { s with taps := t.taps } ∧ (sget {} t.taps (tapIx d)).ir = 1 ∧
        (sget {} t.taps (tapIx d)).dr % 2 = 1 ∧ (sget {} t.taps (tapIx d)).dr / 2 % 2 ^ 11 = 0x2B3) ∧
      (∃ t, Completes (.samplePreload d) s t ∧ (sget {} t.taps (tapIx d)).ir = 2 ∧ t.regs = s.regs ∧ t.mem = s.mem) ∧
      (∃ t, Completes (.extest d) s t ∧ (sget {} t.taps (tapIx d)).ir = 3 ∧
        (sget {} t.taps (tapIx d)).dr = (sget {} s.taps (tapIx d)).dr ∧ t = { s with taps := t.taps }))) ∧
  (∀ (addr : BitVec 24) (len : Nat) (v : BitVec 32) (s : State),
    (s.managed = false → Completes (.i2cRead addr len) s s ∧ Completes (.i2cWrite addr v) s s) ∧
    (s.managed = true → (len = 4 ∨ len = 8) → coversWhole sideRows 0 addr.toNat len = true →
      Completes (.i2cRead addr len) s { s with latch := (s.pageBytes sideRows 0 addr.toNat len, false) }) ∧
    (s.managed = true → ¬ ((len = 4 ∨ len = 8) ∧ coversWhole sideRows 0 addr.toNat len = true) →
      ∃ t d, Completes (.i2cRead addr len) s t ∧ d.length = len ∧ t = { s with free := t.free, latch := (d, false) }) ∧
    (addr.toNat ≠ 0x800048 → Completes (.i2cWrite addr v) s s) ∧
    (v.toNat / 2 ^ 16 ≠ 0xA5C3 ∨ v.getLsbD 0 = false → Completes (.i2cWrite 0x800048#24 v) s s) ∧
    (v.toNat / 2 ^ 16 = 0xA5C3 → v.getLsbD 0 = true → s.managed = true → ∃ t, Completes (.i2cWrite 0x800048#24 v) s t ∧ t.ctxs = [] ∧
      t.fld F.cfgStartPhase 0 ≠ 0))

/-- An arithmetic instruction of two registers that issues: rd takes its result at its latency, poisoned when an operand is, the next
instruction is at PC + 1, and no memory and no other register changes; a write to g0 is discarded (R239, R246, R247, R259). -/
def Obligations.GleanArithmetic : Prop :=
  ∀ x ∈ glean2, ∀ (k : CoreId) (rd ra rb : GReg) (c : Nat) (s : State), Issues s k c [ra, rb] false →
    ∃ t, Completes (x.1 k rd ra rb) s t ∧ GoesOn s t k (s.pc k.ix + 1) ∧
      Result s t k c rd (x.2.1 (s.g k.ix ra) (s.g k.ix rb)) (s.gp k.ix ra || s.gp k.ix rb) x.2.2

/-- A divide that issues: rd takes quotient or remainder after 34 cycles whatever the operands, and no fault is raised; a divisor of zero gives
a quotient of all ones and the dividend as remainder. The divider takes no other divide until then: a second one waits (R247). -/
def Obligations.GleanDivides : Prop :=
  ∀ x ∈ gleanDiv, ∀ (k : CoreId) (rd ra rb : GReg) (c : Nat) (s : State), Issues s k c [ra, rb] true →
    ∃ t, Completes (x.1 k rd ra rb) s t ∧ GoesOn s t k (s.pc k.ix + 1) ∧
      Result s t k c rd (x.2 (s.g k.ix ra) (s.g k.ix rb)) (s.gp k.ix ra || s.gp k.ix rb) 34 ∧
      ∀ srcs, s.logical c + 34 ≤ t.issueAt k.ix c srcs true

/-- The instructions of one register or none that issue: immediates, MOVK, which replaces one half-word of rd, POPC and CLZ, and TICK, CYC, CORE
and QTAG, which read logical time, the core's identity and the last tag (R246, R248). -/
def Obligations.GleanOneSource : Prop :=
  ∀ (k : CoreId) (rd ra : GReg) (c : Nat) (s : State),
    (Issues s k c [ra] false →
      (∀ x ∈ gleanImm, ∀ v : BitVec 16, ∃ t, Completes (x.1 k rd ra v) s t ∧ GoesOn s t k (s.pc k.ix + 1) ∧
        Result s t k c rd (x.2 (s.g k.ix ra) v) (s.gp k.ix ra) 1) ∧
      (∃ t, Completes (.popc k rd ra) s t ∧ GoesOn s t k (s.pc k.ix + 1) ∧ Result s t k c rd
        (BitVec.ofNat 64 ((List.range 64).filter fun j => (s.g k.ix ra).getLsbD j).length) (s.gp k.ix ra) 1) ∧
      (∃ t n, Completes (.clz k rd ra) s t ∧ GoesOn s t k (s.pc k.ix + 1) ∧ Result s t k c rd (BitVec.ofNat 64 n) (s.gp k.ix ra) 1 ∧
        n ≤ 64 ∧ (∀ j, 64 - n ≤ j → j < 64 → (s.g k.ix ra).getLsbD j = false) ∧ (n < 64 → (s.g k.ix ra).getLsbD (63 - n) = true))) ∧
    (Issues s k c [rd] false → ∀ (hw : Fin 4) (v : BitVec 16), ∃ t w, Completes (.movk k rd hw v) s t ∧ GoesOn s t k (s.pc k.ix + 1) ∧
      Result s t k c rd w (s.gp k.ix rd) 1 ∧ bits w.toNat (16 * hw.val) 16 = v.toNat ∧
      ∀ j : Fin 4, j ≠ hw → bits w.toNat (16 * j.val) 16 = bits (s.g k.ix rd).toNat (16 * j.val) 16) ∧
    (Issues s k c [] false →
      (∃ t, Completes (.tick k rd) s t ∧ GoesOn s t k (s.pc k.ix + 1) ∧ Result s t k c rd (BitVec.ofInt 64 (s.tau c)) false 1) ∧
      (∃ t, Completes (.cyc k rd) s t ∧ GoesOn s t k (s.pc k.ix + 1) ∧ Result s t k c rd (BitVec.ofNat 64 s.cyc) false 1) ∧
      (∃ t, Completes (.core k rd) s t ∧ GoesOn s t k (s.pc k.ix + 1) ∧ Result s t k c rd (BitVec.ofNat 64 (s.core k.ix).ident) false 1) ∧
      (∃ t, Completes (.qtag k rd) s t ∧ GoesOn s t k (s.pc k.ix + 1) ∧ Result s t k c rd ((s.core k.ix).tag.setWidth 64) false 1))

/-- A load from an aligned data memory address within the memory: rd takes the bytes, zero-extended, after 2 cycles, poisoned as the memory word
is. One out of the memory or misaligned, or with a poisoned base, faults with ALIGN or POISON, and so do the stores (R240, R246, R259,
R260). A store to an aligned data memory address within the memory writes the low bytes of rd there and nowhere else, with the poison bit of
rd, and changes no register but the PC (R246, R259). -/
def Obligations.GleanMemory : Prop :=
  (∀ x ∈ gleanLoad, ∀ (k : CoreId) (rd ra : GReg) (off : BitVec 16) (c a : Nat) (s : State), Issues s k c [ra] false →
    a = (s.g k.ix ra + off.signExtend 64).toNat →
    (s.gp k.ix ra = false → a % x.2 = 0 → a + x.2 ≤ 65536 → ∃ t, Completes (x.1 k rd ra off) s t ∧ GoesOn s t k (s.pc k.ix + 1) ∧
      Result s t k c rd (BitVec.ofNat 64 (s.rdNat (dmemAt k.ix a) x.2)) (s.poisoned (dmemAt k.ix a) x.2) 2) ∧
    (s.gp k.ix ra = false → (a % x.2 ≠ 0 ∨ 65536 < a + x.2) → ∃ t, Completes (x.1 k rd ra off) s t ∧ Faulted s t k causeAlign) ∧
    (s.gp k.ix ra = true → ∃ t, Completes (x.1 k rd ra off) s t ∧ Faulted s t k causePoison)) ∧
  (∀ x ∈ gleanStore, ∀ (k : CoreId) (rd ra : GReg) (off : BitVec 16) (c a : Nat) (s : State), Issues s k c [rd, ra] false →
    s.gp k.ix ra = false → a = (s.g k.ix ra + off.signExtend 64).toNat → a % x.2 = 0 → a + x.2 ≤ 65536 →
    ∃ t, Completes (x.1 k rd ra off) s t ∧ Wrote s t (dmemAt k.ix a) (leBytes x.2 (s.g k.ix rd).toNat) ∧
      (s.gp k.ix rd = true → t.poisoned (dmemAt k.ix a) x.2 = true) ∧ SameG s t k ∧ t.pc k.ix = (s.pc k.ix + 1) % 2 ^ 14 ∧
      t = { s with regs := t.regs, cores := t.cores, mem := t.mem, poison := t.poison } ∧ SameRegsBut s t .stkCoreStatus k.ix)

/-- Crib loads of a launch in bounded mode or at a booked cycle, from an aligned address in a bank that the launch owns and that is no link
bank: rd takes the word with its poison. A load of another's bank sets DENIED and takes zero, poisoned; one at a cycle that is not booked
sets BOOK_MISS and is dropped (R206, R215, R242). Crib stores and atomics of a launch at a booked cycle or in bounded mode: a store writes
the low bytes of rd, and an atomic replaces the word with the sum or the operand while rd takes the old one; no other byte changes, and in
another's bank none at all (R206, R215, R242). -/
def Obligations.GleanCrib : Prop :=
  (∀ x ∈ cribLoad, ∀ (k : CoreId) (rd ra : GReg) (off : BitVec 16) (c a : Nat) (s : State), Issues s k c [ra] false → s.gp k.ix ra = false →
    a = (s.g k.ix ra + off.signExtend 64).toNat → a % x.2 = 0 → a + x.2 ≤ 2 ^ 23 →
    (s.booked k.ix c (bankOf a) = true → s.bankPass k.st.ix a (asUnit c) = true → ∃ t lat, Completes (x.1 k rd ra off) s t ∧
      Result s t k c rd (BitVec.ofNat 64 (s.rdNat (cribAt k.st.ix a) x.2)) (s.poisoned (cribAt k.st.ix a) x.2) lat ∧ 4 ≤ lat ∧ lat ≤ 83 ∧
      t.pc k.ix = (s.pc k.ix + 1) % 2 ^ 14 ∧ SameMemory s t ∧ ((s.launch c).all (fun l => !l.sched.bounded) = true → lat = 4)) ∧
    (s.booked k.ix c (bankOf a) = true → s.bankPass k.st.ix a (asUnit c) = false → ∃ t lat, Completes (x.1 k rd ra off) s t ∧
      Result s t k c rd 0 true lat ∧ t.flag F.stkBankStatusDenied (bankIx k.st.ix (bankOf a)) = true ∧ SameMemory s t) ∧
    (s.booked k.ix c (bankOf a) = false → ∃ t, Completes (x.1 k rd ra off) s t ∧ Result s t k c rd 0 true 4 ∧
      t.flag F.stkCoreStatusBookMiss k.ix = true ∧ SameMemory s t)) ∧
  ((∀ x ∈ cribStore, ∀ (k : CoreId) (rd ra : GReg) (off : BitVec 16) (c a : Nat) (s : State), Issues s k c [rd, ra] false →
    s.gp k.ix ra = false → a = (s.g k.ix ra + off.signExtend 64).toNat → a % x.2 = 0 → a + x.2 ≤ 2 ^ 23 →
    s.booked k.ix c (bankOf a) = true → ∃ t, Completes (x.1 k rd ra off) s t ∧ SameG s t k ∧ t.pc k.ix = (s.pc k.ix + 1) % 2 ^ 14 ∧
      (s.bankPass k.st.ix a (asUnit c) = true → Wrote s t (cribAt k.st.ix a) (leBytes x.2 (s.g k.ix rd).toNat)) ∧
      (s.bankPass k.st.ix a (asUnit c) = false → SameMemory s t)) ∧
  (∀ x ∈ cribAtomics, ∀ (k : CoreId) (rd ra rb : GReg) (c a : Nat) (s : State), Issues s k c [ra, rb] false → s.gp k.ix ra = false →
    a = (s.g k.ix ra).toNat → a % x.2.1 = 0 → a + x.2.1 ≤ 2 ^ 23 → s.booked k.ix c (bankOf a) = true →
    s.bankPass k.st.ix a (asUnit c) = true → ∃ t lat, Completes (x.1 k rd ra rb) s t ∧
      Result s t k c rd (BitVec.ofNat 64 (s.rdNat (cribAt k.st.ix a) x.2.1)) (s.poisoned (cribAt k.st.ix a) x.2.1) lat ∧
      Wrote s t (cribAt k.st.ix a) (leBytes x.2.1 (x.2.2 (s.rdNat (cribAt k.st.ix a) x.2.1) (s.g k.ix rb).toNat))))

/-- Branches and jumps that issue: the next instruction is the target when the branch is taken, three cycles on, and else PC + 1; JAL also
writes PC + 1 to g31. A branch or a jump through a poisoned register faults with POISON (R239, R246, R259). -/
def Obligations.GleanJumps : Prop :=
  ∀ (k : CoreId) (c : Nat) (s : State),
    (∀ x ∈ gleanBranch, ∀ (ra rb : GReg) (off : BitVec 16), Issues s k c [ra, rb] false →
      (s.gp k.ix ra = false → s.gp k.ix rb = false → ∃ t, Completes (x.1 k ra rb off) s t ∧ SameG s t k ∧
        GoesOn s t k (if x.2 (s.g k.ix ra) (s.g k.ix rb) then target (s.pc k.ix) off.toInt else s.pc k.ix + 1) ∧
        (t.core k.ix).free = s.logical c + (if x.2 (s.g k.ix ra) (s.g k.ix rb) then 3 else 1)) ∧
      (s.gp k.ix ra = true ∨ s.gp k.ix rb = true → ∃ t, Completes (x.1 k ra rb off) s t ∧ Faulted s t k causePoison)) ∧
    (∀ ra, Issues s k c [ra] false → s.gp k.ix ra = false → ∃ t, Completes (.jr k ra) s t ∧ SameG s t k ∧ GoesOn s t k (s.g k.ix ra).toNat ∧
      (t.core k.ix).free = s.logical c + 3) ∧
    (∀ off : BitVec 26, Issues s k c [] false →
      (∃ t, Completes (.j k off) s t ∧ SameG s t k ∧ GoesOn s t k (target (s.pc k.ix) off.toInt)) ∧
      (∃ t, Completes (.jal k off) s t ∧ GoesOn s t k (target (s.pc k.ix) off.toInt) ∧
        Result s t k c 31 (BitVec.ofNat 64 (s.pc k.ix + 1)) false 1))

/-- An instruction whose issue cycle lies beyond the present wall tick does not issue in it: the core waits, and no general register, no memory
and no PC changes. A core of no launch, one that stands idle or in FAULT, and one whose launch is held or drains execute nothing (R241,
R244). HALT stops the core with GLEANS one higher, and its chain operation is complete with the next cycle; WAITC and WAITT wait for a cycle
or a tick of logical time, or go on when it has passed; CORE_STALL_RELEASE lets a core go on whose condition has come about (R241, R246,
R257). GLEAN_START on an idle core of a launch that moves, with a descriptor in a bank that the launch owns: the core runs from ENTRY with
g1 to g7 from the descriptor, their poison bits clear, and its other general registers as they were (R256). -/
def Obligations.GleanFlow : Prop :=
  (∀ x ∈ glean2, ∀ (k : CoreId) (rd ra rb : GReg) (s : State),
    ((s.core k.ix).ctx = none → Completes (x.1 k rd ra rb) s s) ∧
    (∀ c, (s.core k.ix).ctx = some c → (s.ready k.ix = false ∨ s.issues c k.st.ix = false) → Completes (x.1 k rd ra rb) s s) ∧
    (∀ c, (s.core k.ix).ctx = some c → s.ready k.ix = true → s.issues c k.st.ix = true →
      s.tau c * 1024 + 1024 ≤ s.issueAt k.ix c [ra, rb] false →
      Completes (x.1 k rd ra rb) s (s.setFld F.stkCoreStatusState k.ix 2))) ∧
  (∀ (k : CoreId) (c : Nat) (s : State),
    (Issues s k c [] false → ∃ t, Completes (.halt k) s t ∧ t.fld F.stkCoreStatusState k.ix = 0 ∧ (t.core k.ix).halted = true ∧
      (t.core k.ix).stream = none ∧ SameG s t k ∧ SameMemory s t ∧
      t.fld F.stkCoreStatusGleans k.ix = min (s.fld F.stkCoreStatusGleans k.ix + 1) (2 ^ F.stkCoreStatusGleans.w - 1) ∧
      ∀ x r, s.gleanEntry k = some (x, r) → (t.stook k.st.ix).running = (s.stook k.st.ix).running.map fun y =>
        if y.station = 5 ∧ (s.entry k.st.ix y.addr).payload = x.payload then { y with finishes := some (s.logical c + 1) } else y) ∧
    (∀ ra, Issues s k c [ra] false → ∃ t, Completes (.waitc k ra) s t ∧ t.fld F.stkCoreStatusState k.ix = 2 ∧
      t.pc k.ix = (s.pc k.ix + 1) % 2 ^ 14 ∧ (t.core k.ix).free % 1024 = (s.g k.ix ra).toNat % 1024 ∧
      s.logical c < (t.core k.ix).free ∧ (t.core k.ix).free ≤ s.logical c + 1024 ∧ SameG s t k) ∧
    (∀ ra, Issues s k c [ra] false → ∃ t, Completes (.waitt k ra) s t ∧ t.pc k.ix = (s.pc k.ix + 1) % 2 ^ 14 ∧
      (t.core k.ix).free = max (s.logical c + 1) ((s.g k.ix ra).toInt * 1024) ∧ SameG s t k) ∧
    ((s.core k.ix).ctx = some c → s.fld F.stkCoreStatusState k.ix = 2 → s.issues c k.st.ix = true → s.cyc ≤ 1023 →
      (s.core k.ix).wait ≠ .none → (s.core k.ix).free ≤ s.logical c → s.released k (s.core k.ix).wait = true →
      ∃ t, Completes (.coreStallRelease k) s t ∧ t.fld F.stkCoreStatusState k.ix = 1 ∧ (t.core k.ix).wait = .none ∧ SameG s t k)) ∧
  (∀ (k : CoreId) (desc : CribAddr) (c : Nat) (d : List Byte) (s : State), (s.core k.ix).ctx = some c → s.fld F.stkCoreStatusState k.ix = 0 →
    s.issues c k.st.ix = true → s.actor k.st.ix desc.toNat = some c → d = s.rdN (cribAt k.st.ix desc.toNat) 64 →
    ∃ t, Completes (.gleanStart k desc) s t ∧ t.fld F.stkCoreStatusState k.ix = 1 ∧ t.pc k.ix = bytesAt d 0 4 % 2 ^ 14 ∧
      (∀ j : Fin 7, t.g k.ix (Fin.ofNat 32 (j.val + 1)) = BitVec.ofNat 64 (bytesAt d (8 + 8 * j.val) 8) ∧
        t.gp k.ix (Fin.ofNat 32 (j.val + 1)) = false) ∧
      (∀ r : GReg, 8 ≤ r.val → t.g k.ix r = s.g k.ix r ∧ t.gp k.ix r = s.gp k.ix r) ∧ SameMemory s t)

/-- QRD of a queue with a word and QWR of a queue that takes one go on with the word moved; on an empty or a full queue the core stalls,
WAITING, with the stall bit set and no instruction issued. QCLOSE closes the filling bank, which the producer leaves for the other one, and
QPKT reads the number of packets; those of a close count from its second cycle on (R223–R225, R248). -/
def Obligations.GleanQueues : Prop :=
  ∀ (k : CoreId) (rd ra rb : GReg) (c q : Nat) (s : State), q = (s.g k.ix ra).toNat % 32 →
    (Issues s k c [ra] false → s.gp k.ix ra = false → groupOk rd = true → s.flag F.stkQueueCfgEn (queueIx k.st.ix q) = true →
      (s.queueHas k.st.ix q = true → ∃ t, Completes (.qrd k rd ra) s t ∧ t.pc k.ix = (s.pc k.ix + 1) % 2 ^ 14 ∧ SameMemory s t ∧
        t.fld (queueState (s.fld F.stkQueueStatusRdBank (queueIx k.st.ix q))) (queueIx k.st.ix q) = qDraining ∧
        ∀ j : Fin 4, t.g k.ix (groupReg rd j.val) =
          BitVec.ofNat 64 (bytesAt (s.queueGet k.st.ix q (asUnit c) (some c)).1.1 (8 * j.val) 8)) ∧
      (s.queueHas k.st.ix q = false → ∃ t, Completes (.qrd k rd ra) s t ∧ t.fld F.stkCoreStatusState k.ix = 2 ∧
        (t.core k.ix).wait = .queueRead q ∧ t.flag F.stkQueueStatusConsStall (queueIx k.st.ix q) = true ∧ t.pc k.ix = s.pc k.ix ∧
        SameG s t k ∧ SameMemory s t)) ∧
    (Issues s k c (ra :: rb :: (List.range 4).map (groupReg rd)) false → s.gp k.ix ra = false → s.gp k.ix rb = false → groupOk rd = true →
      s.flag F.stkQueueCfgEn (queueIx k.st.ix q) = true →
      (s.queueTakes k.st.ix q = true → ∃ t, Completes (.qwr k rd ra rb) s t ∧ t.pc k.ix = (s.pc k.ix + 1) % 2 ^ 14 ∧ SameG s t k) ∧
      (s.queueTakes k.st.ix q = false → ∃ t, Completes (.qwr k rd ra rb) s t ∧ t.fld F.stkCoreStatusState k.ix = 2 ∧
        (t.core k.ix).wait = .queueWrite q ∧ t.flag F.stkQueueStatusProdStall (queueIx k.st.ix q) = true ∧ t.pc k.ix = s.pc k.ix ∧
        SameG s t k ∧ SameMemory s t)) ∧
    (Issues s k c [ra] false → s.gp k.ix ra = false →
      (∃ t, Completes (.qclose k ra) s t ∧ t.pc k.ix = (s.pc k.ix + 1) % 2 ^ 14 ∧ SameG s t k ∧ SameMemory s t ∧
        (s.fld F.stkQueueStatusWrIdx (queueIx k.st.ix q) ≠ 0 → s.queueTakes k.st.ix q = true →
          t.fld (queueState (s.fld F.stkQueueStatusWrBank (queueIx k.st.ix q))) (queueIx k.st.ix q) = qReady ∧
          t.fld F.stkQueueStatusWrIdx (queueIx k.st.ix q) = 0 ∧
          t.fld F.stkQueueStatusWrBank (queueIx k.st.ix q) = 1 - s.fld F.stkQueueStatusWrBank (queueIx k.st.ix q))) ∧
      (∃ t, Completes (.qpkt k rd ra) s t ∧ GoesOn s t k (s.pc k.ix + 1) ∧
        Result s t k c rd (BitVec.ofNat 64 (s.fld F.stkQueueStatusPackets (queueIx k.st.ix q) -
          (((s.stook k.st.ix).rises.filter fun x => x.1 == q && decide (s.now < x.2.1)).map fun x => x.2.2).sum)) false 2))

/-- RRD reads a register of a page after 8 cycles and RWR writes one under the rules of the page, at once or at the next tick, on ACR_ pages
without effect; a reserved page faults with ALIGN (R249). OWN issues an owner write of the bank and words that its registers name, or stalls
while four results wait; OWNR takes the oldest result, or zero; CHAIN hands an entry to the chain unit, which has it 8 cycles later, or
stalls while the unit is full; FSIG adds one to a fence counter (R216, R250, R251, R368). -/
def Obligations.GleanReaches : Prop :=
  (∀ (k : CoreId) (rd ra rb : GReg) (c a : Nat) (s : State), a = (s.g k.ix ra).toNat % 65536 →
    (∀ rows unit, Issues s k c [ra] false → s.gp k.ix ra = false → pageOf k.st.ix (a / 4096) = some (rows, unit) →
      ∃ t, Completes (.rrd k rd ra) s t ∧ GoesOn s t k (s.pc k.ix + 1) ∧
        Result s t k c rd (((regAt rows unit (a % 4096)).map fun x => (s.setFld F.stkCoreStatusState k.ix 1).shown x.1 x.2).getD 0) false 8) ∧
    (Issues s k c [ra] false → s.gp k.ix ra = false → 11 ≤ a / 4096 → ∃ t, Completes (.rrd k rd ra) s t ∧ Faulted s t k causeAlign) ∧
    (∀ rows unit, Issues s k c [ra, rb] false → s.gp k.ix ra = false → s.gp k.ix rb = false → pageOf k.st.ix (a / 4096) = some (rows, unit) →
      (a / 4096 = 10 ∨ regAt rows unit (a % 4096) = none → ∃ t, Completes (.rwr k ra rb) s t ∧ SameG s t k ∧ GoesOn s t k (s.pc k.ix + 1)) ∧
      (∀ r i, a / 4096 ≠ 10 → regAt rows unit (a % 4096) = some (r, i) → r ≠ .stkCoreStatus → r ≠ .stkCoreFault → r.settable ≠ 0 →
        r.w1c = 0 → r.ofGen = false → s.writeWaits r i = true → ∃ t, Completes (.rwr k ra rb) s t ∧ SameG s t k ∧
          t.staged = s.staged ++ [⟨r, i, s.g k.ix rb, false⟩] ∧ t.pc k.ix = (s.pc k.ix + 1) % 2 ^ 14) ∧
      (∀ r i, a / 4096 ≠ 10 → regAt rows unit (a % 4096) = some (r, i) → r ≠ .stkCoreStatus → r ≠ .stkCoreFault →
        (r.settable = 0 ∨ r.ofGen = false ∧ s.writeWaits r i = false) → ∃ t, Completes (.rwr k ra rb) s t ∧ SameG s t k ∧
          t.reg r i = ((s.reg r i &&& ~~~(s.g k.ix rb &&& r.w1c) &&& ~~~r.settable) ||| (s.g k.ix rb &&& r.settable)) ∧
          t.pc k.ix = (s.pc k.ix + 1) % 2 ^ 14))) ∧
  (∀ (k : CoreId) (rd ra rb : GReg) (c : Nat) (s : State),
    (Issues s k c [ra, rb] false → s.gp k.ix ra = false → s.gp k.ix rb = false →
      ((s.core k.ix).results.length < 4 → ∃ t w, Completes (.own k ra rb) s t ∧ SameG s t k ∧ t.pc k.ix = (s.pc k.ix + 1) % 2 ^ 14 ∧
        (t.acre (k.st.ix / 17)).writes = (s.acre (k.st.ix / 17)).writes ++ [w] ∧ w.core = some k ∧
        w.stook = (s.g k.ix ra).toNat / 16 % 16 ∧ w.bank = (s.g k.ix ra).toNat % 16 ∧
        w.fromWord.toNat = (s.g k.ix rb).toNat / 2 ^ 16 % 2 ^ 16 ∧ w.toWord.toNat = (s.g k.ix rb).toNat % 2 ^ 16) ∧
      (4 ≤ (s.core k.ix).results.length → ∃ t, Completes (.own k ra rb) s t ∧ t.fld F.stkCoreStatusState k.ix = 2 ∧ t.acres = s.acres ∧
        t.pc k.ix = s.pc k.ix)) ∧
    (Issues s k c [] false → ∃ t, Completes (.ownr k rd) s t ∧ GoesOn s t k (s.pc k.ix + 1) ∧
      (t.core k.ix).results = (s.core k.ix).results.drop 1 ∧ Result s t k c rd (((s.core k.ix).results.headD 0).setWidth 64) false 1) ∧
    (Issues s k c [ra] false → s.gp k.ix ra = false →
      ((s.stook k.st.ix).chain.length < 32 →
        ∃ t, Completes (.chain k ra) s t ∧ SameG s t k ∧ t.pc k.ix = (s.pc k.ix + 1) % 2 ^ 14 ∧
          (t.stook k.st.ix).offered = (s.stook k.st.ix).offered ++
            [{ addr := (s.g k.ix ra).toNat % 2 ^ 23, arrived := s.logical c + 8, source := none }]) ∧
      (32 ≤ (s.stook k.st.ix).chain.length → ∃ t, Completes (.chain k ra) s t ∧ t.fld F.stkCoreStatusState k.ix = 2 ∧ t.stooks = s.stooks) ∧
      (∃ t, Completes (.fsig k ra) s t ∧ SameG s t k ∧ t.pc k.ix = (s.pc k.ix + 1) % 2 ^ 14 ∧
        t.reg .fncValue ((s.g k.ix ra).toNat % 2 ^ 14) = s.reg .fncValue ((s.g k.ix ra).toNat % 2 ^ 14) + 1 ∧
        ∀ f, f ≠ (s.g k.ix ra).toNat % 2 ^ 14 → t.reg .fncValue f = s.reg .fncValue f)))

/-- A V instruction of a class T launch puts its value into rd after 64 cycles: WALL the module tick, FRD a fence counter, TEMP the hottest
sensor of the die, LSTAT a link status word, MON a monitor point; ENT a block of the software port, or zero, with its status in rb (R246,
R252, R479). In a class E launch one without the D bit faults with VTRAP; one with it journals the result it uses, takes in a replay the one
that the journal records for it, and faults with VTRAP where there is none (R253, R254). -/
def Obligations.GleanVariable : Prop :=
  ∀ (k : CoreId) (d : Bool) (rd ra rb : GReg) (c : Nat) (l : Launch) (s : State), s.launch c = some l →
    (l.sched.classT = true →
      (Issues s k c [] false →
        (∃ t, Completes (.wall k d rd) s t ∧ Result s t k c rd (s.reg .hubTick 0) false 64 ∧ GoesOn s t k (s.pc k.ix + 1)) ∧
        (∃ t v, Completes (.temp k d rd) s t ∧ (∀ x, s.temps[k.st.die.val]? = some x → v = BitVec.ofInt 64 x ∧ GoesOn s t k (s.pc k.ix + 1)) ∧
          Result s t k c rd v false 64 ∧ t.pc k.ix = (s.pc k.ix + 1) % 2 ^ 14) ∧
        (∃ t st, Completes (.ent k d rd rb) s t ∧ t.pc k.ix = (s.pc k.ix + 1) % 2 ^ 14 ∧ (rb ≠ 0 → t.g k.ix rb = BitVec.ofNat 64 st) ∧
          (∀ r, r ≠ rd → r ≠ rb → t.g k.ix r = s.g k.ix r) ∧ (st ≠ 0 → rd ≠ rb → t.g k.ix rd = 0) ∧
          (∀ x, s.entStatus = some x → st = x ∧ t.entAsked = s.entAsked) ∧
          (s.entStatus = none → st = (if 32 ≤ s.entAsked ∨ (s.block s.activeBarn).isNone = true then 2 else 0) ∧
            t.entAsked = (if 32 ≤ s.entAsked then s.entAsked else s.entAsked + 1)))) ∧
      (Issues s k c [ra] false →
        (s.gp k.ix ra = false → ∃ t, Completes (.frd k d rd ra) s t ∧ GoesOn s t k (s.pc k.ix + 1) ∧
          Result s t k c rd (s.reg .fncValue ((s.g k.ix ra).toNat % 2 ^ 14)) false 64) ∧
        (∃ t v, Completes (.lstat k d rd ra) s t ∧ Result s t k c rd v (s.gp k.ix ra) 64 ∧ t.pc k.ix = (s.pc k.ix + 1) % 2 ^ 14 ∧
          ((s.g k.ix ra).toNat % 32 < 18 → GoesOn s t k (s.pc k.ix + 1) ∧ v = s.shown .lnkStatus ((s.g k.ix ra).toNat % 32))) ∧
        (∃ t, Completes (.mon k d rd ra) s t ∧ GoesOn s t k (s.pc k.ix + 1) ∧
          Result s t k c rd (s.shown .monCur (64 * k.st.die.val + (s.g k.ix ra).toNat % 64)) (s.gp k.ix ra) 64))) ∧
    (l.sched.classT = false → Issues s k c [] false →
      (∃ t, Completes (.wall k false rd) s t ∧ Faulted s t k causeVtrap) ∧
      (∀ b : JBody, b = .vresult (s.core k.ix).ident 0x440 (s.reg .hubTick 0) 0 → l.vres = [] → l.replay = none → l.repeats s.cyc = false →
        s.journalFits c b = true → ∃ t, Completes (.wall k true rd) s t ∧ Result s t k c rd (s.reg .hubTick 0) false 64 ∧
          (t.ctx c).journal = (s.ctx c).journal ++ [⟨b, (s.ctx c).journalNext, l.tau, s.cyc, s.tick⟩]) ∧
      (∀ (p : Replay) (x : JRec) (v : Word), l.vres = [] → l.replay = some p → p.records.find? (isResult (s.core k.ix).ident 0x440 l.tau s.cyc) = some x →
        x.body = .vresult (s.core k.ix).ident 0x440 v 0 → s.journalFits c x.body = true →
        ∃ t, Completes (.wall k true rd) s t ∧ Result s t k c rd v false 64) ∧
      (∀ p : Replay, l.vres = [] → l.replay = some p → p.records.find? (isResult (s.core k.ix).ident 0x440 l.tau s.cyc) = none →
        ∃ t, Completes (.wall k true rd) s t ∧ Faulted s t k causeVtrap))

/-- The word that the encodings of R245 and R246 give an instruction of a core, where it has one, decodes to that instruction, with every
operand at every value. -/
def Obligations.GleanRoundTrip : Prop :=
  ∀ (i : Instr) (k : CoreId) (w : BitVec 32), gleanEncode i = some (k, w) → gleanDecode k w = some i

/-- Gleaner words written out from the tables of R245 and R246 decode to their instructions, and a reserved OP to none. -/
def Obligations.GleanWords : Prop :=
  ∀ k : CoreId,
    gleanDecode k 0x00221800#32 = some (.add k 1 2 3) ∧ gleanDecode k 0x052A5800#32 = some (.mul k 9 10 11) ∧
    gleanDecode k 0x08A6FFFF#32 = some (.addi k 5 6 0xFFFF#16) ∧ gleanDecode k 0x2C901234#32 = some (.movk k 4 2 0x1234#16) ∧
    gleanDecode k 0x4CE80010#32 = some (.ldd k 7 8 16#16) ∧ gleanDecode k 0x8022FFFC#32 = some (.beq k 1 2 0xFFFC#16) ∧
    gleanDecode k 0x9C000064#32 = some (.jal k 100#26) ∧ gleanDecode k 0x7C221800#32 = some (.cswapd k 1 2 3) ∧
    gleanDecode k 0xC0853009#32 = some (.qwr k 4 5 6) ∧ gleanDecode k 0xC0400440#32 = some (.wall k true 2) ∧
    gleanDecode k 0xBC000000#32 = none

/-- A bank read that wins its bank returns the bytes and their poison to its issuer when the context owns the bank, and else zeros, poisoned,
with DENIED set; a bank write changes exactly the bytes of its mask, or none at all and sets DENIED. No other byte changes (R205, R215). A
request that the bank does not serve in this cycle changes nothing (R208, R212). One across a row is a host-made error: its answer is open,
and it touches nothing outside the context it acts for (R10, R11). The atomics on an aligned word that win their bank: where the context
owns the bank the old word and its poison go to the issuer, and the word becomes the sum modulo 2^16 or 2^32, or the operand; else the
answer is zero, poisoned, with DENIED set. Nothing else in memory changes (R206, R215). A misaligned one is a host-made error, as for a read
(R10, R11). -/
def Obligations.CribPorts : Prop :=
  (∀ (q : BankReq) (st : StookId) (addr : CribAddr) (s : State),
    (∀ len, 1 ≤ len → addr.toNat % 512 + len ≤ 512 →
      (s.served q st.ix addr.toNat = false → Completes (.cribRead q st addr len) s s) ∧
      (s.served q st.ix addr.toNat = true → s.bankPass st.ix addr.toNat q.who = true → ∃ t, Completes (.cribRead q st addr len) s t ∧
        SameMemory s t ∧ t.latch = (s.rdN (cribAt st.ix addr.toNat) len, s.poisoned (cribAt st.ix addr.toNat) len)) ∧
      (s.served q st.ix addr.toNat = true → s.bankPass st.ix addr.toNat q.who = false → ∃ t, Completes (.cribRead q st addr len) s t ∧
        SameMemory s t ∧ t.latch = (List.replicate len 0, true) ∧ t.flag F.stkBankStatusDenied (bankIx st.ix (bankOf addr.toNat)) = true)) ∧
    (∀ len, (len = 0 ∨ 512 < addr.toNat % 512 + len) → ∃ t, Completes (.cribRead q st addr len) s t ∧ t.latch.1.length = len ∧
      Strays s t (s.reqCtx q st.ix addr.toNat)) ∧
    (∀ data : List (Option Byte), 1 ≤ data.length → addr.toNat % 512 + data.length ≤ 512 →
      (s.served q st.ix addr.toNat = false → Completes (.cribWrite q st addr data) s s) ∧
      (s.served q st.ix addr.toNat = true → s.bankPass st.ix addr.toNat q.who = true → ∃ t, Completes (.cribWrite q st addr data) s t ∧
        t.regs = s.regs ∧ SameBytes s t (cribAt st.ix addr.toNat) data.length ∧
        ∀ j, (h : j < data.length) → t.rd (cribAt st.ix addr.toNat + j) = (data[j]).getD (s.rd (cribAt st.ix addr.toNat + j))) ∧
      (s.served q st.ix addr.toNat = true → s.bankPass st.ix addr.toNat q.who = false → ∃ t, Completes (.cribWrite q st addr data) s t ∧
        SameMemory s t ∧ t.flag F.stkBankStatusDenied (bankIx st.ix (bankOf addr.toNat)) = true)) ∧
    (∀ data : List (Option Byte), (data = [] ∨ 512 < addr.toNat % 512 + data.length) → ∃ t, Completes (.cribWrite q st addr data) s t ∧
      Strays s t (s.reqCtx q st.ix addr.toNat))) ∧
  (∀ (q : BankReq) (st : StookId) (addr : CribAddr) (s : State),
    (∀ x ∈ [((fun v => .add16 q st addr (BitVec.ofNat 16 v) : Nat → Instr), 2, fun old v => (old + v) % 2 ^ 16),
        (fun v => .add32 q st addr (BitVec.ofNat 32 v), 4, fun old v => (old + v) % 2 ^ 32),
        (fun v => .swap32 q st addr (BitVec.ofNat 32 v), 4, fun _ v => v), (fun v => .swap64 q st addr (BitVec.ofNat 64 v), 8, fun _ v => v)],
      ∀ v, v < 2 ^ (8 * x.2.1) →
        (addr.toNat % x.2.1 = 0 → s.served q st.ix addr.toNat = false → Completes (x.1 v) s s) ∧
        (addr.toNat % x.2.1 = 0 → s.served q st.ix addr.toNat = true → s.bankPass st.ix addr.toNat q.who = true →
          ∃ t, Completes (x.1 v) s t ∧ t.latch = (s.rdN (cribAt st.ix addr.toNat) x.2.1, s.poisoned (cribAt st.ix addr.toNat) x.2.1) ∧
            Wrote s t (cribAt st.ix addr.toNat) (leBytes x.2.1 (x.2.2 (s.rdNat (cribAt st.ix addr.toNat) x.2.1) v))) ∧
        (addr.toNat % x.2.1 = 0 → s.served q st.ix addr.toNat = true → s.bankPass st.ix addr.toNat q.who = false →
          ∃ t, Completes (x.1 v) s t ∧ SameMemory s t ∧ t.latch = (List.replicate x.2.1 0, true) ∧
            t.flag F.stkBankStatusDenied (bankIx st.ix (bankOf addr.toNat)) = true) ∧
        (addr.toNat % x.2.1 ≠ 0 → ∃ t, Completes (x.1 v) s t ∧ t.latch.1.length = x.2.1 ∧ Strays s t (s.reqCtx q st.ix addr.toNat))))

/-- OWNER_WRITE_APPLY in cycle 0 takes the writes of the frame before and leaves those issued since; a write whose FROM is the owner word of the
bank and which its core may issue sets it to TO and counts a hand-over, and another one sets NOT_OWNER; in a later cycle nothing is taken
(R216–R218). From cycle 32 on OWNER_RESULT_DELIVERY hands the results to their cores (R218, R250). -/
def Obligations.OwnerWrites : Prop :=
  ∀ (a : AcreId) (s : State),
    (s.cyc ≠ 0 → Completes (.ownerWriteApply a) s s) ∧
    (s.cyc = 0 → ∃ t, Completes (.ownerWriteApply a) s t ∧ SameMemory s t ∧ t.cores = s.cores ∧
      (t.acre a.ix).writes = (s.acre a.ix).writes.filter (fun x => decide (s.tick ≤ x.tick))) ∧
    (∀ w i, s.cyc = 0 → (s.acre a.ix).writes.filter (fun x => decide (x.tick < s.tick)) = [w] → w.slot < 17 →
      i = bankIx (s.physStook (a.ix / 8) (a.ix % 8) w.stook) w.bank → w.bank < 16 →
      (s.mayOwn w = true → s.ownerWord (i / 16) (i % 16) = w.fromWord.toNat → ∃ t, Completes (.ownerWriteApply a) s t ∧
        t.fld ⟨.stkBankOwner, 0, 16⟩ i = w.toWord.toNat ∧
        t.fld F.stkBankStatusHandovers i = min (s.fld F.stkBankStatusHandovers i + 1) (2 ^ F.stkBankStatusHandovers.w - 1) ∧
        (t.acre a.ix).results = (s.acre a.ix).results ++ [{ core := w.core, ok := true, tick := s.tick }]) ∧
      (s.mayOwn w = false ∨ s.ownerWord (i / 16) (i % 16) ≠ w.fromWord.toNat → ∃ t, Completes (.ownerWriteApply a) s t ∧
        t.flag F.stkBankStatusNotOwner i = true ∧ t.fld ⟨.stkBankOwner, 0, 16⟩ i = s.fld ⟨.stkBankOwner, 0, 16⟩ i ∧
        (t.acre a.ix).results = (s.acre a.ix).results ++ [{ core := w.core, ok := false, tick := s.tick }])) ∧
    (s.cyc ≤ 1023 → ∃ t, Completes (.ownerResultDelivery a) s t ∧ (t.acre a.ix).results = [] ∧ t.regs = s.regs ∧ SameMemory s t ∧
      ∀ k ok tick, (s.acre a.ix).results = [{ core := some k, ok := ok, tick := tick }] → (s.core k.ix).results.length < 4 →
        (t.core k.ix).results = (s.core k.ix).results ++ [BitVec.ofNat 9 (256 + if ok then 0 else 4)] ∧
        (t.core k.ix).owed = (s.core k.ix).owed - 1)

/-- QUEUE_BANK_RELEASE returns a DRAINING bank whose last word has been read to FILLING, empty, 2 cycles after that read, and else does nothing;
QUEUE_CONSUMER_RESUME and QUEUE_PRODUCER_RESUME clear the stall of a queue that can go on and wake the cores of its stook that wait for it,
and only those; a stalled QRD has its first word 2 cycles after the bank became READY (R223, R225). -/
def Obligations.QueueSteps : Prop :=
  ∀ (st : StookId) (q : Fin 32) (b : Fin 2) (i : Nat) (s : State), i = queueIx st.ix q.val →
    (s.fld (queueState b.val) i ≠ qDraining ∨ s.queueWords st.ix q.val b.val ≠ 0 → Completes (.queueBankRelease st q b) s s) ∧
    (∀ d, s.fld (queueState b.val) i = qDraining → s.queueWords st.ix q.val b.val = 0 → d = sget 0 (s.stook st.ix).drained (2 * q.val + b.val) + 2 →
      (s.tick < d / 1024 → Completes (.queueBankRelease st q b) s s) ∧
      (d / 1024 ≤ s.tick → ∃ t, Completes (.queueBankRelease st q b) s t ∧ t.fld (queueState b.val) i = qFilling ∧
        t.queueWords st.ix q.val b.val = 0 ∧ t.cyc = (if d / 1024 = s.tick then max s.cyc (d % 1024) else s.cyc) ∧
        SameMemory s t ∧ SameRegsBut s t .stkQueueStatus i)) ∧
    ((s.flag F.stkQueueStatusConsStall i && s.queueHas st.ix q.val) = false → Completes (.queueConsumerResume st q) s s) ∧
    ((s.flag F.stkQueueStatusConsStall i && s.queueHas st.ix q.val) = true →
      ∃ t, Completes (.queueConsumerResume st q) s t ∧ t.flag F.stkQueueStatusConsStall i = false ∧ SameMemory s t ∧
        ∀ n : Fin 4, ((s.core (4 * st.ix + n.val)).wait ≠ .queueRead q.val → t.core (4 * st.ix + n.val) = s.core (4 * st.ix + n.val)) ∧
          ∀ c, (s.core (4 * st.ix + n.val)).wait = .queueRead q.val → (s.core (4 * st.ix + n.val)).ctx = some c →
            (t.core (4 * st.ix + n.val)).wait = .none ∧ t.fld F.stkCoreStatusState (4 * st.ix + n.val) = 1 ∧
            (t.core (4 * st.ix + n.val)).wordAt =
              some (s.logical c + ((sget 0 (s.stook st.ix).closedAt (2 * q.val + s.fld F.stkQueueStatusRdBank i) : Nat) : Int) + 2 - s.now)) ∧
    ((s.flag F.stkQueueStatusProdStall i && s.queueTakes st.ix q.val) = false → Completes (.queueProducerResume st q) s s) ∧
    ((s.flag F.stkQueueStatusProdStall i && s.queueTakes st.ix q.val) = true →
      ∃ t, Completes (.queueProducerResume st q) s t ∧ t.flag F.stkQueueStatusProdStall i = false ∧ SameMemory s t ∧
        ∀ n : Fin 4, ((s.core (4 * st.ix + n.val)).wait ≠ .queueWrite q.val → t.core (4 * st.ix + n.val) = s.core (4 * st.ix + n.val)) ∧
          ((s.core (4 * st.ix + n.val)).wait = .queueWrite q.val → (t.core (4 * st.ix + n.val)).wait = .none ∧
            t.fld F.stkCoreStatusState (4 * st.ix + n.val) = 1))

/-- CHAIN_ENTRY_ARRIVAL takes one of the chain unit's 32 places once the entry's hand-off time has passed, PENDING follows, and a timed entry
that comes after its start cycle sets LATE; a full unit holds the hand-off, and an entry in a bank of no context is not taken (R233, R234).
CHAIN_ENTRY_START of an entry that has arrived, whose start, fence, stream and unit let it go: it runs on its unit, leaves the chain unit,
and DISPATCHED counts it; the clock moves up to a start cycle in this tick; an entry that one of them holds back stays (R234, R235).
CHAIN_ENTRY_COMPLETE of a running entry whose operation is complete signals its fence, writes its completion word, ends it and hands the
next entry off, which arrives after the hand-off time; an operation that met poison ends POISONED, without a next entry (R227, R233, R235,
R364). -/
def Obligations.Chains : Prop :=
  (∀ (st : StookId) (addr : CribAddr) (s : State),
    (s.actor st.ix addr.toNat = none → Completes (.chainEntryArrival st addr) s s) ∧
    ∀ (c : Nat) (x : Entry) (due : Option Chained) (at_ : Int), s.actor st.ix addr.toNat = some c → x = s.entry st.ix addr.toNat →
      due = (s.stook st.ix).offered.find? (·.addr == addr.toNat) → at_ = (due.map (·.arrived)).getD (s.logical c) →
      ((s.stook st.ix).chain.length < 32 → s.cyc ≤ 1023 → (at_ ≤ s.logical c ∨ at_ / 1024 = s.tau c ∧ (s.upTo (at_ % 1024).toNat).moving c = true) →
        ∃ t, Completes (.chainEntryArrival st addr) s t ∧ SameMemory s t ∧ t.logical c = max at_ (s.logical c) ∧
          (t.stook st.ix).chain = (s.stook st.ix).chain ++ [{ addr := addr.toNat, arrived := max at_ (s.logical c) }] ∧
          (t.stook st.ix).offered = (match due with
            | some y => (s.stook st.ix).offered.erase y
            | none => (s.stook st.ix).offered) ∧
          t.fld F.stkChainStatusPending st.ix = (s.stook st.ix).chain.length + 1 ∧ SameRegsBut s t .stkChainStatus st.ix ∧
          (x.timed = true → x.tau * 1024 + x.cycle < max at_ (s.logical c) → t.flag F.stkChainStatusLate st.ix = true)) ∧
      ((s.stook st.ix).chain.length < 32 → s.logical c < at_ → ¬ (at_ / 1024 = s.tau c ∧ (s.upTo (at_ % 1024).toNat).moving c = true) →
        Completes (.chainEntryArrival st addr) s s) ∧
      (32 ≤ (s.stook st.ix).chain.length → ∃ t, Completes (.chainEntryArrival st addr) s t ∧ (t.stook st.ix).chain = (s.stook st.ix).chain ∧
        (due.isSome → t = s) ∧
        (due = none → (t.stook st.ix).offered = (s.stook st.ix).offered ++ [{ addr := addr.toNat, arrived := s.logical c, source := none }]))) ∧
  (∀ (st : StookId) (addr : CribAddr) (c : Nat) (x : Entry) (s : State), s.actor st.ix addr.toNat = some c → x = s.entry st.ix addr.toNat →
    (∀ u, (s.stook st.ix).chain.any (·.addr == addr.toNat) = true → u = (if x.timed && x.tau == s.tau c then s.upTo x.cycle else s) →
      ((u.movingOn c st.ix = true ∧ (x.timed = true → x.tau * 1024 + x.cycle ≤ u.logical c) ∧ (x.waits = true → s.fenceAt x.waitFence x.waitValue = true) ∧
        ¬ ((s.stream x.stream).ctx = some c ∧ s.streamEnded x.stream = true) ∧ s.unitFree st.ix x = true ∧
        s.fenced st.ix addr.toNat x.stream = false) →
        ∃ t r, Completes (.chainEntryStart st addr) s t ∧ (t.stook st.ix).running = (s.stook st.ix).running ++ [r] ∧ r.addr = addr.toNat ∧
          r.station = x.station ∧ r.unit = x.unit ∧ r.poisoned = false ∧ r.began = u.logical c ∧ t.cyc = u.cyc ∧
          (t.stook st.ix).chain = (s.stook st.ix).chain.filter (·.addr != addr.toNat) ∧ SameMemory s t ∧
          t.fld F.stkChainStatusDispatched st.ix = min (s.fld F.stkChainStatusDispatched st.ix + 1) (2 ^ F.stkChainStatusDispatched.w - 1)) ∧
      ((u.movingOn c st.ix = false ∨ (x.timed = true ∧ u.logical c < x.tau * 1024 + x.cycle) ∨
        (x.waits = true ∧ s.fenceAt x.waitFence x.waitValue = false) ∨ s.unitFree st.ix x = false ∨ s.fenced st.ix addr.toNat x.stream = true) →
        Completes (.chainEntryStart st addr) s s)) ∧
    (∀ r, (s.stook st.ix).running.find? (·.addr == addr.toNat) = some r →
      (r.finishes = none → r.station ∈ [0, 2, 5] → Completes (.chainEntryComplete st addr) s s) ∧
      (∀ f, r.finishes = some f → s.logical c < f → ¬ (f / 1024 = s.tau c ∧ (s.upTo (f % 1024).toNat).moving c = true) →
        Completes (.chainEntryComplete st addr) s s) ∧
      (r.finishes.all (· ≤ s.logical c) = true → (r.finishes = none → r.station ∉ [0, 2, 5]) →
        ∃ t, Completes (.chainEntryComplete st addr) s t ∧ (t.stream x.stream).seq = x.seq ∧ SameMemory s t ∧
          (t.stook st.ix).running = (s.stook st.ix).running.filter (·.addr != addr.toNat) ∧
          (x.signal = true → t.reg .fncValue x.signalFence = s.reg .fncValue x.signalFence + 1) ∧
          ((x.done = true ∨ r.poisoned = true) → s.fld F.doneWordStatus x.stream = 0 → serialAbove x.seq (s.fld F.doneWordSeq x.stream) = true →
            (s.stream x.stream).writes = none → t.fld F.doneWordSeq x.stream = x.seq ∧
              t.fld F.doneWordStatus x.stream = (if r.poisoned then stPoisoned else stOk) ∧ t.fld F.doneWordTick x.stream = s.tick % 2 ^ 24) ∧
          (∀ l n, x.last = false → r.poisoned = false → s.launch c = some l → s.stookOf l x.nextStook = some n →
            (t.stook n).offered = (s.stook n).offered ++
              [{ addr := x.nextAddr, arrived := s.logical c + (if st.ix = n then 8 else if st.ix / 17 = n / 17 then 24
                  else if st.ix / 136 = n / 136 then 48 else 96), source := some (st.ix, x.station, x.unit) }]))))

/-- COPY of a launch that moves on the stook, with a descriptor in its form: it asks the leave that it needs, and with it begins; what is copied
is what `copyOn` copies, from where the copy stands, and data of the staging window are journalled as an input. A descriptor out of its
form, or of memory that the launch does not have, is a host-made error, which touches nothing of others; one of a launch that is held, or
that has been carried out, does nothing (R10, R11, R39, R203, R228–R231, R451). What a COPY copies: between two memories the rows that
`copyRows` moves, the poison with them, and through a queue the words that `move` moves, up to a stall or the last row (R228, R230). One
32-byte row between two granary places moves exactly those bytes. -/
def Obligations.Moves : Prop :=
  (∀ (st : StookId) (desc : CribAddr) (d : CopyDesc) (c k a : Nat) (l : Launch) (r : Option Running) (s : State), k = st.ix → a = desc.toNat →
    d = parseCopy (s.rdN (cribAt k a) 32) → s.actor k a = some c → s.launch c = some l → r = s.runningOf k 0 a →
    (s.movingOn c k = false ∨ r.any (·.finishes.isSome) = true → Completes (.copy st desc) s s) ∧
    (s.movingOn c k = true → r.any (·.finishes.isSome) = false →
      (d.formed = false → ∃ t, Completes (.copy st desc) s t ∧ Erred s t c) ∧
      (d.formed = true → r.any (·.begun.isSome) = false → ∀ u, s.sends c (s.copyNeeds k l d r) = some u → Completes (.copy st desc) s u) ∧
      (∀ u, d.formed = true → d.src ≠ spStaging →
        (if r.any (·.begun.isSome) then some s else (s.begins c (s.copyNeeds k l d r)).map fun v => v.copyBegin k c a l d) = some u →
        (∀ w, u.copyOn k c a l d = some w → ∃ t, Completes (.copy st desc) s t ∧ t.mem = w.mem ∧ t.poison = w.poison ∧ t.stooks = w.stooks) ∧
        (u.copyOn k c a l d = none → ∃ t, Completes (.copy st desc) s t ∧ ∀ b, u.owns c b = false → t.rd b = u.rd b)) ∧
      (∀ u w, d.formed = true → d.src = spStaging → r.any (·.begun.isSome) = false → s.givenRows c l = none →
        s.journalFits c (.staged (s.stagedRows d)) = true → u = (s.copyBegin k c a l d).journal c (.staged (s.stagedRows d)) l.tau s.cyc →
        u.copyOn k c a l d = some w → ∃ t, Completes (.copy st desc) s t ∧ t.mem = w.mem ∧ t.poison = w.poison ∧
          (t.ctx c).journal = (s.ctx c).journal ++ [⟨.staged (s.stagedRows d), (s.ctx c).journalNext, l.tau, s.cyc, s.tick⟩]))) ∧
  (∀ (s : State) (c k x : Nat) (l : Launch) (d : CopyDesc),
    (d.src ≠ spQueue → d.dst ≠ spQueue → ∀ t p, s.copyRows c l d 0 d.rows false = some (t, p) →
      ∃ u, s.copyOn k c x l d = some u ∧ u.mem = t.mem ∧ u.poison = t.poison ∧ u.regs = t.regs) ∧
    (d.src = spQueue ∨ d.dst = spQueue → ∀ m, d.move c l (d.rows * (d.bytes / 32 + 1))
      { st := s, row := ((s.runningOf k 0 x).map (·.at_.1)).getD 0, off := ((s.runningOf k 0 x).map (·.at_.2)).getD 0, poison := false, stalled := false } =
        some m → ∃ u, s.copyOn k c x l d = some u ∧ u.mem = m.st.mem ∧ u.poison = m.st.poison) ∧
    (∀ a b : Nat, d.src = spGranary → d.dst = spGranary → d.rows = 1 → d.bytes = 32 →
      (∀ j, j < 32 → s.granaryByte l (d.srcAt + j) = some (a + j)) → (∀ j, j < 32 → s.granaryByte l (d.dstAt + j) = some (b + j)) →
      a % 8 = 0 → b % 8 = 0 → (a + 32 ≤ b ∨ b + 32 ≤ a) →
      ∃ t p, s.copyRows c l d 0 d.rows false = some (t, p) ∧ Wrote s t b (s.rdN a 32) ∧ (p = s.poisoned a 32) ∧ t.regs = s.regs))

/-- The choice of a decision is the candidate with the smallest key, and on a tie the one with the lowest index; the stay candidate 1024 always
takes part, the proposal candidate 1025 when one is pending (R88–R90). -/
def Obligations.Selects : Prop :=
  ∀ (e l c bq : Nat) (s : State) (w : Nat × Int), w = s.choose e l c bq →
    w.1 ≤ 1025 ∧ (w.1 = 1025 → (s.lane (4 * e + l)).active.isSome) ∧ w.2 = s.candKey e l c bq w.1 ∧
    ∀ j, j ≤ 1025 → (j = 1025 → (s.lane (4 * e + l)).active.isSome) →
      w.2 ≤ s.candKey e l c bq j ∧ (s.candKey e l c bq j = w.2 → w.1 ≤ j)

/-- DECISION in the engine's next slot, for lane c mod 4: a single flip changes its spin, adds its evaluation to the energy register and updates
the fields of the other spins; a proposal move flips all its spins; the stay candidate changes neither spin nor field nor energy. Other
lanes keep their state. An evaluation out of its range sets EVSAT. A slot that carries a row of a move takes no decision. An engine that
does not decide, or whose tick has no slot left, changes nothing (R75, R79, R81, R97, R101, R106). -/
def Obligations.Decides : Prop :=
  ∀ (e : EngineId) (s u : State) (k c n bq : Nat) (x : Nat × Int), c = max s.cyc (s.engine e.ix).slot → n = 4 * e.ix + c % 4 →
    u = (s.upTo c).setEngine e.ix { s.engine e.ix with slot := c + 1 } →
    (1023 < c ∨ (s.upTo c).deciding e.ix (c % 4) = false → Completes (.decision e) s s) ∧
    (c ≤ 1023 → (s.upTo c).deciding e.ix (c % 4) = true → (s.engine e.ix).ctx = some k → (s.lane n).moveRows = [] →
      bq = u.backlog e.ix (s.tau k * 1024 + c) → x = u.choose e.ix (c % 4) c bq →
      ∃ t, Completes (.decision e) s t ∧ t.cyc = c ∧ SameMemory s t ∧ (∀ m, m ≠ n → t.lane m = s.lane m) ∧ (t.engine e.ix).slot = c + 1 ∧
        (t.engine e.ix).accept = (s.engine e.ix).accept + (if x.1 = 1024 then 0 else 1) ∧
        (∀ i, i < 1024 → fits32 (s.evaluateWide e.ix (s.lane n).spins (s.lane n).field i) = false → t.flag F.shfStatusEvsat e.ix = true) ∧
        (x.1 = 1024 → (t.lane n).spins = (s.lane n).spins ∧ (t.lane n).field = (s.lane n).field ∧
          t.fld F.shfEnergyEnergy n = s.fld F.shfEnergyEnergy n) ∧
        (x.1 < 1024 → (t.lane n).spins = setSpin (s.lane n).spins x.1 (!(s.lane n).spins.getLsbD x.1) ∧
          t.fld F.shfEnergyEnergy n = unsign 48 (s.sfld F.shfEnergyEnergy n +
            s.evaluate e.ix (s.lane n).spins (s.lane n).field x.1 * (2 ^ s.db e.ix : Nat)) ∧
          ∀ p j, p < 2 → j < 1024 → j ≠ x.1 → fieldOf (t.lane n).field p j = if s.emptyPlane e.ix p then fieldOf (s.lane n).field p j else
            (satField (fieldOf (s.lane n).field p j + -2 * s.code e.ix p x.1 j (decide (64 ≤ c)) * spinOf (s.lane n).spins x.1)).1) ∧
        (∀ p, x.1 = 1025 → (s.lane n).active = some p → (recPositions p.record).Nodup → (t.lane n).active = none ∧
          t.fld F.shfEnergyEnergy n = unsign 48 (s.sfld F.shfEnergyEnergy n + s.moveEval e.ix (c % 4) p * (2 ^ s.db e.ix : Nat)) ∧
          ∀ i, i < 1024 → (t.lane n).spins.getLsbD i =
            if i ∈ recPositions p.record then !(s.lane n).spins.getLsbD i else (s.lane n).spins.getLsbD i)) ∧
    (∀ i b rest, c ≤ 1023 → (s.upTo c).deciding e.ix (c % 4) = true → (s.lane n).moveRows = (i, b) :: rest →
      ∃ t, Completes (.decision e) s t ∧ (t.lane n).moveRows = rest ∧ (t.lane n).spins = (s.lane n).spins ∧
        t.fld F.shfEnergyEnergy n = s.fld F.shfEnergyEnergy n)

/-- A record with COUNT 0 or above 16, with two equal positions among its first n or with a frozen one is refused and counted in REFUSED, and
changes nothing else; any other record stands in the incoming slot of its lane (R93). -/
def Obligations.RecordsRefused : Prop :=
  ∀ (e : EngineId) (l : Lane) (rec : BitVec 192) (c n : Nat) (s : State) (bad : Prop), (s.engine e.ix).ctx = some c → n = 4 * e.ix + l.val →
    s.flag F.shfCtrlPropEn e.ix = true →
    (bad ↔ recCount rec = 0 ∨ 16 < recCount rec ∨ ¬ (recPositions rec).Nodup ∨ ∃ i ∈ recPositions rec, (s.engine e.ix).frozen.getLsbD i = true) →
    (bad → ∃ t, Completes (.proposalRecordArrival e l rec) s t ∧ t = { s with regs := t.regs, gens := t.gens } ∧ SameRegsBut s t .shfProp n ∧
      t.fld F.shfPropRefused n = min (s.fld F.shfPropRefused n + 1) 65535 ∧ t.fld F.shfPropTaken n = s.fld F.shfPropTaken n ∧
      t.fld F.shfPropWithdrawn n = s.fld F.shfPropWithdrawn n) ∧
    (¬ bad → ∃ t p, Completes (.proposalRecordArrival e l rec) s t ∧ (t.lane n).incoming = some p ∧ p.record = rec ∧
      t.fld F.shfPropRefused n = s.fld F.shfPropRefused n)

/-- PROPOSAL_RECORD_ARRIVAL: a record that R93 refuses counts in REFUSED and takes no slot; another one stands in the incoming slot, priced, and
may become pending 32 cycles on, or from cycle 131 where it comes before cycle 99 of an apply tick; the record it replaces counts as
WITHDRAWN. PROPOSAL_PENDING makes it the pending proposal at the first decision of its lane from then on; an earlier one counts as WITHDRAWN
(R93, R94, R96). -/
def Obligations.Proposals : Prop :=
  ∀ (e : EngineId) (l : Lane) (rec : BitVec 192) (c n : Nat) (s : State), (s.engine e.ix).ctx = some c → n = 4 * e.ix + l.val →
    (s.flag F.shfCtrlPropEn e.ix = false ∨ (s.engine e.ix).refusesRec rec = true → ∃ t, Completes (.proposalRecordArrival e l rec) s t ∧
      t.fld F.shfPropRefused n = min (s.fld F.shfPropRefused n + 1) 65535 ∧ t.lanes = s.lanes ∧ SameMemory s t ∧ SameRegsBut s t .shfProp n) ∧
    (s.flag F.shfCtrlPropEn e.ix = true → (s.engine e.ix).refusesRec rec = false → ∃ t p, Completes (.proposalRecordArrival e l rec) s t ∧
      (t.lane n).incoming = some p ∧ p.record = rec ∧ p.pair = s.pairTerm e.ix (s.lane n).spins (s.applyTick c) (recPositions rec) ∧
      p.ready = s.tau c * 1024 + (if s.applyTick c = true ∧ s.cyc < 99 then 131 else s.cyc + 32) ∧ (t.lane n).active = (s.lane n).active ∧
      t.fld F.shfPropWithdrawn n = min (s.fld F.shfPropWithdrawn n + if (s.lane n).incoming.isSome then 1 else 0) (2 ^ F.shfPropWithdrawn.w - 1) ∧
      SameMemory s t ∧ SameRegsBut s t .shfProp n) ∧
    ((s.lane n).incoming = none → Completes (.proposalPending e l) s s) ∧
    (∀ p a, (s.lane n).incoming = some p → a = s.decisionFrom e.ix l.val (max s.cyc (p.ready - s.tau c * 1024).toNat) →
      (a ≤ 1023 → (s.upTo a).deciding e.ix l.val = true → ∃ t q, Completes (.proposalPending e l) s t ∧ (t.lane n).active = some q ∧
        q.record = p.record ∧ q.pair = (if p.late then s.pairTerm e.ix (s.lane n).spins true (recPositions p.record) else p.pair) ∧
        (t.lane n).incoming = none ∧ t.cyc = a ∧ a % 4 = l.val ∧ SameMemory s t ∧ SameRegsBut s t .shfProp n ∧
        t.fld F.shfPropWithdrawn n = min (s.fld F.shfPropWithdrawn n + if (s.lane n).active.isSome then 1 else 0) (2 ^ F.shfPropWithdrawn.w - 1)) ∧
      (1023 < a ∨ (s.upTo a).deciding e.ix l.val = false → Completes (.proposalPending e l) s s))

/-- LINK_WALKER_READ takes the next four entries of its queue at the first cycle at which it finds one and has not read, and a delta record of
each, with the launch's own link banks and no poison; SCATTER_WRITE writes a record with its flip word after the records of its tile, with
the tile's header, in the next cycle of its phase, and in a bank of another owner writes nothing and sets DENIED (R104, R113–R115, R139,
R212, R215). -/
def Obligations.LinksScatter : Prop :=
  ∀ (e : EngineId) (s : State) (c : Nat), (s.engine e.ix).ctx = some c →
    ((s.engine e.ix).queue = [] → Completes (.linkWalkerRead e) s s) ∧
    (∀ w rest a, (s.engine e.ix).queue = w :: rest → a = max s.cyc (max w.ready (s.engine e.ix).walked - s.tau c * 1024).toNat →
      (1023 < a ∨ (s.upTo a).movingOn c (e.ix / 8) = false → Completes (.linkWalkerRead e) s s) ∧
      (a ≤ 1023 → (s.upTo a).movingOn c (e.ix / 8) = true → w.next + 4 ≤ w.stop →
        (∀ k, k < 4 → s.ownerPass (e.ix / 8) (bankOf ((s.engine e.ix).linkBase + 4 * (w.next + k))) (asUnit c) = true ∧
          s.poisoned (cribAt (e.ix / 8) ((s.engine e.ix).linkBase + 4 * (w.next + k))) 4 = false) →
        ∃ t, Completes (.linkWalkerRead e) s t ∧ t.cyc = a ∧ SameMemory s t ∧ t.regs = s.regs ∧
          (t.engine e.ix).walked = s.tau c * 1024 + a + 1 ∧
          (t.engine e.ix).queue = (if w.next + 4 < w.stop then { w with next := w.next + 4 } :: rest else rest) ∧
          (t.engine e.ix).heldRecs = (s.engine e.ix).heldRecs ++ (List.range 4).map fun k => (s.engine e.ix).outRec w
            (s.rdNat (cribAt (e.ix / 8) ((s.engine e.ix).linkBase + 4 * (w.next + k))) 4))) ∧
    (∀ a bank, a = nextCycle (max s.cyc ((s.engine e.ix).scattered - 1024 * s.tick)) 4 (s.fld F.stkExchCfgPhase e.ix * 2) →
      bank = s.fld F.stkExchCfgDeltaBank e.ix →
      (1023 < a ∨ s.flag F.stkExchCfgDeltaEn e.ix = false ∨ (s.upTo a).movingOn c (e.ix / 8) = false → Completes (.scatterWrite e) s s) ∧
      (a ≤ 1023 → s.flag F.stkExchCfgDeltaEn e.ix = true → (s.upTo a).movingOn c (e.ix / 8) = true →
        (s.ownerPass (e.ix / 8) bank (asUnit c) = false → ∃ t, Completes (.scatterWrite e) s t ∧ SameMemory s t ∧ t.cyc = a ∧
          (t.engine e.ix).heldRecs = (s.engine e.ix).heldRecs.drop 16 ∧ t.flag F.stkBankStatusDenied (bankIx (e.ix / 8) bank) = true) ∧
        (∀ r p used base, s.ownerPass (e.ix / 8) bank (asUnit c) = true → (s.engine e.ix).heldRecs = [r] →
          s.tilePlace c (s.engine e.ix).pos (8192 * r.far + r.dest) = some p → used = sget (0, 0) (s.engine e.ix).outUsed (8192 * r.far + r.dest) →
          1 + used.1 + r.slots.length ≤ p.slots → base = cribAt (e.ix / 8) (bank * 2 ^ 19 + (if s.turn c % 2 = 0 then p.even else p.odd)) →
          ∃ t, Completes (.scatterWrite e) s t ∧ (t.engine e.ix).heldRecs = [] ∧ t.cyc = a ∧
            t.rdN base 8 = leBytes 8 (tileHeader (s.engine e.ix).rank (s.engine e.ix).block (used.2 + 1) (s.tau c)).toNat ∧
            t.rdN (base + 8 * (1 + used.1)) (8 * r.slots.length) = slotBytes r.slots ∧
            (∀ b, (b < base ∨ base + 8 ≤ b) → (b < base + 8 * (1 + used.1) ∨ base + 8 * (1 + used.1) + 8 * r.slots.length ≤ b) → t.rd b = s.rd b) ∧
            sget (0, 0) (t.engine e.ix).outUsed (8192 * r.far + r.dest) = (used.1 + r.slots.length, used.2 + 1))))

/-- LANE_START of lanes that do not run asks leave for 2 LU per lane and starts them with the grant: at once where it is booked, else the
request goes to the warden and LEAVE_GRANT starts them; LANE_STOP stops lanes. STATE_CAPTURE copies lane states aside, and STATE_LOAD loads
what was captured, or else the initial state of the lane's replica (R78, R110, R202, R451, R454). -/
def Obligations.Lanes : Prop :=
  ∀ (e : EngineId) (mask : BitVec 4) (s : State) (c : Nat) (new : Nat), (s.engine e.ix).ctx = some c →
    new = mask.toNat - (mask.toNat &&& s.fld F.shfCtrlLaneEn e.ix) →
    (new = 0 ∨ s.movingOn c (e.ix / 8) = false → Completes (.laneStart e mask) s s) ∧
    (s.movingOn c (e.ix / 8) = true → new ≠ 0 →
      (s.bookedLeave c = true →
        ∃ t g, Completes (.laneStart e mask) s t ∧ t.fld F.shfCtrlLaneEn e.ix = s.fld F.shfCtrlLaneEn e.ix ||| new ∧
          (t.acre (e.ix / 136)).grants = (s.acre (e.ix / 136)).grants ++ [g] ∧ g.lu = 2 * laneCount new ∧ g.ends = none ∧ g.classE = true ∧
          SameMemory s t) ∧
      (s.bookedLeave c = false →
        ∃ t q, Completes (.laneStart e mask) s t ∧ (t.engine e.ix).want = new ∧ q ∈ (t.acre (e.ix / 136)).asks ∧
          q.unit = s.unitOf (e.ix / 8) (e.ix % 8) ∧ q.lu = 2 * laneCount new ∧ s.slotNow ≤ q.since ∧
          t.fld F.shfCtrlLaneEn e.ix = s.fld F.shfCtrlLaneEn e.ix ∧ SameMemory s t)) ∧
    (∃ t, Completes (.laneStop e mask) s t ∧
      t.fld F.shfCtrlLaneEn e.ix = s.fld F.shfCtrlLaneEn e.ix - (s.fld F.shfCtrlLaneEn e.ix &&& mask.toNat) ∧ SameMemory s t ∧ t.lanes = s.lanes) ∧
    (∃ t, Completes (.stateCapture e mask) s t ∧ t = { s with captured := t.captured } ∧
      ∀ k, k < 4 → mask.getLsbD k = true → t.captured.find? (fun x => x.1 == 4 * e.ix + k) =
        some (4 * e.ix + k, s.saveLane (4 * e.ix + k) (s.tau c))) ∧
    (∀ w v, s.launch c = some w → s.versionOf c = some v → ∃ t, Completes (.stateLoad e mask) s t ∧ SameMemory s t ∧
      (∀ m, (∀ k, k < 4 → mask.getLsbD k = true → m ≠ 4 * e.ix + k) → t.lane m = s.lane m) ∧
      ∀ k, k < 4 → mask.getLsbD k = true → ∀ x, x = s.captured.find? (fun y => y.1 == 4 * e.ix + k) →
        (∀ y, x = some y → (t.lane (4 * e.ix + k)).spins = y.2.spins ∧ (t.lane (4 * e.ix + k)).field = y.2.field ∧
          t.fld F.shfEnergyEnergy (4 * e.ix + k) = y.2.energy.toNat) ∧
        (x = none → (t.lane (4 * e.ix + k)).spins =
          w.sched.start (4 * ((s.engine e.ix).pos / v.coeffs.blocks) + k) ((s.engine e.ix).pos % v.coeffs.blocks)))

/-- What arrives in the window: in cycles 0–47 a tile of the last tick is staged at its place in the delta bank, a row in each receive cycle,
and taken by the correction unit, and in 48–59 a rollback notice; the tile and the notice of an engine of this module are those that it
sends, and in a bank of another owner they are dropped with DENIED set. In cycles 16–23 an engine of a voting launch votes, and in 56–63 the
result is positive only when every engine has. A tile that is missing at cycle 47 halts its launch at cycle 48 (R118, R120, R129, R132,
R139, R212, R213, R215, R291). -/
def Obligations.Window : Prop :=
  ∀ (e : EngineId) (s : State) (c : Nat),
    (∀ slots n p tile a, s.receiver e.ix (tileSource slots) = some n → (s.engine n).ctx = some c →
      s.tilePlace c (tileSource slots) (s.engine n).pos = some p →
      tile = (match s.engineOfPos c p.src with
        | some x => s.sentTile x p (s.turn c)
        | none => slots) → a = s.receiveEnd n (ceilDiv tile.length 64) →
      (47 < a → Completes (.deltaTileArrival e slots) s s) ∧
      (a ≤ 47 → s.exchangePass n c = true → ∃ t, Completes (.deltaTileArrival e slots) s t ∧ t.cyc = max s.cyc a ∧
        (t.engine n).tiles = (s.engine n).tiles ++ [tile] ∧ t.regs = s.regs ∧
        Wrote s t (cribAt (n / 8) (s.deltaAddr n p.stage)) (slotBytes tile)) ∧
      (a ≤ 47 → s.exchangePass n c = false → ∃ t, Completes (.deltaTileArrival e slots) s t ∧ SameMemory s t ∧
        (t.engine n).tiles = (s.engine n).tiles ∧ t.flag F.stkBankStatusDenied (bankIx (n / 8) (s.fld F.stkExchCfgDeltaBank n)) = true)) ∧
    (∀ slots, s.receiver e.ix (tileSource slots) = none → Completes (.deltaTileArrival e slots) s s) ∧
    (∀ (rank : Fin 64) (block : Fin 8192) words n p sent a, n = s.noticeTaker e.ix (8192 * rank.val + block.val) → (s.engine n).ctx = some c →
      s.tilePlace c (8192 * rank.val + block.val) (s.engine n).pos = some p →
      sent = (match s.engineOfPos c p.src with
        | some x => s.noticeOf x
        | none => words.take 256) → a = (s.upTo 48).receiveEnd n 1 →
      (59 < s.cyc ∨ 59 < a ∨ sent = [] → Completes (.rollbackNoticeArrival e rank block words) s s) ∧
      (s.cyc ≤ 59 → a ≤ 59 → sent ≠ [] → s.exchangePass n c = true → ∃ t, Completes (.rollbackNoticeArrival e rank block words) s t ∧
        t.cyc = max s.cyc a ∧ (t.engine n).notices = (s.engine n).notices ++ [(p.src / 8192, p.src % 8192, sent)] ∧ t.regs = s.regs ∧
        Wrote s t (cribAt (n / 8) (s.deltaAddr n p.note)) (sent.flatMap fun w => leBytes 2 w.toNat)) ∧
      (s.cyc ≤ 59 → a ≤ 59 → sent ≠ [] → s.exchangePass n c = false → ∃ t, Completes (.rollbackNoticeArrival e rank block words) s t ∧
        SameMemory s t ∧ (t.engine n).notices = (s.engine n).notices ∧
        t.flag F.stkBankStatusDenied (bankIx (n / 8) (s.fld F.stkExchCfgDeltaBank n)) = true)) ∧
    ((s.engine e.ix).ctx = some c → s.cyc ≤ 23 → (s.upTo 16).moving c = true → s.voting c = true → ∃ t, Completes (.voteCast e) s t ∧
      (t.engine e.ix).voted = true ∧ t = { s with cyc := max s.cyc 16, engines := t.engines }) ∧
    ((s.engine e.ix).ctx = some c → 23 < s.cyc ∨ (s.upTo 16).moving c = false ∨ s.voting c = false → Completes (.voteCast e) s s) ∧
    (∀ k : CtxId, ∀ l, s.launch k.val = some l → s.cyc ≤ 63 → (s.upTo 56).moving k.val = true → s.voting k.val = true →
      ∃ t l', Completes (.voteResult k) s t ∧ t.launch k.val = some l' ∧ l' = { l with vote := l'.vote } ∧
        (l'.vote = some true ↔ ∀ x ∈ s.enginesOf k.val, (s.engine x).voted = true) ∧ l'.vote ≠ none) ∧
    (∀ k : CtxId, ∀ l, s.launch k.val = some l → s.cyc ≤ 47 → (s.upTo 47).moving k.val = true →
      ((∃ x ∈ s.enginesOf k.val, s.tilesIn k.val x = false) → ∃ t l', Completes (.tileLateHold k) s t ∧ t.launch k.val = some l' ∧ l'.tau = l.tau ∧
        (l.phase = .none → l'.holds = [.tile] ∧ l'.holdAt = 48 ∧ l'.phase = .begins) ∧
        (l.phase = .ends → l.again = none → l'.holds = [.tile] ∧ l'.again = some 48)) ∧
      ((∀ x ∈ s.enginesOf k.val, s.tilesIn k.val x = true) → Completes (.tileLateHold k) s s))

/-- RESOLUTION_POINT of a lane with no undo entries of the last tick, outside a patch and outside a digest tick: the records received for the
lane change the fields of their targets, the cross-term correction goes into the energy register and the snapshot energy, no spin changes,
and the lane has resolved (R119, R122, R123). At the first one of a tick a notice or a vote that has not come makes the verdicts void
(R135). PATCH_OVERLAY_WRITEBACK writes a code of the overlay at its two mirrored positions once every enabled lane has resolved, and empties
the overlay (R132). -/
def Obligations.Resolves : Prop :=
  ∀ (e : EngineId) (s : State) (c : Nat), (s.engine e.ix).ctx = some c →
    (∀ (l : Lane) (n : Nat) (ln : Launch) (recs prev : List InRec), n = 4 * e.ix + l.val → s.launch c = some ln → (s.lane n).resolved = false →
      (s.upTo (63 + l.val)).moving c = true → (s.lane n).undoPrev = [] → (s.engine e.ix).items = [] → ln.digestTick = false →
      recs = recsOf (s.engine e.ix).tiles l.val → prev = recsOf (s.engine e.ix).tilesPrev l.val →
      ∃ t ln', Completes (.resolutionPoint e l) s t ∧ t.cyc = max s.cyc (63 + l.val) ∧ (t.lane n).resolved = true ∧
        (t.lane n).spins = (s.lane n).spins ∧ SameMemory s t ∧
        t.fld F.shfEnergyEnergy n = unsign 48 (s.sfld F.shfEnergyEnergy n + s.correction e.ix (s.lane n) recs prev) ∧
        t.fld F.shfSnapEnergySnap n = unsign 48 (s.sfld F.shfSnapEnergySnap n + s.correction e.ix (s.lane n) recs prev) ∧
        (∀ r, recs = [r] → s.emptyPlane e.ix r.plane = false → fieldOf (t.lane n).field r.plane r.target =
          (satField (fieldOf (s.lane n).field r.plane r.target + 2 * codeValue r.code * pm r.post)).1) ∧
        (recs = [] → (t.lane n).field = (s.lane n).field) ∧ t.launch c = some ln' ∧
        ((∀ x ∈ s.enginesOf c, ∀ k, k < 4 → (s.lane (4 * x + k)).resolved = false) →
          (ln'.void = true ↔ s.noticeMissing c = true ∨ (ln.windowOnly = false ∧ s.applyTick c = true ∧ ln.vote ≠ some true)))) ∧
    (∀ (l : Lane), (s.lane (4 * e.ix + l.val)).resolved = true ∨ (s.upTo (63 + l.val)).moving c = false → Completes (.resolutionPoint e l) s s) ∧
    ((∃ k, k < 4 ∧ (s.lane (4 * e.ix + k)).resolved = false ∧ (s.fld F.shfCtrlLaneEn e.ix).testBit k = true) →
      Completes (.patchOverlayWriteback e) s s) ∧
    (∀ plane i j code, plane < 2 → i < 1024 → j < 1024 → i ≠ j → (s.engine e.ix).overlay = [(plane, i, j, code)] → s.cyc ≤ 1023 →
      (∀ k, k < 4 → (s.lane (4 * e.ix + k)).resolved = true ∨ (s.fld F.shfCtrlLaneEn e.ix).testBit k = false) →
      ∃ t, Completes (.patchOverlayWriteback e) s t ∧ (t.engine e.ix).overlay = [] ∧ t.storedCode e.ix plane i j = code ∧
        t.storedCode e.ix plane j i = code ∧ t.regs = s.regs ∧
        ∀ p a b, p < 2 → a < 1024 → b < 1024 → (p, a, b) ≠ (plane, i, j) → (p, a, b) ≠ (plane, j, i) →
          t.storedCode e.ix p a b = s.storedCode e.ix p a b)

/-- REDUCTION_TICK of a launch outside a group: the module energies of all replicas and a verdict with the tick; its permutation rearranges the
launch's, at launch tick 0 it captures every replica of the copies that run, and a captured replica's best becomes its energy of this tick
(R147, R148, R150, R154). VERDICT_ARRIVAL at cycle 1,000 puts it into effect; a group launch that has none then holds there, or in early
exchange mode of class T goes on without it (R148, R149, R153). BEST_CAPTURE makes a lane's tick snapshot its best state (R103). -/
def Obligations.Reductions : Prop :=
  ∀ (c : CtxId) (l : Launch) (s : State), s.launch c.val = some l →
    (s.cyc ≤ 1023 → (s.upTo 611).reduces c.val l = true → l.group = false → ∃ t l' v, Completes (.reductionTick c) s t ∧
      t.cyc = max s.cyc 935 ∧ SameMemory s t ∧ t.launch c.val = some l' ∧ l'.energies = s.moduleEnergies l (s.blocksOf c.val) ∧
      l'.verdict = some v ∧ l'.tau = l.tau ∧ v.tick = l.tau.toNat ∧ v.perm.Perm l.perm ∧
      (l.tau = 0 → v.captures = (List.range l.bests.length).filter fun r => !l.lost.contains (r / 4)) ∧
      ∀ r ∈ v.captures, r < l.bests.length ∧ r / 4 ∉ l.lost ∧ v.bests[r]? = some ((l'.energies[r]?).getD 0, l.tau.toNat)) ∧
    ((s.upTo 611).reduces c.val l = false ∨ 1023 < s.cyc → Completes (.reductionTick c) s s) ∧
    (l.verdict = none ∨ l.folded = true → Completes (.verdictArrival c) s s) ∧
    (∀ v, l.verdict = some v → l.folded = false → ∃ t l', Completes (.verdictArrival c) s t ∧ t.cyc = max s.cyc 1000 ∧ SameMemory s t ∧
      t.regs = s.regs ∧ t.launch c.val = some l' ∧ l'.verdict = none ∧ l'.perm = v.perm ∧ l'.bests = v.bests ∧ Hold.verdict ∉ l'.holds ∧ l'.tau = l.tau) ∧
    (∀ a, s.winnowAcre c.val = some a →
      (l.group = false ∨ (s.upTo 1000).moving c.val = false ∨ s.decides c.val = false ∨ s.reductionTick c.val l.tau = false ∨ l.folded = true →
        Completes (.verdictLateHold c) s s) ∧
      (l.group = true → (s.upTo 1000).moving c.val = true → s.decides c.val = true → s.reductionTick c.val l.tau = true →
        (l.verdict ≠ none ∨ s.cyc ≤ 1000) → l.folded = false → ∃ t l', Completes (.verdictLateHold c) s t ∧ t.launch c.val = some l' ∧
          t = { s with cyc := max s.cyc 1000, ctxs := t.ctxs } ∧
          (l.sched.classT = true → s.fld F.acrWinnowCtrlExchMode a = 2 → l' = { l with verdict := none }) ∧
          (l.sched.classT = false ∨ s.fld F.acrWinnowCtrlExchMode a ≠ 2 → Hold.verdict ∈ l'.holds ∧ l'.verdict = l.verdict ∧
            (l.phase = .none → l'.holdAt = 1000 ∧ l'.phase = .begins) ∧ (l.phase = .ends → l.again = none → l'.again = some 1000)))) ∧
    (∀ (e : EngineId) (k : Lane) (n : Nat), n = 4 * e.ix + k.val → s.cyc ≤ 1023 → ∃ t, Completes (.bestCapture e k) s t ∧
      (t.lane n).bestSpins = (s.lane n).snap ∧ (t.lane n).bestEnergy = BitVec.ofNat 48 (s.fld F.shfSnapEnergySnap n) ∧
      (t.lane n).bestTau = BitVec.ofInt 64 (s.lane n).snapTau ∧ (∀ m, m ≠ n → t.lane m = s.lane m) ∧
      t = { s with cyc := max s.cyc 68, lanes := t.lanes })

/-- AUDIT of an audit tick takes the snapshot spins of every replica of the image's set into the tally buffers; AUDIT_RECORD_EMIT at cycle 1,000
of tick u + S puts the record of a complete audit out, and a launch whose audit is not complete then holds there (R159–R162).
STATISTICS_SAMPLE takes the snapshots of the lanes to be sampled and adds them to N, or sets STAT_FULL and takes nothing when N would pass
its limit (R164, R166). DIGEST_WRITE writes the digest block of the tick, and in class E its DIGEST record (R281, R284). -/
def Obligations.Records : Prop :=
  ∀ (c : CtxId) (l : Launch) (s : State), s.launch c.val = some l →
    (∀ new, new = (l.sched.auditSet.filter fun r => decide (r < l.replicas) && !l.lost.contains (r / 4)).map (fun r =>
        ({ tick := l.tau.toNat, replica := r, version := l.version, spins := s.auditSpins l (s.blocksOf c.val) r false, parts := [],
           energy := none } : Audit)) →
      s.cyc ≤ 99 → (s.upTo 68).moving c.val = true → s.decides c.val = true → l.folded = false →
      (s.auditTick c.val l.tau = true → l.audits.any (fun a => (a.tick : Int) == l.tau) = false → new ≠ [] →
        ∃ t l', Completes (.audit c) s t ∧ SameMemory s t ∧ t.cyc = max s.cyc 68 ∧ t.launch c.val = some l' ∧ l'.audits = l.audits ++ new ∧
          ∀ a ∈ s.acresOf c.val, t.fld F.acrTallyStatusAuditBusy a = 1) ∧
      (s.auditTick c.val l.tau = false ∨ l.audits.any (fun a => (a.tick : Int) == l.tau) = true →
        Completes (.audit c) s { s with cyc := max s.cyc 68 })) ∧
    (∀ a due, s.winnowAcre c.val = some a → due = l.audits.filter (fun x => decide ((x.tick : Int) ≤ l.tau - s.fld F.acrTallyCtrlAuditSpan a)) →
      (due = [] ∨ (s.upTo 1000).moving c.val = false ∨ s.decides c.val = false → Completes (.auditRecordEmit c) s s) ∧
      ((s.upTo 1000).moving c.val = true → s.decides c.val = true → due ≠ [] →
        ((∀ x ∈ due, x.energy.isSome = true) → ∃ t l', Completes (.auditRecordEmit c) s t ∧ t.cyc = max s.cyc 1000 ∧ t.launch c.val = some l' ∧
          l'.audits = l.audits.filter (fun x => !decide ((x.tick : Int) ≤ l.tau - s.fld F.acrTallyCtrlAuditSpan a)) ∧ l'.tau = l.tau ∧
          ∀ x v, due = [x] → s.version l.graph x.version = some v →
            (t.ctx c.val).tally = putRecord (s.ctx c.val).tally (s.auditRecord l v.coeffs x false).1) ∧
        ((∃ x ∈ due, x.energy = none) → ∃ t l', Completes (.auditRecordEmit c) s t ∧ t.launch c.val = some l' ∧ Hold.tally ∈ l'.holds ∧
          l'.tau = l.tau ∧ l'.audits = l.audits ∧ t = { s with cyc := max s.cyc 1000, ctxs := t.ctxs }))) ∧
    (∀ (a : AcreId) (lanes : List Nat) (top : Nat), (s.acre a.ix).ctx = some c.val → s.cyc ≤ 99 → (s.upTo 68).movingOn c.val (17 * a.ix) = true →
      s.decides c.val = true → s.flag F.acrTallyCtrlStatEn a.ix = true → s.flag F.acrTallyStatusStatFull a.ix = false →
      l.tau % (2 ^ s.fld F.acrTallyCtrlSampleExp a.ix : Nat) = 0 →
      lanes = (List.range 4).filter (fun k => (s.fld F.acrTallyCtrlSampleLanes a.ix).testBit k) →
      top = (if s.flag F.acrTallyCtrlCnt32 a.ix then 2 ^ 31 - 1 else 32767) →
      (top < s.fld F.acrStatSamplesN a.ix + lanes.length → ∃ t, Completes (.statisticsSample a) s t ∧ SameMemory s t ∧
        t.flag F.acrTallyStatusStatFull a.ix = true ∧ SameRegsBut s t .acrTallyStatus a.ix) ∧
      (s.fld F.acrStatSamplesN a.ix + lanes.length ≤ top → ∃ t, Completes (.statisticsSample a) s t ∧
        t.fld F.acrStatSamplesN a.ix = s.fld F.acrStatSamplesN a.ix + lanes.length ∧ t.fld F.acrTallyStatusSampleBusy a.ix = 1 ∧
        (t.acre a.ix).sampled = lanes ∧ (t.acre a.ix).added = 0 ∧ ((s.acre a.ix).sampled = [] → SameMemory s t))) ∧
    (∀ v, s.versionOf c.val = some v → s.cyc ≤ 1023 → (s.upTo 1000).moving c.val = true → l.digestTick = true →
      (∀ p ∈ s.enabledLanes c.val l, (s.lane p.2).resolved = true) → l.folded = false → l.replay = none → ∃ t, Completes (.digestWrite c) s t ∧
        t.cyc = max s.cyc 1000 ∧ t.regs = s.regs ∧
        (t.ctx c.val).digests = putDigest (s.ctx c.val).digests l.tau.toNat (digestBlock l.tau (s.laneDigests c.val l)) ∧
        ∀ b, b = JBody.digest (moduleDigest l.tau (s.laneDigests c.val l)) → l.sched.classT = false →
          (s.ctx c.val).digests.any (fun x => (x.1 : Int) == l.tau) = false → s.journalFits c.val b = true →
          (t.ctx c.val).journal = (s.ctx c.val).journal ++ [⟨b, (s.ctx c.val).journalNext, l.tau, 1000, s.tick⟩])

/-- On an empty queue the block idles: one cycle of the wall tick passes, up to its last, and nothing else changes (log 11, the model's choice).
TICK_BOUNDARY advances T by one and begins cycle 0, with the fallow mask that the tick word names, or in its place FALLOW_NEXT, or in a trim
tick of a group with every die fallow; on a module without power nothing moves. TICK_WORD keeps the word for it. A launch that runs alone
goes on to its next launch tick, and holds it whole at cycle 0 when its die is to be fallow (R136–R140, R402, R461). -/
def Obligations.Boundary : Prop :=
  (∀ s : State, s.pending = [] → step s = .next { s with cyc := min (s.cyc + 1) 1023 }) ∧
  (∀ (s : State) (mask : Nat),
    mask = (if s.group.any fun g => g.trimAt == some ((s.groupTick + 1) % 2 ^ 64) then 255
      else match s.arrived with | some w => bits w.toNat 24 8 | none => s.fld F.pwrStatusFallowNext 0) →
    (s.powered = false → Completes .tickBoundary s s) ∧
    (s.powered = true → ∃ t, Completes .tickBoundary s t ∧ t.reg .hubTick 0 = s.reg .hubTick 0 + 1 ∧ t.cyc = 0 ∧ t.arrived = none ∧
      t.fallow = mask ∧ t.entAsked = 0 ∧ t.pending = s.pending) ∧
    (∀ w : BitVec 96, 1023 < s.cyc → Completes (.tickWord w) s s) ∧
    (∀ w : BitVec 96, s.cyc ≤ 1023 → Completes (.tickWord w) s { s with cyc := max s.cyc 1008, arrived := some w }) ∧
    (∀ c x l, s.powered = true → s.ctxs = [(c, x)] → x ≠ {} → x.state = .running → x.launch = some l → l.phase = .none → l.resumeAt = none →
      l.folded = false → l.windowOnly = false → l.drain = none → l.recover = none → l.stopped = none → l.patches = [] → l.sched.fieldNoise = false →
      s.chans = [] → s.group = none → ∃ t l', Completes .tickBoundary s t ∧ t.launch c = some l' ∧ l'.tau = l.tau + 1 ∧
        (l.homes.any (fun d => mask.testBit d) = true → l'.phase = .whole ∧ l'.holdAt = 0 ∧ l'.holds = [.fallow]) ∧
        (l.homes.any (fun d => mask.testBit d) = false → l'.phase = .none ∧ l'.holds = [])))

/-- LAUNCH_START at cycle 0 of T0, once the release that the launch waits for has come and its acres are awake: a LOADED context is RUNNING at
the same launch tick, its engines show that tick, or it is HELD while its field-noise key is missing; before that nothing happens.
LAUNCH_END after the last tick: the context is OPEN without a launch, and keeps the results with the best energies and the final tick (R109,
R292, R373, R375, R379, R450). CONTEXT_SWITCH at the end of a PAUSE's drain: PAUSED, and the message is answered OK with TAU; at that of a
SAVE the message is answered (R134, R379). FOLD_FRAME takes the next wall tick of the frame, once per wall tick (R273). STREAM_INPUT_APPLY
uses up the inputs of its apply tick (R268). -/
def Obligations.LaunchLife : Prop :=
  ∀ (c : CtxId) (l : Launch) (s : State), s.launch c.val = some l →
    ((s.cyc ≠ 0 ∨ (s.ctx c.val).state ≠ .loaded ∨ s.tick < l.t0 ∨ s.awakeFor l (s.blocksOf c.val) = false ∨
      (∃ r, s.releaseOf c.val = some r ∧ s.tick < r.tick)) → Completes (.launchStart c) s s) ∧
    (s.cyc = 0 → (s.ctx c.val).state = .loaded → l.t0 ≤ s.tick → l.group = false → l.folded = false → l.windowOnly = false →
      s.awakeFor l (s.blocksOf c.val) = true → (∀ r, s.releaseOf c.val = some r → r.tick ≤ s.tick) → s.zeroHolds c.val l s.groupHolds = [] →
      (s.keyMissing c.val l = false → ∃ t l', Completes (.launchStart c) s t ∧ (t.ctx c.val).state = .running ∧ t.launch c.val = some l' ∧
        l'.tau = l.tau ∧ l'.phase = .none ∧ ∀ e ∈ s.enginesOf c.val, t.reg .shfTick e = BitVec.ofInt 64 l.tau) ∧
      (s.keyMissing c.val l = true → ∃ t l', Completes (.launchStart c) s t ∧ (t.ctx c.val).state = .held ∧ t.launch c.val = some l' ∧
        l'.tau = l.tau ∧ l'.phase = .whole ∧ l'.holds = [.key] ∧ SameMemory s t ∧
        ∀ e ∈ s.enginesOf c.val, t.fld F.shfStatusNoiseHeld e = 1 ∧ t.fld F.shfStatusLaneRun e = 0)) ∧
    (∀ v, s.versionOf c.val = some v → (s.ctx c.val).state = .running ∨ (s.ctx c.val).state = .held →
      (l.tau < l.sched.ticks → Completes (.launchEnd c) s s) ∧
      (l.sched.ticks ≤ l.tau → l.verdict = none → ∃ t r, Completes (.launchEnd c) s t ∧ (t.ctx c.val).state = .opened ∧ (t.ctx c.val).launch = none ∧
        (t.ctx c.val).results = some r ∧ r.bests = l.bests ∧ r.last = l.sched.ticks - 1 ∧ ∀ k, k ≠ c.val → t.ctx k = s.ctx k)) ∧
    ((∀ x ∈ l.drain, x.2.2 ≠ 3 ∨ x.1 = .ckpt) ∨ l.vote ≠ some true ∨ (∃ x ∈ s.enabledLanes c.val l, (s.lane x.2).resolved = false) →
      Completes (.contextSwitch c) s s) ∧
    (∀ n b, (s.chan n).msg = some b → n < 128 → s.waiters c.val [0x08, 0x09] = [n] → l.vote = some true → l.group = false →
      (∀ x ∈ s.enabledLanes c.val l, (s.lane x.2).resolved = true) →
      (l.drain = some (.pause, some n, 3) → ∃ t l', Completes (.contextSwitch c) s t ∧ t.cyc = max s.cyc 1023 ∧ (t.ctx c.val).state = .paused ∧
        t.launch c.val = some l' ∧ l'.tau = l.tau ∧ l'.drain = none ∧
        Answered t n (parseMsg b) { status := stOk, payload := leBytes 8 (unsign 64 l.tau) }) ∧
      (l.drain = some (.save, some n, 3) → ∃ t r, Completes (.contextSwitch c) s t ∧ Answered t n (parseMsg b) r ∧
        (t.ctx c.val).state = (if r.status = stOk then .saved else .paused))) ∧
    (l.folded = true → l.phase = .whole → l.holdAt = 0 → l.holds = [] → l.resumeAt = none → (s.ctx c.val).state = .running →
      (l.framed = some s.tick ∨ l.frame = 0 ∧ (∃ e ∈ s.enginesOf c.val, s.tilesIn c.val e = false) → Completes (.foldFrame c) s s) ∧
      (l.framed ≠ some s.tick → (l.frame ≠ 0 ∨ ∀ e ∈ s.enginesOf c.val, s.tilesIn c.val e = true) → ∃ t l', Completes (.foldFrame c) s t ∧ t.launch c.val = some l' ∧ l'.frame = (l.frame + 1) % 75 ∧
        l'.framed = some s.tick ∧ l'.tau = l.tau)) ∧
    (s.cyc = 0 → s.moving c.val = true → l.windowOnly = false → ∃ t l', Completes (.streamInputApply c) s t ∧ t.launch c.val = some l' ∧
      l' = { l with inputs := l.inputs.filter fun i => i.apply != l.tau } ∧ ((∀ i ∈ l.inputs, i.apply ≠ l.tau) → SameMemory s t)) ∧
    (∀ d v, d ∈ l.sched.coefs → (∀ x ∈ l.sched.coefs, x.handover = l.tau → x = d) → d.handover = l.tau → s.moving c.val = true →
      l.windowOnly = false → (l.patches ++ l.past).all (fun p => p.apply != d.apply) = true →
      (s.ctx c.val).coefReports.all (fun r => bytesAt r 0x10 8 != unsign 64 d.apply) = true → s.version l.graph l.lastVersion = some v →
      ∃ t l', Completes (.coefficientPatchHandover c d.area d.entries d.apply) s t ∧ t.launch c.val = some l' ∧ l'.tau = l.tau ∧
        ((∃ p, l'.patches = l.patches ++ [p] ∧ p.apply = d.apply ∧ p.booked = true) ∨
          l' = l ∧ (t.ctx c.val).coefReports.length = (s.ctx c.val).coefReports.length + 1))

/-- CHECKPOINT in the capture ticks of its drain asks leave for the stooks of the launch, and with it writes a generation, WRITING, into the own
pool of every die of the launch; CHECKPOINT_COMPLETE makes a die's record COMPLETE; MIRROR_SEND sends the newest one to the mirror pool of
the die to the east, and MIRROR_COMPLETE makes both records MIRRORED (R338–R341, R451). -/
def Obligations.Checkpoints : Prop :=
  ∀ (c : CtxId) (d : Die) (s : State),
    (∀ l, s.launch c.val = some l →
      ((∀ x ∈ l.drain, x.1 ≠ .ckpt ∨ x.2.2 < 4) ∨ l.ckpt = l.tau → Completes (.checkpoint c) s s) ∧
      ∀ ch stage, l.drain = some (.ckpt, ch, stage) → 4 ≤ stage → l.ckpt ≠ l.tau →
        (∀ u, s.sends c.val (s.captureNeeds l) = some u → Completes (.checkpoint c) s u) ∧
        (∀ u, s.begins c.val (s.captureNeeds l) = some u → ∃ t l', Completes (.checkpoint c) s t ∧ t.launch c.val = some l' ∧
          l' = { l with ckpt := l.tau } ∧ SameMemory s t ∧ ∀ x ∈ l.homes, ∃ r ∈ t.pools, r.ctx = c.val ∧ r.die = x ∧ r.state = 1 ∧
            r.mirror = false ∧ r.tau = l.tau ∧ r.saved = u.capture c.val l true)) ∧
    (∃ t, Completes (.checkpointComplete c d) s t ∧ SameMemory s t ∧ t.ctxs = s.ctxs ∧ t.pools = s.pools.map fun r =>
      if r.ctx = c.val ∧ r.die = d.val ∧ r.mirror = false ∧ r.state = 1 then { r with state := 2 } else r) ∧
    (∀ r, s.toMirror d.val = some r → s.flag F.grnStatusMirrorBusy d.val = false → s.nextDie d.val ≠ d.val →
      ∃ t, Completes (.mirrorSend d) s t ∧ t.fld F.grnStatusMirrorBusy d.val = 1 ∧ SameMemory s t ∧ t.ctxs = s.ctxs ∧
        ∃ b, { r with die := s.nextDie d.val, mirror := true, state := 1, base := b } ∈ t.pools) ∧
    (s.toMirror d.val = none ∨ s.flag F.grnStatusMirrorBusy d.val = true ∨ s.nextDie d.val = d.val → Completes (.mirrorSend d) s s) ∧
    (∀ m, s.pools.find? (fun (r : PoolRec) => r.mirror && r.die == s.nextDie d.val && r.state == 1) = some m →
      ∃ t, Completes (.mirrorComplete d) s t ∧ t.fld F.grnStatusMirrorBusy d.val = 0 ∧ SameMemory s t ∧ t.ctxs = s.ctxs ∧
        t.pools.length = s.pools.length ∧ (∀ r ∈ s.pools, r.ctx = m.ctx → r.gen = m.gen → r.tau = m.tau →
          (r.mirror = true ∧ r.die = s.nextDie d.val ∨ r.mirror = false ∧ r.die = d.val) → { r with state := 3 } ∈ t.pools))

/-- FAULT_REPORT takes the code and the action of R413, and leaves an entry in the fault log at NEXT_INDEX with the entry's number, code, action
and tick, and both counts advance. A unit that R423 spares takes action 2 while the acre's spare is free and 5 when it is not; a second
fault within a recovery from a fault in another stook of the acre, or a report of a die that is lost, is outside single-fault scope. An
action that interrupts marks the launches that it concerns, and RECOVERING is 1; a stook that serves no launch is retired at once. A report
of code 0x05 or 0x0A ends its context (R37, R413, R415, R416, R423, R425, R440, R532). -/
def Obligations.FaultReports : Prop :=
  ∀ (r : FaultRep) (s : State),
    (s.dieLost r.die.val = true → r.code ≤ 0x14 → s.fixFault r = (r.code, 0, true)) ∧
    (s.dieLost r.die.val = false →
      (s.acreRecovers (r.die.val * 8 + r.acre.val) r.stook.val = false → s.acreRecovers (r.die.val * 8 + r.acre.val) 31 = false →
        s.fld F.grnStatusLost r.die.val = 0 →
        (∀ x ∈ [(0x03, 1), (0x05, 9), (0x09, 1), (0x0A, 9), (0x0B, 3), (0x0E, 3), (0x0F, 1), (0x10, 1), (0x12, 4)],
          r.code = x.1 → s.fixFault r = (x.1, x.2, false)) ∧
        (r.code ∈ [0x01, 0x04] → s.sameRow r = 0 → s.fixFault r = (r.code, 1, false)) ∧
        (r.code ∈ [0x02, 0x06, 0x07, 0x08] ∨ (r.code ∈ [0x01, 0x04] ∧ 1 ≤ s.sameRow r) →
          (s.acre (r.die.val * 8 + r.acre.val)).retired.contains r.stook.val = false →
          s.fixFault r = if (s.acre (r.die.val * 8 + r.acre.val)).retired.isEmpty then (r.code, 2, false) else (0x0D, 5, true))) ∧
      (s.acreRecovers (r.die.val * 8 + r.acre.val) r.stook.val = true → r.code ∈ [0x01, 0x02, 0x03, 0x04, 0x06, 0x07, 0x08, 0x09] → r.stook.val < 17 →
        s.fixFault r = (0x0D, 5, true)) ∧
      (s.acreRecovers (r.die.val * 8 + r.acre.val) 31 = true → r.code = 0x0B → s.fixFault r = (0x0B, 5, true))) ∧
    (∀ con, con = (if (s.fixFault r).2.1 = 5 then s.onDie r.die.val else s.concerned r) → (s.fixFault r).2.1 ≠ 9 →
      ∃ t, Completes (.faultReport r) s t ∧ t.reports = s.reports.erase r ∧ t.graphs = s.graphs ∧
        t.fld F.fltLogHeadNextSeq 0 = (s.fld F.fltLogHeadNextSeq 0 + 1) % 2 ^ 32 ∧
        t.fld F.fltLogHeadNextIndex 0 = (s.fld F.fltLogHeadNextIndex 0 + 1) % 2 ^ 10 ∧
        t.rdNat (logAt (s.fld F.fltLogHeadNextIndex 0)) 4 = s.fld F.fltLogHeadNextSeq 0 ∧
        t.rdNat (logAt (s.fld F.fltLogHeadNextIndex 0) + 8) 8 = s.tick ∧
        (r.code < 256 → bits (t.rdNat (logAt (s.fld F.fltLogHeadNextIndex 0) + 4) 4) 24 8 = (s.fixFault r).1 ∧
          bits (t.rdNat (logAt (s.fld F.fltLogHeadNextIndex 0) + 4) 4) 20 4 = (s.fixFault r).2.1) ∧
        ((s.fixFault r).2.1 ∉ [1, 2, 3, 5, 6] ∨ con = [] → t.ctxs = s.ctxs) ∧
        ((s.fixFault r).2.1 ∈ [1, 2, 3, 5, 6] → con ≠ [] → t.fld F.fltStatusRecovering 0 = 1 ∧
          t.rdNat (logAt (s.fld F.fltLogHeadNextIndex 0) + 24) 4 = 2 ^ 32 - 1 ∧
          ∀ c l, s.launch c = some l → t.launch c = some (if c ∈ con ∧ l.stopped = none then
            { l with stopped := some { code := (s.fixFault r).1, since := s.now, tau := l.tau, cyc := s.cyc, held := 0 } } else l)) ∧
        ((s.fixFault r).2.1 = 2 → con = [] → r.stook.val ∈ (t.acre (r.die.val * 8 + r.acre.val)).retired)) ∧
    (∀ c l, (s.fixFault r).2.1 = 9 → r.ctx = some c → s.launch c.val = some l →
      (s.ctx c.val).state ∈ [CtxState.loaded, .running, .held, .paused] → ∃ t, Completes (.faultReport r) s t ∧ (t.ctx c.val).state = .faulted)

/-- RECOVERY of a launch outside a group that its cause concerns: it goes back to its newest COMPLETE generation, or to tick −P without one, at
the launch tick of that state, and starts again at the next wall tick, with RECOVERING set and no unit stopped any more; after an audit
mismatch it needs a generation no later than its last audit that agreed, and after the loss of a die a MIRRORED one, else the context is
FAULTED. A group launch stalls the group, for all members to restore together. A stook that the cause spares is retired. A launch that the
cause does not concern keeps everything (R38, R342, R416–R421, R423). -/
def Obligations.Recovers : Prop :=
  ∀ (c : CtxId) (r : FaultRep) (l : Launch) (s : State), s.launch c.val = some l →
    ((s.concerned r).contains c.val = false → Completes (.recovery c r) s s) ∧
    ((s.concerned r).contains c.val = true → (s.ctx c.val).state ∈ [CtxState.running, .held, .paused] → l.group = true → s.grouped = true → s.group.isSome →
      ∃ t g, Completes (.recovery c r) s t ∧ t.group = some g ∧
        ∃ x ∈ g.stalls, x.tau = (if l.holds.contains .stop then l.tau else l.tau + 1) ∧ x.late = false) ∧
    ((s.concerned r).contains c.val = true → (s.ctx c.val).state ∈ [CtxState.running, .held, .paused] → l.group = false →
      (∀ g v, r.code ∉ [0x09, 0x13, 0x14] → s.newestComplete c.val = some g →
        ((s.graph l.graph).bind fun x => x.versions.find? fun v => v.num == g.saved.version) = some v →
        ∃ t l', Completes (.recovery c r) s t ∧ t.launch c.val = some l' ∧ l'.tau = g.saved.tau ∧ l'.resumeAt = some (s.tick + 1) ∧
          l'.recover.isSome ∧ l'.stopped = none ∧ t.fld F.fltStatusRecovering 0 = 1) ∧
      (∀ v, r.code ∉ [0x09, 0x13, 0x14] → s.newestComplete c.val = none → l.origin = none →
        s.version l.graph (s.versionAt l (-l.sched.prologue)) = some v →
        ∃ t l', Completes (.recovery c r) s t ∧ t.launch c.val = some l' ∧ l'.tau = -l.sched.prologue ∧ l'.resumeAt = some (s.tick + 1) ∧
          l'.stopped = none ∧ t.fld F.fltStatusRecovering 0 = 1) ∧
      (∀ g v, r.code ∈ [0x13, 0x14] → s.newestMirrored c.val = some g →
        ((s.graph l.graph).bind fun x => x.versions.find? fun v => v.num == g.saved.version) = some v →
        ∃ t l', Completes (.recovery c r) s t ∧ t.launch c.val = some l' ∧ l'.tau = g.saved.tau ∧ l'.resumeAt = some (s.tick + 1)) ∧
      (r.code = 0x09 → s.lastPassed c.val l = none → ∃ t, Completes (.recovery c r) s t ∧ (t.ctx c.val).state = .faulted) ∧
      (r.code ∈ [0x13, 0x14] → s.newestMirrored c.val = none → ∃ t, Completes (.recovery c r) s t ∧ (t.ctx c.val).state = .faulted) ∧
      (r.code ∈ [0x02, 0x06, 0x07, 0x08] → r.stook.val < 17 → s.spareFree (r.die.val * 8 + r.acre.val) = true →
        ∃ t, Completes (.recovery c r) s t ∧ (t.acre (r.die.val * 8 + r.acre.val)).retired = [r.stook.val]))

/-- Losses of memories, wires and dies on a module that holds no launch and without a report before them: the loss is shown and logged once, and
the same loss again changes nothing. A first granary die or GDDR 7 device of a die degrades it and a second one loses the die; a lost die
holds no checkpoint and no segment of the granary; WIRE_REPAIR uses the two spares of a group before it reports the link;
POISONED_ROW_REWRITE writes a row of a KEEP area, in the refresh window, from its mirror copy: that of a launch's segment, or the bytes that
the command names (R295, R321, R327, R336, R337, R426, R427, R460). Losses of the barn dies and controllers on a module without contexts and
messages: the standby takes over when it is ready and becomes the active one, without a further standby; one whose own count differs is
retired; with both barn dies gone the module is not READY. COMMIT_RECORD copies the module state to a ready standby (R25, R23, R429–R432).
WATCHDOG_EXPIRY of a stream whose limit has passed: with no descriptor of it running, the stream ends with WATCHDOG and what waits in it is
dropped; before the limit nothing happens. A descriptor that runs is a hang: one that hung before, or a fifth hang of the window, is
quarantined and its stream ends with QUARANTINED (R364, R433, R436). -/
def Obligations.Losses : Prop :=
  (∀ (d : Die) (s : State), (∀ x ∈ s.ctxs, x.2.launch = none) → s.announced = [] →
    (∀ p : Fin 4, ((s.fld F.grnStatusLost d.val).testBit p.val = true → Completes (.granaryDieLoss d p) s s) ∧
      (s.fld F.grnStatusLost d.val = 0 → ∃ t, Completes (.granaryDieLoss d p) s t ∧
        (t.fld F.grnStatusLost d.val).testBit p.val = true ∧ t.ctxs = s.ctxs ∧ t.dieLost d.val = s.dieLost d.val ∧
        t.fld F.fltLogHeadNextSeq 0 = (s.fld F.fltLogHeadNextSeq 0 + 1) % 2 ^ 32) ∧
      (s.fld F.grnStatusLost d.val ≠ 0 → (s.fld F.grnStatusLost d.val).testBit p.val = false → ∃ t, Completes (.granaryDieLoss d p) s t ∧
        t.dieLost d.val = true ∧ t.fld F.fltLogHeadNextSeq 0 = (s.fld F.fltLogHeadNextSeq 0 + 1) % 2 ^ 32)) ∧
    (∀ p : Fin 6, (s.fld F.gddStatusLost d.val = 0 → ∃ t, Completes (.gddrDeviceLoss d p) s t ∧
        (t.fld F.gddStatusLost d.val).testBit p.val = true ∧ t.flag F.gddStatusDegraded d.val = true ∧ t.dieLost d.val = s.dieLost d.val) ∧
      (s.fld F.gddStatusLost d.val ≠ 0 → (s.fld F.gddStatusLost d.val).testBit p.val = false → ∃ t, Completes (.gddrDeviceLoss d p) s t ∧
        t.dieLost d.val = true) ∧
      ((s.fld F.gddStatusLost d.val).testBit p.val = true → Completes (.gddrDeviceLoss d p) s s)) ∧
    (∀ x ∈ [Instr.fieldDieLoss d, .thermalTrip d], (s.dieLost d.val = true → Completes x s s) ∧
      (s.dieLost d.val = false → ∃ t, Completes x s t ∧ t.dieLost d.val = true ∧ (∀ q ∈ t.pools, q.die ≠ d.val) ∧
        (∀ k, k < 256 → t.reg .grnSeg (256 * d.val + k) = 0) ∧ (∀ c, t.launch c = none ∧ (t.ctx c).state = (s.ctx c).state) ∧
        t.fld F.fltLogHeadNextSeq 0 = (s.fld F.fltLogHeadNextSeq 0 + 1) % 2 ^ 32)) ∧
    (∀ a : Option (Fin 8), ((d.val, a.map (·.val)) ∈ s.lostLinks → Completes (.linkReroute d a) s s) ∧
      ((d.val, a.map (·.val)) ∉ s.lostLinks → ∃ t, Completes (.linkReroute d a) s t ∧
        t.lostLinks = s.lostLinks ++ [(d.val, a.map (·.val))] ∧ t.fld F.fltLogHeadNextSeq 0 = (s.fld F.fltLogHeadNextSeq 0 + 1) % 2 ^ 32)) ∧
    (∀ (west : Bool) (g : Fin 16),
      ((s.wires.filter (· == (d.val, west, g.val))).length < 2 →
        Completes (.wireRepair d west g) s { s with wires := s.wires ++ [(d.val, west, g.val)] }) ∧
      (2 ≤ (s.wires.filter (· == (d.val, west, g.val))).length → ∃ t r, Completes (.wireRepair d west g) s t ∧ t.wires = s.wires ∧
        t.reports = s.reports ++ [r] ∧ r.code = 0x0E ∧ r.die = d)) ∧
    (∀ (row : Nat) (mirror : List Byte), row < 2 ^ 26 → s.cyc ≤ 1023 → Memory.wf s.mem = true →
      (s.flag F.gddSegKeep (d.val * 256 + row / 262144) = true →
        (s.otherCopy (d.val * 256 + row / 262144) = none → mirror.length = 320 → ∃ t, Completes (.poisonedRowRewrite d row mirror) s t ∧
          t.cyc = max s.cyc 896 ∧ Wrote s t (gddrAt d.val (row * 320)) mirror ∧ t.poisoned (gddrAt d.val (row * 320)) 320 = false ∧ t.regs = s.regs) ∧
        (∀ j, s.otherCopy (d.val * 256 + row / 262144) = some j → ∃ t, Completes (.poisonedRowRewrite d row mirror) s t ∧ t.cyc = max s.cyc 896 ∧
          Wrote s t (gddrAt d.val (row * 320)) (s.rdN (gddrAt (j / 256) ((j % 256 * 262144 + row % 262144) * 320)) 320) ∧ t.regs = s.regs)) ∧
      (s.flag F.gddSegKeep (d.val * 256 + row / 262144) = false → Completes (.poisonedRowRewrite d row mirror) s s))) ∧
  (∀ s : State, s.ctxs = [] → s.chans = [] → s.announced = [] →
    (s.flag F.hubStatusStandbyReady 0 = false → Completes .badgerTakeover s s ∧ ∀ b, Completes (.heartbeatTimeout b) s s) ∧
    (s.flag F.hubStatusStandbyReady 0 = true →
      (∀ x ∈ [Instr.badgerTakeover, .heartbeatTimeout false], ∃ t, Completes x s t ∧
        t.fld F.hubStatusActiveBarn 0 = 1 - s.fld F.hubStatusActiveBarn 0 ∧ t.fld F.hubStatusStandbyReady 0 = 0 ∧ t.graphs = s.graphs ∧
        t.fld F.fltLogHeadNextSeq 0 = (s.fld F.fltLogHeadNextSeq 0 + 1) % 2 ^ 32) ∧
      (∃ t, Completes (.heartbeatTimeout true) s t ∧ t.fld F.hubStatusActiveBarn 0 = s.fld F.hubStatusActiveBarn 0 ∧
        t.fld F.hubStatusStandbyReady 0 = 0 ∧ t.barnLost = s.barnLost ++ [1 - s.fld F.hubStatusActiveBarn 0] ∧
        t.fld F.fltLogHeadNextSeq 0 = (s.fld F.fltLogHeadNextSeq 0 + 1) % 2 ^ 32) ∧
      (∀ n : Channel, s.fld F.mbxStatusLast n.val ≠ 0xFFFFFFFF → ∃ t, Completes (.commitRecord n) s t ∧ t = { s with standby := t.standby } ∧
        t.standby.ctxs = s.ctxs ∧ t.standby.graphs = s.graphs ∧ t.standby.streams = s.streams ∧ t.standby.chans = s.chans)) ∧
    (∃ t, Completes .barnBothLoss s t ∧ t = { s with regs := t.regs, barnLost := [0, 1] } ∧ t.flag F.hubStatusReady 0 = false ∧
      SameRegsBut s t .hubStatus 0) ∧
    (∀ k : Fin 2, ((s.fld F.fltStatusPscLost 0).testBit k.val = true → Completes (.pscLoss k) s s) ∧
      ((s.fld F.fltStatusPscLost 0).testBit k.val = false → ∃ t, Completes (.pscLoss k) s t ∧ (t.fld F.fltStatusPscLost 0).testBit k.val = true ∧
        t.flag F.hubStatusStandbyReady 0 = false ∧ ∀ d, d < 4 → t.dieLost (4 * k.val + d) = true))) ∧
  (∀ (x : StreamId) (s : State),
    ((s.stream x.val).deadline.all (fun d => decide (s.tick < d)) = true → Completes (.watchdogExpiry x) s s) ∧
    ((s.stream x.val).deadline.any (fun d => decide (d ≤ s.tick)) = true →
      (s.hungOf x.val = [] → ∃ t, Completes (.watchdogExpiry x) s t ∧
        (t.stream x.val).waiting = [] ∧ (t.stream x.val).deadline = none ∧ SameMemory s t ∧ t.ctxs = s.ctxs ∧
        (s.fld F.doneWordStatus x.val = 0 → (s.stream x.val).writes = none →
          t.fld F.doneWordStatus x.val = stWatchdog ∧ t.fld F.doneWordSeq x.val = (s.stream x.val).seq % 2 ^ F.doneWordSeq.w) ∧
        SameRegsBut s t .doneWord x.val) ∧
      (∀ k r rest c, s.hungOf x.val = (k, r) :: rest → (s.stream x.val).ctx = some c → s.tick < s.hangStart + 2 ^ 35 →
        (s.ctx c).suspect = some (x.val, (s.entry k r.addr).seq) ∨ 4 ≤ s.fld F.fltHangResetsWindow 0 →
        (s.ctx c).state ∈ [CtxState.loaded, .running, .held, .paused] → ∃ t, Completes (.watchdogExpiry x) s t ∧
          (t.ctx c).state = .faulted ∧ (t.ctx c).suspect = none ∧ (t.stream x.val).waiting = [] ∧ (t.stream x.val).deadline = none)))

/-- FRAME_SEND on a port that is up: a frame to be resent goes out again and counts a slack frame; else a new frame with the next SEQ, the
acknowledgement of the last frame received and a CHECK over its content goes out and into the replay buffer. FRAME_RECEIVE: a frame whose
CHECK fails is dropped and counted, and NAK asked for; one out of order is dropped; an empty one in the clear and in order is accepted, its
ACK and NAK taken. On a port that is not up nothing happens (R303, R305–R308, R311). -/
def Obligations.Frames : Prop :=
  ∀ (p : Port) (s : State),
    (s.portUp p.val = false → Completes (.frameSend p) s s ∧ ∀ f, Completes (.frameReceive p f) s s) ∧
    (s.portUp p.val = true → (s.port p.val).ctrlNext = none →
      (∀ f rest, (s.port p.val).resend = f :: rest → ∃ t, Completes (.frameSend p) s t ∧ (t.port p.val).wire = some f ∧
        (t.port p.val).resend = rest ∧ t.fld F.lnkSlackSlackUsed p.val = min (s.fld F.lnkSlackSlackUsed p.val + 1) (2 ^ 24 - 1) ∧
        SameMemory s t ∧ SameRegsBut s t .lnkSlack p.val) ∧
      ((s.port p.val).resend = [] → (s.port p.val).replay.length < 64 → ∃ t f, Completes (.frameSend p) s t ∧ (t.port p.val).wire = some f ∧
        (t.port p.val).replay = (s.port p.val).replay ++ [f] ∧ (t.port p.val).nakDue = false ∧ f.seq = s.fld F.lnkSeqTxSeq p.val ∧
        t.fld F.lnkSeqTxSeq p.val = (s.fld F.lnkSeqTxSeq p.val + 1) % 2 ^ 32 ∧ f.check = linkCheck f.ctl f.payload f.head ∧
        f.ack = (s.fld F.lnkSeqRxExpect p.val + 2 ^ 32 - 1) % 2 ^ 32 ∧ f.nak = (s.port p.val).nakDue ∧ SameMemory s t)) ∧
    (∀ f : Frame, s.portUp p.val = true → f.payload.length = 1984 →
      (linkCheck f.ctl f.payload f.head ≠ f.check → ∃ t, Completes (.frameReceive p f) s t ∧ (t.port p.val).nakDue = true ∧
        t.fld F.lnkErrCheckFail p.val = min (s.fld F.lnkErrCheckFail p.val + 1) 65535 ∧ SameMemory s t ∧ SameRegsBut s t .lnkErr p.val) ∧
      (linkCheck f.ctl f.payload f.head = f.check → f.seq ≠ s.fld F.lnkSeqRxExpect p.val → ∃ t, Completes (.frameReceive p f) s t ∧
        t.regs = s.regs ∧ SameMemory s t ∧ t.answers = s.answers ∧
        (serialAbove f.seq (s.fld F.lnkSeqRxExpect p.val) = true → (t.port p.val).nakDue = true)) ∧
      (linkCheck f.ctl f.payload f.head = f.check → f.seq = s.fld F.lnkSeqRxExpect p.val → f.enc = false → f.empty = true →
        (16 ≤ p.val ∨ bits f.ctl.toNat 248 8 = 0) → ∃ t, Completes (.frameReceive p f) s t ∧ (t.port p.val).acked = f.ack ∧
          t.fld F.lnkSeqRxExpect p.val = (f.seq + 1) % 2 ^ 32 ∧ SameMemory s t ∧ RegsBut s t [(.lnkSeq, p.val), (.lnkErr, p.val)] ∧
          (f.nak = true → (t.port p.val).resend = (s.port p.val).replay.filter fun g => serialAbove g.seq f.ack)))

/-- Session set-up. HELLO on a port of the responding side: one out of form counts a failed set-up; a sound one stands as the set-up in
progress, and waits for REPLY while the entropy source serves no keys. REPLY sends the message that waited, or on the initiating side checks
the other's and sends FINISH. FINISH that verifies makes the session live and sends CONFIRM; CONFIRM makes it live on the initiating side.
SETUP_TIMEOUT drops a set-up 2^20 ticks old, and SESSION_END ends a live session (R486–R491). -/
def Obligations.Sessions : Prop :=
  ∀ (p : Port) (body : List Byte) (s : State),
    (s.portUp p.val = true → s.responds p.val = true → s.fld F.secLifecycleState 0 ≠ 2 →
      (body.length ≠ 130 → ∃ t, Completes (.hello p body) s t ∧ t.fld F.secAuthFailSetupFails 0 = min (s.fld F.secAuthFailSetupFails 0 + 1) 65535 ∧
        (t.port p.val).setup = none ∧ SameMemory s t) ∧
      (body.length = 130 → (p.val < 16 ∨ s.ownerOk (bytesAt body 129 1) = true) → s.keysServed = false → ∃ t x, Completes (.hello p body) s t ∧
        (t.port p.val).setup = some x ∧ x.initiator = false ∧ x.answered = false ∧ x.hello = setupMsg 1 body ∧ x.since = s.tick ∧
        (16 ≤ p.val → (s.port p.val).session = none → t.fld F.secSessionState (p.val - 16) = 1) ∧ SameMemory s t)) ∧
    ((s.port p.val).setup = none → Completes (.reply p body) s s ∧ Completes (.finish p body) s s ∧ Completes (.confirm p body) s s ∧
      Completes (.setupTimeout p) s s) ∧
    (∀ x, (s.port p.val).setup = some x →
      (∀ r s' key cert, x.initiator = false → x.answered = false → s.takeBlocks 8 = some (r, s') → s.identity = some key →
        s.certificate = some cert → (Config.p384Shared (num48 r) ((x.hello.drop 8).take 97)).isSome → ∃ t y m, Completes (.reply p body) s t ∧
          (t.port p.val).setup = some y ∧ y.answered = true ∧ y.scalar = num48 r ∧ (t.port p.val).messages = (s.port p.val).messages ++ [m]) ∧
      (∀ r s' key own pub y, x.initiator = true → x.answered = false → y = { x with reply := (setupMsg 2 body).take (8 + (body.length - 96)) } →
        226 ≤ body.length → Config.certKey ((body.take (body.length - 96)).drop 129) = some pub → s.takeBlocks 3 = some (r, s') →
        s.identity = some key → s.certificate = some own → (Config.p384Shared y.scalar y.peerPoint).isSome →
        (Config.ecdsaVerify pub (th1 y) (body.drop (body.length - 96)) = true → ∃ t z m, Completes (.reply p body) s t ∧
          (t.port p.val).setup = some z ∧ z.answered = true ∧ (t.port p.val).messages = (s.port p.val).messages ++ [m] ∧ SameMemory s t) ∧
        (Config.ecdsaVerify pub (th1 y) (body.drop (body.length - 96)) = false → ∃ t, Completes (.reply p body) s t ∧
          (t.port p.val).setup = none ∧ t.fld F.secAuthFailSetupFails 0 = min (s.fld F.secAuthFailSetupFails 0 + 1) 65535)) ∧
      (x.initiator = false → x.answered = true → s.group = none → 16 ≤ p.val → x.owner = 0xFF →
        (96 ≤ body.length → (body.drop (body.length - 96)).all (· == 0) = true → ∃ t z, Completes (.finish p body) s t ∧
          (t.port p.val).session = some z ∧ (t.port p.val).setup = none ∧ t.fld F.secSessionState (p.val - 16) = 2 ∧
          t.fld F.secSessionHostAuth (p.val - 16) = 0 ∧ t.fld F.lnkStatusEncOn p.val = 1 ∧ t.fld F.lnkStatusEpoch p.val = 0 ∧ SameMemory s t) ∧
        (body.length < 96 → ∃ t, Completes (.finish p body) s t ∧ (t.port p.val).setup = none ∧
          t.fld F.secAuthFailSetupFails 0 = min (s.fld F.secAuthFailSetupFails 0 + 1) 65535 ∧ (t.port p.val).session = (s.port p.val).session)) ∧
      (x.initiator = true → x.answered = true → s.group = none → ∃ t z, Completes (.confirm p body) s t ∧ (t.port p.val).session = some z ∧
        z.secret = x.secret ∧ z.txFrom = bytesAt body 0 4 ∧ z.rxFrom = bytesAt body 4 4 ∧ (t.port p.val).setup = none ∧
        t.fld F.lnkStatusEncOn p.val = 1 ∧ SameMemory s t) ∧
      (s.tick < x.since + 2 ^ 20 → Completes (.setupTimeout p) s s) ∧
      (x.since + 2 ^ 20 ≤ s.tick → ∃ t, Completes (.setupTimeout p) s t ∧ (t.port p.val).setup = none ∧ (t.port p.val).session = (s.port p.val).session ∧
        (16 ≤ p.val → (s.port p.val).session = none → t.fld F.secSessionState (p.val - 16) = 0) ∧ SameMemory s t)) ∧
    ((s.port p.val).session = none → Completes (.sessionEnd p) s s) ∧
    ((s.port p.val).session ≠ none → ∃ t, Completes (.sessionEnd p) s t ∧ (t.port p.val).session = none ∧ t.fld F.lnkStatusEncOn p.val = 0 ∧
      (16 ≤ p.val → t.fld F.secSessionState (p.val - 16) = 3) ∧ SameMemory s t ∧ t.ctxs = s.ctxs)

/-- Leave: a booked request is granted at once; an unbooked one is on its way for 4 cycles, and is then granted when it fits and none waits,
else it queues in one of 64 places, else it comes again; a release and the end of a timed grant leave the ledger; the head of the queue is
granted once it fits. HELD and QUEUE of the acre follow (R452–R456, R466). LEAVE_GRANT starts the lanes of an engine that waits for it, no
sooner than 8 cycles after the request (R454). -/
def Obligations.Leave : Prop :=
  ∀ (a : AcreId) (item : Word) (s : State) (w : Nat), w = item.toNat →
    (bits w 62 2 ≠ 0 → Completes (.leaveRequest a item) s s) ∧
    (bits w 62 2 = 0 → bits w 61 1 = 1 → ∃ t g, Completes (.leaveRequest a item) s t ∧
      (t.acre a.ix).grants = (s.acre a.ix).grants ++ [g] ∧ g.unit = bits w 53 8 ∧ g.lu = bits w 41 12 ∧ g.classE = true ∧
      g.ends = (if bits w 17 24 = 0 then none else some (s.now + bits w 17 24)) ∧ (t.acre a.ix).queue = (s.acre a.ix).queue ∧
      t.fld F.pwrAcreStateHeld a.ix = min ((t.acre a.ix).grants.map (·.lu)).sum 4095 ∧ SameMemory s t) ∧
    (bits w 62 2 = 0 → bits w 61 1 = 0 → (s.acre a.ix).asks = [] → ∃ t, Completes (.leaveRequest a item) s t ∧ t.regs = s.regs ∧ SameMemory s t ∧
      (t.acre a.ix).grants = (s.acre a.ix).grants ∧ (t.acre a.ix).queue = (s.acre a.ix).queue ∧ (t.acre a.ix).asks =
        [{ unit := bits w 53 8, lu := bits w 41 12, duration := bits w 17 24,
           since := if 951 < s.cyc ∧ s.cyc < 1008 then s.tick * 1024 + 1008 else s.now }]) ∧
    (∀ q : LeaveReq, (s.acre a.ix).asks = [q] → ∃ t, Completes (.timedGrantExpiry a) s t ∧ SameMemory s t ∧
      (s.now < q.since + 4 → (t.acre a.ix).asks = [q] ∧ (t.acre a.ix).queue = (s.acre a.ix).queue) ∧
      (q.since + 4 ≤ s.now →
        ((s.acre a.ix).queue = [] → s.leaveFits a.ix q.lu = true → (t.acre a.ix).asks = [] ∧ (t.acre a.ix).grants =
          (s.acre a.ix).grants.filter (fun g => g.ends.all fun x => decide (s.now < x)) ++
            [{ unit := q.unit, lu := q.lu, classE := false, ends := if q.duration = 0 then none else some (s.now + q.duration) }]) ∧
        ((s.acre a.ix).queue ≠ [] ∨ s.leaveFits a.ix q.lu = false →
          (t.acre a.ix).grants = (s.acre a.ix).grants.filter (fun g => g.ends.all fun x => decide (s.now < x)) ∧
          ((s.acre a.ix).queue.length < 64 → (t.acre a.ix).asks = [] ∧ (t.acre a.ix).queue = (s.acre a.ix).queue ++ [q] ∧
            t.fld F.pwrAcreStateQueue a.ix = (s.acre a.ix).queue.length + 1) ∧
          (64 ≤ (s.acre a.ix).queue.length → (t.acre a.ix).asks = [{ q with since := s.now }] ∧ (t.acre a.ix).queue = (s.acre a.ix).queue)))) ∧
    ((s.acre a.ix).asks = [] → ∃ t, Completes (.timedGrantExpiry a) s t ∧ SameMemory s t ∧
      (t.acre a.ix).grants = (s.acre a.ix).grants.filter (fun g => g.ends.all fun x => decide (s.now < x)) ∧
      t.fld F.pwrAcreStateHeld a.ix = min ((t.acre a.ix).grants.map (·.lu)).sum 4095) ∧
    (bits w 62 2 ≠ 1 → Completes (.leaveRelease a item) s s) ∧
    (∀ mine : List Grant, mine = (s.acre a.ix).grants.filter (fun (x : Grant) => x.unit == bits w 53 8 && x.ends.isNone) → bits w 62 2 = 1 →
      (mine = [] → Completes (.leaveRelease a item) s s) ∧
      (mine ≠ [] → ∃ t, ∃ g ∈ mine, Completes (.leaveRelease a item) s t ∧ (t.acre a.ix).grants = (s.acre a.ix).grants.erase g ∧
        ((∃ x ∈ mine, x.lu = bits w 41 12) → g.lu = bits w 41 12) ∧
        t.fld F.pwrAcreStateHeld a.ix = min ((t.acre a.ix).grants.map (·.lu)).sum 4095 ∧ SameMemory s t)) ∧
    (∀ q rest, (s.acre a.ix).asks = [] → (s.acre a.ix).queue = q :: rest →
      (s.leaveFits a.ix q.lu = false → ∃ t, Completes (.queuedLeaveGrant a) s t ∧ t.acre a.ix = s.acre a.ix ∧ t.regs = s.regs ∧ SameMemory s t) ∧
      (s.leaveFits a.ix q.lu = true → ∃ t g, Completes (.queuedLeaveGrant a) s t ∧ (t.acre a.ix).queue = rest ∧
        (t.acre a.ix).grants = (s.acre a.ix).grants ++ [g] ∧ g.unit = q.unit ∧ g.lu = q.lu ∧ g.classE = false ∧ SameMemory s t)) ∧
    (bits w 62 2 ≠ 2 → Completes (.leaveGrant a item) s s) ∧
    (∀ e, e = 8 * s.physStook a.die.val a.acre.val (bits w 57 4) + bits w 53 4 → bits w 62 2 = 2 →
      ((s.acre a.ix).asks.all (·.unit != bits w 53 8) = true → bits w 53 4 < 8 → (s.engine e).want ≠ 0 →
        (s.engine e).want < 16 → s.hasLeave a.ix (bits w 53 8) (2 * laneCount (s.engine e).want) = true → ∃ t, Completes (.leaveGrant a item) s t ∧
          t.fld F.shfCtrlLaneEn e = s.fld F.shfCtrlLaneEn e ||| (s.engine e).want ∧ (t.engine e).want = 0 ∧ SameMemory s t) ∧
      (∀ q, (s.acre a.ix).asks.find? (·.unit == bits w 53 8) = some q → s.tick < (q.since + 8) / 1024 → Completes (.leaveGrant a item) s s))

/-- An acre that sleeps wakes within six ticks and then reads AWAKE. ENERGY_REPORT adds the energies to their counters; POWER_MANAGER_DECISION
adds the budgets to the buckets, less what was spent, and the next tick is fallow on the dies whose bucket, or with the module's below zero
on those awake, but for a die that carries a running group launch, which stalls the group at the tick after next instead (R449, R458–R462).
ACRE_CAP_WRITE: a cap below the acre's reservations is ignored and sets CAP_REFUSED; another one takes effect, at most 1,920, and changes
nothing in the ledger (R457). -/
def Obligations.PowerAndWake : Prop :=
  (∀ (a : AcreId) (s : State),
    (s.fld F.pwrAcreStateState a.ix ≠ 0 → Completes (.acreWake a) s s) ∧
    (s.fld F.pwrAcreStateState a.ix = 0 → s.dieLost (a.ix / 8) = false → ∃ t, Completes (.acreWake a) s t ∧ OnlyRegs s t ∧
      t.fld F.pwrAcreStateState a.ix = 1 ∧ t.fld F.pwrAcreStateWakeLeft a.ix = 6 ∧ SameRegsBut s t .pwrAcreState a.ix) ∧
    (s.fld F.pwrAcreStateState a.ix ≠ 1 ∨ s.fld F.pwrAcreStateWakeLeft a.ix ≠ 0 → Completes (.acreAwake a) s s) ∧
    (s.fld F.pwrAcreStateState a.ix = 1 → s.fld F.pwrAcreStateWakeLeft a.ix = 0 → ∃ t, Completes (.acreAwake a) s t ∧ OnlyRegs s t ∧
      t.fld F.pwrAcreStateState a.ix = 2 ∧ (t.fld F.pwrStatusAwake 0).testBit (a.ix / 8) = true) ∧
    (∀ dies input vin iin, s.cyc ≤ 1023 → ∃ t, Completes (.energyReport dies input vin iin) s t ∧ t.cyc = max s.cyc 900 ∧
      (∀ k, k < 8 → t.fld F.pwrEnergyEu k = (s.fld F.pwrEnergyEu k + (dies[k]?).getD 0) % 2 ^ 64) ∧
      t.fld F.pwrEnergyEu 8 = (s.fld F.pwrEnergyEu 8 + input) % 2 ^ 64 ∧ SameMemory s t ∧ t.ctxs = s.ctxs) ∧
    (∀ (temps : List Int) (new : Nat → Int) (spent : Bool), s.cyc ≤ 991 →
      new = (fun k => if k < 8 then s.bucket k (s.dieBudget ((temps[k]?).getD 0)) else s.bucket 8 (tickBudget (s.fld F.pwrCeilingWatts 0))) →
      spent = decide (new 8 < 0) → ∃ t, Completes (.powerManagerDecision temps) s t ∧ t.cyc = max s.cyc 960 ∧ SameMemory s t ∧ t.ctxs = s.ctxs ∧
        (∀ j, j < 9 → t.fld F.pwrBucketBucket j = unsign 32 (new j)) ∧
        (∀ k, k < 8 → (t.fld F.pwrStatusFallowNext 0).testBit k =
          ((decide (new k < 0) || (spent && (t.fld F.pwrStatusAwake 0).testBit k)) && !s.groupDies.contains k)) ∧
        t.fld F.pwrStatusModuleLimit 0 = (if spent then 1 else 0) ∧
        (∀ c l k, s.group.isSome → c ∈ s.groupRuns → s.launch c = some l → k < 8 → k ∈ l.homes → new k < 0 → t.fld F.pwrStatusGroupPower 0 = 1 ∧
          t.group.any (fun g => g.stalls.any fun x => x.tau == s.tau c + 2 && !x.late) = true))) ∧
  (∀ (a : AcreId) (v : BitVec 32) (s : State), ∃ t, Completes (.acreCapWrite a v) s t ∧ OnlyRegs s t ∧ SameRegsBut s t .pwrAcreCap a.ix ∧
    (min (v.toNat % 4096) 1920 < s.fld F.pwrAcreStateRes a.ix →
      t.fld F.pwrAcreCapCap a.ix = s.fld F.pwrAcreCapCap a.ix ∧ t.fld F.pwrAcreCapCapRefused a.ix = 1) ∧
    (s.fld F.pwrAcreStateRes a.ix ≤ min (v.toNat % 4096) 1920 → t.fld F.pwrAcreCapCap a.ix = min (v.toNat % 4096) 1920 ∧
      t.fld F.pwrAcreCapCapRefused a.ix = (if v.getLsbD 12 then 0 else s.fld F.pwrAcreCapCapRefused a.ix)))

/-- GEMM and GEMV of a descriptor in its form, for a launch that moves, on a tile that is enabled: the kernel asks the leave that it needs; with
it, the kernel is counted, its entry ends after the kernel's cycles, and no byte outside the stook's crib changes. A malformed one is a
host-made error, which touches nothing of others; a tile that does not accept it, or has carried it out, does nothing (R10, R11, R39, R169,
R170, R185, R201, R451). -/
def Obligations.Kernels : Prop :=
  ∀ x ∈ [((.gemm : StookId → CribAddr → Instr), 1), (.gemv, 2)], ∀ (st : StookId) (desc : CribAddr) (s : State) (q : Kernel) (k : Nat), k = st.ix →
    q = parseKernel (s.rdN (cribAt k desc.toNat) 64) →
    (s.actor k desc.toNat = none ∨ s.flag F.hrwCtrlEn k = false → Completes (x.1 st desc) s s) ∧
    (∀ c, s.actor k desc.toNat = some c → s.flag F.hrwCtrlEn k = true →
      (s.issues c k = false ∨ (s.runningOf k 2 desc.toNat).any (·.finishes.isSome) = true → Completes (x.1 st desc) s s) ∧
      (s.issues c k = true → (s.runningOf k 2 desc.toNat).any (·.finishes.isSome) = false →
        (q.formed x.2 = false → ∃ t, Completes (x.1 st desc) s t ∧ Erred s t c) ∧
        (q.formed x.2 = true → ∀ n, n = [(⟨k / 17, s.unitOf k 8, harrowLeave q.factor, q.time⟩ : Need)] →
          (∀ u, s.sends c n = some u → Completes (x.1 st desc) s u) ∧
          (∀ u, s.begins c n = some u → ∃ t, Completes (x.1 st desc) s t ∧
            t.fld F.hrwKernelsDone k = min (s.fld F.hrwKernelsDone k + 1) (2 ^ 32 - 1) ∧ SameBytes s t (cribAt k 0) (2 ^ 23) ∧
            t.ctxs = s.ctxs ∧ t.lanes = s.lanes ∧ t.gens = s.gens ∧
            (t.stook k).running = (s.stook k).running.map fun r => if r.station = 2 ∧ (s.entry k r.addr).payload = desc.toNat then
              { r with begun := some (s.logical c), finishes := some (s.logical c + q.time)
                       second := if q.secondPass (s.unitByte k c) then some (s.logical c + q.passTime) else none } else r))))

/-- TOKEN_STEP of a generator whose step is due asks the leave of its kernels; with it, it emits a token that its grammar state allows, or idle;
LAST holds it and the token number advances. At a token boundary GENERATOR_RESTART sets the counters and the grammar state back.
GENERATOR_INPUT_COPY in cycles 100–379 keeps the snapshot spins of the target lanes in the buffer, of which two are held. Operands out of
their form are a host-made error, which touches nothing of others; where the step is not due, or the launch is held, nothing happens (R10,
R11, R39, R170, R188–R196). -/
def Obligations.Generators : Prop :=
  ∀ (st : StookId) (s : State) (c k : Nat), k = st.ix → (s.gen k).ctx = some c →
    (∀ (layers : List (StookId × CribAddr)) (logits a z : CribAddr) (len : Nat),
      (s.stepDue k c = false ∨ (∃ x ∈ layers, s.flag F.hrwCtrlEn x.1.ix = false) → Completes (.tokenStep st layers logits a z len) s s) ∧
      (s.stepDue k c = true → (∀ x ∈ layers, s.flag F.hrwCtrlEn x.1.ix = true) →
        (s.stepFormed k layers logits.toNat a.toNat z.toNat len = false → ∃ t, Completes (.tokenStep st layers logits a z len) s t ∧ Erred s t c) ∧
        (s.stepFormed k layers logits.toNat a.toNat z.toNat len = true →
          (∀ u, s.sends c (s.stepNeeds layers) = some u → Completes (.tokenStep st layers logits a z len) s u) ∧
          (∀ u, s.begins c (s.stepNeeds layers) = some u → ∃ t v, Completes (.tokenStep st layers logits a z len) s t ∧
            (v = tokIdle ∨ s.allowed k v = true) ∧ t.fld F.hrwGenStateLast k = v % 2 ^ 11 ∧
            t.fld F.hrwGenStateN k = (s.fld F.hrwGenStateN k + 1) % 2 ^ 20 ∧ (t.gen k).stepped = some (s.stepPeriod k (s.tau c)))))) ∧
    (∀ (a z : CribAddr) (len : Nat) (due : Bool),
      due = (s.issues c k && s.flag F.hrwGenCtrlEn k && (s.tau c - s.fld F.hrwGenStartT0 k) % (max 1 (s.fld F.hrwGenCtrlPTok k) : Nat) == 0) →
      (due = false → Completes (.generatorRestart st a z len) s s) ∧
      (due = true → ¬ (a.toNat + len ≤ 2 ^ 23 ∧ z.toNat + len ≤ 2 ^ 23 ∧ len ≤ 262144) → ∃ t, Completes (.generatorRestart st a z len) s t ∧ Erred s t c) ∧
      (due = true → a.toNat + len ≤ 2 ^ 23 → z.toNat + len ≤ 2 ^ 23 → len ≤ 262144 → ∃ t, Completes (.generatorRestart st a z len) s t ∧
        t.fld F.hrwGenStateN k = 0 ∧ t.fld F.hrwGenStateTag k = 0 ∧ t.fld F.hrwGenStateLast k = tokIdle ∧
        t.fld F.hrwGenStateOpen k = 0 ∧ t.fld F.hrwGenStateDone k = 0 ∧ (t.gen k).positions = [] ∧
        SameBytes s t (cribAt k z.toNat) len)) ∧
    (∀ buf : CribAddr,
      (2 ^ 23 < buf.toNat + 128 * (s.targets k).length → ∃ t, Completes (.generatorInputCopy st buf) s t ∧ Erred s t c) ∧
      (buf.toNat + 128 * (s.targets k).length ≤ 2 ^ 23 →
        (379 < s.cyc → Completes (.generatorInputCopy st buf) s s) ∧
        (s.cyc ≤ 379 → (s.upTo 100).issues c k = false → Completes (.generatorInputCopy st buf) s (s.upTo 100)) ∧
        (s.cyc ≤ 379 → (s.upTo 100).issues c k = true → ∃ t rest, Completes (.generatorInputCopy st buf) s t ∧ t.cyc = max s.cyc 100 ∧ rest.length ≤ 1 ∧
          (t.gen k).input = rest ++ [(s.tau c, buf.toNat, 128 * (s.targets k).length)] ∧
          SameBytes s t (cribAt k buf.toNat) (128 * (s.targets k).length))))

/-- Every step keeps the block sound: the cycle-in-tick stays within its tick (R136), and the memory stays in its canonical form, so that equal
memories are equal data. -/
def Obligations.StepKeepsSound : Prop :=
  ∀ s t : State, Sound s → step s = .next t → Sound t

/-- After reset the block is sound, holds no command, and has neither a register away from its reset value nor a byte of memory written. -/
def Obligations.ResetIsSound : Prop :=
  Sound State.reset ∧ State.reset.pending = [] ∧ State.reset.mem = [] ∧ ∀ r i, State.reset.reg r i = Reg.reset r
end

