-- ==== Sys2Proof/Laws/State.lean ====
section
/-!
SUPPORT. What each update of the state leaves: one lemma per field, and per reading of the state, for every update of one field.
-/
namespace Sys2Proof.Machine

/-! ## setReg -/

@[simp] theorem State.setReg_pending (s : State) (r : Reg) (i : Nat) (v : Word) : (s.setReg r i v).pending = s.pending := rfl
@[simp] theorem State.setReg_staged (s : State) (r : Reg) (i : Nat) (v : Word) : (s.setReg r i v).staged = s.staged := rfl
@[simp] theorem State.setReg_mem (s : State) (r : Reg) (i : Nat) (v : Word) : (s.setReg r i v).mem = s.mem := rfl
@[simp] theorem State.setReg_poison (s : State) (r : Reg) (i : Nat) (v : Word) : (s.setReg r i v).poison = s.poison := rfl
@[simp] theorem State.setReg_latch (s : State) (r : Reg) (i : Nat) (v : Word) : (s.setReg r i v).latch = s.latch := rfl
@[simp] theorem State.setReg_cyc (s : State) (r : Reg) (i : Nat) (v : Word) : (s.setReg r i v).cyc = s.cyc := rfl
@[simp] theorem State.setReg_engines (s : State) (r : Reg) (i : Nat) (v : Word) : (s.setReg r i v).engines = s.engines := rfl
@[simp] theorem State.setReg_lanes (s : State) (r : Reg) (i : Nat) (v : Word) : (s.setReg r i v).lanes = s.lanes := rfl
@[simp] theorem State.setReg_stooks (s : State) (r : Reg) (i : Nat) (v : Word) : (s.setReg r i v).stooks = s.stooks := rfl
@[simp] theorem State.setReg_cores (s : State) (r : Reg) (i : Nat) (v : Word) : (s.setReg r i v).cores = s.cores := rfl
@[simp] theorem State.setReg_gens (s : State) (r : Reg) (i : Nat) (v : Word) : (s.setReg r i v).gens = s.gens := rfl
@[simp] theorem State.setReg_acres (s : State) (r : Reg) (i : Nat) (v : Word) : (s.setReg r i v).acres = s.acres := rfl
@[simp] theorem State.setReg_ctxs (s : State) (r : Reg) (i : Nat) (v : Word) : (s.setReg r i v).ctxs = s.ctxs := rfl
@[simp] theorem State.setReg_graphs (s : State) (r : Reg) (i : Nat) (v : Word) : (s.setReg r i v).graphs = s.graphs := rfl
@[simp] theorem State.setReg_streams (s : State) (r : Reg) (i : Nat) (v : Word) : (s.setReg r i v).streams = s.streams := rfl
@[simp] theorem State.setReg_reports (s : State) (r : Reg) (i : Nat) (v : Word) : (s.setReg r i v).reports = s.reports := rfl
@[simp] theorem State.setReg_announced (s : State) (r : Reg) (i : Nat) (v : Word) : (s.setReg r i v).announced = s.announced := rfl
@[simp] theorem State.setReg_chans (s : State) (r : Reg) (i : Nat) (v : Word) : (s.setReg r i v).chans = s.chans := rfl
@[simp] theorem State.setReg_parts (s : State) (r : Reg) (i : Nat) (v : Word) : (s.setReg r i v).parts = s.parts := rfl
@[simp] theorem State.setReg_answers (s : State) (r : Reg) (i : Nat) (v : Word) : (s.setReg r i v).answers = s.answers := rfl
@[simp] theorem State.setReg_pools (s : State) (r : Reg) (i : Nat) (v : Word) : (s.setReg r i v).pools = s.pools := rfl
@[simp] theorem State.setReg_slotTable (s : State) (r : Reg) (i : Nat) (v : Word) : (s.setReg r i v).slotTable = s.slotTable := rfl
@[simp] theorem State.setReg_outs (s : State) (r : Reg) (i : Nat) (v : Word) : (s.setReg r i v).outs = s.outs := rfl
@[simp] theorem State.setReg_carts (s : State) (r : Reg) (i : Nat) (v : Word) : (s.setReg r i v).carts = s.carts := rfl
@[simp] theorem State.setReg_cartAt (s : State) (r : Reg) (i : Nat) (v : Word) : (s.setReg r i v).cartAt = s.cartAt := rfl
@[simp] theorem State.setReg_releases (s : State) (r : Reg) (i : Nat) (v : Word) : (s.setReg r i v).releases = s.releases := rfl
@[simp] theorem State.setReg_stale (s : State) (r : Reg) (i : Nat) (v : Word) : (s.setReg r i v).stale = s.stale := rfl
@[simp] theorem State.setReg_eccHits (s : State) (r : Reg) (i : Nat) (v : Word) : (s.setReg r i v).eccHits = s.eccHits := rfl
@[simp] theorem State.setReg_capNext (s : State) (r : Reg) (i : Nat) (v : Word) : (s.setReg r i v).capNext = s.capNext := rfl
@[simp] theorem State.setReg_hangStart (s : State) (r : Reg) (i : Nat) (v : Word) : (s.setReg r i v).hangStart = s.hangStart := rfl
@[simp] theorem State.setReg_lostLinks (s : State) (r : Reg) (i : Nat) (v : Word) : (s.setReg r i v).lostLinks = s.lostLinks := rfl
@[simp] theorem State.setReg_wires (s : State) (r : Reg) (i : Nat) (v : Word) : (s.setReg r i v).wires = s.wires := rfl
@[simp] theorem State.setReg_barnLost (s : State) (r : Reg) (i : Nat) (v : Word) : (s.setReg r i v).barnLost = s.barnLost := rfl
@[simp] theorem State.setReg_standby (s : State) (r : Reg) (i : Nat) (v : Word) : (s.setReg r i v).standby = s.standby := rfl
@[simp] theorem State.setReg_standbyTick (s : State) (r : Reg) (i : Nat) (v : Word) : (s.setReg r i v).standbyTick = s.standbyTick := rfl
@[simp] theorem State.setReg_sendq (s : State) (r : Reg) (i : Nat) (v : Word) : (s.setReg r i v).sendq = s.sendq := rfl
@[simp] theorem State.setReg_sources (s : State) (r : Reg) (i : Nat) (v : Word) : (s.setReg r i v).sources = s.sources := rfl
@[simp] theorem State.setReg_entAsked (s : State) (r : Reg) (i : Nat) (v : Word) : (s.setReg r i v).entAsked = s.entAsked := rfl
@[simp] theorem State.setReg_keysFor (s : State) (r : Reg) (i : Nat) (v : Word) : (s.setReg r i v).keysFor = s.keysFor := rfl
@[simp] theorem State.setReg_entWaits (s : State) (r : Reg) (i : Nat) (v : Word) : (s.setReg r i v).entWaits = s.entWaits := rfl
@[simp] theorem State.setReg_rawNext (s : State) (r : Reg) (i : Nat) (v : Word) : (s.setReg r i v).rawNext = s.rawNext := rfl
@[simp] theorem State.setReg_fallow (s : State) (r : Reg) (i : Nat) (v : Word) : (s.setReg r i v).fallow = s.fallow := rfl
@[simp] theorem State.setReg_arrived (s : State) (r : Reg) (i : Nat) (v : Word) : (s.setReg r i v).arrived = s.arrived := rfl
@[simp] theorem State.setReg_temps (s : State) (r : Reg) (i : Nat) (v : Word) : (s.setReg r i v).temps = s.temps := rfl
@[simp] theorem State.setReg_energies (s : State) (r : Reg) (i : Nat) (v : Word) : (s.setReg r i v).energies = s.energies := rfl
@[simp] theorem State.setReg_captured (s : State) (r : Reg) (i : Nat) (v : Word) : (s.setReg r i v).captured = s.captured := rfl
@[simp] theorem State.setReg_ports (s : State) (r : Reg) (i : Nat) (v : Word) : (s.setReg r i v).ports = s.ports := rfl
@[simp] theorem State.setReg_group (s : State) (r : Reg) (i : Nat) (v : Word) : (s.setReg r i v).group = s.group := rfl
@[simp] theorem State.setReg_groupReport (s : State) (r : Reg) (i : Nat) (v : Word) : (s.setReg r i v).groupReport = s.groupReport := rfl
@[simp] theorem State.setReg_jobs (s : State) (r : Reg) (i : Nat) (v : Word) : (s.setReg r i v).jobs = s.jobs := rfl
@[simp] theorem State.setReg_powered (s : State) (r : Reg) (i : Nat) (v : Word) : (s.setReg r i v).powered = s.powered := rfl
@[simp] theorem State.setReg_refValid (s : State) (r : Reg) (i : Nat) (v : Word) : (s.setReg r i v).refValid = s.refValid := rfl
@[simp] theorem State.setReg_testEnN (s : State) (r : Reg) (i : Nat) (v : Word) : (s.setReg r i v).testEnN = s.testEnN := rfl
@[simp] theorem State.setReg_startWaits (s : State) (r : Reg) (i : Nat) (v : Word) : (s.setReg r i v).startWaits = s.startWaits := rfl
@[simp] theorem State.setReg_taps (s : State) (r : Reg) (i : Nat) (v : Word) : (s.setReg r i v).taps = s.taps := rfl
@[simp] theorem State.setReg_free (s : State) (r : Reg) (i : Nat) (v : Word) : (s.setReg r i v).free = s.free := rfl
@[simp] theorem State.setReg_get_rd (s : State) (r : Reg) (i : Nat) (v : Word) (x : Nat) : (s.setReg r i v).rd x = s.rd x := rfl
@[simp] theorem State.setReg_get_rdN (s : State) (r : Reg) (i : Nat) (v : Word) (x y : Nat) : (s.setReg r i v).rdN x y = s.rdN x y := rfl
@[simp] theorem State.setReg_get_rdNat (s : State) (r : Reg) (i : Nat) (v : Word) (x y : Nat) : (s.setReg r i v).rdNat x y = s.rdNat x y := rfl
@[simp] theorem State.setReg_get_poisoned (s : State) (r : Reg) (i : Nat) (v : Word) (x y : Nat) : (s.setReg r i v).poisoned x y = s.poisoned x y := rfl
@[simp] theorem State.setReg_get_engine (s : State) (r : Reg) (i : Nat) (v : Word) (x : Nat) : (s.setReg r i v).engine x = s.engine x := rfl
@[simp] theorem State.setReg_get_lane (s : State) (r : Reg) (i : Nat) (v : Word) (x : Nat) : (s.setReg r i v).lane x = s.lane x := rfl
@[simp] theorem State.setReg_get_stook (s : State) (r : Reg) (i : Nat) (v : Word) (x : Nat) : (s.setReg r i v).stook x = s.stook x := rfl
@[simp] theorem State.setReg_get_core (s : State) (r : Reg) (i : Nat) (v : Word) (x : Nat) : (s.setReg r i v).core x = s.core x := rfl
@[simp] theorem State.setReg_get_gen (s : State) (r : Reg) (i : Nat) (v : Word) (x : Nat) : (s.setReg r i v).gen x = s.gen x := rfl
@[simp] theorem State.setReg_get_acre (s : State) (r : Reg) (i : Nat) (v : Word) (x : Nat) : (s.setReg r i v).acre x = s.acre x := rfl
@[simp] theorem State.setReg_get_ctx (s : State) (r : Reg) (i : Nat) (v : Word) (x : Nat) : (s.setReg r i v).ctx x = s.ctx x := rfl
@[simp] theorem State.setReg_get_launch (s : State) (r : Reg) (i : Nat) (v : Word) (x : Nat) : (s.setReg r i v).launch x = s.launch x := rfl
@[simp] theorem State.setReg_get_graph (s : State) (r : Reg) (i : Nat) (v : Word) (x : Nat) : (s.setReg r i v).graph x = s.graph x := rfl
@[simp] theorem State.setReg_get_stream (s : State) (r : Reg) (i : Nat) (v : Word) (x : Nat) : (s.setReg r i v).stream x = s.stream x := rfl
@[simp] theorem State.setReg_get_chan (s : State) (r : Reg) (i : Nat) (v : Word) (x : Nat) : (s.setReg r i v).chan x = s.chan x := rfl
@[simp] theorem State.setReg_get_port (s : State) (r : Reg) (i : Nat) (v : Word) (x : Nat) : (s.setReg r i v).port x = s.port x := rfl

/-! ## setFld -/

@[simp] theorem State.setFld_pending (s : State) (f : Fld) (i v : Nat) : (s.setFld f i v).pending = s.pending := rfl
@[simp] theorem State.setFld_staged (s : State) (f : Fld) (i v : Nat) : (s.setFld f i v).staged = s.staged := rfl
@[simp] theorem State.setFld_mem (s : State) (f : Fld) (i v : Nat) : (s.setFld f i v).mem = s.mem := rfl
@[simp] theorem State.setFld_poison (s : State) (f : Fld) (i v : Nat) : (s.setFld f i v).poison = s.poison := rfl
@[simp] theorem State.setFld_latch (s : State) (f : Fld) (i v : Nat) : (s.setFld f i v).latch = s.latch := rfl
@[simp] theorem State.setFld_cyc (s : State) (f : Fld) (i v : Nat) : (s.setFld f i v).cyc = s.cyc := rfl
@[simp] theorem State.setFld_engines (s : State) (f : Fld) (i v : Nat) : (s.setFld f i v).engines = s.engines := rfl
@[simp] theorem State.setFld_lanes (s : State) (f : Fld) (i v : Nat) : (s.setFld f i v).lanes = s.lanes := rfl
@[simp] theorem State.setFld_stooks (s : State) (f : Fld) (i v : Nat) : (s.setFld f i v).stooks = s.stooks := rfl
@[simp] theorem State.setFld_cores (s : State) (f : Fld) (i v : Nat) : (s.setFld f i v).cores = s.cores := rfl
@[simp] theorem State.setFld_gens (s : State) (f : Fld) (i v : Nat) : (s.setFld f i v).gens = s.gens := rfl
@[simp] theorem State.setFld_acres (s : State) (f : Fld) (i v : Nat) : (s.setFld f i v).acres = s.acres := rfl
@[simp] theorem State.setFld_ctxs (s : State) (f : Fld) (i v : Nat) : (s.setFld f i v).ctxs = s.ctxs := rfl
@[simp] theorem State.setFld_graphs (s : State) (f : Fld) (i v : Nat) : (s.setFld f i v).graphs = s.graphs := rfl
@[simp] theorem State.setFld_streams (s : State) (f : Fld) (i v : Nat) : (s.setFld f i v).streams = s.streams := rfl
@[simp] theorem State.setFld_reports (s : State) (f : Fld) (i v : Nat) : (s.setFld f i v).reports = s.reports := rfl
@[simp] theorem State.setFld_announced (s : State) (f : Fld) (i v : Nat) : (s.setFld f i v).announced = s.announced := rfl
@[simp] theorem State.setFld_chans (s : State) (f : Fld) (i v : Nat) : (s.setFld f i v).chans = s.chans := rfl
@[simp] theorem State.setFld_parts (s : State) (f : Fld) (i v : Nat) : (s.setFld f i v).parts = s.parts := rfl
@[simp] theorem State.setFld_answers (s : State) (f : Fld) (i v : Nat) : (s.setFld f i v).answers = s.answers := rfl
@[simp] theorem State.setFld_pools (s : State) (f : Fld) (i v : Nat) : (s.setFld f i v).pools = s.pools := rfl
@[simp] theorem State.setFld_slotTable (s : State) (f : Fld) (i v : Nat) : (s.setFld f i v).slotTable = s.slotTable := rfl
@[simp] theorem State.setFld_outs (s : State) (f : Fld) (i v : Nat) : (s.setFld f i v).outs = s.outs := rfl
@[simp] theorem State.setFld_carts (s : State) (f : Fld) (i v : Nat) : (s.setFld f i v).carts = s.carts := rfl
@[simp] theorem State.setFld_cartAt (s : State) (f : Fld) (i v : Nat) : (s.setFld f i v).cartAt = s.cartAt := rfl
@[simp] theorem State.setFld_releases (s : State) (f : Fld) (i v : Nat) : (s.setFld f i v).releases = s.releases := rfl
@[simp] theorem State.setFld_stale (s : State) (f : Fld) (i v : Nat) : (s.setFld f i v).stale = s.stale := rfl
@[simp] theorem State.setFld_eccHits (s : State) (f : Fld) (i v : Nat) : (s.setFld f i v).eccHits = s.eccHits := rfl
@[simp] theorem State.setFld_capNext (s : State) (f : Fld) (i v : Nat) : (s.setFld f i v).capNext = s.capNext := rfl
@[simp] theorem State.setFld_hangStart (s : State) (f : Fld) (i v : Nat) : (s.setFld f i v).hangStart = s.hangStart := rfl
@[simp] theorem State.setFld_lostLinks (s : State) (f : Fld) (i v : Nat) : (s.setFld f i v).lostLinks = s.lostLinks := rfl
@[simp] theorem State.setFld_wires (s : State) (f : Fld) (i v : Nat) : (s.setFld f i v).wires = s.wires := rfl
@[simp] theorem State.setFld_barnLost (s : State) (f : Fld) (i v : Nat) : (s.setFld f i v).barnLost = s.barnLost := rfl
@[simp] theorem State.setFld_standby (s : State) (f : Fld) (i v : Nat) : (s.setFld f i v).standby = s.standby := rfl
@[simp] theorem State.setFld_standbyTick (s : State) (f : Fld) (i v : Nat) : (s.setFld f i v).standbyTick = s.standbyTick := rfl
@[simp] theorem State.setFld_sendq (s : State) (f : Fld) (i v : Nat) : (s.setFld f i v).sendq = s.sendq := rfl
@[simp] theorem State.setFld_sources (s : State) (f : Fld) (i v : Nat) : (s.setFld f i v).sources = s.sources := rfl
@[simp] theorem State.setFld_entAsked (s : State) (f : Fld) (i v : Nat) : (s.setFld f i v).entAsked = s.entAsked := rfl
@[simp] theorem State.setFld_keysFor (s : State) (f : Fld) (i v : Nat) : (s.setFld f i v).keysFor = s.keysFor := rfl
@[simp] theorem State.setFld_entWaits (s : State) (f : Fld) (i v : Nat) : (s.setFld f i v).entWaits = s.entWaits := rfl
@[simp] theorem State.setFld_rawNext (s : State) (f : Fld) (i v : Nat) : (s.setFld f i v).rawNext = s.rawNext := rfl
@[simp] theorem State.setFld_fallow (s : State) (f : Fld) (i v : Nat) : (s.setFld f i v).fallow = s.fallow := rfl
@[simp] theorem State.setFld_arrived (s : State) (f : Fld) (i v : Nat) : (s.setFld f i v).arrived = s.arrived := rfl
@[simp] theorem State.setFld_temps (s : State) (f : Fld) (i v : Nat) : (s.setFld f i v).temps = s.temps := rfl
@[simp] theorem State.setFld_energies (s : State) (f : Fld) (i v : Nat) : (s.setFld f i v).energies = s.energies := rfl
@[simp] theorem State.setFld_captured (s : State) (f : Fld) (i v : Nat) : (s.setFld f i v).captured = s.captured := rfl
@[simp] theorem State.setFld_ports (s : State) (f : Fld) (i v : Nat) : (s.setFld f i v).ports = s.ports := rfl
@[simp] theorem State.setFld_group (s : State) (f : Fld) (i v : Nat) : (s.setFld f i v).group = s.group := rfl
@[simp] theorem State.setFld_groupReport (s : State) (f : Fld) (i v : Nat) : (s.setFld f i v).groupReport = s.groupReport := rfl
@[simp] theorem State.setFld_jobs (s : State) (f : Fld) (i v : Nat) : (s.setFld f i v).jobs = s.jobs := rfl
@[simp] theorem State.setFld_powered (s : State) (f : Fld) (i v : Nat) : (s.setFld f i v).powered = s.powered := rfl
@[simp] theorem State.setFld_refValid (s : State) (f : Fld) (i v : Nat) : (s.setFld f i v).refValid = s.refValid := rfl
@[simp] theorem State.setFld_testEnN (s : State) (f : Fld) (i v : Nat) : (s.setFld f i v).testEnN = s.testEnN := rfl
@[simp] theorem State.setFld_startWaits (s : State) (f : Fld) (i v : Nat) : (s.setFld f i v).startWaits = s.startWaits := rfl
@[simp] theorem State.setFld_taps (s : State) (f : Fld) (i v : Nat) : (s.setFld f i v).taps = s.taps := rfl
@[simp] theorem State.setFld_free (s : State) (f : Fld) (i v : Nat) : (s.setFld f i v).free = s.free := rfl
@[simp] theorem State.setFld_get_rd (s : State) (f : Fld) (i v : Nat) (x : Nat) : (s.setFld f i v).rd x = s.rd x := rfl
@[simp] theorem State.setFld_get_rdN (s : State) (f : Fld) (i v : Nat) (x y : Nat) : (s.setFld f i v).rdN x y = s.rdN x y := rfl
@[simp] theorem State.setFld_get_rdNat (s : State) (f : Fld) (i v : Nat) (x y : Nat) : (s.setFld f i v).rdNat x y = s.rdNat x y := rfl
@[simp] theorem State.setFld_get_poisoned (s : State) (f : Fld) (i v : Nat) (x y : Nat) : (s.setFld f i v).poisoned x y = s.poisoned x y := rfl
@[simp] theorem State.setFld_get_engine (s : State) (f : Fld) (i v : Nat) (x : Nat) : (s.setFld f i v).engine x = s.engine x := rfl
@[simp] theorem State.setFld_get_lane (s : State) (f : Fld) (i v : Nat) (x : Nat) : (s.setFld f i v).lane x = s.lane x := rfl
@[simp] theorem State.setFld_get_stook (s : State) (f : Fld) (i v : Nat) (x : Nat) : (s.setFld f i v).stook x = s.stook x := rfl
@[simp] theorem State.setFld_get_core (s : State) (f : Fld) (i v : Nat) (x : Nat) : (s.setFld f i v).core x = s.core x := rfl
@[simp] theorem State.setFld_get_gen (s : State) (f : Fld) (i v : Nat) (x : Nat) : (s.setFld f i v).gen x = s.gen x := rfl
@[simp] theorem State.setFld_get_acre (s : State) (f : Fld) (i v : Nat) (x : Nat) : (s.setFld f i v).acre x = s.acre x := rfl
@[simp] theorem State.setFld_get_ctx (s : State) (f : Fld) (i v : Nat) (x : Nat) : (s.setFld f i v).ctx x = s.ctx x := rfl
@[simp] theorem State.setFld_get_launch (s : State) (f : Fld) (i v : Nat) (x : Nat) : (s.setFld f i v).launch x = s.launch x := rfl
@[simp] theorem State.setFld_get_graph (s : State) (f : Fld) (i v : Nat) (x : Nat) : (s.setFld f i v).graph x = s.graph x := rfl
@[simp] theorem State.setFld_get_stream (s : State) (f : Fld) (i v : Nat) (x : Nat) : (s.setFld f i v).stream x = s.stream x := rfl
@[simp] theorem State.setFld_get_chan (s : State) (f : Fld) (i v : Nat) (x : Nat) : (s.setFld f i v).chan x = s.chan x := rfl
@[simp] theorem State.setFld_get_port (s : State) (f : Fld) (i v : Nat) (x : Nat) : (s.setFld f i v).port x = s.port x := rfl

/-! ## wrN -/

@[simp] theorem State.wrN_pending (s : State) (a : Nat) (v : List Byte) : (s.wrN a v).pending = s.pending := rfl
@[simp] theorem State.wrN_regs (s : State) (a : Nat) (v : List Byte) : (s.wrN a v).regs = s.regs := rfl
@[simp] theorem State.wrN_staged (s : State) (a : Nat) (v : List Byte) : (s.wrN a v).staged = s.staged := rfl
@[simp] theorem State.wrN_poison (s : State) (a : Nat) (v : List Byte) : (s.wrN a v).poison = s.poison := rfl
@[simp] theorem State.wrN_latch (s : State) (a : Nat) (v : List Byte) : (s.wrN a v).latch = s.latch := rfl
@[simp] theorem State.wrN_cyc (s : State) (a : Nat) (v : List Byte) : (s.wrN a v).cyc = s.cyc := rfl
@[simp] theorem State.wrN_engines (s : State) (a : Nat) (v : List Byte) : (s.wrN a v).engines = s.engines := rfl
@[simp] theorem State.wrN_lanes (s : State) (a : Nat) (v : List Byte) : (s.wrN a v).lanes = s.lanes := rfl
@[simp] theorem State.wrN_stooks (s : State) (a : Nat) (v : List Byte) : (s.wrN a v).stooks = s.stooks := rfl
@[simp] theorem State.wrN_cores (s : State) (a : Nat) (v : List Byte) : (s.wrN a v).cores = s.cores := rfl
@[simp] theorem State.wrN_gens (s : State) (a : Nat) (v : List Byte) : (s.wrN a v).gens = s.gens := rfl
@[simp] theorem State.wrN_acres (s : State) (a : Nat) (v : List Byte) : (s.wrN a v).acres = s.acres := rfl
@[simp] theorem State.wrN_ctxs (s : State) (a : Nat) (v : List Byte) : (s.wrN a v).ctxs = s.ctxs := rfl
@[simp] theorem State.wrN_graphs (s : State) (a : Nat) (v : List Byte) : (s.wrN a v).graphs = s.graphs := rfl
@[simp] theorem State.wrN_streams (s : State) (a : Nat) (v : List Byte) : (s.wrN a v).streams = s.streams := rfl
@[simp] theorem State.wrN_reports (s : State) (a : Nat) (v : List Byte) : (s.wrN a v).reports = s.reports := rfl
@[simp] theorem State.wrN_announced (s : State) (a : Nat) (v : List Byte) : (s.wrN a v).announced = s.announced := rfl
@[simp] theorem State.wrN_chans (s : State) (a : Nat) (v : List Byte) : (s.wrN a v).chans = s.chans := rfl
@[simp] theorem State.wrN_parts (s : State) (a : Nat) (v : List Byte) : (s.wrN a v).parts = s.parts := rfl
@[simp] theorem State.wrN_answers (s : State) (a : Nat) (v : List Byte) : (s.wrN a v).answers = s.answers := rfl
@[simp] theorem State.wrN_pools (s : State) (a : Nat) (v : List Byte) : (s.wrN a v).pools = s.pools := rfl
@[simp] theorem State.wrN_slotTable (s : State) (a : Nat) (v : List Byte) : (s.wrN a v).slotTable = s.slotTable := rfl
@[simp] theorem State.wrN_outs (s : State) (a : Nat) (v : List Byte) : (s.wrN a v).outs = s.outs := rfl
@[simp] theorem State.wrN_carts (s : State) (a : Nat) (v : List Byte) : (s.wrN a v).carts = s.carts := rfl
@[simp] theorem State.wrN_cartAt (s : State) (a : Nat) (v : List Byte) : (s.wrN a v).cartAt = s.cartAt := rfl
@[simp] theorem State.wrN_releases (s : State) (a : Nat) (v : List Byte) : (s.wrN a v).releases = s.releases := rfl
@[simp] theorem State.wrN_stale (s : State) (a : Nat) (v : List Byte) : (s.wrN a v).stale = s.stale := rfl
@[simp] theorem State.wrN_eccHits (s : State) (a : Nat) (v : List Byte) : (s.wrN a v).eccHits = s.eccHits := rfl
@[simp] theorem State.wrN_capNext (s : State) (a : Nat) (v : List Byte) : (s.wrN a v).capNext = s.capNext := rfl
@[simp] theorem State.wrN_hangStart (s : State) (a : Nat) (v : List Byte) : (s.wrN a v).hangStart = s.hangStart := rfl
@[simp] theorem State.wrN_lostLinks (s : State) (a : Nat) (v : List Byte) : (s.wrN a v).lostLinks = s.lostLinks := rfl
@[simp] theorem State.wrN_wires (s : State) (a : Nat) (v : List Byte) : (s.wrN a v).wires = s.wires := rfl
@[simp] theorem State.wrN_barnLost (s : State) (a : Nat) (v : List Byte) : (s.wrN a v).barnLost = s.barnLost := rfl
@[simp] theorem State.wrN_standby (s : State) (a : Nat) (v : List Byte) : (s.wrN a v).standby = s.standby := rfl
@[simp] theorem State.wrN_standbyTick (s : State) (a : Nat) (v : List Byte) : (s.wrN a v).standbyTick = s.standbyTick := rfl
@[simp] theorem State.wrN_sendq (s : State) (a : Nat) (v : List Byte) : (s.wrN a v).sendq = s.sendq := rfl
@[simp] theorem State.wrN_sources (s : State) (a : Nat) (v : List Byte) : (s.wrN a v).sources = s.sources := rfl
@[simp] theorem State.wrN_entAsked (s : State) (a : Nat) (v : List Byte) : (s.wrN a v).entAsked = s.entAsked := rfl
@[simp] theorem State.wrN_keysFor (s : State) (a : Nat) (v : List Byte) : (s.wrN a v).keysFor = s.keysFor := rfl
@[simp] theorem State.wrN_entWaits (s : State) (a : Nat) (v : List Byte) : (s.wrN a v).entWaits = s.entWaits := rfl
@[simp] theorem State.wrN_rawNext (s : State) (a : Nat) (v : List Byte) : (s.wrN a v).rawNext = s.rawNext := rfl
@[simp] theorem State.wrN_fallow (s : State) (a : Nat) (v : List Byte) : (s.wrN a v).fallow = s.fallow := rfl
@[simp] theorem State.wrN_arrived (s : State) (a : Nat) (v : List Byte) : (s.wrN a v).arrived = s.arrived := rfl
@[simp] theorem State.wrN_temps (s : State) (a : Nat) (v : List Byte) : (s.wrN a v).temps = s.temps := rfl
@[simp] theorem State.wrN_energies (s : State) (a : Nat) (v : List Byte) : (s.wrN a v).energies = s.energies := rfl
@[simp] theorem State.wrN_captured (s : State) (a : Nat) (v : List Byte) : (s.wrN a v).captured = s.captured := rfl
@[simp] theorem State.wrN_ports (s : State) (a : Nat) (v : List Byte) : (s.wrN a v).ports = s.ports := rfl
@[simp] theorem State.wrN_group (s : State) (a : Nat) (v : List Byte) : (s.wrN a v).group = s.group := rfl
@[simp] theorem State.wrN_groupReport (s : State) (a : Nat) (v : List Byte) : (s.wrN a v).groupReport = s.groupReport := rfl
@[simp] theorem State.wrN_jobs (s : State) (a : Nat) (v : List Byte) : (s.wrN a v).jobs = s.jobs := rfl
@[simp] theorem State.wrN_powered (s : State) (a : Nat) (v : List Byte) : (s.wrN a v).powered = s.powered := rfl
@[simp] theorem State.wrN_refValid (s : State) (a : Nat) (v : List Byte) : (s.wrN a v).refValid = s.refValid := rfl
@[simp] theorem State.wrN_testEnN (s : State) (a : Nat) (v : List Byte) : (s.wrN a v).testEnN = s.testEnN := rfl
@[simp] theorem State.wrN_startWaits (s : State) (a : Nat) (v : List Byte) : (s.wrN a v).startWaits = s.startWaits := rfl
@[simp] theorem State.wrN_taps (s : State) (a : Nat) (v : List Byte) : (s.wrN a v).taps = s.taps := rfl
@[simp] theorem State.wrN_free (s : State) (a : Nat) (v : List Byte) : (s.wrN a v).free = s.free := rfl
@[simp] theorem State.wrN_get_reg (s : State) (a : Nat) (v : List Byte) (q : Reg) (j : Nat) : (s.wrN a v).reg q j = s.reg q j := rfl
@[simp] theorem State.wrN_get_fld (s : State) (a : Nat) (v : List Byte) (g : Fld) (j : Nat) : (s.wrN a v).fld g j = s.fld g j := rfl
@[simp] theorem State.wrN_get_flag (s : State) (a : Nat) (v : List Byte) (g : Fld) (j : Nat) : (s.wrN a v).flag g j = s.flag g j := rfl
@[simp] theorem State.wrN_get_sfld (s : State) (a : Nat) (v : List Byte) (g : Fld) (j : Nat) : (s.wrN a v).sfld g j = s.sfld g j := rfl
@[simp] theorem State.wrN_get_poisoned (s : State) (a : Nat) (v : List Byte) (x y : Nat) : (s.wrN a v).poisoned x y = s.poisoned x y := rfl
@[simp] theorem State.wrN_get_engine (s : State) (a : Nat) (v : List Byte) (x : Nat) : (s.wrN a v).engine x = s.engine x := rfl
@[simp] theorem State.wrN_get_lane (s : State) (a : Nat) (v : List Byte) (x : Nat) : (s.wrN a v).lane x = s.lane x := rfl
@[simp] theorem State.wrN_get_stook (s : State) (a : Nat) (v : List Byte) (x : Nat) : (s.wrN a v).stook x = s.stook x := rfl
@[simp] theorem State.wrN_get_core (s : State) (a : Nat) (v : List Byte) (x : Nat) : (s.wrN a v).core x = s.core x := rfl
@[simp] theorem State.wrN_get_gen (s : State) (a : Nat) (v : List Byte) (x : Nat) : (s.wrN a v).gen x = s.gen x := rfl
@[simp] theorem State.wrN_get_acre (s : State) (a : Nat) (v : List Byte) (x : Nat) : (s.wrN a v).acre x = s.acre x := rfl
@[simp] theorem State.wrN_get_ctx (s : State) (a : Nat) (v : List Byte) (x : Nat) : (s.wrN a v).ctx x = s.ctx x := rfl
@[simp] theorem State.wrN_get_launch (s : State) (a : Nat) (v : List Byte) (x : Nat) : (s.wrN a v).launch x = s.launch x := rfl
@[simp] theorem State.wrN_get_graph (s : State) (a : Nat) (v : List Byte) (x : Nat) : (s.wrN a v).graph x = s.graph x := rfl
@[simp] theorem State.wrN_get_stream (s : State) (a : Nat) (v : List Byte) (x : Nat) : (s.wrN a v).stream x = s.stream x := rfl
@[simp] theorem State.wrN_get_chan (s : State) (a : Nat) (v : List Byte) (x : Nat) : (s.wrN a v).chan x = s.chan x := rfl
@[simp] theorem State.wrN_get_port (s : State) (a : Nat) (v : List Byte) (x : Nat) : (s.wrN a v).port x = s.port x := rfl
@[simp] theorem State.wrN_get_tick (s : State) (a : Nat) (v : List Byte) : (s.wrN a v).tick = s.tick := rfl

/-! ## tag -/

@[simp] theorem State.tag_pending (s : State) (a n : Nat) (p : Bool) : (s.tag a n p).pending = s.pending := rfl
@[simp] theorem State.tag_regs (s : State) (a n : Nat) (p : Bool) : (s.tag a n p).regs = s.regs := rfl
@[simp] theorem State.tag_staged (s : State) (a n : Nat) (p : Bool) : (s.tag a n p).staged = s.staged := rfl
@[simp] theorem State.tag_mem (s : State) (a n : Nat) (p : Bool) : (s.tag a n p).mem = s.mem := rfl
@[simp] theorem State.tag_latch (s : State) (a n : Nat) (p : Bool) : (s.tag a n p).latch = s.latch := rfl
@[simp] theorem State.tag_cyc (s : State) (a n : Nat) (p : Bool) : (s.tag a n p).cyc = s.cyc := rfl
@[simp] theorem State.tag_engines (s : State) (a n : Nat) (p : Bool) : (s.tag a n p).engines = s.engines := rfl
@[simp] theorem State.tag_lanes (s : State) (a n : Nat) (p : Bool) : (s.tag a n p).lanes = s.lanes := rfl
@[simp] theorem State.tag_stooks (s : State) (a n : Nat) (p : Bool) : (s.tag a n p).stooks = s.stooks := rfl
@[simp] theorem State.tag_cores (s : State) (a n : Nat) (p : Bool) : (s.tag a n p).cores = s.cores := rfl
@[simp] theorem State.tag_gens (s : State) (a n : Nat) (p : Bool) : (s.tag a n p).gens = s.gens := rfl
@[simp] theorem State.tag_acres (s : State) (a n : Nat) (p : Bool) : (s.tag a n p).acres = s.acres := rfl
@[simp] theorem State.tag_ctxs (s : State) (a n : Nat) (p : Bool) : (s.tag a n p).ctxs = s.ctxs := rfl
@[simp] theorem State.tag_graphs (s : State) (a n : Nat) (p : Bool) : (s.tag a n p).graphs = s.graphs := rfl
@[simp] theorem State.tag_streams (s : State) (a n : Nat) (p : Bool) : (s.tag a n p).streams = s.streams := rfl
@[simp] theorem State.tag_reports (s : State) (a n : Nat) (p : Bool) : (s.tag a n p).reports = s.reports := rfl
@[simp] theorem State.tag_announced (s : State) (a n : Nat) (p : Bool) : (s.tag a n p).announced = s.announced := rfl
@[simp] theorem State.tag_chans (s : State) (a n : Nat) (p : Bool) : (s.tag a n p).chans = s.chans := rfl
@[simp] theorem State.tag_parts (s : State) (a n : Nat) (p : Bool) : (s.tag a n p).parts = s.parts := rfl
@[simp] theorem State.tag_answers (s : State) (a n : Nat) (p : Bool) : (s.tag a n p).answers = s.answers := rfl
@[simp] theorem State.tag_pools (s : State) (a n : Nat) (p : Bool) : (s.tag a n p).pools = s.pools := rfl
@[simp] theorem State.tag_slotTable (s : State) (a n : Nat) (p : Bool) : (s.tag a n p).slotTable = s.slotTable := rfl
@[simp] theorem State.tag_outs (s : State) (a n : Nat) (p : Bool) : (s.tag a n p).outs = s.outs := rfl
@[simp] theorem State.tag_carts (s : State) (a n : Nat) (p : Bool) : (s.tag a n p).carts = s.carts := rfl
@[simp] theorem State.tag_cartAt (s : State) (a n : Nat) (p : Bool) : (s.tag a n p).cartAt = s.cartAt := rfl
@[simp] theorem State.tag_releases (s : State) (a n : Nat) (p : Bool) : (s.tag a n p).releases = s.releases := rfl
@[simp] theorem State.tag_stale (s : State) (a n : Nat) (p : Bool) : (s.tag a n p).stale = s.stale := rfl
@[simp] theorem State.tag_eccHits (s : State) (a n : Nat) (p : Bool) : (s.tag a n p).eccHits = s.eccHits := rfl
@[simp] theorem State.tag_capNext (s : State) (a n : Nat) (p : Bool) : (s.tag a n p).capNext = s.capNext := rfl
@[simp] theorem State.tag_hangStart (s : State) (a n : Nat) (p : Bool) : (s.tag a n p).hangStart = s.hangStart := rfl
@[simp] theorem State.tag_lostLinks (s : State) (a n : Nat) (p : Bool) : (s.tag a n p).lostLinks = s.lostLinks := rfl
@[simp] theorem State.tag_wires (s : State) (a n : Nat) (p : Bool) : (s.tag a n p).wires = s.wires := rfl
@[simp] theorem State.tag_barnLost (s : State) (a n : Nat) (p : Bool) : (s.tag a n p).barnLost = s.barnLost := rfl
@[simp] theorem State.tag_standby (s : State) (a n : Nat) (p : Bool) : (s.tag a n p).standby = s.standby := rfl
@[simp] theorem State.tag_standbyTick (s : State) (a n : Nat) (p : Bool) : (s.tag a n p).standbyTick = s.standbyTick := rfl
@[simp] theorem State.tag_sendq (s : State) (a n : Nat) (p : Bool) : (s.tag a n p).sendq = s.sendq := rfl
@[simp] theorem State.tag_sources (s : State) (a n : Nat) (p : Bool) : (s.tag a n p).sources = s.sources := rfl
@[simp] theorem State.tag_entAsked (s : State) (a n : Nat) (p : Bool) : (s.tag a n p).entAsked = s.entAsked := rfl
@[simp] theorem State.tag_keysFor (s : State) (a n : Nat) (p : Bool) : (s.tag a n p).keysFor = s.keysFor := rfl
@[simp] theorem State.tag_entWaits (s : State) (a n : Nat) (p : Bool) : (s.tag a n p).entWaits = s.entWaits := rfl
@[simp] theorem State.tag_rawNext (s : State) (a n : Nat) (p : Bool) : (s.tag a n p).rawNext = s.rawNext := rfl
@[simp] theorem State.tag_fallow (s : State) (a n : Nat) (p : Bool) : (s.tag a n p).fallow = s.fallow := rfl
@[simp] theorem State.tag_arrived (s : State) (a n : Nat) (p : Bool) : (s.tag a n p).arrived = s.arrived := rfl
@[simp] theorem State.tag_temps (s : State) (a n : Nat) (p : Bool) : (s.tag a n p).temps = s.temps := rfl
@[simp] theorem State.tag_energies (s : State) (a n : Nat) (p : Bool) : (s.tag a n p).energies = s.energies := rfl
@[simp] theorem State.tag_captured (s : State) (a n : Nat) (p : Bool) : (s.tag a n p).captured = s.captured := rfl
@[simp] theorem State.tag_ports (s : State) (a n : Nat) (p : Bool) : (s.tag a n p).ports = s.ports := rfl
@[simp] theorem State.tag_group (s : State) (a n : Nat) (p : Bool) : (s.tag a n p).group = s.group := rfl
@[simp] theorem State.tag_groupReport (s : State) (a n : Nat) (p : Bool) : (s.tag a n p).groupReport = s.groupReport := rfl
@[simp] theorem State.tag_jobs (s : State) (a n : Nat) (p : Bool) : (s.tag a n p).jobs = s.jobs := rfl
@[simp] theorem State.tag_powered (s : State) (a n : Nat) (p : Bool) : (s.tag a n p).powered = s.powered := rfl
@[simp] theorem State.tag_refValid (s : State) (a n : Nat) (p : Bool) : (s.tag a n p).refValid = s.refValid := rfl
@[simp] theorem State.tag_testEnN (s : State) (a n : Nat) (p : Bool) : (s.tag a n p).testEnN = s.testEnN := rfl
@[simp] theorem State.tag_startWaits (s : State) (a n : Nat) (p : Bool) : (s.tag a n p).startWaits = s.startWaits := rfl
@[simp] theorem State.tag_taps (s : State) (a n : Nat) (p : Bool) : (s.tag a n p).taps = s.taps := rfl
@[simp] theorem State.tag_free (s : State) (a n : Nat) (p : Bool) : (s.tag a n p).free = s.free := rfl
@[simp] theorem State.tag_get_reg (s : State) (a n : Nat) (p : Bool) (q : Reg) (j : Nat) : (s.tag a n p).reg q j = s.reg q j := rfl
@[simp] theorem State.tag_get_fld (s : State) (a n : Nat) (p : Bool) (g : Fld) (j : Nat) : (s.tag a n p).fld g j = s.fld g j := rfl
@[simp] theorem State.tag_get_flag (s : State) (a n : Nat) (p : Bool) (g : Fld) (j : Nat) : (s.tag a n p).flag g j = s.flag g j := rfl
@[simp] theorem State.tag_get_sfld (s : State) (a n : Nat) (p : Bool) (g : Fld) (j : Nat) : (s.tag a n p).sfld g j = s.sfld g j := rfl
@[simp] theorem State.tag_get_rd (s : State) (a n : Nat) (p : Bool) (x : Nat) : (s.tag a n p).rd x = s.rd x := rfl
@[simp] theorem State.tag_get_rdN (s : State) (a n : Nat) (p : Bool) (x y : Nat) : (s.tag a n p).rdN x y = s.rdN x y := rfl
@[simp] theorem State.tag_get_rdNat (s : State) (a n : Nat) (p : Bool) (x y : Nat) : (s.tag a n p).rdNat x y = s.rdNat x y := rfl
@[simp] theorem State.tag_get_engine (s : State) (a n : Nat) (p : Bool) (x : Nat) : (s.tag a n p).engine x = s.engine x := rfl
@[simp] theorem State.tag_get_lane (s : State) (a n : Nat) (p : Bool) (x : Nat) : (s.tag a n p).lane x = s.lane x := rfl
@[simp] theorem State.tag_get_stook (s : State) (a n : Nat) (p : Bool) (x : Nat) : (s.tag a n p).stook x = s.stook x := rfl
@[simp] theorem State.tag_get_core (s : State) (a n : Nat) (p : Bool) (x : Nat) : (s.tag a n p).core x = s.core x := rfl
@[simp] theorem State.tag_get_gen (s : State) (a n : Nat) (p : Bool) (x : Nat) : (s.tag a n p).gen x = s.gen x := rfl
@[simp] theorem State.tag_get_acre (s : State) (a n : Nat) (p : Bool) (x : Nat) : (s.tag a n p).acre x = s.acre x := rfl
@[simp] theorem State.tag_get_ctx (s : State) (a n : Nat) (p : Bool) (x : Nat) : (s.tag a n p).ctx x = s.ctx x := rfl
@[simp] theorem State.tag_get_launch (s : State) (a n : Nat) (p : Bool) (x : Nat) : (s.tag a n p).launch x = s.launch x := rfl
@[simp] theorem State.tag_get_graph (s : State) (a n : Nat) (p : Bool) (x : Nat) : (s.tag a n p).graph x = s.graph x := rfl
@[simp] theorem State.tag_get_stream (s : State) (a n : Nat) (p : Bool) (x : Nat) : (s.tag a n p).stream x = s.stream x := rfl
@[simp] theorem State.tag_get_chan (s : State) (a n : Nat) (p : Bool) (x : Nat) : (s.tag a n p).chan x = s.chan x := rfl
@[simp] theorem State.tag_get_port (s : State) (a n : Nat) (p : Bool) (x : Nat) : (s.tag a n p).port x = s.port x := rfl
@[simp] theorem State.tag_get_tick (s : State) (a n : Nat) (p : Bool) : (s.tag a n p).tick = s.tick := rfl

/-! ## setEngine -/

@[simp] theorem State.setEngine_pending (s : State) (n : Nat) (v : Engine) : (s.setEngine n v).pending = s.pending := rfl
@[simp] theorem State.setEngine_regs (s : State) (n : Nat) (v : Engine) : (s.setEngine n v).regs = s.regs := rfl
@[simp] theorem State.setEngine_staged (s : State) (n : Nat) (v : Engine) : (s.setEngine n v).staged = s.staged := rfl
@[simp] theorem State.setEngine_mem (s : State) (n : Nat) (v : Engine) : (s.setEngine n v).mem = s.mem := rfl
@[simp] theorem State.setEngine_poison (s : State) (n : Nat) (v : Engine) : (s.setEngine n v).poison = s.poison := rfl
@[simp] theorem State.setEngine_latch (s : State) (n : Nat) (v : Engine) : (s.setEngine n v).latch = s.latch := rfl
@[simp] theorem State.setEngine_cyc (s : State) (n : Nat) (v : Engine) : (s.setEngine n v).cyc = s.cyc := rfl
@[simp] theorem State.setEngine_lanes (s : State) (n : Nat) (v : Engine) : (s.setEngine n v).lanes = s.lanes := rfl
@[simp] theorem State.setEngine_stooks (s : State) (n : Nat) (v : Engine) : (s.setEngine n v).stooks = s.stooks := rfl
@[simp] theorem State.setEngine_cores (s : State) (n : Nat) (v : Engine) : (s.setEngine n v).cores = s.cores := rfl
@[simp] theorem State.setEngine_gens (s : State) (n : Nat) (v : Engine) : (s.setEngine n v).gens = s.gens := rfl
@[simp] theorem State.setEngine_acres (s : State) (n : Nat) (v : Engine) : (s.setEngine n v).acres = s.acres := rfl
@[simp] theorem State.setEngine_ctxs (s : State) (n : Nat) (v : Engine) : (s.setEngine n v).ctxs = s.ctxs := rfl
@[simp] theorem State.setEngine_graphs (s : State) (n : Nat) (v : Engine) : (s.setEngine n v).graphs = s.graphs := rfl
@[simp] theorem State.setEngine_streams (s : State) (n : Nat) (v : Engine) : (s.setEngine n v).streams = s.streams := rfl
@[simp] theorem State.setEngine_reports (s : State) (n : Nat) (v : Engine) : (s.setEngine n v).reports = s.reports := rfl
@[simp] theorem State.setEngine_announced (s : State) (n : Nat) (v : Engine) : (s.setEngine n v).announced = s.announced := rfl
@[simp] theorem State.setEngine_chans (s : State) (n : Nat) (v : Engine) : (s.setEngine n v).chans = s.chans := rfl
@[simp] theorem State.setEngine_parts (s : State) (n : Nat) (v : Engine) : (s.setEngine n v).parts = s.parts := rfl
@[simp] theorem State.setEngine_answers (s : State) (n : Nat) (v : Engine) : (s.setEngine n v).answers = s.answers := rfl
@[simp] theorem State.setEngine_pools (s : State) (n : Nat) (v : Engine) : (s.setEngine n v).pools = s.pools := rfl
@[simp] theorem State.setEngine_slotTable (s : State) (n : Nat) (v : Engine) : (s.setEngine n v).slotTable = s.slotTable := rfl
@[simp] theorem State.setEngine_outs (s : State) (n : Nat) (v : Engine) : (s.setEngine n v).outs = s.outs := rfl
@[simp] theorem State.setEngine_carts (s : State) (n : Nat) (v : Engine) : (s.setEngine n v).carts = s.carts := rfl
@[simp] theorem State.setEngine_cartAt (s : State) (n : Nat) (v : Engine) : (s.setEngine n v).cartAt = s.cartAt := rfl
@[simp] theorem State.setEngine_releases (s : State) (n : Nat) (v : Engine) : (s.setEngine n v).releases = s.releases := rfl
@[simp] theorem State.setEngine_stale (s : State) (n : Nat) (v : Engine) : (s.setEngine n v).stale = s.stale := rfl
@[simp] theorem State.setEngine_eccHits (s : State) (n : Nat) (v : Engine) : (s.setEngine n v).eccHits = s.eccHits := rfl
@[simp] theorem State.setEngine_capNext (s : State) (n : Nat) (v : Engine) : (s.setEngine n v).capNext = s.capNext := rfl
@[simp] theorem State.setEngine_hangStart (s : State) (n : Nat) (v : Engine) : (s.setEngine n v).hangStart = s.hangStart := rfl
@[simp] theorem State.setEngine_lostLinks (s : State) (n : Nat) (v : Engine) : (s.setEngine n v).lostLinks = s.lostLinks := rfl
@[simp] theorem State.setEngine_wires (s : State) (n : Nat) (v : Engine) : (s.setEngine n v).wires = s.wires := rfl
@[simp] theorem State.setEngine_barnLost (s : State) (n : Nat) (v : Engine) : (s.setEngine n v).barnLost = s.barnLost := rfl
@[simp] theorem State.setEngine_standby (s : State) (n : Nat) (v : Engine) : (s.setEngine n v).standby = s.standby := rfl
@[simp] theorem State.setEngine_standbyTick (s : State) (n : Nat) (v : Engine) : (s.setEngine n v).standbyTick = s.standbyTick := rfl
@[simp] theorem State.setEngine_sendq (s : State) (n : Nat) (v : Engine) : (s.setEngine n v).sendq = s.sendq := rfl
@[simp] theorem State.setEngine_sources (s : State) (n : Nat) (v : Engine) : (s.setEngine n v).sources = s.sources := rfl
@[simp] theorem State.setEngine_entAsked (s : State) (n : Nat) (v : Engine) : (s.setEngine n v).entAsked = s.entAsked := rfl
@[simp] theorem State.setEngine_keysFor (s : State) (n : Nat) (v : Engine) : (s.setEngine n v).keysFor = s.keysFor := rfl
@[simp] theorem State.setEngine_entWaits (s : State) (n : Nat) (v : Engine) : (s.setEngine n v).entWaits = s.entWaits := rfl
@[simp] theorem State.setEngine_rawNext (s : State) (n : Nat) (v : Engine) : (s.setEngine n v).rawNext = s.rawNext := rfl
@[simp] theorem State.setEngine_fallow (s : State) (n : Nat) (v : Engine) : (s.setEngine n v).fallow = s.fallow := rfl
@[simp] theorem State.setEngine_arrived (s : State) (n : Nat) (v : Engine) : (s.setEngine n v).arrived = s.arrived := rfl
@[simp] theorem State.setEngine_temps (s : State) (n : Nat) (v : Engine) : (s.setEngine n v).temps = s.temps := rfl
@[simp] theorem State.setEngine_energies (s : State) (n : Nat) (v : Engine) : (s.setEngine n v).energies = s.energies := rfl
@[simp] theorem State.setEngine_captured (s : State) (n : Nat) (v : Engine) : (s.setEngine n v).captured = s.captured := rfl
@[simp] theorem State.setEngine_ports (s : State) (n : Nat) (v : Engine) : (s.setEngine n v).ports = s.ports := rfl
@[simp] theorem State.setEngine_group (s : State) (n : Nat) (v : Engine) : (s.setEngine n v).group = s.group := rfl
@[simp] theorem State.setEngine_groupReport (s : State) (n : Nat) (v : Engine) : (s.setEngine n v).groupReport = s.groupReport := rfl
@[simp] theorem State.setEngine_jobs (s : State) (n : Nat) (v : Engine) : (s.setEngine n v).jobs = s.jobs := rfl
@[simp] theorem State.setEngine_powered (s : State) (n : Nat) (v : Engine) : (s.setEngine n v).powered = s.powered := rfl
@[simp] theorem State.setEngine_refValid (s : State) (n : Nat) (v : Engine) : (s.setEngine n v).refValid = s.refValid := rfl
@[simp] theorem State.setEngine_testEnN (s : State) (n : Nat) (v : Engine) : (s.setEngine n v).testEnN = s.testEnN := rfl
@[simp] theorem State.setEngine_startWaits (s : State) (n : Nat) (v : Engine) : (s.setEngine n v).startWaits = s.startWaits := rfl
@[simp] theorem State.setEngine_taps (s : State) (n : Nat) (v : Engine) : (s.setEngine n v).taps = s.taps := rfl
@[simp] theorem State.setEngine_free (s : State) (n : Nat) (v : Engine) : (s.setEngine n v).free = s.free := rfl
@[simp] theorem State.setEngine_get_reg (s : State) (n : Nat) (v : Engine) (q : Reg) (j : Nat) : (s.setEngine n v).reg q j = s.reg q j := rfl
@[simp] theorem State.setEngine_get_fld (s : State) (n : Nat) (v : Engine) (g : Fld) (j : Nat) : (s.setEngine n v).fld g j = s.fld g j := rfl
@[simp] theorem State.setEngine_get_flag (s : State) (n : Nat) (v : Engine) (g : Fld) (j : Nat) : (s.setEngine n v).flag g j = s.flag g j := rfl
@[simp] theorem State.setEngine_get_sfld (s : State) (n : Nat) (v : Engine) (g : Fld) (j : Nat) : (s.setEngine n v).sfld g j = s.sfld g j := rfl
@[simp] theorem State.setEngine_get_rd (s : State) (n : Nat) (v : Engine) (x : Nat) : (s.setEngine n v).rd x = s.rd x := rfl
@[simp] theorem State.setEngine_get_rdN (s : State) (n : Nat) (v : Engine) (x y : Nat) : (s.setEngine n v).rdN x y = s.rdN x y := rfl
@[simp] theorem State.setEngine_get_rdNat (s : State) (n : Nat) (v : Engine) (x y : Nat) : (s.setEngine n v).rdNat x y = s.rdNat x y := rfl
@[simp] theorem State.setEngine_get_poisoned (s : State) (n : Nat) (v : Engine) (x y : Nat) : (s.setEngine n v).poisoned x y = s.poisoned x y := rfl
@[simp] theorem State.setEngine_get_lane (s : State) (n : Nat) (v : Engine) (x : Nat) : (s.setEngine n v).lane x = s.lane x := rfl
@[simp] theorem State.setEngine_get_stook (s : State) (n : Nat) (v : Engine) (x : Nat) : (s.setEngine n v).stook x = s.stook x := rfl
@[simp] theorem State.setEngine_get_core (s : State) (n : Nat) (v : Engine) (x : Nat) : (s.setEngine n v).core x = s.core x := rfl
@[simp] theorem State.setEngine_get_gen (s : State) (n : Nat) (v : Engine) (x : Nat) : (s.setEngine n v).gen x = s.gen x := rfl
@[simp] theorem State.setEngine_get_acre (s : State) (n : Nat) (v : Engine) (x : Nat) : (s.setEngine n v).acre x = s.acre x := rfl
@[simp] theorem State.setEngine_get_ctx (s : State) (n : Nat) (v : Engine) (x : Nat) : (s.setEngine n v).ctx x = s.ctx x := rfl
@[simp] theorem State.setEngine_get_launch (s : State) (n : Nat) (v : Engine) (x : Nat) : (s.setEngine n v).launch x = s.launch x := rfl
@[simp] theorem State.setEngine_get_graph (s : State) (n : Nat) (v : Engine) (x : Nat) : (s.setEngine n v).graph x = s.graph x := rfl
@[simp] theorem State.setEngine_get_stream (s : State) (n : Nat) (v : Engine) (x : Nat) : (s.setEngine n v).stream x = s.stream x := rfl
@[simp] theorem State.setEngine_get_chan (s : State) (n : Nat) (v : Engine) (x : Nat) : (s.setEngine n v).chan x = s.chan x := rfl
@[simp] theorem State.setEngine_get_port (s : State) (n : Nat) (v : Engine) (x : Nat) : (s.setEngine n v).port x = s.port x := rfl
@[simp] theorem State.setEngine_get_tick (s : State) (n : Nat) (v : Engine) : (s.setEngine n v).tick = s.tick := rfl

/-! ## setLane -/

@[simp] theorem State.setLane_pending (s : State) (n : Nat) (v : LaneState) : (s.setLane n v).pending = s.pending := rfl
@[simp] theorem State.setLane_regs (s : State) (n : Nat) (v : LaneState) : (s.setLane n v).regs = s.regs := rfl
@[simp] theorem State.setLane_staged (s : State) (n : Nat) (v : LaneState) : (s.setLane n v).staged = s.staged := rfl
@[simp] theorem State.setLane_mem (s : State) (n : Nat) (v : LaneState) : (s.setLane n v).mem = s.mem := rfl
@[simp] theorem State.setLane_poison (s : State) (n : Nat) (v : LaneState) : (s.setLane n v).poison = s.poison := rfl
@[simp] theorem State.setLane_latch (s : State) (n : Nat) (v : LaneState) : (s.setLane n v).latch = s.latch := rfl
@[simp] theorem State.setLane_cyc (s : State) (n : Nat) (v : LaneState) : (s.setLane n v).cyc = s.cyc := rfl
@[simp] theorem State.setLane_engines (s : State) (n : Nat) (v : LaneState) : (s.setLane n v).engines = s.engines := rfl
@[simp] theorem State.setLane_stooks (s : State) (n : Nat) (v : LaneState) : (s.setLane n v).stooks = s.stooks := rfl
@[simp] theorem State.setLane_cores (s : State) (n : Nat) (v : LaneState) : (s.setLane n v).cores = s.cores := rfl
@[simp] theorem State.setLane_gens (s : State) (n : Nat) (v : LaneState) : (s.setLane n v).gens = s.gens := rfl
@[simp] theorem State.setLane_acres (s : State) (n : Nat) (v : LaneState) : (s.setLane n v).acres = s.acres := rfl
@[simp] theorem State.setLane_ctxs (s : State) (n : Nat) (v : LaneState) : (s.setLane n v).ctxs = s.ctxs := rfl
@[simp] theorem State.setLane_graphs (s : State) (n : Nat) (v : LaneState) : (s.setLane n v).graphs = s.graphs := rfl
@[simp] theorem State.setLane_streams (s : State) (n : Nat) (v : LaneState) : (s.setLane n v).streams = s.streams := rfl
@[simp] theorem State.setLane_reports (s : State) (n : Nat) (v : LaneState) : (s.setLane n v).reports = s.reports := rfl
@[simp] theorem State.setLane_announced (s : State) (n : Nat) (v : LaneState) : (s.setLane n v).announced = s.announced := rfl
@[simp] theorem State.setLane_chans (s : State) (n : Nat) (v : LaneState) : (s.setLane n v).chans = s.chans := rfl
@[simp] theorem State.setLane_parts (s : State) (n : Nat) (v : LaneState) : (s.setLane n v).parts = s.parts := rfl
@[simp] theorem State.setLane_answers (s : State) (n : Nat) (v : LaneState) : (s.setLane n v).answers = s.answers := rfl
@[simp] theorem State.setLane_pools (s : State) (n : Nat) (v : LaneState) : (s.setLane n v).pools = s.pools := rfl
@[simp] theorem State.setLane_slotTable (s : State) (n : Nat) (v : LaneState) : (s.setLane n v).slotTable = s.slotTable := rfl
@[simp] theorem State.setLane_outs (s : State) (n : Nat) (v : LaneState) : (s.setLane n v).outs = s.outs := rfl
@[simp] theorem State.setLane_carts (s : State) (n : Nat) (v : LaneState) : (s.setLane n v).carts = s.carts := rfl
@[simp] theorem State.setLane_cartAt (s : State) (n : Nat) (v : LaneState) : (s.setLane n v).cartAt = s.cartAt := rfl
@[simp] theorem State.setLane_releases (s : State) (n : Nat) (v : LaneState) : (s.setLane n v).releases = s.releases := rfl
@[simp] theorem State.setLane_stale (s : State) (n : Nat) (v : LaneState) : (s.setLane n v).stale = s.stale := rfl
@[simp] theorem State.setLane_eccHits (s : State) (n : Nat) (v : LaneState) : (s.setLane n v).eccHits = s.eccHits := rfl
@[simp] theorem State.setLane_capNext (s : State) (n : Nat) (v : LaneState) : (s.setLane n v).capNext = s.capNext := rfl
@[simp] theorem State.setLane_hangStart (s : State) (n : Nat) (v : LaneState) : (s.setLane n v).hangStart = s.hangStart := rfl
@[simp] theorem State.setLane_lostLinks (s : State) (n : Nat) (v : LaneState) : (s.setLane n v).lostLinks = s.lostLinks := rfl
@[simp] theorem State.setLane_wires (s : State) (n : Nat) (v : LaneState) : (s.setLane n v).wires = s.wires := rfl
@[simp] theorem State.setLane_barnLost (s : State) (n : Nat) (v : LaneState) : (s.setLane n v).barnLost = s.barnLost := rfl
@[simp] theorem State.setLane_standby (s : State) (n : Nat) (v : LaneState) : (s.setLane n v).standby = s.standby := rfl
@[simp] theorem State.setLane_standbyTick (s : State) (n : Nat) (v : LaneState) : (s.setLane n v).standbyTick = s.standbyTick := rfl
@[simp] theorem State.setLane_sendq (s : State) (n : Nat) (v : LaneState) : (s.setLane n v).sendq = s.sendq := rfl
@[simp] theorem State.setLane_sources (s : State) (n : Nat) (v : LaneState) : (s.setLane n v).sources = s.sources := rfl
@[simp] theorem State.setLane_entAsked (s : State) (n : Nat) (v : LaneState) : (s.setLane n v).entAsked = s.entAsked := rfl
@[simp] theorem State.setLane_keysFor (s : State) (n : Nat) (v : LaneState) : (s.setLane n v).keysFor = s.keysFor := rfl
@[simp] theorem State.setLane_entWaits (s : State) (n : Nat) (v : LaneState) : (s.setLane n v).entWaits = s.entWaits := rfl
@[simp] theorem State.setLane_rawNext (s : State) (n : Nat) (v : LaneState) : (s.setLane n v).rawNext = s.rawNext := rfl
@[simp] theorem State.setLane_fallow (s : State) (n : Nat) (v : LaneState) : (s.setLane n v).fallow = s.fallow := rfl
@[simp] theorem State.setLane_arrived (s : State) (n : Nat) (v : LaneState) : (s.setLane n v).arrived = s.arrived := rfl
@[simp] theorem State.setLane_temps (s : State) (n : Nat) (v : LaneState) : (s.setLane n v).temps = s.temps := rfl
@[simp] theorem State.setLane_energies (s : State) (n : Nat) (v : LaneState) : (s.setLane n v).energies = s.energies := rfl
@[simp] theorem State.setLane_captured (s : State) (n : Nat) (v : LaneState) : (s.setLane n v).captured = s.captured := rfl
@[simp] theorem State.setLane_ports (s : State) (n : Nat) (v : LaneState) : (s.setLane n v).ports = s.ports := rfl
@[simp] theorem State.setLane_group (s : State) (n : Nat) (v : LaneState) : (s.setLane n v).group = s.group := rfl
@[simp] theorem State.setLane_groupReport (s : State) (n : Nat) (v : LaneState) : (s.setLane n v).groupReport = s.groupReport := rfl
@[simp] theorem State.setLane_jobs (s : State) (n : Nat) (v : LaneState) : (s.setLane n v).jobs = s.jobs := rfl
@[simp] theorem State.setLane_powered (s : State) (n : Nat) (v : LaneState) : (s.setLane n v).powered = s.powered := rfl
@[simp] theorem State.setLane_refValid (s : State) (n : Nat) (v : LaneState) : (s.setLane n v).refValid = s.refValid := rfl
@[simp] theorem State.setLane_testEnN (s : State) (n : Nat) (v : LaneState) : (s.setLane n v).testEnN = s.testEnN := rfl
@[simp] theorem State.setLane_startWaits (s : State) (n : Nat) (v : LaneState) : (s.setLane n v).startWaits = s.startWaits := rfl
@[simp] theorem State.setLane_taps (s : State) (n : Nat) (v : LaneState) : (s.setLane n v).taps = s.taps := rfl
@[simp] theorem State.setLane_free (s : State) (n : Nat) (v : LaneState) : (s.setLane n v).free = s.free := rfl
@[simp] theorem State.setLane_get_reg (s : State) (n : Nat) (v : LaneState) (q : Reg) (j : Nat) : (s.setLane n v).reg q j = s.reg q j := rfl
@[simp] theorem State.setLane_get_fld (s : State) (n : Nat) (v : LaneState) (g : Fld) (j : Nat) : (s.setLane n v).fld g j = s.fld g j := rfl
@[simp] theorem State.setLane_get_flag (s : State) (n : Nat) (v : LaneState) (g : Fld) (j : Nat) : (s.setLane n v).flag g j = s.flag g j := rfl
@[simp] theorem State.setLane_get_sfld (s : State) (n : Nat) (v : LaneState) (g : Fld) (j : Nat) : (s.setLane n v).sfld g j = s.sfld g j := rfl
@[simp] theorem State.setLane_get_rd (s : State) (n : Nat) (v : LaneState) (x : Nat) : (s.setLane n v).rd x = s.rd x := rfl
@[simp] theorem State.setLane_get_rdN (s : State) (n : Nat) (v : LaneState) (x y : Nat) : (s.setLane n v).rdN x y = s.rdN x y := rfl
@[simp] theorem State.setLane_get_rdNat (s : State) (n : Nat) (v : LaneState) (x y : Nat) : (s.setLane n v).rdNat x y = s.rdNat x y := rfl
@[simp] theorem State.setLane_get_poisoned (s : State) (n : Nat) (v : LaneState) (x y : Nat) : (s.setLane n v).poisoned x y = s.poisoned x y := rfl
@[simp] theorem State.setLane_get_engine (s : State) (n : Nat) (v : LaneState) (x : Nat) : (s.setLane n v).engine x = s.engine x := rfl
@[simp] theorem State.setLane_get_stook (s : State) (n : Nat) (v : LaneState) (x : Nat) : (s.setLane n v).stook x = s.stook x := rfl
@[simp] theorem State.setLane_get_core (s : State) (n : Nat) (v : LaneState) (x : Nat) : (s.setLane n v).core x = s.core x := rfl
@[simp] theorem State.setLane_get_gen (s : State) (n : Nat) (v : LaneState) (x : Nat) : (s.setLane n v).gen x = s.gen x := rfl
@[simp] theorem State.setLane_get_acre (s : State) (n : Nat) (v : LaneState) (x : Nat) : (s.setLane n v).acre x = s.acre x := rfl
@[simp] theorem State.setLane_get_ctx (s : State) (n : Nat) (v : LaneState) (x : Nat) : (s.setLane n v).ctx x = s.ctx x := rfl
@[simp] theorem State.setLane_get_launch (s : State) (n : Nat) (v : LaneState) (x : Nat) : (s.setLane n v).launch x = s.launch x := rfl
@[simp] theorem State.setLane_get_graph (s : State) (n : Nat) (v : LaneState) (x : Nat) : (s.setLane n v).graph x = s.graph x := rfl
@[simp] theorem State.setLane_get_stream (s : State) (n : Nat) (v : LaneState) (x : Nat) : (s.setLane n v).stream x = s.stream x := rfl
@[simp] theorem State.setLane_get_chan (s : State) (n : Nat) (v : LaneState) (x : Nat) : (s.setLane n v).chan x = s.chan x := rfl
@[simp] theorem State.setLane_get_port (s : State) (n : Nat) (v : LaneState) (x : Nat) : (s.setLane n v).port x = s.port x := rfl
@[simp] theorem State.setLane_get_tick (s : State) (n : Nat) (v : LaneState) : (s.setLane n v).tick = s.tick := rfl

/-! ## setStook -/

@[simp] theorem State.setStook_pending (s : State) (n : Nat) (v : Stook) : (s.setStook n v).pending = s.pending := rfl
@[simp] theorem State.setStook_regs (s : State) (n : Nat) (v : Stook) : (s.setStook n v).regs = s.regs := rfl
@[simp] theorem State.setStook_staged (s : State) (n : Nat) (v : Stook) : (s.setStook n v).staged = s.staged := rfl
@[simp] theorem State.setStook_mem (s : State) (n : Nat) (v : Stook) : (s.setStook n v).mem = s.mem := rfl
@[simp] theorem State.setStook_poison (s : State) (n : Nat) (v : Stook) : (s.setStook n v).poison = s.poison := rfl
@[simp] theorem State.setStook_latch (s : State) (n : Nat) (v : Stook) : (s.setStook n v).latch = s.latch := rfl
@[simp] theorem State.setStook_cyc (s : State) (n : Nat) (v : Stook) : (s.setStook n v).cyc = s.cyc := rfl
@[simp] theorem State.setStook_engines (s : State) (n : Nat) (v : Stook) : (s.setStook n v).engines = s.engines := rfl
@[simp] theorem State.setStook_lanes (s : State) (n : Nat) (v : Stook) : (s.setStook n v).lanes = s.lanes := rfl
@[simp] theorem State.setStook_cores (s : State) (n : Nat) (v : Stook) : (s.setStook n v).cores = s.cores := rfl
@[simp] theorem State.setStook_gens (s : State) (n : Nat) (v : Stook) : (s.setStook n v).gens = s.gens := rfl
@[simp] theorem State.setStook_acres (s : State) (n : Nat) (v : Stook) : (s.setStook n v).acres = s.acres := rfl
@[simp] theorem State.setStook_ctxs (s : State) (n : Nat) (v : Stook) : (s.setStook n v).ctxs = s.ctxs := rfl
@[simp] theorem State.setStook_graphs (s : State) (n : Nat) (v : Stook) : (s.setStook n v).graphs = s.graphs := rfl
@[simp] theorem State.setStook_streams (s : State) (n : Nat) (v : Stook) : (s.setStook n v).streams = s.streams := rfl
@[simp] theorem State.setStook_reports (s : State) (n : Nat) (v : Stook) : (s.setStook n v).reports = s.reports := rfl
@[simp] theorem State.setStook_announced (s : State) (n : Nat) (v : Stook) : (s.setStook n v).announced = s.announced := rfl
@[simp] theorem State.setStook_chans (s : State) (n : Nat) (v : Stook) : (s.setStook n v).chans = s.chans := rfl
@[simp] theorem State.setStook_parts (s : State) (n : Nat) (v : Stook) : (s.setStook n v).parts = s.parts := rfl
@[simp] theorem State.setStook_answers (s : State) (n : Nat) (v : Stook) : (s.setStook n v).answers = s.answers := rfl
@[simp] theorem State.setStook_pools (s : State) (n : Nat) (v : Stook) : (s.setStook n v).pools = s.pools := rfl
@[simp] theorem State.setStook_slotTable (s : State) (n : Nat) (v : Stook) : (s.setStook n v).slotTable = s.slotTable := rfl
@[simp] theorem State.setStook_outs (s : State) (n : Nat) (v : Stook) : (s.setStook n v).outs = s.outs := rfl
@[simp] theorem State.setStook_carts (s : State) (n : Nat) (v : Stook) : (s.setStook n v).carts = s.carts := rfl
@[simp] theorem State.setStook_cartAt (s : State) (n : Nat) (v : Stook) : (s.setStook n v).cartAt = s.cartAt := rfl
@[simp] theorem State.setStook_releases (s : State) (n : Nat) (v : Stook) : (s.setStook n v).releases = s.releases := rfl
@[simp] theorem State.setStook_stale (s : State) (n : Nat) (v : Stook) : (s.setStook n v).stale = s.stale := rfl
@[simp] theorem State.setStook_eccHits (s : State) (n : Nat) (v : Stook) : (s.setStook n v).eccHits = s.eccHits := rfl
@[simp] theorem State.setStook_capNext (s : State) (n : Nat) (v : Stook) : (s.setStook n v).capNext = s.capNext := rfl
@[simp] theorem State.setStook_hangStart (s : State) (n : Nat) (v : Stook) : (s.setStook n v).hangStart = s.hangStart := rfl
@[simp] theorem State.setStook_lostLinks (s : State) (n : Nat) (v : Stook) : (s.setStook n v).lostLinks = s.lostLinks := rfl
@[simp] theorem State.setStook_wires (s : State) (n : Nat) (v : Stook) : (s.setStook n v).wires = s.wires := rfl
@[simp] theorem State.setStook_barnLost (s : State) (n : Nat) (v : Stook) : (s.setStook n v).barnLost = s.barnLost := rfl
@[simp] theorem State.setStook_standby (s : State) (n : Nat) (v : Stook) : (s.setStook n v).standby = s.standby := rfl
@[simp] theorem State.setStook_standbyTick (s : State) (n : Nat) (v : Stook) : (s.setStook n v).standbyTick = s.standbyTick := rfl
@[simp] theorem State.setStook_sendq (s : State) (n : Nat) (v : Stook) : (s.setStook n v).sendq = s.sendq := rfl
@[simp] theorem State.setStook_sources (s : State) (n : Nat) (v : Stook) : (s.setStook n v).sources = s.sources := rfl
@[simp] theorem State.setStook_entAsked (s : State) (n : Nat) (v : Stook) : (s.setStook n v).entAsked = s.entAsked := rfl
@[simp] theorem State.setStook_keysFor (s : State) (n : Nat) (v : Stook) : (s.setStook n v).keysFor = s.keysFor := rfl
@[simp] theorem State.setStook_entWaits (s : State) (n : Nat) (v : Stook) : (s.setStook n v).entWaits = s.entWaits := rfl
@[simp] theorem State.setStook_rawNext (s : State) (n : Nat) (v : Stook) : (s.setStook n v).rawNext = s.rawNext := rfl
@[simp] theorem State.setStook_fallow (s : State) (n : Nat) (v : Stook) : (s.setStook n v).fallow = s.fallow := rfl
@[simp] theorem State.setStook_arrived (s : State) (n : Nat) (v : Stook) : (s.setStook n v).arrived = s.arrived := rfl
@[simp] theorem State.setStook_temps (s : State) (n : Nat) (v : Stook) : (s.setStook n v).temps = s.temps := rfl
@[simp] theorem State.setStook_energies (s : State) (n : Nat) (v : Stook) : (s.setStook n v).energies = s.energies := rfl
@[simp] theorem State.setStook_captured (s : State) (n : Nat) (v : Stook) : (s.setStook n v).captured = s.captured := rfl
@[simp] theorem State.setStook_ports (s : State) (n : Nat) (v : Stook) : (s.setStook n v).ports = s.ports := rfl
@[simp] theorem State.setStook_group (s : State) (n : Nat) (v : Stook) : (s.setStook n v).group = s.group := rfl
@[simp] theorem State.setStook_groupReport (s : State) (n : Nat) (v : Stook) : (s.setStook n v).groupReport = s.groupReport := rfl
@[simp] theorem State.setStook_jobs (s : State) (n : Nat) (v : Stook) : (s.setStook n v).jobs = s.jobs := rfl
@[simp] theorem State.setStook_powered (s : State) (n : Nat) (v : Stook) : (s.setStook n v).powered = s.powered := rfl
@[simp] theorem State.setStook_refValid (s : State) (n : Nat) (v : Stook) : (s.setStook n v).refValid = s.refValid := rfl
@[simp] theorem State.setStook_testEnN (s : State) (n : Nat) (v : Stook) : (s.setStook n v).testEnN = s.testEnN := rfl
@[simp] theorem State.setStook_startWaits (s : State) (n : Nat) (v : Stook) : (s.setStook n v).startWaits = s.startWaits := rfl
@[simp] theorem State.setStook_taps (s : State) (n : Nat) (v : Stook) : (s.setStook n v).taps = s.taps := rfl
@[simp] theorem State.setStook_free (s : State) (n : Nat) (v : Stook) : (s.setStook n v).free = s.free := rfl
@[simp] theorem State.setStook_get_reg (s : State) (n : Nat) (v : Stook) (q : Reg) (j : Nat) : (s.setStook n v).reg q j = s.reg q j := rfl
@[simp] theorem State.setStook_get_fld (s : State) (n : Nat) (v : Stook) (g : Fld) (j : Nat) : (s.setStook n v).fld g j = s.fld g j := rfl
@[simp] theorem State.setStook_get_flag (s : State) (n : Nat) (v : Stook) (g : Fld) (j : Nat) : (s.setStook n v).flag g j = s.flag g j := rfl
@[simp] theorem State.setStook_get_sfld (s : State) (n : Nat) (v : Stook) (g : Fld) (j : Nat) : (s.setStook n v).sfld g j = s.sfld g j := rfl
@[simp] theorem State.setStook_get_rd (s : State) (n : Nat) (v : Stook) (x : Nat) : (s.setStook n v).rd x = s.rd x := rfl
@[simp] theorem State.setStook_get_rdN (s : State) (n : Nat) (v : Stook) (x y : Nat) : (s.setStook n v).rdN x y = s.rdN x y := rfl
@[simp] theorem State.setStook_get_rdNat (s : State) (n : Nat) (v : Stook) (x y : Nat) : (s.setStook n v).rdNat x y = s.rdNat x y := rfl
@[simp] theorem State.setStook_get_poisoned (s : State) (n : Nat) (v : Stook) (x y : Nat) : (s.setStook n v).poisoned x y = s.poisoned x y := rfl
@[simp] theorem State.setStook_get_engine (s : State) (n : Nat) (v : Stook) (x : Nat) : (s.setStook n v).engine x = s.engine x := rfl
@[simp] theorem State.setStook_get_lane (s : State) (n : Nat) (v : Stook) (x : Nat) : (s.setStook n v).lane x = s.lane x := rfl
@[simp] theorem State.setStook_get_core (s : State) (n : Nat) (v : Stook) (x : Nat) : (s.setStook n v).core x = s.core x := rfl
@[simp] theorem State.setStook_get_gen (s : State) (n : Nat) (v : Stook) (x : Nat) : (s.setStook n v).gen x = s.gen x := rfl
@[simp] theorem State.setStook_get_acre (s : State) (n : Nat) (v : Stook) (x : Nat) : (s.setStook n v).acre x = s.acre x := rfl
@[simp] theorem State.setStook_get_ctx (s : State) (n : Nat) (v : Stook) (x : Nat) : (s.setStook n v).ctx x = s.ctx x := rfl
@[simp] theorem State.setStook_get_launch (s : State) (n : Nat) (v : Stook) (x : Nat) : (s.setStook n v).launch x = s.launch x := rfl
@[simp] theorem State.setStook_get_graph (s : State) (n : Nat) (v : Stook) (x : Nat) : (s.setStook n v).graph x = s.graph x := rfl
@[simp] theorem State.setStook_get_stream (s : State) (n : Nat) (v : Stook) (x : Nat) : (s.setStook n v).stream x = s.stream x := rfl
@[simp] theorem State.setStook_get_chan (s : State) (n : Nat) (v : Stook) (x : Nat) : (s.setStook n v).chan x = s.chan x := rfl
@[simp] theorem State.setStook_get_port (s : State) (n : Nat) (v : Stook) (x : Nat) : (s.setStook n v).port x = s.port x := rfl
@[simp] theorem State.setStook_get_tick (s : State) (n : Nat) (v : Stook) : (s.setStook n v).tick = s.tick := rfl

/-! ## setCore -/

@[simp] theorem State.setCore_pending (s : State) (n : Nat) (v : CoreState) : (s.setCore n v).pending = s.pending := rfl
@[simp] theorem State.setCore_regs (s : State) (n : Nat) (v : CoreState) : (s.setCore n v).regs = s.regs := rfl
@[simp] theorem State.setCore_staged (s : State) (n : Nat) (v : CoreState) : (s.setCore n v).staged = s.staged := rfl
@[simp] theorem State.setCore_mem (s : State) (n : Nat) (v : CoreState) : (s.setCore n v).mem = s.mem := rfl
@[simp] theorem State.setCore_poison (s : State) (n : Nat) (v : CoreState) : (s.setCore n v).poison = s.poison := rfl
@[simp] theorem State.setCore_latch (s : State) (n : Nat) (v : CoreState) : (s.setCore n v).latch = s.latch := rfl
@[simp] theorem State.setCore_cyc (s : State) (n : Nat) (v : CoreState) : (s.setCore n v).cyc = s.cyc := rfl
@[simp] theorem State.setCore_engines (s : State) (n : Nat) (v : CoreState) : (s.setCore n v).engines = s.engines := rfl
@[simp] theorem State.setCore_lanes (s : State) (n : Nat) (v : CoreState) : (s.setCore n v).lanes = s.lanes := rfl
@[simp] theorem State.setCore_stooks (s : State) (n : Nat) (v : CoreState) : (s.setCore n v).stooks = s.stooks := rfl
@[simp] theorem State.setCore_gens (s : State) (n : Nat) (v : CoreState) : (s.setCore n v).gens = s.gens := rfl
@[simp] theorem State.setCore_acres (s : State) (n : Nat) (v : CoreState) : (s.setCore n v).acres = s.acres := rfl
@[simp] theorem State.setCore_ctxs (s : State) (n : Nat) (v : CoreState) : (s.setCore n v).ctxs = s.ctxs := rfl
@[simp] theorem State.setCore_graphs (s : State) (n : Nat) (v : CoreState) : (s.setCore n v).graphs = s.graphs := rfl
@[simp] theorem State.setCore_streams (s : State) (n : Nat) (v : CoreState) : (s.setCore n v).streams = s.streams := rfl
@[simp] theorem State.setCore_reports (s : State) (n : Nat) (v : CoreState) : (s.setCore n v).reports = s.reports := rfl
@[simp] theorem State.setCore_announced (s : State) (n : Nat) (v : CoreState) : (s.setCore n v).announced = s.announced := rfl
@[simp] theorem State.setCore_chans (s : State) (n : Nat) (v : CoreState) : (s.setCore n v).chans = s.chans := rfl
@[simp] theorem State.setCore_parts (s : State) (n : Nat) (v : CoreState) : (s.setCore n v).parts = s.parts := rfl
@[simp] theorem State.setCore_answers (s : State) (n : Nat) (v : CoreState) : (s.setCore n v).answers = s.answers := rfl
@[simp] theorem State.setCore_pools (s : State) (n : Nat) (v : CoreState) : (s.setCore n v).pools = s.pools := rfl
@[simp] theorem State.setCore_slotTable (s : State) (n : Nat) (v : CoreState) : (s.setCore n v).slotTable = s.slotTable := rfl
@[simp] theorem State.setCore_outs (s : State) (n : Nat) (v : CoreState) : (s.setCore n v).outs = s.outs := rfl
@[simp] theorem State.setCore_carts (s : State) (n : Nat) (v : CoreState) : (s.setCore n v).carts = s.carts := rfl
@[simp] theorem State.setCore_cartAt (s : State) (n : Nat) (v : CoreState) : (s.setCore n v).cartAt = s.cartAt := rfl
@[simp] theorem State.setCore_releases (s : State) (n : Nat) (v : CoreState) : (s.setCore n v).releases = s.releases := rfl
@[simp] theorem State.setCore_stale (s : State) (n : Nat) (v : CoreState) : (s.setCore n v).stale = s.stale := rfl
@[simp] theorem State.setCore_eccHits (s : State) (n : Nat) (v : CoreState) : (s.setCore n v).eccHits = s.eccHits := rfl
@[simp] theorem State.setCore_capNext (s : State) (n : Nat) (v : CoreState) : (s.setCore n v).capNext = s.capNext := rfl
@[simp] theorem State.setCore_hangStart (s : State) (n : Nat) (v : CoreState) : (s.setCore n v).hangStart = s.hangStart := rfl
@[simp] theorem State.setCore_lostLinks (s : State) (n : Nat) (v : CoreState) : (s.setCore n v).lostLinks = s.lostLinks := rfl
@[simp] theorem State.setCore_wires (s : State) (n : Nat) (v : CoreState) : (s.setCore n v).wires = s.wires := rfl
@[simp] theorem State.setCore_barnLost (s : State) (n : Nat) (v : CoreState) : (s.setCore n v).barnLost = s.barnLost := rfl
@[simp] theorem State.setCore_standby (s : State) (n : Nat) (v : CoreState) : (s.setCore n v).standby = s.standby := rfl
@[simp] theorem State.setCore_standbyTick (s : State) (n : Nat) (v : CoreState) : (s.setCore n v).standbyTick = s.standbyTick := rfl
@[simp] theorem State.setCore_sendq (s : State) (n : Nat) (v : CoreState) : (s.setCore n v).sendq = s.sendq := rfl
@[simp] theorem State.setCore_sources (s : State) (n : Nat) (v : CoreState) : (s.setCore n v).sources = s.sources := rfl
@[simp] theorem State.setCore_entAsked (s : State) (n : Nat) (v : CoreState) : (s.setCore n v).entAsked = s.entAsked := rfl
@[simp] theorem State.setCore_keysFor (s : State) (n : Nat) (v : CoreState) : (s.setCore n v).keysFor = s.keysFor := rfl
@[simp] theorem State.setCore_entWaits (s : State) (n : Nat) (v : CoreState) : (s.setCore n v).entWaits = s.entWaits := rfl
@[simp] theorem State.setCore_rawNext (s : State) (n : Nat) (v : CoreState) : (s.setCore n v).rawNext = s.rawNext := rfl
@[simp] theorem State.setCore_fallow (s : State) (n : Nat) (v : CoreState) : (s.setCore n v).fallow = s.fallow := rfl
@[simp] theorem State.setCore_arrived (s : State) (n : Nat) (v : CoreState) : (s.setCore n v).arrived = s.arrived := rfl
@[simp] theorem State.setCore_temps (s : State) (n : Nat) (v : CoreState) : (s.setCore n v).temps = s.temps := rfl
@[simp] theorem State.setCore_energies (s : State) (n : Nat) (v : CoreState) : (s.setCore n v).energies = s.energies := rfl
@[simp] theorem State.setCore_captured (s : State) (n : Nat) (v : CoreState) : (s.setCore n v).captured = s.captured := rfl
@[simp] theorem State.setCore_ports (s : State) (n : Nat) (v : CoreState) : (s.setCore n v).ports = s.ports := rfl
@[simp] theorem State.setCore_group (s : State) (n : Nat) (v : CoreState) : (s.setCore n v).group = s.group := rfl
@[simp] theorem State.setCore_groupReport (s : State) (n : Nat) (v : CoreState) : (s.setCore n v).groupReport = s.groupReport := rfl
@[simp] theorem State.setCore_jobs (s : State) (n : Nat) (v : CoreState) : (s.setCore n v).jobs = s.jobs := rfl
@[simp] theorem State.setCore_powered (s : State) (n : Nat) (v : CoreState) : (s.setCore n v).powered = s.powered := rfl
@[simp] theorem State.setCore_refValid (s : State) (n : Nat) (v : CoreState) : (s.setCore n v).refValid = s.refValid := rfl
@[simp] theorem State.setCore_testEnN (s : State) (n : Nat) (v : CoreState) : (s.setCore n v).testEnN = s.testEnN := rfl
@[simp] theorem State.setCore_startWaits (s : State) (n : Nat) (v : CoreState) : (s.setCore n v).startWaits = s.startWaits := rfl
@[simp] theorem State.setCore_taps (s : State) (n : Nat) (v : CoreState) : (s.setCore n v).taps = s.taps := rfl
@[simp] theorem State.setCore_free (s : State) (n : Nat) (v : CoreState) : (s.setCore n v).free = s.free := rfl
@[simp] theorem State.setCore_get_reg (s : State) (n : Nat) (v : CoreState) (q : Reg) (j : Nat) : (s.setCore n v).reg q j = s.reg q j := rfl
@[simp] theorem State.setCore_get_fld (s : State) (n : Nat) (v : CoreState) (g : Fld) (j : Nat) : (s.setCore n v).fld g j = s.fld g j := rfl
@[simp] theorem State.setCore_get_flag (s : State) (n : Nat) (v : CoreState) (g : Fld) (j : Nat) : (s.setCore n v).flag g j = s.flag g j := rfl
@[simp] theorem State.setCore_get_sfld (s : State) (n : Nat) (v : CoreState) (g : Fld) (j : Nat) : (s.setCore n v).sfld g j = s.sfld g j := rfl
@[simp] theorem State.setCore_get_rd (s : State) (n : Nat) (v : CoreState) (x : Nat) : (s.setCore n v).rd x = s.rd x := rfl
@[simp] theorem State.setCore_get_rdN (s : State) (n : Nat) (v : CoreState) (x y : Nat) : (s.setCore n v).rdN x y = s.rdN x y := rfl
@[simp] theorem State.setCore_get_rdNat (s : State) (n : Nat) (v : CoreState) (x y : Nat) : (s.setCore n v).rdNat x y = s.rdNat x y := rfl
@[simp] theorem State.setCore_get_poisoned (s : State) (n : Nat) (v : CoreState) (x y : Nat) : (s.setCore n v).poisoned x y = s.poisoned x y := rfl
@[simp] theorem State.setCore_get_engine (s : State) (n : Nat) (v : CoreState) (x : Nat) : (s.setCore n v).engine x = s.engine x := rfl
@[simp] theorem State.setCore_get_lane (s : State) (n : Nat) (v : CoreState) (x : Nat) : (s.setCore n v).lane x = s.lane x := rfl
@[simp] theorem State.setCore_get_stook (s : State) (n : Nat) (v : CoreState) (x : Nat) : (s.setCore n v).stook x = s.stook x := rfl
@[simp] theorem State.setCore_get_gen (s : State) (n : Nat) (v : CoreState) (x : Nat) : (s.setCore n v).gen x = s.gen x := rfl
@[simp] theorem State.setCore_get_acre (s : State) (n : Nat) (v : CoreState) (x : Nat) : (s.setCore n v).acre x = s.acre x := rfl
@[simp] theorem State.setCore_get_ctx (s : State) (n : Nat) (v : CoreState) (x : Nat) : (s.setCore n v).ctx x = s.ctx x := rfl
@[simp] theorem State.setCore_get_launch (s : State) (n : Nat) (v : CoreState) (x : Nat) : (s.setCore n v).launch x = s.launch x := rfl
@[simp] theorem State.setCore_get_graph (s : State) (n : Nat) (v : CoreState) (x : Nat) : (s.setCore n v).graph x = s.graph x := rfl
@[simp] theorem State.setCore_get_stream (s : State) (n : Nat) (v : CoreState) (x : Nat) : (s.setCore n v).stream x = s.stream x := rfl
@[simp] theorem State.setCore_get_chan (s : State) (n : Nat) (v : CoreState) (x : Nat) : (s.setCore n v).chan x = s.chan x := rfl
@[simp] theorem State.setCore_get_port (s : State) (n : Nat) (v : CoreState) (x : Nat) : (s.setCore n v).port x = s.port x := rfl
@[simp] theorem State.setCore_get_tick (s : State) (n : Nat) (v : CoreState) : (s.setCore n v).tick = s.tick := rfl

/-! ## setGen -/

@[simp] theorem State.setGen_pending (s : State) (n : Nat) (v : Gen) : (s.setGen n v).pending = s.pending := rfl
@[simp] theorem State.setGen_regs (s : State) (n : Nat) (v : Gen) : (s.setGen n v).regs = s.regs := rfl
@[simp] theorem State.setGen_staged (s : State) (n : Nat) (v : Gen) : (s.setGen n v).staged = s.staged := rfl
@[simp] theorem State.setGen_mem (s : State) (n : Nat) (v : Gen) : (s.setGen n v).mem = s.mem := rfl
@[simp] theorem State.setGen_poison (s : State) (n : Nat) (v : Gen) : (s.setGen n v).poison = s.poison := rfl
@[simp] theorem State.setGen_latch (s : State) (n : Nat) (v : Gen) : (s.setGen n v).latch = s.latch := rfl
@[simp] theorem State.setGen_cyc (s : State) (n : Nat) (v : Gen) : (s.setGen n v).cyc = s.cyc := rfl
@[simp] theorem State.setGen_engines (s : State) (n : Nat) (v : Gen) : (s.setGen n v).engines = s.engines := rfl
@[simp] theorem State.setGen_lanes (s : State) (n : Nat) (v : Gen) : (s.setGen n v).lanes = s.lanes := rfl
@[simp] theorem State.setGen_stooks (s : State) (n : Nat) (v : Gen) : (s.setGen n v).stooks = s.stooks := rfl
@[simp] theorem State.setGen_cores (s : State) (n : Nat) (v : Gen) : (s.setGen n v).cores = s.cores := rfl
@[simp] theorem State.setGen_acres (s : State) (n : Nat) (v : Gen) : (s.setGen n v).acres = s.acres := rfl
@[simp] theorem State.setGen_ctxs (s : State) (n : Nat) (v : Gen) : (s.setGen n v).ctxs = s.ctxs := rfl
@[simp] theorem State.setGen_graphs (s : State) (n : Nat) (v : Gen) : (s.setGen n v).graphs = s.graphs := rfl
@[simp] theorem State.setGen_streams (s : State) (n : Nat) (v : Gen) : (s.setGen n v).streams = s.streams := rfl
@[simp] theorem State.setGen_reports (s : State) (n : Nat) (v : Gen) : (s.setGen n v).reports = s.reports := rfl
@[simp] theorem State.setGen_announced (s : State) (n : Nat) (v : Gen) : (s.setGen n v).announced = s.announced := rfl
@[simp] theorem State.setGen_chans (s : State) (n : Nat) (v : Gen) : (s.setGen n v).chans = s.chans := rfl
@[simp] theorem State.setGen_parts (s : State) (n : Nat) (v : Gen) : (s.setGen n v).parts = s.parts := rfl
@[simp] theorem State.setGen_answers (s : State) (n : Nat) (v : Gen) : (s.setGen n v).answers = s.answers := rfl
@[simp] theorem State.setGen_pools (s : State) (n : Nat) (v : Gen) : (s.setGen n v).pools = s.pools := rfl
@[simp] theorem State.setGen_slotTable (s : State) (n : Nat) (v : Gen) : (s.setGen n v).slotTable = s.slotTable := rfl
@[simp] theorem State.setGen_outs (s : State) (n : Nat) (v : Gen) : (s.setGen n v).outs = s.outs := rfl
@[simp] theorem State.setGen_carts (s : State) (n : Nat) (v : Gen) : (s.setGen n v).carts = s.carts := rfl
@[simp] theorem State.setGen_cartAt (s : State) (n : Nat) (v : Gen) : (s.setGen n v).cartAt = s.cartAt := rfl
@[simp] theorem State.setGen_releases (s : State) (n : Nat) (v : Gen) : (s.setGen n v).releases = s.releases := rfl
@[simp] theorem State.setGen_stale (s : State) (n : Nat) (v : Gen) : (s.setGen n v).stale = s.stale := rfl
@[simp] theorem State.setGen_eccHits (s : State) (n : Nat) (v : Gen) : (s.setGen n v).eccHits = s.eccHits := rfl
@[simp] theorem State.setGen_capNext (s : State) (n : Nat) (v : Gen) : (s.setGen n v).capNext = s.capNext := rfl
@[simp] theorem State.setGen_hangStart (s : State) (n : Nat) (v : Gen) : (s.setGen n v).hangStart = s.hangStart := rfl
@[simp] theorem State.setGen_lostLinks (s : State) (n : Nat) (v : Gen) : (s.setGen n v).lostLinks = s.lostLinks := rfl
@[simp] theorem State.setGen_wires (s : State) (n : Nat) (v : Gen) : (s.setGen n v).wires = s.wires := rfl
@[simp] theorem State.setGen_barnLost (s : State) (n : Nat) (v : Gen) : (s.setGen n v).barnLost = s.barnLost := rfl
@[simp] theorem State.setGen_standby (s : State) (n : Nat) (v : Gen) : (s.setGen n v).standby = s.standby := rfl
@[simp] theorem State.setGen_standbyTick (s : State) (n : Nat) (v : Gen) : (s.setGen n v).standbyTick = s.standbyTick := rfl
@[simp] theorem State.setGen_sendq (s : State) (n : Nat) (v : Gen) : (s.setGen n v).sendq = s.sendq := rfl
@[simp] theorem State.setGen_sources (s : State) (n : Nat) (v : Gen) : (s.setGen n v).sources = s.sources := rfl
@[simp] theorem State.setGen_entAsked (s : State) (n : Nat) (v : Gen) : (s.setGen n v).entAsked = s.entAsked := rfl
@[simp] theorem State.setGen_keysFor (s : State) (n : Nat) (v : Gen) : (s.setGen n v).keysFor = s.keysFor := rfl
@[simp] theorem State.setGen_entWaits (s : State) (n : Nat) (v : Gen) : (s.setGen n v).entWaits = s.entWaits := rfl
@[simp] theorem State.setGen_rawNext (s : State) (n : Nat) (v : Gen) : (s.setGen n v).rawNext = s.rawNext := rfl
@[simp] theorem State.setGen_fallow (s : State) (n : Nat) (v : Gen) : (s.setGen n v).fallow = s.fallow := rfl
@[simp] theorem State.setGen_arrived (s : State) (n : Nat) (v : Gen) : (s.setGen n v).arrived = s.arrived := rfl
@[simp] theorem State.setGen_temps (s : State) (n : Nat) (v : Gen) : (s.setGen n v).temps = s.temps := rfl
@[simp] theorem State.setGen_energies (s : State) (n : Nat) (v : Gen) : (s.setGen n v).energies = s.energies := rfl
@[simp] theorem State.setGen_captured (s : State) (n : Nat) (v : Gen) : (s.setGen n v).captured = s.captured := rfl
@[simp] theorem State.setGen_ports (s : State) (n : Nat) (v : Gen) : (s.setGen n v).ports = s.ports := rfl
@[simp] theorem State.setGen_group (s : State) (n : Nat) (v : Gen) : (s.setGen n v).group = s.group := rfl
@[simp] theorem State.setGen_groupReport (s : State) (n : Nat) (v : Gen) : (s.setGen n v).groupReport = s.groupReport := rfl
@[simp] theorem State.setGen_jobs (s : State) (n : Nat) (v : Gen) : (s.setGen n v).jobs = s.jobs := rfl
@[simp] theorem State.setGen_powered (s : State) (n : Nat) (v : Gen) : (s.setGen n v).powered = s.powered := rfl
@[simp] theorem State.setGen_refValid (s : State) (n : Nat) (v : Gen) : (s.setGen n v).refValid = s.refValid := rfl
@[simp] theorem State.setGen_testEnN (s : State) (n : Nat) (v : Gen) : (s.setGen n v).testEnN = s.testEnN := rfl
@[simp] theorem State.setGen_startWaits (s : State) (n : Nat) (v : Gen) : (s.setGen n v).startWaits = s.startWaits := rfl
@[simp] theorem State.setGen_taps (s : State) (n : Nat) (v : Gen) : (s.setGen n v).taps = s.taps := rfl
@[simp] theorem State.setGen_free (s : State) (n : Nat) (v : Gen) : (s.setGen n v).free = s.free := rfl
@[simp] theorem State.setGen_get_reg (s : State) (n : Nat) (v : Gen) (q : Reg) (j : Nat) : (s.setGen n v).reg q j = s.reg q j := rfl
@[simp] theorem State.setGen_get_fld (s : State) (n : Nat) (v : Gen) (g : Fld) (j : Nat) : (s.setGen n v).fld g j = s.fld g j := rfl
@[simp] theorem State.setGen_get_flag (s : State) (n : Nat) (v : Gen) (g : Fld) (j : Nat) : (s.setGen n v).flag g j = s.flag g j := rfl
@[simp] theorem State.setGen_get_sfld (s : State) (n : Nat) (v : Gen) (g : Fld) (j : Nat) : (s.setGen n v).sfld g j = s.sfld g j := rfl
@[simp] theorem State.setGen_get_rd (s : State) (n : Nat) (v : Gen) (x : Nat) : (s.setGen n v).rd x = s.rd x := rfl
@[simp] theorem State.setGen_get_rdN (s : State) (n : Nat) (v : Gen) (x y : Nat) : (s.setGen n v).rdN x y = s.rdN x y := rfl
@[simp] theorem State.setGen_get_rdNat (s : State) (n : Nat) (v : Gen) (x y : Nat) : (s.setGen n v).rdNat x y = s.rdNat x y := rfl
@[simp] theorem State.setGen_get_poisoned (s : State) (n : Nat) (v : Gen) (x y : Nat) : (s.setGen n v).poisoned x y = s.poisoned x y := rfl
@[simp] theorem State.setGen_get_engine (s : State) (n : Nat) (v : Gen) (x : Nat) : (s.setGen n v).engine x = s.engine x := rfl
@[simp] theorem State.setGen_get_lane (s : State) (n : Nat) (v : Gen) (x : Nat) : (s.setGen n v).lane x = s.lane x := rfl
@[simp] theorem State.setGen_get_stook (s : State) (n : Nat) (v : Gen) (x : Nat) : (s.setGen n v).stook x = s.stook x := rfl
@[simp] theorem State.setGen_get_core (s : State) (n : Nat) (v : Gen) (x : Nat) : (s.setGen n v).core x = s.core x := rfl
@[simp] theorem State.setGen_get_acre (s : State) (n : Nat) (v : Gen) (x : Nat) : (s.setGen n v).acre x = s.acre x := rfl
@[simp] theorem State.setGen_get_ctx (s : State) (n : Nat) (v : Gen) (x : Nat) : (s.setGen n v).ctx x = s.ctx x := rfl
@[simp] theorem State.setGen_get_launch (s : State) (n : Nat) (v : Gen) (x : Nat) : (s.setGen n v).launch x = s.launch x := rfl
@[simp] theorem State.setGen_get_graph (s : State) (n : Nat) (v : Gen) (x : Nat) : (s.setGen n v).graph x = s.graph x := rfl
@[simp] theorem State.setGen_get_stream (s : State) (n : Nat) (v : Gen) (x : Nat) : (s.setGen n v).stream x = s.stream x := rfl
@[simp] theorem State.setGen_get_chan (s : State) (n : Nat) (v : Gen) (x : Nat) : (s.setGen n v).chan x = s.chan x := rfl
@[simp] theorem State.setGen_get_port (s : State) (n : Nat) (v : Gen) (x : Nat) : (s.setGen n v).port x = s.port x := rfl
@[simp] theorem State.setGen_get_tick (s : State) (n : Nat) (v : Gen) : (s.setGen n v).tick = s.tick := rfl

/-! ## setAcre -/

@[simp] theorem State.setAcre_pending (s : State) (n : Nat) (v : Acre) : (s.setAcre n v).pending = s.pending := rfl
@[simp] theorem State.setAcre_regs (s : State) (n : Nat) (v : Acre) : (s.setAcre n v).regs = s.regs := rfl
@[simp] theorem State.setAcre_staged (s : State) (n : Nat) (v : Acre) : (s.setAcre n v).staged = s.staged := rfl
@[simp] theorem State.setAcre_mem (s : State) (n : Nat) (v : Acre) : (s.setAcre n v).mem = s.mem := rfl
@[simp] theorem State.setAcre_poison (s : State) (n : Nat) (v : Acre) : (s.setAcre n v).poison = s.poison := rfl
@[simp] theorem State.setAcre_latch (s : State) (n : Nat) (v : Acre) : (s.setAcre n v).latch = s.latch := rfl
@[simp] theorem State.setAcre_cyc (s : State) (n : Nat) (v : Acre) : (s.setAcre n v).cyc = s.cyc := rfl
@[simp] theorem State.setAcre_engines (s : State) (n : Nat) (v : Acre) : (s.setAcre n v).engines = s.engines := rfl
@[simp] theorem State.setAcre_lanes (s : State) (n : Nat) (v : Acre) : (s.setAcre n v).lanes = s.lanes := rfl
@[simp] theorem State.setAcre_stooks (s : State) (n : Nat) (v : Acre) : (s.setAcre n v).stooks = s.stooks := rfl
@[simp] theorem State.setAcre_cores (s : State) (n : Nat) (v : Acre) : (s.setAcre n v).cores = s.cores := rfl
@[simp] theorem State.setAcre_gens (s : State) (n : Nat) (v : Acre) : (s.setAcre n v).gens = s.gens := rfl
@[simp] theorem State.setAcre_ctxs (s : State) (n : Nat) (v : Acre) : (s.setAcre n v).ctxs = s.ctxs := rfl
@[simp] theorem State.setAcre_graphs (s : State) (n : Nat) (v : Acre) : (s.setAcre n v).graphs = s.graphs := rfl
@[simp] theorem State.setAcre_streams (s : State) (n : Nat) (v : Acre) : (s.setAcre n v).streams = s.streams := rfl
@[simp] theorem State.setAcre_reports (s : State) (n : Nat) (v : Acre) : (s.setAcre n v).reports = s.reports := rfl
@[simp] theorem State.setAcre_announced (s : State) (n : Nat) (v : Acre) : (s.setAcre n v).announced = s.announced := rfl
@[simp] theorem State.setAcre_chans (s : State) (n : Nat) (v : Acre) : (s.setAcre n v).chans = s.chans := rfl
@[simp] theorem State.setAcre_parts (s : State) (n : Nat) (v : Acre) : (s.setAcre n v).parts = s.parts := rfl
@[simp] theorem State.setAcre_answers (s : State) (n : Nat) (v : Acre) : (s.setAcre n v).answers = s.answers := rfl
@[simp] theorem State.setAcre_pools (s : State) (n : Nat) (v : Acre) : (s.setAcre n v).pools = s.pools := rfl
@[simp] theorem State.setAcre_slotTable (s : State) (n : Nat) (v : Acre) : (s.setAcre n v).slotTable = s.slotTable := rfl
@[simp] theorem State.setAcre_outs (s : State) (n : Nat) (v : Acre) : (s.setAcre n v).outs = s.outs := rfl
@[simp] theorem State.setAcre_carts (s : State) (n : Nat) (v : Acre) : (s.setAcre n v).carts = s.carts := rfl
@[simp] theorem State.setAcre_cartAt (s : State) (n : Nat) (v : Acre) : (s.setAcre n v).cartAt = s.cartAt := rfl
@[simp] theorem State.setAcre_releases (s : State) (n : Nat) (v : Acre) : (s.setAcre n v).releases = s.releases := rfl
@[simp] theorem State.setAcre_stale (s : State) (n : Nat) (v : Acre) : (s.setAcre n v).stale = s.stale := rfl
@[simp] theorem State.setAcre_eccHits (s : State) (n : Nat) (v : Acre) : (s.setAcre n v).eccHits = s.eccHits := rfl
@[simp] theorem State.setAcre_capNext (s : State) (n : Nat) (v : Acre) : (s.setAcre n v).capNext = s.capNext := rfl
@[simp] theorem State.setAcre_hangStart (s : State) (n : Nat) (v : Acre) : (s.setAcre n v).hangStart = s.hangStart := rfl
@[simp] theorem State.setAcre_lostLinks (s : State) (n : Nat) (v : Acre) : (s.setAcre n v).lostLinks = s.lostLinks := rfl
@[simp] theorem State.setAcre_wires (s : State) (n : Nat) (v : Acre) : (s.setAcre n v).wires = s.wires := rfl
@[simp] theorem State.setAcre_barnLost (s : State) (n : Nat) (v : Acre) : (s.setAcre n v).barnLost = s.barnLost := rfl
@[simp] theorem State.setAcre_standby (s : State) (n : Nat) (v : Acre) : (s.setAcre n v).standby = s.standby := rfl
@[simp] theorem State.setAcre_standbyTick (s : State) (n : Nat) (v : Acre) : (s.setAcre n v).standbyTick = s.standbyTick := rfl
@[simp] theorem State.setAcre_sendq (s : State) (n : Nat) (v : Acre) : (s.setAcre n v).sendq = s.sendq := rfl
@[simp] theorem State.setAcre_sources (s : State) (n : Nat) (v : Acre) : (s.setAcre n v).sources = s.sources := rfl
@[simp] theorem State.setAcre_entAsked (s : State) (n : Nat) (v : Acre) : (s.setAcre n v).entAsked = s.entAsked := rfl
@[simp] theorem State.setAcre_keysFor (s : State) (n : Nat) (v : Acre) : (s.setAcre n v).keysFor = s.keysFor := rfl
@[simp] theorem State.setAcre_entWaits (s : State) (n : Nat) (v : Acre) : (s.setAcre n v).entWaits = s.entWaits := rfl
@[simp] theorem State.setAcre_rawNext (s : State) (n : Nat) (v : Acre) : (s.setAcre n v).rawNext = s.rawNext := rfl
@[simp] theorem State.setAcre_fallow (s : State) (n : Nat) (v : Acre) : (s.setAcre n v).fallow = s.fallow := rfl
@[simp] theorem State.setAcre_arrived (s : State) (n : Nat) (v : Acre) : (s.setAcre n v).arrived = s.arrived := rfl
@[simp] theorem State.setAcre_temps (s : State) (n : Nat) (v : Acre) : (s.setAcre n v).temps = s.temps := rfl
@[simp] theorem State.setAcre_energies (s : State) (n : Nat) (v : Acre) : (s.setAcre n v).energies = s.energies := rfl
@[simp] theorem State.setAcre_captured (s : State) (n : Nat) (v : Acre) : (s.setAcre n v).captured = s.captured := rfl
@[simp] theorem State.setAcre_ports (s : State) (n : Nat) (v : Acre) : (s.setAcre n v).ports = s.ports := rfl
@[simp] theorem State.setAcre_group (s : State) (n : Nat) (v : Acre) : (s.setAcre n v).group = s.group := rfl
@[simp] theorem State.setAcre_groupReport (s : State) (n : Nat) (v : Acre) : (s.setAcre n v).groupReport = s.groupReport := rfl
@[simp] theorem State.setAcre_jobs (s : State) (n : Nat) (v : Acre) : (s.setAcre n v).jobs = s.jobs := rfl
@[simp] theorem State.setAcre_powered (s : State) (n : Nat) (v : Acre) : (s.setAcre n v).powered = s.powered := rfl
@[simp] theorem State.setAcre_refValid (s : State) (n : Nat) (v : Acre) : (s.setAcre n v).refValid = s.refValid := rfl
@[simp] theorem State.setAcre_testEnN (s : State) (n : Nat) (v : Acre) : (s.setAcre n v).testEnN = s.testEnN := rfl
@[simp] theorem State.setAcre_startWaits (s : State) (n : Nat) (v : Acre) : (s.setAcre n v).startWaits = s.startWaits := rfl
@[simp] theorem State.setAcre_taps (s : State) (n : Nat) (v : Acre) : (s.setAcre n v).taps = s.taps := rfl
@[simp] theorem State.setAcre_free (s : State) (n : Nat) (v : Acre) : (s.setAcre n v).free = s.free := rfl
@[simp] theorem State.setAcre_get_reg (s : State) (n : Nat) (v : Acre) (q : Reg) (j : Nat) : (s.setAcre n v).reg q j = s.reg q j := rfl
@[simp] theorem State.setAcre_get_fld (s : State) (n : Nat) (v : Acre) (g : Fld) (j : Nat) : (s.setAcre n v).fld g j = s.fld g j := rfl
@[simp] theorem State.setAcre_get_flag (s : State) (n : Nat) (v : Acre) (g : Fld) (j : Nat) : (s.setAcre n v).flag g j = s.flag g j := rfl
@[simp] theorem State.setAcre_get_sfld (s : State) (n : Nat) (v : Acre) (g : Fld) (j : Nat) : (s.setAcre n v).sfld g j = s.sfld g j := rfl
@[simp] theorem State.setAcre_get_rd (s : State) (n : Nat) (v : Acre) (x : Nat) : (s.setAcre n v).rd x = s.rd x := rfl
@[simp] theorem State.setAcre_get_rdN (s : State) (n : Nat) (v : Acre) (x y : Nat) : (s.setAcre n v).rdN x y = s.rdN x y := rfl
@[simp] theorem State.setAcre_get_rdNat (s : State) (n : Nat) (v : Acre) (x y : Nat) : (s.setAcre n v).rdNat x y = s.rdNat x y := rfl
@[simp] theorem State.setAcre_get_poisoned (s : State) (n : Nat) (v : Acre) (x y : Nat) : (s.setAcre n v).poisoned x y = s.poisoned x y := rfl
@[simp] theorem State.setAcre_get_engine (s : State) (n : Nat) (v : Acre) (x : Nat) : (s.setAcre n v).engine x = s.engine x := rfl
@[simp] theorem State.setAcre_get_lane (s : State) (n : Nat) (v : Acre) (x : Nat) : (s.setAcre n v).lane x = s.lane x := rfl
@[simp] theorem State.setAcre_get_stook (s : State) (n : Nat) (v : Acre) (x : Nat) : (s.setAcre n v).stook x = s.stook x := rfl
@[simp] theorem State.setAcre_get_core (s : State) (n : Nat) (v : Acre) (x : Nat) : (s.setAcre n v).core x = s.core x := rfl
@[simp] theorem State.setAcre_get_gen (s : State) (n : Nat) (v : Acre) (x : Nat) : (s.setAcre n v).gen x = s.gen x := rfl
@[simp] theorem State.setAcre_get_ctx (s : State) (n : Nat) (v : Acre) (x : Nat) : (s.setAcre n v).ctx x = s.ctx x := rfl
@[simp] theorem State.setAcre_get_launch (s : State) (n : Nat) (v : Acre) (x : Nat) : (s.setAcre n v).launch x = s.launch x := rfl
@[simp] theorem State.setAcre_get_graph (s : State) (n : Nat) (v : Acre) (x : Nat) : (s.setAcre n v).graph x = s.graph x := rfl
@[simp] theorem State.setAcre_get_stream (s : State) (n : Nat) (v : Acre) (x : Nat) : (s.setAcre n v).stream x = s.stream x := rfl
@[simp] theorem State.setAcre_get_chan (s : State) (n : Nat) (v : Acre) (x : Nat) : (s.setAcre n v).chan x = s.chan x := rfl
@[simp] theorem State.setAcre_get_port (s : State) (n : Nat) (v : Acre) (x : Nat) : (s.setAcre n v).port x = s.port x := rfl
@[simp] theorem State.setAcre_get_tick (s : State) (n : Nat) (v : Acre) : (s.setAcre n v).tick = s.tick := rfl

/-! ## setCtx -/

@[simp] theorem State.setCtx_pending (s : State) (n : Nat) (v : Ctx) : (s.setCtx n v).pending = s.pending := rfl
@[simp] theorem State.setCtx_regs (s : State) (n : Nat) (v : Ctx) : (s.setCtx n v).regs = s.regs := rfl
@[simp] theorem State.setCtx_staged (s : State) (n : Nat) (v : Ctx) : (s.setCtx n v).staged = s.staged := rfl
@[simp] theorem State.setCtx_mem (s : State) (n : Nat) (v : Ctx) : (s.setCtx n v).mem = s.mem := rfl
@[simp] theorem State.setCtx_poison (s : State) (n : Nat) (v : Ctx) : (s.setCtx n v).poison = s.poison := rfl
@[simp] theorem State.setCtx_latch (s : State) (n : Nat) (v : Ctx) : (s.setCtx n v).latch = s.latch := rfl
@[simp] theorem State.setCtx_cyc (s : State) (n : Nat) (v : Ctx) : (s.setCtx n v).cyc = s.cyc := rfl
@[simp] theorem State.setCtx_engines (s : State) (n : Nat) (v : Ctx) : (s.setCtx n v).engines = s.engines := rfl
@[simp] theorem State.setCtx_lanes (s : State) (n : Nat) (v : Ctx) : (s.setCtx n v).lanes = s.lanes := rfl
@[simp] theorem State.setCtx_stooks (s : State) (n : Nat) (v : Ctx) : (s.setCtx n v).stooks = s.stooks := rfl
@[simp] theorem State.setCtx_cores (s : State) (n : Nat) (v : Ctx) : (s.setCtx n v).cores = s.cores := rfl
@[simp] theorem State.setCtx_gens (s : State) (n : Nat) (v : Ctx) : (s.setCtx n v).gens = s.gens := rfl
@[simp] theorem State.setCtx_acres (s : State) (n : Nat) (v : Ctx) : (s.setCtx n v).acres = s.acres := rfl
@[simp] theorem State.setCtx_graphs (s : State) (n : Nat) (v : Ctx) : (s.setCtx n v).graphs = s.graphs := rfl
@[simp] theorem State.setCtx_streams (s : State) (n : Nat) (v : Ctx) : (s.setCtx n v).streams = s.streams := rfl
@[simp] theorem State.setCtx_reports (s : State) (n : Nat) (v : Ctx) : (s.setCtx n v).reports = s.reports := rfl
@[simp] theorem State.setCtx_announced (s : State) (n : Nat) (v : Ctx) : (s.setCtx n v).announced = s.announced := rfl
@[simp] theorem State.setCtx_chans (s : State) (n : Nat) (v : Ctx) : (s.setCtx n v).chans = s.chans := rfl
@[simp] theorem State.setCtx_parts (s : State) (n : Nat) (v : Ctx) : (s.setCtx n v).parts = s.parts := rfl
@[simp] theorem State.setCtx_answers (s : State) (n : Nat) (v : Ctx) : (s.setCtx n v).answers = s.answers := rfl
@[simp] theorem State.setCtx_pools (s : State) (n : Nat) (v : Ctx) : (s.setCtx n v).pools = s.pools := rfl
@[simp] theorem State.setCtx_slotTable (s : State) (n : Nat) (v : Ctx) : (s.setCtx n v).slotTable = s.slotTable := rfl
@[simp] theorem State.setCtx_outs (s : State) (n : Nat) (v : Ctx) : (s.setCtx n v).outs = s.outs := rfl
@[simp] theorem State.setCtx_carts (s : State) (n : Nat) (v : Ctx) : (s.setCtx n v).carts = s.carts := rfl
@[simp] theorem State.setCtx_cartAt (s : State) (n : Nat) (v : Ctx) : (s.setCtx n v).cartAt = s.cartAt := rfl
@[simp] theorem State.setCtx_releases (s : State) (n : Nat) (v : Ctx) : (s.setCtx n v).releases = s.releases := rfl
@[simp] theorem State.setCtx_stale (s : State) (n : Nat) (v : Ctx) : (s.setCtx n v).stale = s.stale := rfl
@[simp] theorem State.setCtx_eccHits (s : State) (n : Nat) (v : Ctx) : (s.setCtx n v).eccHits = s.eccHits := rfl
@[simp] theorem State.setCtx_capNext (s : State) (n : Nat) (v : Ctx) : (s.setCtx n v).capNext = s.capNext := rfl
@[simp] theorem State.setCtx_hangStart (s : State) (n : Nat) (v : Ctx) : (s.setCtx n v).hangStart = s.hangStart := rfl
@[simp] theorem State.setCtx_lostLinks (s : State) (n : Nat) (v : Ctx) : (s.setCtx n v).lostLinks = s.lostLinks := rfl
@[simp] theorem State.setCtx_wires (s : State) (n : Nat) (v : Ctx) : (s.setCtx n v).wires = s.wires := rfl
@[simp] theorem State.setCtx_barnLost (s : State) (n : Nat) (v : Ctx) : (s.setCtx n v).barnLost = s.barnLost := rfl
@[simp] theorem State.setCtx_standby (s : State) (n : Nat) (v : Ctx) : (s.setCtx n v).standby = s.standby := rfl
@[simp] theorem State.setCtx_standbyTick (s : State) (n : Nat) (v : Ctx) : (s.setCtx n v).standbyTick = s.standbyTick := rfl
@[simp] theorem State.setCtx_sendq (s : State) (n : Nat) (v : Ctx) : (s.setCtx n v).sendq = s.sendq := rfl
@[simp] theorem State.setCtx_sources (s : State) (n : Nat) (v : Ctx) : (s.setCtx n v).sources = s.sources := rfl
@[simp] theorem State.setCtx_entAsked (s : State) (n : Nat) (v : Ctx) : (s.setCtx n v).entAsked = s.entAsked := rfl
@[simp] theorem State.setCtx_keysFor (s : State) (n : Nat) (v : Ctx) : (s.setCtx n v).keysFor = s.keysFor := rfl
@[simp] theorem State.setCtx_entWaits (s : State) (n : Nat) (v : Ctx) : (s.setCtx n v).entWaits = s.entWaits := rfl
@[simp] theorem State.setCtx_rawNext (s : State) (n : Nat) (v : Ctx) : (s.setCtx n v).rawNext = s.rawNext := rfl
@[simp] theorem State.setCtx_fallow (s : State) (n : Nat) (v : Ctx) : (s.setCtx n v).fallow = s.fallow := rfl
@[simp] theorem State.setCtx_arrived (s : State) (n : Nat) (v : Ctx) : (s.setCtx n v).arrived = s.arrived := rfl
@[simp] theorem State.setCtx_temps (s : State) (n : Nat) (v : Ctx) : (s.setCtx n v).temps = s.temps := rfl
@[simp] theorem State.setCtx_energies (s : State) (n : Nat) (v : Ctx) : (s.setCtx n v).energies = s.energies := rfl
@[simp] theorem State.setCtx_captured (s : State) (n : Nat) (v : Ctx) : (s.setCtx n v).captured = s.captured := rfl
@[simp] theorem State.setCtx_ports (s : State) (n : Nat) (v : Ctx) : (s.setCtx n v).ports = s.ports := rfl
@[simp] theorem State.setCtx_group (s : State) (n : Nat) (v : Ctx) : (s.setCtx n v).group = s.group := rfl
@[simp] theorem State.setCtx_groupReport (s : State) (n : Nat) (v : Ctx) : (s.setCtx n v).groupReport = s.groupReport := rfl
@[simp] theorem State.setCtx_jobs (s : State) (n : Nat) (v : Ctx) : (s.setCtx n v).jobs = s.jobs := rfl
@[simp] theorem State.setCtx_powered (s : State) (n : Nat) (v : Ctx) : (s.setCtx n v).powered = s.powered := rfl
@[simp] theorem State.setCtx_refValid (s : State) (n : Nat) (v : Ctx) : (s.setCtx n v).refValid = s.refValid := rfl
@[simp] theorem State.setCtx_testEnN (s : State) (n : Nat) (v : Ctx) : (s.setCtx n v).testEnN = s.testEnN := rfl
@[simp] theorem State.setCtx_startWaits (s : State) (n : Nat) (v : Ctx) : (s.setCtx n v).startWaits = s.startWaits := rfl
@[simp] theorem State.setCtx_taps (s : State) (n : Nat) (v : Ctx) : (s.setCtx n v).taps = s.taps := rfl
@[simp] theorem State.setCtx_free (s : State) (n : Nat) (v : Ctx) : (s.setCtx n v).free = s.free := rfl
@[simp] theorem State.setCtx_get_reg (s : State) (n : Nat) (v : Ctx) (q : Reg) (j : Nat) : (s.setCtx n v).reg q j = s.reg q j := rfl
@[simp] theorem State.setCtx_get_fld (s : State) (n : Nat) (v : Ctx) (g : Fld) (j : Nat) : (s.setCtx n v).fld g j = s.fld g j := rfl
@[simp] theorem State.setCtx_get_flag (s : State) (n : Nat) (v : Ctx) (g : Fld) (j : Nat) : (s.setCtx n v).flag g j = s.flag g j := rfl
@[simp] theorem State.setCtx_get_sfld (s : State) (n : Nat) (v : Ctx) (g : Fld) (j : Nat) : (s.setCtx n v).sfld g j = s.sfld g j := rfl
@[simp] theorem State.setCtx_get_rd (s : State) (n : Nat) (v : Ctx) (x : Nat) : (s.setCtx n v).rd x = s.rd x := rfl
@[simp] theorem State.setCtx_get_rdN (s : State) (n : Nat) (v : Ctx) (x y : Nat) : (s.setCtx n v).rdN x y = s.rdN x y := rfl
@[simp] theorem State.setCtx_get_rdNat (s : State) (n : Nat) (v : Ctx) (x y : Nat) : (s.setCtx n v).rdNat x y = s.rdNat x y := rfl
@[simp] theorem State.setCtx_get_poisoned (s : State) (n : Nat) (v : Ctx) (x y : Nat) : (s.setCtx n v).poisoned x y = s.poisoned x y := rfl
@[simp] theorem State.setCtx_get_engine (s : State) (n : Nat) (v : Ctx) (x : Nat) : (s.setCtx n v).engine x = s.engine x := rfl
@[simp] theorem State.setCtx_get_lane (s : State) (n : Nat) (v : Ctx) (x : Nat) : (s.setCtx n v).lane x = s.lane x := rfl
@[simp] theorem State.setCtx_get_stook (s : State) (n : Nat) (v : Ctx) (x : Nat) : (s.setCtx n v).stook x = s.stook x := rfl
@[simp] theorem State.setCtx_get_core (s : State) (n : Nat) (v : Ctx) (x : Nat) : (s.setCtx n v).core x = s.core x := rfl
@[simp] theorem State.setCtx_get_gen (s : State) (n : Nat) (v : Ctx) (x : Nat) : (s.setCtx n v).gen x = s.gen x := rfl
@[simp] theorem State.setCtx_get_acre (s : State) (n : Nat) (v : Ctx) (x : Nat) : (s.setCtx n v).acre x = s.acre x := rfl
@[simp] theorem State.setCtx_get_graph (s : State) (n : Nat) (v : Ctx) (x : Nat) : (s.setCtx n v).graph x = s.graph x := rfl
@[simp] theorem State.setCtx_get_stream (s : State) (n : Nat) (v : Ctx) (x : Nat) : (s.setCtx n v).stream x = s.stream x := rfl
@[simp] theorem State.setCtx_get_chan (s : State) (n : Nat) (v : Ctx) (x : Nat) : (s.setCtx n v).chan x = s.chan x := rfl
@[simp] theorem State.setCtx_get_port (s : State) (n : Nat) (v : Ctx) (x : Nat) : (s.setCtx n v).port x = s.port x := rfl
@[simp] theorem State.setCtx_get_tick (s : State) (n : Nat) (v : Ctx) : (s.setCtx n v).tick = s.tick := rfl

/-! ## setGraph -/

@[simp] theorem State.setGraph_pending (s : State) (n : Nat) (v : Option Graph) : (s.setGraph n v).pending = s.pending := rfl
@[simp] theorem State.setGraph_regs (s : State) (n : Nat) (v : Option Graph) : (s.setGraph n v).regs = s.regs := rfl
@[simp] theorem State.setGraph_staged (s : State) (n : Nat) (v : Option Graph) : (s.setGraph n v).staged = s.staged := rfl
@[simp] theorem State.setGraph_mem (s : State) (n : Nat) (v : Option Graph) : (s.setGraph n v).mem = s.mem := rfl
@[simp] theorem State.setGraph_poison (s : State) (n : Nat) (v : Option Graph) : (s.setGraph n v).poison = s.poison := rfl
@[simp] theorem State.setGraph_latch (s : State) (n : Nat) (v : Option Graph) : (s.setGraph n v).latch = s.latch := rfl
@[simp] theorem State.setGraph_cyc (s : State) (n : Nat) (v : Option Graph) : (s.setGraph n v).cyc = s.cyc := rfl
@[simp] theorem State.setGraph_engines (s : State) (n : Nat) (v : Option Graph) : (s.setGraph n v).engines = s.engines := rfl
@[simp] theorem State.setGraph_lanes (s : State) (n : Nat) (v : Option Graph) : (s.setGraph n v).lanes = s.lanes := rfl
@[simp] theorem State.setGraph_stooks (s : State) (n : Nat) (v : Option Graph) : (s.setGraph n v).stooks = s.stooks := rfl
@[simp] theorem State.setGraph_cores (s : State) (n : Nat) (v : Option Graph) : (s.setGraph n v).cores = s.cores := rfl
@[simp] theorem State.setGraph_gens (s : State) (n : Nat) (v : Option Graph) : (s.setGraph n v).gens = s.gens := rfl
@[simp] theorem State.setGraph_acres (s : State) (n : Nat) (v : Option Graph) : (s.setGraph n v).acres = s.acres := rfl
@[simp] theorem State.setGraph_ctxs (s : State) (n : Nat) (v : Option Graph) : (s.setGraph n v).ctxs = s.ctxs := rfl
@[simp] theorem State.setGraph_streams (s : State) (n : Nat) (v : Option Graph) : (s.setGraph n v).streams = s.streams := rfl
@[simp] theorem State.setGraph_reports (s : State) (n : Nat) (v : Option Graph) : (s.setGraph n v).reports = s.reports := rfl
@[simp] theorem State.setGraph_announced (s : State) (n : Nat) (v : Option Graph) : (s.setGraph n v).announced = s.announced := rfl
@[simp] theorem State.setGraph_chans (s : State) (n : Nat) (v : Option Graph) : (s.setGraph n v).chans = s.chans := rfl
@[simp] theorem State.setGraph_parts (s : State) (n : Nat) (v : Option Graph) : (s.setGraph n v).parts = s.parts := rfl
@[simp] theorem State.setGraph_answers (s : State) (n : Nat) (v : Option Graph) : (s.setGraph n v).answers = s.answers := rfl
@[simp] theorem State.setGraph_pools (s : State) (n : Nat) (v : Option Graph) : (s.setGraph n v).pools = s.pools := rfl
@[simp] theorem State.setGraph_slotTable (s : State) (n : Nat) (v : Option Graph) : (s.setGraph n v).slotTable = s.slotTable := rfl
@[simp] theorem State.setGraph_outs (s : State) (n : Nat) (v : Option Graph) : (s.setGraph n v).outs = s.outs := rfl
@[simp] theorem State.setGraph_carts (s : State) (n : Nat) (v : Option Graph) : (s.setGraph n v).carts = s.carts := rfl
@[simp] theorem State.setGraph_cartAt (s : State) (n : Nat) (v : Option Graph) : (s.setGraph n v).cartAt = s.cartAt := rfl
@[simp] theorem State.setGraph_releases (s : State) (n : Nat) (v : Option Graph) : (s.setGraph n v).releases = s.releases := rfl
@[simp] theorem State.setGraph_stale (s : State) (n : Nat) (v : Option Graph) : (s.setGraph n v).stale = s.stale := rfl
@[simp] theorem State.setGraph_eccHits (s : State) (n : Nat) (v : Option Graph) : (s.setGraph n v).eccHits = s.eccHits := rfl
@[simp] theorem State.setGraph_capNext (s : State) (n : Nat) (v : Option Graph) : (s.setGraph n v).capNext = s.capNext := rfl
@[simp] theorem State.setGraph_hangStart (s : State) (n : Nat) (v : Option Graph) : (s.setGraph n v).hangStart = s.hangStart := rfl
@[simp] theorem State.setGraph_lostLinks (s : State) (n : Nat) (v : Option Graph) : (s.setGraph n v).lostLinks = s.lostLinks := rfl
@[simp] theorem State.setGraph_wires (s : State) (n : Nat) (v : Option Graph) : (s.setGraph n v).wires = s.wires := rfl
@[simp] theorem State.setGraph_barnLost (s : State) (n : Nat) (v : Option Graph) : (s.setGraph n v).barnLost = s.barnLost := rfl
@[simp] theorem State.setGraph_standby (s : State) (n : Nat) (v : Option Graph) : (s.setGraph n v).standby = s.standby := rfl
@[simp] theorem State.setGraph_standbyTick (s : State) (n : Nat) (v : Option Graph) : (s.setGraph n v).standbyTick = s.standbyTick := rfl
@[simp] theorem State.setGraph_sendq (s : State) (n : Nat) (v : Option Graph) : (s.setGraph n v).sendq = s.sendq := rfl
@[simp] theorem State.setGraph_sources (s : State) (n : Nat) (v : Option Graph) : (s.setGraph n v).sources = s.sources := rfl
@[simp] theorem State.setGraph_entAsked (s : State) (n : Nat) (v : Option Graph) : (s.setGraph n v).entAsked = s.entAsked := rfl
@[simp] theorem State.setGraph_keysFor (s : State) (n : Nat) (v : Option Graph) : (s.setGraph n v).keysFor = s.keysFor := rfl
@[simp] theorem State.setGraph_entWaits (s : State) (n : Nat) (v : Option Graph) : (s.setGraph n v).entWaits = s.entWaits := rfl
@[simp] theorem State.setGraph_rawNext (s : State) (n : Nat) (v : Option Graph) : (s.setGraph n v).rawNext = s.rawNext := rfl
@[simp] theorem State.setGraph_fallow (s : State) (n : Nat) (v : Option Graph) : (s.setGraph n v).fallow = s.fallow := rfl
@[simp] theorem State.setGraph_arrived (s : State) (n : Nat) (v : Option Graph) : (s.setGraph n v).arrived = s.arrived := rfl
@[simp] theorem State.setGraph_temps (s : State) (n : Nat) (v : Option Graph) : (s.setGraph n v).temps = s.temps := rfl
@[simp] theorem State.setGraph_energies (s : State) (n : Nat) (v : Option Graph) : (s.setGraph n v).energies = s.energies := rfl
@[simp] theorem State.setGraph_captured (s : State) (n : Nat) (v : Option Graph) : (s.setGraph n v).captured = s.captured := rfl
@[simp] theorem State.setGraph_ports (s : State) (n : Nat) (v : Option Graph) : (s.setGraph n v).ports = s.ports := rfl
@[simp] theorem State.setGraph_group (s : State) (n : Nat) (v : Option Graph) : (s.setGraph n v).group = s.group := rfl
@[simp] theorem State.setGraph_groupReport (s : State) (n : Nat) (v : Option Graph) : (s.setGraph n v).groupReport = s.groupReport := rfl
@[simp] theorem State.setGraph_jobs (s : State) (n : Nat) (v : Option Graph) : (s.setGraph n v).jobs = s.jobs := rfl
@[simp] theorem State.setGraph_powered (s : State) (n : Nat) (v : Option Graph) : (s.setGraph n v).powered = s.powered := rfl
@[simp] theorem State.setGraph_refValid (s : State) (n : Nat) (v : Option Graph) : (s.setGraph n v).refValid = s.refValid := rfl
@[simp] theorem State.setGraph_testEnN (s : State) (n : Nat) (v : Option Graph) : (s.setGraph n v).testEnN = s.testEnN := rfl
@[simp] theorem State.setGraph_startWaits (s : State) (n : Nat) (v : Option Graph) : (s.setGraph n v).startWaits = s.startWaits := rfl
@[simp] theorem State.setGraph_taps (s : State) (n : Nat) (v : Option Graph) : (s.setGraph n v).taps = s.taps := rfl
@[simp] theorem State.setGraph_free (s : State) (n : Nat) (v : Option Graph) : (s.setGraph n v).free = s.free := rfl
@[simp] theorem State.setGraph_get_reg (s : State) (n : Nat) (v : Option Graph) (q : Reg) (j : Nat) : (s.setGraph n v).reg q j = s.reg q j := rfl
@[simp] theorem State.setGraph_get_fld (s : State) (n : Nat) (v : Option Graph) (g : Fld) (j : Nat) : (s.setGraph n v).fld g j = s.fld g j := rfl
@[simp] theorem State.setGraph_get_flag (s : State) (n : Nat) (v : Option Graph) (g : Fld) (j : Nat) : (s.setGraph n v).flag g j = s.flag g j := rfl
@[simp] theorem State.setGraph_get_sfld (s : State) (n : Nat) (v : Option Graph) (g : Fld) (j : Nat) : (s.setGraph n v).sfld g j = s.sfld g j := rfl
@[simp] theorem State.setGraph_get_rd (s : State) (n : Nat) (v : Option Graph) (x : Nat) : (s.setGraph n v).rd x = s.rd x := rfl
@[simp] theorem State.setGraph_get_rdN (s : State) (n : Nat) (v : Option Graph) (x y : Nat) : (s.setGraph n v).rdN x y = s.rdN x y := rfl
@[simp] theorem State.setGraph_get_rdNat (s : State) (n : Nat) (v : Option Graph) (x y : Nat) : (s.setGraph n v).rdNat x y = s.rdNat x y := rfl
@[simp] theorem State.setGraph_get_poisoned (s : State) (n : Nat) (v : Option Graph) (x y : Nat) : (s.setGraph n v).poisoned x y = s.poisoned x y := rfl
@[simp] theorem State.setGraph_get_engine (s : State) (n : Nat) (v : Option Graph) (x : Nat) : (s.setGraph n v).engine x = s.engine x := rfl
@[simp] theorem State.setGraph_get_lane (s : State) (n : Nat) (v : Option Graph) (x : Nat) : (s.setGraph n v).lane x = s.lane x := rfl
@[simp] theorem State.setGraph_get_stook (s : State) (n : Nat) (v : Option Graph) (x : Nat) : (s.setGraph n v).stook x = s.stook x := rfl
@[simp] theorem State.setGraph_get_core (s : State) (n : Nat) (v : Option Graph) (x : Nat) : (s.setGraph n v).core x = s.core x := rfl
@[simp] theorem State.setGraph_get_gen (s : State) (n : Nat) (v : Option Graph) (x : Nat) : (s.setGraph n v).gen x = s.gen x := rfl
@[simp] theorem State.setGraph_get_acre (s : State) (n : Nat) (v : Option Graph) (x : Nat) : (s.setGraph n v).acre x = s.acre x := rfl
@[simp] theorem State.setGraph_get_ctx (s : State) (n : Nat) (v : Option Graph) (x : Nat) : (s.setGraph n v).ctx x = s.ctx x := rfl
@[simp] theorem State.setGraph_get_launch (s : State) (n : Nat) (v : Option Graph) (x : Nat) : (s.setGraph n v).launch x = s.launch x := rfl
@[simp] theorem State.setGraph_get_stream (s : State) (n : Nat) (v : Option Graph) (x : Nat) : (s.setGraph n v).stream x = s.stream x := rfl
@[simp] theorem State.setGraph_get_chan (s : State) (n : Nat) (v : Option Graph) (x : Nat) : (s.setGraph n v).chan x = s.chan x := rfl
@[simp] theorem State.setGraph_get_port (s : State) (n : Nat) (v : Option Graph) (x : Nat) : (s.setGraph n v).port x = s.port x := rfl
@[simp] theorem State.setGraph_get_tick (s : State) (n : Nat) (v : Option Graph) : (s.setGraph n v).tick = s.tick := rfl

/-! ## setStream -/

@[simp] theorem State.setStream_pending (s : State) (n : Nat) (v : Stream) : (s.setStream n v).pending = s.pending := rfl
@[simp] theorem State.setStream_regs (s : State) (n : Nat) (v : Stream) : (s.setStream n v).regs = s.regs := rfl
@[simp] theorem State.setStream_staged (s : State) (n : Nat) (v : Stream) : (s.setStream n v).staged = s.staged := rfl
@[simp] theorem State.setStream_mem (s : State) (n : Nat) (v : Stream) : (s.setStream n v).mem = s.mem := rfl
@[simp] theorem State.setStream_poison (s : State) (n : Nat) (v : Stream) : (s.setStream n v).poison = s.poison := rfl
@[simp] theorem State.setStream_latch (s : State) (n : Nat) (v : Stream) : (s.setStream n v).latch = s.latch := rfl
@[simp] theorem State.setStream_cyc (s : State) (n : Nat) (v : Stream) : (s.setStream n v).cyc = s.cyc := rfl
@[simp] theorem State.setStream_engines (s : State) (n : Nat) (v : Stream) : (s.setStream n v).engines = s.engines := rfl
@[simp] theorem State.setStream_lanes (s : State) (n : Nat) (v : Stream) : (s.setStream n v).lanes = s.lanes := rfl
@[simp] theorem State.setStream_stooks (s : State) (n : Nat) (v : Stream) : (s.setStream n v).stooks = s.stooks := rfl
@[simp] theorem State.setStream_cores (s : State) (n : Nat) (v : Stream) : (s.setStream n v).cores = s.cores := rfl
@[simp] theorem State.setStream_gens (s : State) (n : Nat) (v : Stream) : (s.setStream n v).gens = s.gens := rfl
@[simp] theorem State.setStream_acres (s : State) (n : Nat) (v : Stream) : (s.setStream n v).acres = s.acres := rfl
@[simp] theorem State.setStream_ctxs (s : State) (n : Nat) (v : Stream) : (s.setStream n v).ctxs = s.ctxs := rfl
@[simp] theorem State.setStream_graphs (s : State) (n : Nat) (v : Stream) : (s.setStream n v).graphs = s.graphs := rfl
@[simp] theorem State.setStream_reports (s : State) (n : Nat) (v : Stream) : (s.setStream n v).reports = s.reports := rfl
@[simp] theorem State.setStream_announced (s : State) (n : Nat) (v : Stream) : (s.setStream n v).announced = s.announced := rfl
@[simp] theorem State.setStream_chans (s : State) (n : Nat) (v : Stream) : (s.setStream n v).chans = s.chans := rfl
@[simp] theorem State.setStream_parts (s : State) (n : Nat) (v : Stream) : (s.setStream n v).parts = s.parts := rfl
@[simp] theorem State.setStream_answers (s : State) (n : Nat) (v : Stream) : (s.setStream n v).answers = s.answers := rfl
@[simp] theorem State.setStream_pools (s : State) (n : Nat) (v : Stream) : (s.setStream n v).pools = s.pools := rfl
@[simp] theorem State.setStream_slotTable (s : State) (n : Nat) (v : Stream) : (s.setStream n v).slotTable = s.slotTable := rfl
@[simp] theorem State.setStream_outs (s : State) (n : Nat) (v : Stream) : (s.setStream n v).outs = s.outs := rfl
@[simp] theorem State.setStream_carts (s : State) (n : Nat) (v : Stream) : (s.setStream n v).carts = s.carts := rfl
@[simp] theorem State.setStream_cartAt (s : State) (n : Nat) (v : Stream) : (s.setStream n v).cartAt = s.cartAt := rfl
@[simp] theorem State.setStream_releases (s : State) (n : Nat) (v : Stream) : (s.setStream n v).releases = s.releases := rfl
@[simp] theorem State.setStream_stale (s : State) (n : Nat) (v : Stream) : (s.setStream n v).stale = s.stale := rfl
@[simp] theorem State.setStream_eccHits (s : State) (n : Nat) (v : Stream) : (s.setStream n v).eccHits = s.eccHits := rfl
@[simp] theorem State.setStream_capNext (s : State) (n : Nat) (v : Stream) : (s.setStream n v).capNext = s.capNext := rfl
@[simp] theorem State.setStream_hangStart (s : State) (n : Nat) (v : Stream) : (s.setStream n v).hangStart = s.hangStart := rfl
@[simp] theorem State.setStream_lostLinks (s : State) (n : Nat) (v : Stream) : (s.setStream n v).lostLinks = s.lostLinks := rfl
@[simp] theorem State.setStream_wires (s : State) (n : Nat) (v : Stream) : (s.setStream n v).wires = s.wires := rfl
@[simp] theorem State.setStream_barnLost (s : State) (n : Nat) (v : Stream) : (s.setStream n v).barnLost = s.barnLost := rfl
@[simp] theorem State.setStream_standby (s : State) (n : Nat) (v : Stream) : (s.setStream n v).standby = s.standby := rfl
@[simp] theorem State.setStream_standbyTick (s : State) (n : Nat) (v : Stream) : (s.setStream n v).standbyTick = s.standbyTick := rfl
@[simp] theorem State.setStream_sendq (s : State) (n : Nat) (v : Stream) : (s.setStream n v).sendq = s.sendq := rfl
@[simp] theorem State.setStream_sources (s : State) (n : Nat) (v : Stream) : (s.setStream n v).sources = s.sources := rfl
@[simp] theorem State.setStream_entAsked (s : State) (n : Nat) (v : Stream) : (s.setStream n v).entAsked = s.entAsked := rfl
@[simp] theorem State.setStream_keysFor (s : State) (n : Nat) (v : Stream) : (s.setStream n v).keysFor = s.keysFor := rfl
@[simp] theorem State.setStream_entWaits (s : State) (n : Nat) (v : Stream) : (s.setStream n v).entWaits = s.entWaits := rfl
@[simp] theorem State.setStream_rawNext (s : State) (n : Nat) (v : Stream) : (s.setStream n v).rawNext = s.rawNext := rfl
@[simp] theorem State.setStream_fallow (s : State) (n : Nat) (v : Stream) : (s.setStream n v).fallow = s.fallow := rfl
@[simp] theorem State.setStream_arrived (s : State) (n : Nat) (v : Stream) : (s.setStream n v).arrived = s.arrived := rfl
@[simp] theorem State.setStream_temps (s : State) (n : Nat) (v : Stream) : (s.setStream n v).temps = s.temps := rfl
@[simp] theorem State.setStream_energies (s : State) (n : Nat) (v : Stream) : (s.setStream n v).energies = s.energies := rfl
@[simp] theorem State.setStream_captured (s : State) (n : Nat) (v : Stream) : (s.setStream n v).captured = s.captured := rfl
@[simp] theorem State.setStream_ports (s : State) (n : Nat) (v : Stream) : (s.setStream n v).ports = s.ports := rfl
@[simp] theorem State.setStream_group (s : State) (n : Nat) (v : Stream) : (s.setStream n v).group = s.group := rfl
@[simp] theorem State.setStream_groupReport (s : State) (n : Nat) (v : Stream) : (s.setStream n v).groupReport = s.groupReport := rfl
@[simp] theorem State.setStream_jobs (s : State) (n : Nat) (v : Stream) : (s.setStream n v).jobs = s.jobs := rfl
@[simp] theorem State.setStream_powered (s : State) (n : Nat) (v : Stream) : (s.setStream n v).powered = s.powered := rfl
@[simp] theorem State.setStream_refValid (s : State) (n : Nat) (v : Stream) : (s.setStream n v).refValid = s.refValid := rfl
@[simp] theorem State.setStream_testEnN (s : State) (n : Nat) (v : Stream) : (s.setStream n v).testEnN = s.testEnN := rfl
@[simp] theorem State.setStream_startWaits (s : State) (n : Nat) (v : Stream) : (s.setStream n v).startWaits = s.startWaits := rfl
@[simp] theorem State.setStream_taps (s : State) (n : Nat) (v : Stream) : (s.setStream n v).taps = s.taps := rfl
@[simp] theorem State.setStream_free (s : State) (n : Nat) (v : Stream) : (s.setStream n v).free = s.free := rfl
@[simp] theorem State.setStream_get_reg (s : State) (n : Nat) (v : Stream) (q : Reg) (j : Nat) : (s.setStream n v).reg q j = s.reg q j := rfl
@[simp] theorem State.setStream_get_fld (s : State) (n : Nat) (v : Stream) (g : Fld) (j : Nat) : (s.setStream n v).fld g j = s.fld g j := rfl
@[simp] theorem State.setStream_get_flag (s : State) (n : Nat) (v : Stream) (g : Fld) (j : Nat) : (s.setStream n v).flag g j = s.flag g j := rfl
@[simp] theorem State.setStream_get_sfld (s : State) (n : Nat) (v : Stream) (g : Fld) (j : Nat) : (s.setStream n v).sfld g j = s.sfld g j := rfl
@[simp] theorem State.setStream_get_rd (s : State) (n : Nat) (v : Stream) (x : Nat) : (s.setStream n v).rd x = s.rd x := rfl
@[simp] theorem State.setStream_get_rdN (s : State) (n : Nat) (v : Stream) (x y : Nat) : (s.setStream n v).rdN x y = s.rdN x y := rfl
@[simp] theorem State.setStream_get_rdNat (s : State) (n : Nat) (v : Stream) (x y : Nat) : (s.setStream n v).rdNat x y = s.rdNat x y := rfl
@[simp] theorem State.setStream_get_poisoned (s : State) (n : Nat) (v : Stream) (x y : Nat) : (s.setStream n v).poisoned x y = s.poisoned x y := rfl
@[simp] theorem State.setStream_get_engine (s : State) (n : Nat) (v : Stream) (x : Nat) : (s.setStream n v).engine x = s.engine x := rfl
@[simp] theorem State.setStream_get_lane (s : State) (n : Nat) (v : Stream) (x : Nat) : (s.setStream n v).lane x = s.lane x := rfl
@[simp] theorem State.setStream_get_stook (s : State) (n : Nat) (v : Stream) (x : Nat) : (s.setStream n v).stook x = s.stook x := rfl
@[simp] theorem State.setStream_get_core (s : State) (n : Nat) (v : Stream) (x : Nat) : (s.setStream n v).core x = s.core x := rfl
@[simp] theorem State.setStream_get_gen (s : State) (n : Nat) (v : Stream) (x : Nat) : (s.setStream n v).gen x = s.gen x := rfl
@[simp] theorem State.setStream_get_acre (s : State) (n : Nat) (v : Stream) (x : Nat) : (s.setStream n v).acre x = s.acre x := rfl
@[simp] theorem State.setStream_get_ctx (s : State) (n : Nat) (v : Stream) (x : Nat) : (s.setStream n v).ctx x = s.ctx x := rfl
@[simp] theorem State.setStream_get_launch (s : State) (n : Nat) (v : Stream) (x : Nat) : (s.setStream n v).launch x = s.launch x := rfl
@[simp] theorem State.setStream_get_graph (s : State) (n : Nat) (v : Stream) (x : Nat) : (s.setStream n v).graph x = s.graph x := rfl
@[simp] theorem State.setStream_get_chan (s : State) (n : Nat) (v : Stream) (x : Nat) : (s.setStream n v).chan x = s.chan x := rfl
@[simp] theorem State.setStream_get_port (s : State) (n : Nat) (v : Stream) (x : Nat) : (s.setStream n v).port x = s.port x := rfl
@[simp] theorem State.setStream_get_tick (s : State) (n : Nat) (v : Stream) : (s.setStream n v).tick = s.tick := rfl

/-! ## setChan -/

@[simp] theorem State.setChan_pending (s : State) (n : Nat) (v : Chan) : (s.setChan n v).pending = s.pending := rfl
@[simp] theorem State.setChan_regs (s : State) (n : Nat) (v : Chan) : (s.setChan n v).regs = s.regs := rfl
@[simp] theorem State.setChan_staged (s : State) (n : Nat) (v : Chan) : (s.setChan n v).staged = s.staged := rfl
@[simp] theorem State.setChan_mem (s : State) (n : Nat) (v : Chan) : (s.setChan n v).mem = s.mem := rfl
@[simp] theorem State.setChan_poison (s : State) (n : Nat) (v : Chan) : (s.setChan n v).poison = s.poison := rfl
@[simp] theorem State.setChan_latch (s : State) (n : Nat) (v : Chan) : (s.setChan n v).latch = s.latch := rfl
@[simp] theorem State.setChan_cyc (s : State) (n : Nat) (v : Chan) : (s.setChan n v).cyc = s.cyc := rfl
@[simp] theorem State.setChan_engines (s : State) (n : Nat) (v : Chan) : (s.setChan n v).engines = s.engines := rfl
@[simp] theorem State.setChan_lanes (s : State) (n : Nat) (v : Chan) : (s.setChan n v).lanes = s.lanes := rfl
@[simp] theorem State.setChan_stooks (s : State) (n : Nat) (v : Chan) : (s.setChan n v).stooks = s.stooks := rfl
@[simp] theorem State.setChan_cores (s : State) (n : Nat) (v : Chan) : (s.setChan n v).cores = s.cores := rfl
@[simp] theorem State.setChan_gens (s : State) (n : Nat) (v : Chan) : (s.setChan n v).gens = s.gens := rfl
@[simp] theorem State.setChan_acres (s : State) (n : Nat) (v : Chan) : (s.setChan n v).acres = s.acres := rfl
@[simp] theorem State.setChan_ctxs (s : State) (n : Nat) (v : Chan) : (s.setChan n v).ctxs = s.ctxs := rfl
@[simp] theorem State.setChan_graphs (s : State) (n : Nat) (v : Chan) : (s.setChan n v).graphs = s.graphs := rfl
@[simp] theorem State.setChan_streams (s : State) (n : Nat) (v : Chan) : (s.setChan n v).streams = s.streams := rfl
@[simp] theorem State.setChan_reports (s : State) (n : Nat) (v : Chan) : (s.setChan n v).reports = s.reports := rfl
@[simp] theorem State.setChan_announced (s : State) (n : Nat) (v : Chan) : (s.setChan n v).announced = s.announced := rfl
@[simp] theorem State.setChan_parts (s : State) (n : Nat) (v : Chan) : (s.setChan n v).parts = s.parts := rfl
@[simp] theorem State.setChan_answers (s : State) (n : Nat) (v : Chan) : (s.setChan n v).answers = s.answers := rfl
@[simp] theorem State.setChan_pools (s : State) (n : Nat) (v : Chan) : (s.setChan n v).pools = s.pools := rfl
@[simp] theorem State.setChan_slotTable (s : State) (n : Nat) (v : Chan) : (s.setChan n v).slotTable = s.slotTable := rfl
@[simp] theorem State.setChan_outs (s : State) (n : Nat) (v : Chan) : (s.setChan n v).outs = s.outs := rfl
@[simp] theorem State.setChan_carts (s : State) (n : Nat) (v : Chan) : (s.setChan n v).carts = s.carts := rfl
@[simp] theorem State.setChan_cartAt (s : State) (n : Nat) (v : Chan) : (s.setChan n v).cartAt = s.cartAt := rfl
@[simp] theorem State.setChan_releases (s : State) (n : Nat) (v : Chan) : (s.setChan n v).releases = s.releases := rfl
@[simp] theorem State.setChan_stale (s : State) (n : Nat) (v : Chan) : (s.setChan n v).stale = s.stale := rfl
@[simp] theorem State.setChan_eccHits (s : State) (n : Nat) (v : Chan) : (s.setChan n v).eccHits = s.eccHits := rfl
@[simp] theorem State.setChan_capNext (s : State) (n : Nat) (v : Chan) : (s.setChan n v).capNext = s.capNext := rfl
@[simp] theorem State.setChan_hangStart (s : State) (n : Nat) (v : Chan) : (s.setChan n v).hangStart = s.hangStart := rfl
@[simp] theorem State.setChan_lostLinks (s : State) (n : Nat) (v : Chan) : (s.setChan n v).lostLinks = s.lostLinks := rfl
@[simp] theorem State.setChan_wires (s : State) (n : Nat) (v : Chan) : (s.setChan n v).wires = s.wires := rfl
@[simp] theorem State.setChan_barnLost (s : State) (n : Nat) (v : Chan) : (s.setChan n v).barnLost = s.barnLost := rfl
@[simp] theorem State.setChan_standby (s : State) (n : Nat) (v : Chan) : (s.setChan n v).standby = s.standby := rfl
@[simp] theorem State.setChan_standbyTick (s : State) (n : Nat) (v : Chan) : (s.setChan n v).standbyTick = s.standbyTick := rfl
@[simp] theorem State.setChan_sendq (s : State) (n : Nat) (v : Chan) : (s.setChan n v).sendq = s.sendq := rfl
@[simp] theorem State.setChan_sources (s : State) (n : Nat) (v : Chan) : (s.setChan n v).sources = s.sources := rfl
@[simp] theorem State.setChan_entAsked (s : State) (n : Nat) (v : Chan) : (s.setChan n v).entAsked = s.entAsked := rfl
@[simp] theorem State.setChan_keysFor (s : State) (n : Nat) (v : Chan) : (s.setChan n v).keysFor = s.keysFor := rfl
@[simp] theorem State.setChan_entWaits (s : State) (n : Nat) (v : Chan) : (s.setChan n v).entWaits = s.entWaits := rfl
@[simp] theorem State.setChan_rawNext (s : State) (n : Nat) (v : Chan) : (s.setChan n v).rawNext = s.rawNext := rfl
@[simp] theorem State.setChan_fallow (s : State) (n : Nat) (v : Chan) : (s.setChan n v).fallow = s.fallow := rfl
@[simp] theorem State.setChan_arrived (s : State) (n : Nat) (v : Chan) : (s.setChan n v).arrived = s.arrived := rfl
@[simp] theorem State.setChan_temps (s : State) (n : Nat) (v : Chan) : (s.setChan n v).temps = s.temps := rfl
@[simp] theorem State.setChan_energies (s : State) (n : Nat) (v : Chan) : (s.setChan n v).energies = s.energies := rfl
@[simp] theorem State.setChan_captured (s : State) (n : Nat) (v : Chan) : (s.setChan n v).captured = s.captured := rfl
@[simp] theorem State.setChan_ports (s : State) (n : Nat) (v : Chan) : (s.setChan n v).ports = s.ports := rfl
@[simp] theorem State.setChan_group (s : State) (n : Nat) (v : Chan) : (s.setChan n v).group = s.group := rfl
@[simp] theorem State.setChan_groupReport (s : State) (n : Nat) (v : Chan) : (s.setChan n v).groupReport = s.groupReport := rfl
@[simp] theorem State.setChan_jobs (s : State) (n : Nat) (v : Chan) : (s.setChan n v).jobs = s.jobs := rfl
@[simp] theorem State.setChan_powered (s : State) (n : Nat) (v : Chan) : (s.setChan n v).powered = s.powered := rfl
@[simp] theorem State.setChan_refValid (s : State) (n : Nat) (v : Chan) : (s.setChan n v).refValid = s.refValid := rfl
@[simp] theorem State.setChan_testEnN (s : State) (n : Nat) (v : Chan) : (s.setChan n v).testEnN = s.testEnN := rfl
@[simp] theorem State.setChan_startWaits (s : State) (n : Nat) (v : Chan) : (s.setChan n v).startWaits = s.startWaits := rfl
@[simp] theorem State.setChan_taps (s : State) (n : Nat) (v : Chan) : (s.setChan n v).taps = s.taps := rfl
@[simp] theorem State.setChan_free (s : State) (n : Nat) (v : Chan) : (s.setChan n v).free = s.free := rfl
@[simp] theorem State.setChan_get_reg (s : State) (n : Nat) (v : Chan) (q : Reg) (j : Nat) : (s.setChan n v).reg q j = s.reg q j := rfl
@[simp] theorem State.setChan_get_fld (s : State) (n : Nat) (v : Chan) (g : Fld) (j : Nat) : (s.setChan n v).fld g j = s.fld g j := rfl
@[simp] theorem State.setChan_get_flag (s : State) (n : Nat) (v : Chan) (g : Fld) (j : Nat) : (s.setChan n v).flag g j = s.flag g j := rfl
@[simp] theorem State.setChan_get_sfld (s : State) (n : Nat) (v : Chan) (g : Fld) (j : Nat) : (s.setChan n v).sfld g j = s.sfld g j := rfl
@[simp] theorem State.setChan_get_rd (s : State) (n : Nat) (v : Chan) (x : Nat) : (s.setChan n v).rd x = s.rd x := rfl
@[simp] theorem State.setChan_get_rdN (s : State) (n : Nat) (v : Chan) (x y : Nat) : (s.setChan n v).rdN x y = s.rdN x y := rfl
@[simp] theorem State.setChan_get_rdNat (s : State) (n : Nat) (v : Chan) (x y : Nat) : (s.setChan n v).rdNat x y = s.rdNat x y := rfl
@[simp] theorem State.setChan_get_poisoned (s : State) (n : Nat) (v : Chan) (x y : Nat) : (s.setChan n v).poisoned x y = s.poisoned x y := rfl
@[simp] theorem State.setChan_get_engine (s : State) (n : Nat) (v : Chan) (x : Nat) : (s.setChan n v).engine x = s.engine x := rfl
@[simp] theorem State.setChan_get_lane (s : State) (n : Nat) (v : Chan) (x : Nat) : (s.setChan n v).lane x = s.lane x := rfl
@[simp] theorem State.setChan_get_stook (s : State) (n : Nat) (v : Chan) (x : Nat) : (s.setChan n v).stook x = s.stook x := rfl
@[simp] theorem State.setChan_get_core (s : State) (n : Nat) (v : Chan) (x : Nat) : (s.setChan n v).core x = s.core x := rfl
@[simp] theorem State.setChan_get_gen (s : State) (n : Nat) (v : Chan) (x : Nat) : (s.setChan n v).gen x = s.gen x := rfl
@[simp] theorem State.setChan_get_acre (s : State) (n : Nat) (v : Chan) (x : Nat) : (s.setChan n v).acre x = s.acre x := rfl
@[simp] theorem State.setChan_get_ctx (s : State) (n : Nat) (v : Chan) (x : Nat) : (s.setChan n v).ctx x = s.ctx x := rfl
@[simp] theorem State.setChan_get_launch (s : State) (n : Nat) (v : Chan) (x : Nat) : (s.setChan n v).launch x = s.launch x := rfl
@[simp] theorem State.setChan_get_graph (s : State) (n : Nat) (v : Chan) (x : Nat) : (s.setChan n v).graph x = s.graph x := rfl
@[simp] theorem State.setChan_get_stream (s : State) (n : Nat) (v : Chan) (x : Nat) : (s.setChan n v).stream x = s.stream x := rfl
@[simp] theorem State.setChan_get_port (s : State) (n : Nat) (v : Chan) (x : Nat) : (s.setChan n v).port x = s.port x := rfl
@[simp] theorem State.setChan_get_tick (s : State) (n : Nat) (v : Chan) : (s.setChan n v).tick = s.tick := rfl

/-! ## setPort -/

@[simp] theorem State.setPort_pending (s : State) (n : Nat) (v : PortState) : (s.setPort n v).pending = s.pending := rfl
@[simp] theorem State.setPort_regs (s : State) (n : Nat) (v : PortState) : (s.setPort n v).regs = s.regs := rfl
@[simp] theorem State.setPort_staged (s : State) (n : Nat) (v : PortState) : (s.setPort n v).staged = s.staged := rfl
@[simp] theorem State.setPort_mem (s : State) (n : Nat) (v : PortState) : (s.setPort n v).mem = s.mem := rfl
@[simp] theorem State.setPort_poison (s : State) (n : Nat) (v : PortState) : (s.setPort n v).poison = s.poison := rfl
@[simp] theorem State.setPort_latch (s : State) (n : Nat) (v : PortState) : (s.setPort n v).latch = s.latch := rfl
@[simp] theorem State.setPort_cyc (s : State) (n : Nat) (v : PortState) : (s.setPort n v).cyc = s.cyc := rfl
@[simp] theorem State.setPort_engines (s : State) (n : Nat) (v : PortState) : (s.setPort n v).engines = s.engines := rfl
@[simp] theorem State.setPort_lanes (s : State) (n : Nat) (v : PortState) : (s.setPort n v).lanes = s.lanes := rfl
@[simp] theorem State.setPort_stooks (s : State) (n : Nat) (v : PortState) : (s.setPort n v).stooks = s.stooks := rfl
@[simp] theorem State.setPort_cores (s : State) (n : Nat) (v : PortState) : (s.setPort n v).cores = s.cores := rfl
@[simp] theorem State.setPort_gens (s : State) (n : Nat) (v : PortState) : (s.setPort n v).gens = s.gens := rfl
@[simp] theorem State.setPort_acres (s : State) (n : Nat) (v : PortState) : (s.setPort n v).acres = s.acres := rfl
@[simp] theorem State.setPort_ctxs (s : State) (n : Nat) (v : PortState) : (s.setPort n v).ctxs = s.ctxs := rfl
@[simp] theorem State.setPort_graphs (s : State) (n : Nat) (v : PortState) : (s.setPort n v).graphs = s.graphs := rfl
@[simp] theorem State.setPort_streams (s : State) (n : Nat) (v : PortState) : (s.setPort n v).streams = s.streams := rfl
@[simp] theorem State.setPort_reports (s : State) (n : Nat) (v : PortState) : (s.setPort n v).reports = s.reports := rfl
@[simp] theorem State.setPort_announced (s : State) (n : Nat) (v : PortState) : (s.setPort n v).announced = s.announced := rfl
@[simp] theorem State.setPort_chans (s : State) (n : Nat) (v : PortState) : (s.setPort n v).chans = s.chans := rfl
@[simp] theorem State.setPort_parts (s : State) (n : Nat) (v : PortState) : (s.setPort n v).parts = s.parts := rfl
@[simp] theorem State.setPort_answers (s : State) (n : Nat) (v : PortState) : (s.setPort n v).answers = s.answers := rfl
@[simp] theorem State.setPort_pools (s : State) (n : Nat) (v : PortState) : (s.setPort n v).pools = s.pools := rfl
@[simp] theorem State.setPort_slotTable (s : State) (n : Nat) (v : PortState) : (s.setPort n v).slotTable = s.slotTable := rfl
@[simp] theorem State.setPort_outs (s : State) (n : Nat) (v : PortState) : (s.setPort n v).outs = s.outs := rfl
@[simp] theorem State.setPort_carts (s : State) (n : Nat) (v : PortState) : (s.setPort n v).carts = s.carts := rfl
@[simp] theorem State.setPort_cartAt (s : State) (n : Nat) (v : PortState) : (s.setPort n v).cartAt = s.cartAt := rfl
@[simp] theorem State.setPort_releases (s : State) (n : Nat) (v : PortState) : (s.setPort n v).releases = s.releases := rfl
@[simp] theorem State.setPort_stale (s : State) (n : Nat) (v : PortState) : (s.setPort n v).stale = s.stale := rfl
@[simp] theorem State.setPort_eccHits (s : State) (n : Nat) (v : PortState) : (s.setPort n v).eccHits = s.eccHits := rfl
@[simp] theorem State.setPort_capNext (s : State) (n : Nat) (v : PortState) : (s.setPort n v).capNext = s.capNext := rfl
@[simp] theorem State.setPort_hangStart (s : State) (n : Nat) (v : PortState) : (s.setPort n v).hangStart = s.hangStart := rfl
@[simp] theorem State.setPort_lostLinks (s : State) (n : Nat) (v : PortState) : (s.setPort n v).lostLinks = s.lostLinks := rfl
@[simp] theorem State.setPort_wires (s : State) (n : Nat) (v : PortState) : (s.setPort n v).wires = s.wires := rfl
@[simp] theorem State.setPort_barnLost (s : State) (n : Nat) (v : PortState) : (s.setPort n v).barnLost = s.barnLost := rfl
@[simp] theorem State.setPort_standby (s : State) (n : Nat) (v : PortState) : (s.setPort n v).standby = s.standby := rfl
@[simp] theorem State.setPort_standbyTick (s : State) (n : Nat) (v : PortState) : (s.setPort n v).standbyTick = s.standbyTick := rfl
@[simp] theorem State.setPort_sendq (s : State) (n : Nat) (v : PortState) : (s.setPort n v).sendq = s.sendq := rfl
@[simp] theorem State.setPort_sources (s : State) (n : Nat) (v : PortState) : (s.setPort n v).sources = s.sources := rfl
@[simp] theorem State.setPort_entAsked (s : State) (n : Nat) (v : PortState) : (s.setPort n v).entAsked = s.entAsked := rfl
@[simp] theorem State.setPort_keysFor (s : State) (n : Nat) (v : PortState) : (s.setPort n v).keysFor = s.keysFor := rfl
@[simp] theorem State.setPort_entWaits (s : State) (n : Nat) (v : PortState) : (s.setPort n v).entWaits = s.entWaits := rfl
@[simp] theorem State.setPort_rawNext (s : State) (n : Nat) (v : PortState) : (s.setPort n v).rawNext = s.rawNext := rfl
@[simp] theorem State.setPort_fallow (s : State) (n : Nat) (v : PortState) : (s.setPort n v).fallow = s.fallow := rfl
@[simp] theorem State.setPort_arrived (s : State) (n : Nat) (v : PortState) : (s.setPort n v).arrived = s.arrived := rfl
@[simp] theorem State.setPort_temps (s : State) (n : Nat) (v : PortState) : (s.setPort n v).temps = s.temps := rfl
@[simp] theorem State.setPort_energies (s : State) (n : Nat) (v : PortState) : (s.setPort n v).energies = s.energies := rfl
@[simp] theorem State.setPort_captured (s : State) (n : Nat) (v : PortState) : (s.setPort n v).captured = s.captured := rfl
@[simp] theorem State.setPort_group (s : State) (n : Nat) (v : PortState) : (s.setPort n v).group = s.group := rfl
@[simp] theorem State.setPort_groupReport (s : State) (n : Nat) (v : PortState) : (s.setPort n v).groupReport = s.groupReport := rfl
@[simp] theorem State.setPort_jobs (s : State) (n : Nat) (v : PortState) : (s.setPort n v).jobs = s.jobs := rfl
@[simp] theorem State.setPort_powered (s : State) (n : Nat) (v : PortState) : (s.setPort n v).powered = s.powered := rfl
@[simp] theorem State.setPort_refValid (s : State) (n : Nat) (v : PortState) : (s.setPort n v).refValid = s.refValid := rfl
@[simp] theorem State.setPort_testEnN (s : State) (n : Nat) (v : PortState) : (s.setPort n v).testEnN = s.testEnN := rfl
@[simp] theorem State.setPort_startWaits (s : State) (n : Nat) (v : PortState) : (s.setPort n v).startWaits = s.startWaits := rfl
@[simp] theorem State.setPort_taps (s : State) (n : Nat) (v : PortState) : (s.setPort n v).taps = s.taps := rfl
@[simp] theorem State.setPort_free (s : State) (n : Nat) (v : PortState) : (s.setPort n v).free = s.free := rfl
@[simp] theorem State.setPort_get_reg (s : State) (n : Nat) (v : PortState) (q : Reg) (j : Nat) : (s.setPort n v).reg q j = s.reg q j := rfl
@[simp] theorem State.setPort_get_fld (s : State) (n : Nat) (v : PortState) (g : Fld) (j : Nat) : (s.setPort n v).fld g j = s.fld g j := rfl
@[simp] theorem State.setPort_get_flag (s : State) (n : Nat) (v : PortState) (g : Fld) (j : Nat) : (s.setPort n v).flag g j = s.flag g j := rfl
@[simp] theorem State.setPort_get_sfld (s : State) (n : Nat) (v : PortState) (g : Fld) (j : Nat) : (s.setPort n v).sfld g j = s.sfld g j := rfl
@[simp] theorem State.setPort_get_rd (s : State) (n : Nat) (v : PortState) (x : Nat) : (s.setPort n v).rd x = s.rd x := rfl
@[simp] theorem State.setPort_get_rdN (s : State) (n : Nat) (v : PortState) (x y : Nat) : (s.setPort n v).rdN x y = s.rdN x y := rfl
@[simp] theorem State.setPort_get_rdNat (s : State) (n : Nat) (v : PortState) (x y : Nat) : (s.setPort n v).rdNat x y = s.rdNat x y := rfl
@[simp] theorem State.setPort_get_poisoned (s : State) (n : Nat) (v : PortState) (x y : Nat) : (s.setPort n v).poisoned x y = s.poisoned x y := rfl
@[simp] theorem State.setPort_get_engine (s : State) (n : Nat) (v : PortState) (x : Nat) : (s.setPort n v).engine x = s.engine x := rfl
@[simp] theorem State.setPort_get_lane (s : State) (n : Nat) (v : PortState) (x : Nat) : (s.setPort n v).lane x = s.lane x := rfl
@[simp] theorem State.setPort_get_stook (s : State) (n : Nat) (v : PortState) (x : Nat) : (s.setPort n v).stook x = s.stook x := rfl
@[simp] theorem State.setPort_get_core (s : State) (n : Nat) (v : PortState) (x : Nat) : (s.setPort n v).core x = s.core x := rfl
@[simp] theorem State.setPort_get_gen (s : State) (n : Nat) (v : PortState) (x : Nat) : (s.setPort n v).gen x = s.gen x := rfl
@[simp] theorem State.setPort_get_acre (s : State) (n : Nat) (v : PortState) (x : Nat) : (s.setPort n v).acre x = s.acre x := rfl
@[simp] theorem State.setPort_get_ctx (s : State) (n : Nat) (v : PortState) (x : Nat) : (s.setPort n v).ctx x = s.ctx x := rfl
@[simp] theorem State.setPort_get_launch (s : State) (n : Nat) (v : PortState) (x : Nat) : (s.setPort n v).launch x = s.launch x := rfl
@[simp] theorem State.setPort_get_graph (s : State) (n : Nat) (v : PortState) (x : Nat) : (s.setPort n v).graph x = s.graph x := rfl
@[simp] theorem State.setPort_get_stream (s : State) (n : Nat) (v : PortState) (x : Nat) : (s.setPort n v).stream x = s.stream x := rfl
@[simp] theorem State.setPort_get_chan (s : State) (n : Nat) (v : PortState) (x : Nat) : (s.setPort n v).chan x = s.chan x := rfl
@[simp] theorem State.setPort_get_tick (s : State) (n : Nat) (v : PortState) : (s.setPort n v).tick = s.tick := rfl

/-! ## upTo -/

@[simp] theorem State.upTo_pending (s : State) (c : Nat) : (s.upTo c).pending = s.pending := rfl
@[simp] theorem State.upTo_regs (s : State) (c : Nat) : (s.upTo c).regs = s.regs := rfl
@[simp] theorem State.upTo_staged (s : State) (c : Nat) : (s.upTo c).staged = s.staged := rfl
@[simp] theorem State.upTo_mem (s : State) (c : Nat) : (s.upTo c).mem = s.mem := rfl
@[simp] theorem State.upTo_poison (s : State) (c : Nat) : (s.upTo c).poison = s.poison := rfl
@[simp] theorem State.upTo_latch (s : State) (c : Nat) : (s.upTo c).latch = s.latch := rfl
@[simp] theorem State.upTo_engines (s : State) (c : Nat) : (s.upTo c).engines = s.engines := rfl
@[simp] theorem State.upTo_lanes (s : State) (c : Nat) : (s.upTo c).lanes = s.lanes := rfl
@[simp] theorem State.upTo_stooks (s : State) (c : Nat) : (s.upTo c).stooks = s.stooks := rfl
@[simp] theorem State.upTo_cores (s : State) (c : Nat) : (s.upTo c).cores = s.cores := rfl
@[simp] theorem State.upTo_gens (s : State) (c : Nat) : (s.upTo c).gens = s.gens := rfl
@[simp] theorem State.upTo_acres (s : State) (c : Nat) : (s.upTo c).acres = s.acres := rfl
@[simp] theorem State.upTo_ctxs (s : State) (c : Nat) : (s.upTo c).ctxs = s.ctxs := rfl
@[simp] theorem State.upTo_graphs (s : State) (c : Nat) : (s.upTo c).graphs = s.graphs := rfl
@[simp] theorem State.upTo_streams (s : State) (c : Nat) : (s.upTo c).streams = s.streams := rfl
@[simp] theorem State.upTo_reports (s : State) (c : Nat) : (s.upTo c).reports = s.reports := rfl
@[simp] theorem State.upTo_announced (s : State) (c : Nat) : (s.upTo c).announced = s.announced := rfl
@[simp] theorem State.upTo_chans (s : State) (c : Nat) : (s.upTo c).chans = s.chans := rfl
@[simp] theorem State.upTo_parts (s : State) (c : Nat) : (s.upTo c).parts = s.parts := rfl
@[simp] theorem State.upTo_answers (s : State) (c : Nat) : (s.upTo c).answers = s.answers := rfl
@[simp] theorem State.upTo_pools (s : State) (c : Nat) : (s.upTo c).pools = s.pools := rfl
@[simp] theorem State.upTo_slotTable (s : State) (c : Nat) : (s.upTo c).slotTable = s.slotTable := rfl
@[simp] theorem State.upTo_outs (s : State) (c : Nat) : (s.upTo c).outs = s.outs := rfl
@[simp] theorem State.upTo_carts (s : State) (c : Nat) : (s.upTo c).carts = s.carts := rfl
@[simp] theorem State.upTo_cartAt (s : State) (c : Nat) : (s.upTo c).cartAt = s.cartAt := rfl
@[simp] theorem State.upTo_releases (s : State) (c : Nat) : (s.upTo c).releases = s.releases := rfl
@[simp] theorem State.upTo_stale (s : State) (c : Nat) : (s.upTo c).stale = s.stale := rfl
@[simp] theorem State.upTo_eccHits (s : State) (c : Nat) : (s.upTo c).eccHits = s.eccHits := rfl
@[simp] theorem State.upTo_capNext (s : State) (c : Nat) : (s.upTo c).capNext = s.capNext := rfl
@[simp] theorem State.upTo_hangStart (s : State) (c : Nat) : (s.upTo c).hangStart = s.hangStart := rfl
@[simp] theorem State.upTo_lostLinks (s : State) (c : Nat) : (s.upTo c).lostLinks = s.lostLinks := rfl
@[simp] theorem State.upTo_wires (s : State) (c : Nat) : (s.upTo c).wires = s.wires := rfl
@[simp] theorem State.upTo_barnLost (s : State) (c : Nat) : (s.upTo c).barnLost = s.barnLost := rfl
@[simp] theorem State.upTo_standby (s : State) (c : Nat) : (s.upTo c).standby = s.standby := rfl
@[simp] theorem State.upTo_standbyTick (s : State) (c : Nat) : (s.upTo c).standbyTick = s.standbyTick := rfl
@[simp] theorem State.upTo_sendq (s : State) (c : Nat) : (s.upTo c).sendq = s.sendq := rfl
@[simp] theorem State.upTo_sources (s : State) (c : Nat) : (s.upTo c).sources = s.sources := rfl
@[simp] theorem State.upTo_entAsked (s : State) (c : Nat) : (s.upTo c).entAsked = s.entAsked := rfl
@[simp] theorem State.upTo_keysFor (s : State) (c : Nat) : (s.upTo c).keysFor = s.keysFor := rfl
@[simp] theorem State.upTo_entWaits (s : State) (c : Nat) : (s.upTo c).entWaits = s.entWaits := rfl
@[simp] theorem State.upTo_rawNext (s : State) (c : Nat) : (s.upTo c).rawNext = s.rawNext := rfl
@[simp] theorem State.upTo_fallow (s : State) (c : Nat) : (s.upTo c).fallow = s.fallow := rfl
@[simp] theorem State.upTo_arrived (s : State) (c : Nat) : (s.upTo c).arrived = s.arrived := rfl
@[simp] theorem State.upTo_temps (s : State) (c : Nat) : (s.upTo c).temps = s.temps := rfl
@[simp] theorem State.upTo_energies (s : State) (c : Nat) : (s.upTo c).energies = s.energies := rfl
@[simp] theorem State.upTo_captured (s : State) (c : Nat) : (s.upTo c).captured = s.captured := rfl
@[simp] theorem State.upTo_ports (s : State) (c : Nat) : (s.upTo c).ports = s.ports := rfl
@[simp] theorem State.upTo_group (s : State) (c : Nat) : (s.upTo c).group = s.group := rfl
@[simp] theorem State.upTo_groupReport (s : State) (c : Nat) : (s.upTo c).groupReport = s.groupReport := rfl
@[simp] theorem State.upTo_jobs (s : State) (c : Nat) : (s.upTo c).jobs = s.jobs := rfl
@[simp] theorem State.upTo_powered (s : State) (c : Nat) : (s.upTo c).powered = s.powered := rfl
@[simp] theorem State.upTo_refValid (s : State) (c : Nat) : (s.upTo c).refValid = s.refValid := rfl
@[simp] theorem State.upTo_testEnN (s : State) (c : Nat) : (s.upTo c).testEnN = s.testEnN := rfl
@[simp] theorem State.upTo_startWaits (s : State) (c : Nat) : (s.upTo c).startWaits = s.startWaits := rfl
@[simp] theorem State.upTo_taps (s : State) (c : Nat) : (s.upTo c).taps = s.taps := rfl
@[simp] theorem State.upTo_free (s : State) (c : Nat) : (s.upTo c).free = s.free := rfl
@[simp] theorem State.upTo_get_reg (s : State) (c : Nat) (q : Reg) (j : Nat) : (s.upTo c).reg q j = s.reg q j := rfl
@[simp] theorem State.upTo_get_fld (s : State) (c : Nat) (g : Fld) (j : Nat) : (s.upTo c).fld g j = s.fld g j := rfl
@[simp] theorem State.upTo_get_flag (s : State) (c : Nat) (g : Fld) (j : Nat) : (s.upTo c).flag g j = s.flag g j := rfl
@[simp] theorem State.upTo_get_sfld (s : State) (c : Nat) (g : Fld) (j : Nat) : (s.upTo c).sfld g j = s.sfld g j := rfl
@[simp] theorem State.upTo_get_rd (s : State) (c : Nat) (x : Nat) : (s.upTo c).rd x = s.rd x := rfl
@[simp] theorem State.upTo_get_rdN (s : State) (c : Nat) (x y : Nat) : (s.upTo c).rdN x y = s.rdN x y := rfl
@[simp] theorem State.upTo_get_rdNat (s : State) (c : Nat) (x y : Nat) : (s.upTo c).rdNat x y = s.rdNat x y := rfl
@[simp] theorem State.upTo_get_poisoned (s : State) (c : Nat) (x y : Nat) : (s.upTo c).poisoned x y = s.poisoned x y := rfl
@[simp] theorem State.upTo_get_engine (s : State) (c : Nat) (x : Nat) : (s.upTo c).engine x = s.engine x := rfl
@[simp] theorem State.upTo_get_lane (s : State) (c : Nat) (x : Nat) : (s.upTo c).lane x = s.lane x := rfl
@[simp] theorem State.upTo_get_stook (s : State) (c : Nat) (x : Nat) : (s.upTo c).stook x = s.stook x := rfl
@[simp] theorem State.upTo_get_core (s : State) (c : Nat) (x : Nat) : (s.upTo c).core x = s.core x := rfl
@[simp] theorem State.upTo_get_gen (s : State) (c : Nat) (x : Nat) : (s.upTo c).gen x = s.gen x := rfl
@[simp] theorem State.upTo_get_acre (s : State) (c : Nat) (x : Nat) : (s.upTo c).acre x = s.acre x := rfl
@[simp] theorem State.upTo_get_ctx (s : State) (c : Nat) (x : Nat) : (s.upTo c).ctx x = s.ctx x := rfl
@[simp] theorem State.upTo_get_launch (s : State) (c : Nat) (x : Nat) : (s.upTo c).launch x = s.launch x := rfl
@[simp] theorem State.upTo_get_graph (s : State) (c : Nat) (x : Nat) : (s.upTo c).graph x = s.graph x := rfl
@[simp] theorem State.upTo_get_stream (s : State) (c : Nat) (x : Nat) : (s.upTo c).stream x = s.stream x := rfl
@[simp] theorem State.upTo_get_chan (s : State) (c : Nat) (x : Nat) : (s.upTo c).chan x = s.chan x := rfl
@[simp] theorem State.upTo_get_port (s : State) (c : Nat) (x : Nat) : (s.upTo c).port x = s.port x := rfl
@[simp] theorem State.upTo_get_tick (s : State) (c : Nat) : (s.upTo c).tick = s.tick := rfl

/-! ## modGroup -/

@[simp] theorem State.modGroup_pending (s : State) (f : Group → Group) : (s.modGroup f).pending = s.pending := rfl
@[simp] theorem State.modGroup_regs (s : State) (f : Group → Group) : (s.modGroup f).regs = s.regs := rfl
@[simp] theorem State.modGroup_staged (s : State) (f : Group → Group) : (s.modGroup f).staged = s.staged := rfl
@[simp] theorem State.modGroup_mem (s : State) (f : Group → Group) : (s.modGroup f).mem = s.mem := rfl
@[simp] theorem State.modGroup_poison (s : State) (f : Group → Group) : (s.modGroup f).poison = s.poison := rfl
@[simp] theorem State.modGroup_latch (s : State) (f : Group → Group) : (s.modGroup f).latch = s.latch := rfl
@[simp] theorem State.modGroup_cyc (s : State) (f : Group → Group) : (s.modGroup f).cyc = s.cyc := rfl
@[simp] theorem State.modGroup_engines (s : State) (f : Group → Group) : (s.modGroup f).engines = s.engines := rfl
@[simp] theorem State.modGroup_lanes (s : State) (f : Group → Group) : (s.modGroup f).lanes = s.lanes := rfl
@[simp] theorem State.modGroup_stooks (s : State) (f : Group → Group) : (s.modGroup f).stooks = s.stooks := rfl
@[simp] theorem State.modGroup_cores (s : State) (f : Group → Group) : (s.modGroup f).cores = s.cores := rfl
@[simp] theorem State.modGroup_gens (s : State) (f : Group → Group) : (s.modGroup f).gens = s.gens := rfl
@[simp] theorem State.modGroup_acres (s : State) (f : Group → Group) : (s.modGroup f).acres = s.acres := rfl
@[simp] theorem State.modGroup_ctxs (s : State) (f : Group → Group) : (s.modGroup f).ctxs = s.ctxs := rfl
@[simp] theorem State.modGroup_graphs (s : State) (f : Group → Group) : (s.modGroup f).graphs = s.graphs := rfl
@[simp] theorem State.modGroup_streams (s : State) (f : Group → Group) : (s.modGroup f).streams = s.streams := rfl
@[simp] theorem State.modGroup_reports (s : State) (f : Group → Group) : (s.modGroup f).reports = s.reports := rfl
@[simp] theorem State.modGroup_announced (s : State) (f : Group → Group) : (s.modGroup f).announced = s.announced := rfl
@[simp] theorem State.modGroup_chans (s : State) (f : Group → Group) : (s.modGroup f).chans = s.chans := rfl
@[simp] theorem State.modGroup_parts (s : State) (f : Group → Group) : (s.modGroup f).parts = s.parts := rfl
@[simp] theorem State.modGroup_answers (s : State) (f : Group → Group) : (s.modGroup f).answers = s.answers := rfl
@[simp] theorem State.modGroup_pools (s : State) (f : Group → Group) : (s.modGroup f).pools = s.pools := rfl
@[simp] theorem State.modGroup_slotTable (s : State) (f : Group → Group) : (s.modGroup f).slotTable = s.slotTable := rfl
@[simp] theorem State.modGroup_outs (s : State) (f : Group → Group) : (s.modGroup f).outs = s.outs := rfl
@[simp] theorem State.modGroup_carts (s : State) (f : Group → Group) : (s.modGroup f).carts = s.carts := rfl
@[simp] theorem State.modGroup_cartAt (s : State) (f : Group → Group) : (s.modGroup f).cartAt = s.cartAt := rfl
@[simp] theorem State.modGroup_releases (s : State) (f : Group → Group) : (s.modGroup f).releases = s.releases := rfl
@[simp] theorem State.modGroup_stale (s : State) (f : Group → Group) : (s.modGroup f).stale = s.stale := rfl
@[simp] theorem State.modGroup_eccHits (s : State) (f : Group → Group) : (s.modGroup f).eccHits = s.eccHits := rfl
@[simp] theorem State.modGroup_capNext (s : State) (f : Group → Group) : (s.modGroup f).capNext = s.capNext := rfl
@[simp] theorem State.modGroup_hangStart (s : State) (f : Group → Group) : (s.modGroup f).hangStart = s.hangStart := rfl
@[simp] theorem State.modGroup_lostLinks (s : State) (f : Group → Group) : (s.modGroup f).lostLinks = s.lostLinks := rfl
@[simp] theorem State.modGroup_wires (s : State) (f : Group → Group) : (s.modGroup f).wires = s.wires := rfl
@[simp] theorem State.modGroup_barnLost (s : State) (f : Group → Group) : (s.modGroup f).barnLost = s.barnLost := rfl
@[simp] theorem State.modGroup_standby (s : State) (f : Group → Group) : (s.modGroup f).standby = s.standby := rfl
@[simp] theorem State.modGroup_standbyTick (s : State) (f : Group → Group) : (s.modGroup f).standbyTick = s.standbyTick := rfl
@[simp] theorem State.modGroup_sendq (s : State) (f : Group → Group) : (s.modGroup f).sendq = s.sendq := rfl
@[simp] theorem State.modGroup_sources (s : State) (f : Group → Group) : (s.modGroup f).sources = s.sources := rfl
@[simp] theorem State.modGroup_entAsked (s : State) (f : Group → Group) : (s.modGroup f).entAsked = s.entAsked := rfl
@[simp] theorem State.modGroup_keysFor (s : State) (f : Group → Group) : (s.modGroup f).keysFor = s.keysFor := rfl
@[simp] theorem State.modGroup_entWaits (s : State) (f : Group → Group) : (s.modGroup f).entWaits = s.entWaits := rfl
@[simp] theorem State.modGroup_rawNext (s : State) (f : Group → Group) : (s.modGroup f).rawNext = s.rawNext := rfl
@[simp] theorem State.modGroup_fallow (s : State) (f : Group → Group) : (s.modGroup f).fallow = s.fallow := rfl
@[simp] theorem State.modGroup_arrived (s : State) (f : Group → Group) : (s.modGroup f).arrived = s.arrived := rfl
@[simp] theorem State.modGroup_temps (s : State) (f : Group → Group) : (s.modGroup f).temps = s.temps := rfl
@[simp] theorem State.modGroup_energies (s : State) (f : Group → Group) : (s.modGroup f).energies = s.energies := rfl
@[simp] theorem State.modGroup_captured (s : State) (f : Group → Group) : (s.modGroup f).captured = s.captured := rfl
@[simp] theorem State.modGroup_ports (s : State) (f : Group → Group) : (s.modGroup f).ports = s.ports := rfl
@[simp] theorem State.modGroup_groupReport (s : State) (f : Group → Group) : (s.modGroup f).groupReport = s.groupReport := rfl
@[simp] theorem State.modGroup_jobs (s : State) (f : Group → Group) : (s.modGroup f).jobs = s.jobs := rfl
@[simp] theorem State.modGroup_powered (s : State) (f : Group → Group) : (s.modGroup f).powered = s.powered := rfl
@[simp] theorem State.modGroup_refValid (s : State) (f : Group → Group) : (s.modGroup f).refValid = s.refValid := rfl
@[simp] theorem State.modGroup_testEnN (s : State) (f : Group → Group) : (s.modGroup f).testEnN = s.testEnN := rfl
@[simp] theorem State.modGroup_startWaits (s : State) (f : Group → Group) : (s.modGroup f).startWaits = s.startWaits := rfl
@[simp] theorem State.modGroup_taps (s : State) (f : Group → Group) : (s.modGroup f).taps = s.taps := rfl
@[simp] theorem State.modGroup_free (s : State) (f : Group → Group) : (s.modGroup f).free = s.free := rfl
@[simp] theorem State.modGroup_get_reg (s : State) (f : Group → Group) (q : Reg) (j : Nat) : (s.modGroup f).reg q j = s.reg q j := rfl
@[simp] theorem State.modGroup_get_fld (s : State) (f : Group → Group) (g : Fld) (j : Nat) : (s.modGroup f).fld g j = s.fld g j := rfl
@[simp] theorem State.modGroup_get_flag (s : State) (f : Group → Group) (g : Fld) (j : Nat) : (s.modGroup f).flag g j = s.flag g j := rfl
@[simp] theorem State.modGroup_get_sfld (s : State) (f : Group → Group) (g : Fld) (j : Nat) : (s.modGroup f).sfld g j = s.sfld g j := rfl
@[simp] theorem State.modGroup_get_rd (s : State) (f : Group → Group) (x : Nat) : (s.modGroup f).rd x = s.rd x := rfl
@[simp] theorem State.modGroup_get_rdN (s : State) (f : Group → Group) (x y : Nat) : (s.modGroup f).rdN x y = s.rdN x y := rfl
@[simp] theorem State.modGroup_get_rdNat (s : State) (f : Group → Group) (x y : Nat) : (s.modGroup f).rdNat x y = s.rdNat x y := rfl
@[simp] theorem State.modGroup_get_poisoned (s : State) (f : Group → Group) (x y : Nat) : (s.modGroup f).poisoned x y = s.poisoned x y := rfl
@[simp] theorem State.modGroup_get_engine (s : State) (f : Group → Group) (x : Nat) : (s.modGroup f).engine x = s.engine x := rfl
@[simp] theorem State.modGroup_get_lane (s : State) (f : Group → Group) (x : Nat) : (s.modGroup f).lane x = s.lane x := rfl
@[simp] theorem State.modGroup_get_stook (s : State) (f : Group → Group) (x : Nat) : (s.modGroup f).stook x = s.stook x := rfl
@[simp] theorem State.modGroup_get_core (s : State) (f : Group → Group) (x : Nat) : (s.modGroup f).core x = s.core x := rfl
@[simp] theorem State.modGroup_get_gen (s : State) (f : Group → Group) (x : Nat) : (s.modGroup f).gen x = s.gen x := rfl
@[simp] theorem State.modGroup_get_acre (s : State) (f : Group → Group) (x : Nat) : (s.modGroup f).acre x = s.acre x := rfl
@[simp] theorem State.modGroup_get_ctx (s : State) (f : Group → Group) (x : Nat) : (s.modGroup f).ctx x = s.ctx x := rfl
@[simp] theorem State.modGroup_get_launch (s : State) (f : Group → Group) (x : Nat) : (s.modGroup f).launch x = s.launch x := rfl
@[simp] theorem State.modGroup_get_graph (s : State) (f : Group → Group) (x : Nat) : (s.modGroup f).graph x = s.graph x := rfl
@[simp] theorem State.modGroup_get_stream (s : State) (f : Group → Group) (x : Nat) : (s.modGroup f).stream x = s.stream x := rfl
@[simp] theorem State.modGroup_get_chan (s : State) (f : Group → Group) (x : Nat) : (s.modGroup f).chan x = s.chan x := rfl
@[simp] theorem State.modGroup_get_port (s : State) (f : Group → Group) (x : Nat) : (s.modGroup f).port x = s.port x := rfl
@[simp] theorem State.modGroup_get_tick (s : State) (f : Group → Group) : (s.modGroup f).tick = s.tick := rfl

/-! ## reportAt -/

@[simp] theorem State.reportAt_pending (s : State) (code die acre stook unit index row : Nat) (ctx : Option Nat) : (s.reportAt code die acre stook unit index row ctx).pending = s.pending := rfl
@[simp] theorem State.reportAt_regs (s : State) (code die acre stook unit index row : Nat) (ctx : Option Nat) : (s.reportAt code die acre stook unit index row ctx).regs = s.regs := rfl
@[simp] theorem State.reportAt_staged (s : State) (code die acre stook unit index row : Nat) (ctx : Option Nat) : (s.reportAt code die acre stook unit index row ctx).staged = s.staged := rfl
@[simp] theorem State.reportAt_mem (s : State) (code die acre stook unit index row : Nat) (ctx : Option Nat) : (s.reportAt code die acre stook unit index row ctx).mem = s.mem := rfl
@[simp] theorem State.reportAt_poison (s : State) (code die acre stook unit index row : Nat) (ctx : Option Nat) : (s.reportAt code die acre stook unit index row ctx).poison = s.poison := rfl
@[simp] theorem State.reportAt_latch (s : State) (code die acre stook unit index row : Nat) (ctx : Option Nat) : (s.reportAt code die acre stook unit index row ctx).latch = s.latch := rfl
@[simp] theorem State.reportAt_cyc (s : State) (code die acre stook unit index row : Nat) (ctx : Option Nat) : (s.reportAt code die acre stook unit index row ctx).cyc = s.cyc := rfl
@[simp] theorem State.reportAt_engines (s : State) (code die acre stook unit index row : Nat) (ctx : Option Nat) : (s.reportAt code die acre stook unit index row ctx).engines = s.engines := rfl
@[simp] theorem State.reportAt_lanes (s : State) (code die acre stook unit index row : Nat) (ctx : Option Nat) : (s.reportAt code die acre stook unit index row ctx).lanes = s.lanes := rfl
@[simp] theorem State.reportAt_stooks (s : State) (code die acre stook unit index row : Nat) (ctx : Option Nat) : (s.reportAt code die acre stook unit index row ctx).stooks = s.stooks := rfl
@[simp] theorem State.reportAt_cores (s : State) (code die acre stook unit index row : Nat) (ctx : Option Nat) : (s.reportAt code die acre stook unit index row ctx).cores = s.cores := rfl
@[simp] theorem State.reportAt_gens (s : State) (code die acre stook unit index row : Nat) (ctx : Option Nat) : (s.reportAt code die acre stook unit index row ctx).gens = s.gens := rfl
@[simp] theorem State.reportAt_acres (s : State) (code die acre stook unit index row : Nat) (ctx : Option Nat) : (s.reportAt code die acre stook unit index row ctx).acres = s.acres := rfl
@[simp] theorem State.reportAt_ctxs (s : State) (code die acre stook unit index row : Nat) (ctx : Option Nat) : (s.reportAt code die acre stook unit index row ctx).ctxs = s.ctxs := rfl
@[simp] theorem State.reportAt_graphs (s : State) (code die acre stook unit index row : Nat) (ctx : Option Nat) : (s.reportAt code die acre stook unit index row ctx).graphs = s.graphs := rfl
@[simp] theorem State.reportAt_streams (s : State) (code die acre stook unit index row : Nat) (ctx : Option Nat) : (s.reportAt code die acre stook unit index row ctx).streams = s.streams := rfl
@[simp] theorem State.reportAt_announced (s : State) (code die acre stook unit index row : Nat) (ctx : Option Nat) : (s.reportAt code die acre stook unit index row ctx).announced = s.announced := rfl
@[simp] theorem State.reportAt_chans (s : State) (code die acre stook unit index row : Nat) (ctx : Option Nat) : (s.reportAt code die acre stook unit index row ctx).chans = s.chans := rfl
@[simp] theorem State.reportAt_parts (s : State) (code die acre stook unit index row : Nat) (ctx : Option Nat) : (s.reportAt code die acre stook unit index row ctx).parts = s.parts := rfl
@[simp] theorem State.reportAt_answers (s : State) (code die acre stook unit index row : Nat) (ctx : Option Nat) : (s.reportAt code die acre stook unit index row ctx).answers = s.answers := rfl
@[simp] theorem State.reportAt_pools (s : State) (code die acre stook unit index row : Nat) (ctx : Option Nat) : (s.reportAt code die acre stook unit index row ctx).pools = s.pools := rfl
@[simp] theorem State.reportAt_slotTable (s : State) (code die acre stook unit index row : Nat) (ctx : Option Nat) : (s.reportAt code die acre stook unit index row ctx).slotTable = s.slotTable := rfl
@[simp] theorem State.reportAt_outs (s : State) (code die acre stook unit index row : Nat) (ctx : Option Nat) : (s.reportAt code die acre stook unit index row ctx).outs = s.outs := rfl
@[simp] theorem State.reportAt_carts (s : State) (code die acre stook unit index row : Nat) (ctx : Option Nat) : (s.reportAt code die acre stook unit index row ctx).carts = s.carts := rfl
@[simp] theorem State.reportAt_cartAt (s : State) (code die acre stook unit index row : Nat) (ctx : Option Nat) : (s.reportAt code die acre stook unit index row ctx).cartAt = s.cartAt := rfl
@[simp] theorem State.reportAt_releases (s : State) (code die acre stook unit index row : Nat) (ctx : Option Nat) : (s.reportAt code die acre stook unit index row ctx).releases = s.releases := rfl
@[simp] theorem State.reportAt_stale (s : State) (code die acre stook unit index row : Nat) (ctx : Option Nat) : (s.reportAt code die acre stook unit index row ctx).stale = s.stale := rfl
@[simp] theorem State.reportAt_eccHits (s : State) (code die acre stook unit index row : Nat) (ctx : Option Nat) : (s.reportAt code die acre stook unit index row ctx).eccHits = s.eccHits := rfl
@[simp] theorem State.reportAt_capNext (s : State) (code die acre stook unit index row : Nat) (ctx : Option Nat) : (s.reportAt code die acre stook unit index row ctx).capNext = s.capNext := rfl
@[simp] theorem State.reportAt_hangStart (s : State) (code die acre stook unit index row : Nat) (ctx : Option Nat) : (s.reportAt code die acre stook unit index row ctx).hangStart = s.hangStart := rfl
@[simp] theorem State.reportAt_lostLinks (s : State) (code die acre stook unit index row : Nat) (ctx : Option Nat) : (s.reportAt code die acre stook unit index row ctx).lostLinks = s.lostLinks := rfl
@[simp] theorem State.reportAt_wires (s : State) (code die acre stook unit index row : Nat) (ctx : Option Nat) : (s.reportAt code die acre stook unit index row ctx).wires = s.wires := rfl
@[simp] theorem State.reportAt_barnLost (s : State) (code die acre stook unit index row : Nat) (ctx : Option Nat) : (s.reportAt code die acre stook unit index row ctx).barnLost = s.barnLost := rfl
@[simp] theorem State.reportAt_standby (s : State) (code die acre stook unit index row : Nat) (ctx : Option Nat) : (s.reportAt code die acre stook unit index row ctx).standby = s.standby := rfl
@[simp] theorem State.reportAt_standbyTick (s : State) (code die acre stook unit index row : Nat) (ctx : Option Nat) : (s.reportAt code die acre stook unit index row ctx).standbyTick = s.standbyTick := rfl
@[simp] theorem State.reportAt_sendq (s : State) (code die acre stook unit index row : Nat) (ctx : Option Nat) : (s.reportAt code die acre stook unit index row ctx).sendq = s.sendq := rfl
@[simp] theorem State.reportAt_sources (s : State) (code die acre stook unit index row : Nat) (ctx : Option Nat) : (s.reportAt code die acre stook unit index row ctx).sources = s.sources := rfl
@[simp] theorem State.reportAt_entAsked (s : State) (code die acre stook unit index row : Nat) (ctx : Option Nat) : (s.reportAt code die acre stook unit index row ctx).entAsked = s.entAsked := rfl
@[simp] theorem State.reportAt_keysFor (s : State) (code die acre stook unit index row : Nat) (ctx : Option Nat) : (s.reportAt code die acre stook unit index row ctx).keysFor = s.keysFor := rfl
@[simp] theorem State.reportAt_entWaits (s : State) (code die acre stook unit index row : Nat) (ctx : Option Nat) : (s.reportAt code die acre stook unit index row ctx).entWaits = s.entWaits := rfl
@[simp] theorem State.reportAt_rawNext (s : State) (code die acre stook unit index row : Nat) (ctx : Option Nat) : (s.reportAt code die acre stook unit index row ctx).rawNext = s.rawNext := rfl
@[simp] theorem State.reportAt_fallow (s : State) (code die acre stook unit index row : Nat) (ctx : Option Nat) : (s.reportAt code die acre stook unit index row ctx).fallow = s.fallow := rfl
@[simp] theorem State.reportAt_arrived (s : State) (code die acre stook unit index row : Nat) (ctx : Option Nat) : (s.reportAt code die acre stook unit index row ctx).arrived = s.arrived := rfl
@[simp] theorem State.reportAt_temps (s : State) (code die acre stook unit index row : Nat) (ctx : Option Nat) : (s.reportAt code die acre stook unit index row ctx).temps = s.temps := rfl
@[simp] theorem State.reportAt_energies (s : State) (code die acre stook unit index row : Nat) (ctx : Option Nat) : (s.reportAt code die acre stook unit index row ctx).energies = s.energies := rfl
@[simp] theorem State.reportAt_captured (s : State) (code die acre stook unit index row : Nat) (ctx : Option Nat) : (s.reportAt code die acre stook unit index row ctx).captured = s.captured := rfl
@[simp] theorem State.reportAt_ports (s : State) (code die acre stook unit index row : Nat) (ctx : Option Nat) : (s.reportAt code die acre stook unit index row ctx).ports = s.ports := rfl
@[simp] theorem State.reportAt_group (s : State) (code die acre stook unit index row : Nat) (ctx : Option Nat) : (s.reportAt code die acre stook unit index row ctx).group = s.group := rfl
@[simp] theorem State.reportAt_groupReport (s : State) (code die acre stook unit index row : Nat) (ctx : Option Nat) : (s.reportAt code die acre stook unit index row ctx).groupReport = s.groupReport := rfl
@[simp] theorem State.reportAt_jobs (s : State) (code die acre stook unit index row : Nat) (ctx : Option Nat) : (s.reportAt code die acre stook unit index row ctx).jobs = s.jobs := rfl
@[simp] theorem State.reportAt_powered (s : State) (code die acre stook unit index row : Nat) (ctx : Option Nat) : (s.reportAt code die acre stook unit index row ctx).powered = s.powered := rfl
@[simp] theorem State.reportAt_refValid (s : State) (code die acre stook unit index row : Nat) (ctx : Option Nat) : (s.reportAt code die acre stook unit index row ctx).refValid = s.refValid := rfl
@[simp] theorem State.reportAt_testEnN (s : State) (code die acre stook unit index row : Nat) (ctx : Option Nat) : (s.reportAt code die acre stook unit index row ctx).testEnN = s.testEnN := rfl
@[simp] theorem State.reportAt_startWaits (s : State) (code die acre stook unit index row : Nat) (ctx : Option Nat) : (s.reportAt code die acre stook unit index row ctx).startWaits = s.startWaits := rfl
@[simp] theorem State.reportAt_taps (s : State) (code die acre stook unit index row : Nat) (ctx : Option Nat) : (s.reportAt code die acre stook unit index row ctx).taps = s.taps := rfl
@[simp] theorem State.reportAt_free (s : State) (code die acre stook unit index row : Nat) (ctx : Option Nat) : (s.reportAt code die acre stook unit index row ctx).free = s.free := rfl
@[simp] theorem State.reportAt_get_reg (s : State) (code die acre stook unit index row : Nat) (ctx : Option Nat) (q : Reg) (j : Nat) : (s.reportAt code die acre stook unit index row ctx).reg q j = s.reg q j := rfl
@[simp] theorem State.reportAt_get_fld (s : State) (code die acre stook unit index row : Nat) (ctx : Option Nat) (g : Fld) (j : Nat) : (s.reportAt code die acre stook unit index row ctx).fld g j = s.fld g j := rfl
@[simp] theorem State.reportAt_get_flag (s : State) (code die acre stook unit index row : Nat) (ctx : Option Nat) (g : Fld) (j : Nat) : (s.reportAt code die acre stook unit index row ctx).flag g j = s.flag g j := rfl
@[simp] theorem State.reportAt_get_sfld (s : State) (code die acre stook unit index row : Nat) (ctx : Option Nat) (g : Fld) (j : Nat) : (s.reportAt code die acre stook unit index row ctx).sfld g j = s.sfld g j := rfl
@[simp] theorem State.reportAt_get_rd (s : State) (code die acre stook unit index row : Nat) (ctx : Option Nat) (x : Nat) : (s.reportAt code die acre stook unit index row ctx).rd x = s.rd x := rfl
@[simp] theorem State.reportAt_get_rdN (s : State) (code die acre stook unit index row : Nat) (ctx : Option Nat) (x y : Nat) : (s.reportAt code die acre stook unit index row ctx).rdN x y = s.rdN x y := rfl
@[simp] theorem State.reportAt_get_rdNat (s : State) (code die acre stook unit index row : Nat) (ctx : Option Nat) (x y : Nat) : (s.reportAt code die acre stook unit index row ctx).rdNat x y = s.rdNat x y := rfl
@[simp] theorem State.reportAt_get_poisoned (s : State) (code die acre stook unit index row : Nat) (ctx : Option Nat) (x y : Nat) : (s.reportAt code die acre stook unit index row ctx).poisoned x y = s.poisoned x y := rfl
@[simp] theorem State.reportAt_get_engine (s : State) (code die acre stook unit index row : Nat) (ctx : Option Nat) (x : Nat) : (s.reportAt code die acre stook unit index row ctx).engine x = s.engine x := rfl
@[simp] theorem State.reportAt_get_lane (s : State) (code die acre stook unit index row : Nat) (ctx : Option Nat) (x : Nat) : (s.reportAt code die acre stook unit index row ctx).lane x = s.lane x := rfl
@[simp] theorem State.reportAt_get_stook (s : State) (code die acre stook unit index row : Nat) (ctx : Option Nat) (x : Nat) : (s.reportAt code die acre stook unit index row ctx).stook x = s.stook x := rfl
@[simp] theorem State.reportAt_get_core (s : State) (code die acre stook unit index row : Nat) (ctx : Option Nat) (x : Nat) : (s.reportAt code die acre stook unit index row ctx).core x = s.core x := rfl
@[simp] theorem State.reportAt_get_gen (s : State) (code die acre stook unit index row : Nat) (ctx : Option Nat) (x : Nat) : (s.reportAt code die acre stook unit index row ctx).gen x = s.gen x := rfl
@[simp] theorem State.reportAt_get_acre (s : State) (code die acre stook unit index row : Nat) (ctx : Option Nat) (x : Nat) : (s.reportAt code die acre stook unit index row ctx).acre x = s.acre x := rfl
@[simp] theorem State.reportAt_get_ctx (s : State) (code die acre stook unit index row : Nat) (ctx : Option Nat) (x : Nat) : (s.reportAt code die acre stook unit index row ctx).ctx x = s.ctx x := rfl
@[simp] theorem State.reportAt_get_launch (s : State) (code die acre stook unit index row : Nat) (ctx : Option Nat) (x : Nat) : (s.reportAt code die acre stook unit index row ctx).launch x = s.launch x := rfl
@[simp] theorem State.reportAt_get_graph (s : State) (code die acre stook unit index row : Nat) (ctx : Option Nat) (x : Nat) : (s.reportAt code die acre stook unit index row ctx).graph x = s.graph x := rfl
@[simp] theorem State.reportAt_get_stream (s : State) (code die acre stook unit index row : Nat) (ctx : Option Nat) (x : Nat) : (s.reportAt code die acre stook unit index row ctx).stream x = s.stream x := rfl
@[simp] theorem State.reportAt_get_chan (s : State) (code die acre stook unit index row : Nat) (ctx : Option Nat) (x : Nat) : (s.reportAt code die acre stook unit index row ctx).chan x = s.chan x := rfl
@[simp] theorem State.reportAt_get_port (s : State) (code die acre stook unit index row : Nat) (ctx : Option Nat) (x : Nat) : (s.reportAt code die acre stook unit index row ctx).port x = s.port x := rfl
@[simp] theorem State.reportAt_get_tick (s : State) (code die acre stook unit index row : Nat) (ctx : Option Nat) : (s.reportAt code die acre stook unit index row ctx).tick = s.tick := rfl

/-! ## Updates built from others -/

@[simp] theorem State.raise_eq (s : State) (f : Fld) (i : Nat) : s.raise f i = s.setFld f i 1 := rfl
@[simp] theorem State.bump_eq (s : State) (f : Fld) (i n : Nat) :
    s.bump f i n = s.setFld f i (min (s.fld f i + n) (2 ^ f.w - 1)) := rfl
@[simp] theorem State.wrap_eq (s : State) (f : Fld) (i n : Nat) : s.wrap f i n = s.setFld f i (s.fld f i + n) := rfl
@[simp] theorem State.setBitOf_eq (s : State) (f : Fld) (i k : Nat) (b : Bool) :
    s.setBitOf f i k b = s.setFld f i (putBits (s.fld f i) k 1 (if b then 1 else 0)) := rfl
@[simp] theorem State.wrNat_eq (s : State) (a n v : Nat) : s.wrNat a n v = s.wrN a (leBytes n v) := rfl
@[simp] theorem State.setState_eq (s : State) (c : Nat) (x : CtxState) : s.setState c x = s.setCtx c { s.ctx c with state := x } := rfl
@[simp] theorem State.report_eq (s : State) (code stook unit index row : Nat) (ctx : Option Nat) :
    s.report code stook unit index row ctx = s.reportAt code (stook / 17 / 8) (stook / 17) (stook % 17) unit index row ctx := rfl
@[simp] theorem State.reportAcre_eq (s : State) (code a : Nat) (ctx : Option Nat) :
    s.reportAcre code a ctx = s.reportAt code (a / 8) a 31 31 0 0 ctx := rfl

end Sys2Proof.Machine
end

