-- ==== Sys2Proof/Laws/Copy.lean ====
section
/-!
SUPPORT. What the link checks of a copy's writes can do: they count and fill the stale tables; what the copy has written stands, and so do
the tables of stooks and contexts (R332, R344).
-/
namespace Sys2Proof.Machine

/-- Two states with the same memories, stooks and contexts. -/
def SameTables (s t : State) : Prop := t.mem = s.mem ∧ t.poison = s.poison ∧ t.stooks = s.stooks ∧ t.ctxs = s.ctxs

theorem SameTables.refl (s : State) : SameTables s s := ⟨rfl, rfl, rfl, rfl⟩

theorem SameTables.trans {s t u : State} (h : SameTables s t) (g : SameTables t u) : SameTables s u :=
  ⟨g.1.trans h.1, g.2.1.trans h.2.1, g.2.2.1.trans h.2.2.1, g.2.2.2.trans h.2.2.2⟩

theorem SameTables.setFld (s : State) (f : Fld) (i v : Nat) : SameTables s (s.setFld f i v) := ⟨rfl, rfl, rfl, rfl⟩

theorem SameTables.bump (s : State) (f : Fld) (i n : Nat) : SameTables s (s.bump f i n) := SameTables.setFld s f i _

theorem SameTables.draw (s : State) : SameTables s s.draw.2 := ⟨rfl, rfl, rfl, rfl⟩

theorem SameTables.stale (s : State) (e : List (Nat × Nat × Nat)) : SameTables s { s with stale := e } := ⟨rfl, rfl, rfl, rfl⟩

/-- One failed link check leaves memories, stooks and contexts as they are. -/
theorem State.linkFails_same (s : State) (d p row : Nat) : SameTables s (s.linkFails d p row) := by
  unfold State.linkFails
  split
  · exact .refl s
  · dsimp only
    split
    · exact .bump s _ _ _
    · exact (SameTables.bump s _ _ _).trans ((SameTables.stale _ _).trans (.setFld _ _ _ _))

theorem State.checkLink_same (s : State) (c : Nat) (l : Launch) (d : CopyDesc) (rows x : Nat) :
    SameTables s (s.checkLink c l d rows x) := by
  unfold State.checkLink
  split
  · exact s.linkFails_same _ _ _
  · exact .refl s

theorem State.linkChecks_same (s : State) (c : Nat) (l : Launch) (d : CopyDesc) (rows n : Nat) :
    SameTables s (s.linkChecks c l d rows n) := by
  induction n generalizing s with
  | zero => exact .refl s
  | succ n ih =>
    unfold State.linkChecks
    exact (SameTables.draw s).trans ((s.draw.2.checkLink_same c l d rows s.draw.1).trans (ih _))

/-- What a copy has written stands, whatever its link checks find. -/
theorem State.writeChecks_same (s : State) (k c a : Nat) (l : Launch) (d : CopyDesc) : SameTables s (s.writeChecks k c a l d) := by
  unfold State.writeChecks
  split
  · exact (SameTables.draw s).trans (s.draw.2.linkChecks_same c l d _ _)
  · exact .refl s

end Sys2Proof.Machine
end

