-- ==== Sys2Proof/Laws/Table.lean ====
section
/-!
SUPPORT. The laws of the sparse table: what a read finds after a write, and that a write keeps the canonical form.
-/
namespace Sys2Proof

variable {α : Type}

@[simp] theorem sget_nil (d : α) (k : Nat) : sget d [] k = d := rfl

theorem sget_cons (d : α) (j : Nat) (v : α) (m : Sparse α) (k : Nat) :
    sget d ((j, v) :: m) k = if j = k then v else sget d m k := rfl

@[simp] theorem sget_serase_same (d : α) (m : Sparse α) (k : Nat) : sget d (serase m k) k = d := by
  induction m with
  | nil => rfl
  | cons e m ih => simp only [serase]; split <;> simp_all [sget]

theorem sget_serase_other (d : α) (m : Sparse α) {k j : Nat} (h : j ≠ k) : sget d (serase m k) j = sget d m j := by
  induction m with
  | nil => rfl
  | cons e m ih =>
    simp only [serase, sget]
    split
    · rename_i h'; rw [if_neg (by omega), ih]
    · simp only [sget, ih]

@[simp] theorem sget_sinsert_same (d : α) (m : Sparse α) (k : Nat) (v : α) : sget d (sinsert m k v) k = v := by
  induction m with
  | nil => simp [sinsert, sget]
  | cons e m ih =>
    simp only [sinsert]
    split
    · rename_i h; simp only [sget]; rw [if_neg (by omega), ih]
    · split <;> simp [sget]

theorem sget_sinsert_other (d : α) (m : Sparse α) {k j : Nat} (v : α) (h : j ≠ k) : sget d (sinsert m k v) j = sget d m j := by
  induction m with
  | nil => simp only [sinsert, sget]; rw [if_neg (by omega)]
  | cons e m ih =>
    simp only [sinsert]
    split
    · simp only [sget, ih]
    · split
      · simp only [sget]; rw [if_neg (by omega), if_neg (by omega)]
      · simp only [sget]; rw [if_neg (by omega)]

/-- A read finds what the last write at its key put there. -/
@[simp] theorem sget_sput_same [DecidableEq α] (d : α) (m : Sparse α) (k : Nat) (v : α) : sget d (sput d m k v) k = v := by
  unfold sput; split
  · rename_i h; simp [h]
  · simp

/-- A write leaves every other key alone. -/
theorem sget_sput_other [DecidableEq α] (d : α) (m : Sparse α) {k j : Nat} (v : α) (h : j ≠ k) :
    sget d (sput d m k v) j = sget d m j := by
  unfold sput; split
  · exact sget_serase_other d m h
  · exact sget_sinsert_other d m v h

theorem sget_sput [DecidableEq α] (d : α) (m : Sparse α) (k j : Nat) (v : α) :
    sget d (sput d m k v) j = if j = k then v else sget d m j := by
  split
  · rename_i h; simp [h]
  · rename_i h; exact sget_sput_other d m v h

theorem sabove_of_lt {n k : Nat} (m : Sparse α) (h : n < k) (hm : sabove k m = true) : sabove n m = true := by
  cases m with
  | nil => rfl
  | cons e m => simp only [sabove, decide_eq_true_eq] at *; omega

theorem sabove_serase {n k : Nat} [DecidableEq α] (d : Nat → α) (m : Sparse α) (hw : swf d m = true) (h : sabove n m = true) :
    sabove n (serase m k) = true := by
  induction m generalizing n with
  | nil => rfl
  | cons e m ih =>
    obtain ⟨j, v⟩ := e
    simp only [swf, Bool.and_eq_true, decide_eq_true_eq] at hw
    simp only [sabove, decide_eq_true_eq] at h
    simp only [serase]; split
    · exact ih hw.2 (sabove_of_lt m h hw.1.2)
    · simpa [sabove] using h

theorem sabove_sinsert {n k : Nat} (m : Sparse α) (v : α) (hn : n < k) (h : sabove n m = true) : sabove n (sinsert m k v) = true := by
  cases m with
  | nil => simpa [sinsert, sabove] using hn
  | cons e m =>
    obtain ⟨j, w⟩ := e
    simp only [sabove, decide_eq_true_eq] at h
    simp only [sinsert]; split
    · simpa [sabove] using h
    · split <;> simpa [sabove] using hn

theorem swf_serase [DecidableEq α] (d : Nat → α) (m : Sparse α) (k : Nat) (h : swf d m = true) : swf d (serase m k) = true := by
  induction m with
  | nil => rfl
  | cons e m ih =>
    obtain ⟨j, v⟩ := e
    simp only [swf, Bool.and_eq_true, decide_eq_true_eq] at h
    simp only [serase]; split
    · exact ih h.2
    · simp only [swf, Bool.and_eq_true, decide_eq_true_eq]
      exact ⟨⟨h.1.1, sabove_serase d m h.2 h.1.2⟩, ih h.2⟩

theorem swf_sinsert [DecidableEq α] (d : Nat → α) (m : Sparse α) (k : Nat) (v : α) (hv : v ≠ d k) (h : swf d m = true) :
    swf d (sinsert m k v) = true := by
  induction m with
  | nil => simp [sinsert, swf, sabove, hv]
  | cons e m ih =>
    obtain ⟨j, w⟩ := e
    have h' := h
    simp only [swf, Bool.and_eq_true, decide_eq_true_eq] at h
    simp only [sinsert]; split
    · rename_i hj
      simp only [swf, Bool.and_eq_true, decide_eq_true_eq]
      exact ⟨⟨h.1.1, sabove_sinsert m v hj h.1.2⟩, ih h.2⟩
    · split
      · rename_i hj; subst hj
        simp only [swf, Bool.and_eq_true, decide_eq_true_eq]
        exact ⟨⟨hv, h.1.2⟩, h.2⟩
      · rename_i h1 h2
        simp only [swf, Bool.and_eq_true, decide_eq_true_eq, sabove]
        exact ⟨⟨hv, by omega⟩, h.1, h.2⟩

/-- A write keeps the canonical form. -/
theorem swf_sput [DecidableEq α] (d : Nat → α) (m : Sparse α) (k : Nat) (v : α) (h : swf d m = true) : swf d (sput (d k) m k v) = true := by
  unfold sput; split
  · exact swf_serase d m k h
  · rename_i hv; exact swf_sinsert d m k v hv h

end Sys2Proof
end

