-- ==== Sys2Proof/Laws/Memory.lean ====
section
/-!
SUPPORT. The laws of the memories: a read after a write, and the canonical form that every memory operation keeps.
-/
namespace Sys2Proof.Machine

theorem memPut_wf (m : List Host.Cell) (a : Nat) (v : List Byte) (h : Memory.wf m = true) : Memory.wf (memPut m a v) = true := by
  induction v generalizing m a with
  | nil => exact h
  | cons b v ih => exact ih _ _ (swf_sput (fun _ => (0 : Byte)) m a b h)

theorem sget_memPut_out (m : List Host.Cell) (a : Nat) (v : List Byte) (b : Nat) (h : b < a ∨ a + v.length ≤ b) :
    sget 0 (memPut m a v) b = sget 0 m b := by
  induction v generalizing m a with
  | nil => rfl
  | cons x v ih =>
    simp only [List.length_cons] at h
    rw [memPut, ih _ _ (by omega)]
    exact sget_sput_other _ _ _ (by omega)

theorem sget_memPut_in (m : List Host.Cell) (a : Nat) (v : List Byte) (k : Nat) (h : k < v.length) :
    sget 0 (memPut m a v) (a + k) = v[k] := by
  induction v generalizing m a k with
  | nil => simp at h
  | cons x v ih =>
    rw [memPut]
    cases k with
    | zero => rw [sget_memPut_out _ _ _ _ (by omega)]; simp
    | succ k =>
      simp only [List.length_cons] at h
      have := ih (sput 0 m a x) (a + 1) k (by omega)
      rw [show a + (k + 1) = a + 1 + k by omega, this]; rfl

/-- A write puts its bytes where it says. -/
theorem State.rd_wrN_in (s : State) (a : Nat) (v : List Byte) (k : Nat) (h : k < v.length) : (s.wrN a v).rd (a + k) = v[k] :=
  sget_memPut_in _ _ _ _ h

/-- A write leaves every byte outside its own alone. -/
theorem State.rd_wrN_out (s : State) (a : Nat) (v : List Byte) (b : Nat) (h : b < a ∨ a + v.length ≤ b) : (s.wrN a v).rd b = s.rd b :=
  sget_memPut_out _ _ _ _ h

/-- What a write wrote reads back whole. -/
theorem State.rdN_wrN (s : State) (a : Nat) (v : List Byte) : (s.wrN a v).rdN a v.length = v := by
  apply List.ext_getElem
  · simp [State.rdN]
  · intro k h1 h2
    simp only [State.rdN, List.getElem_map, List.getElem_range]
    exact s.rd_wrN_in a v k h2

/-- A write keeps the canonical form of the memory. -/
theorem State.wrN_wf (s : State) (a : Nat) (v : List Byte) (h : Memory.wf s.mem = true) : Memory.wf (s.wrN a v).mem = true :=
  memPut_wf _ _ _ h

theorem State.wrNat_wf (s : State) (a n v : Nat) (h : Memory.wf s.mem = true) : Memory.wf (s.wrNat a n v).mem = true :=
  memPut_wf _ _ _ h

/-- A write of no bytes changes nothing. -/
@[simp] theorem State.wrN_nil (s : State) (a : Nat) : s.wrN a [] = s := rfl

/-- A tagging write writes its bytes. -/
theorem State.store_mem (s : State) (a : Nat) (v : List Byte) (p : Bool) : (s.store a v p).mem = (s.wrN a v).mem := by
  cases v <;> rfl

theorem State.store_wf (s : State) (a : Nat) (v : List Byte) (p : Bool) (h : Memory.wf s.mem = true) :
    Memory.wf (s.store a v p).mem = true := by
  rw [State.store_mem]; exact s.wrN_wf a v h

theorem State.rd_store_out (s : State) (a : Nat) (v : List Byte) (p : Bool) (b : Nat) (h : b < a ∨ a + v.length ≤ b) :
    (s.store a v p).rd b = s.rd b := by
  unfold State.rd; rw [State.store_mem]; exact sget_memPut_out _ _ _ _ h

theorem State.rd_store_in (s : State) (a : Nat) (v : List Byte) (p : Bool) (k : Nat) (h : k < v.length) :
    (s.store a v p).rd (a + k) = v[k] := by
  unfold State.rd; rw [State.store_mem]; exact sget_memPut_in _ _ _ _ h

theorem State.rdN_store (s : State) (a : Nat) (v : List Byte) (p : Bool) : (s.store a v p).rdN a v.length = v := by
  have := s.rdN_wrN a v
  unfold State.rdN State.rd at *; rwa [State.store_mem]

/-- The memory after reset is canonical. -/
theorem State.reset_mem_wf : Memory.wf State.reset.mem = true := rfl

end Sys2Proof.Machine
end

