-- ==== Sys2Proof/Laws/Regs.lean ====
section
/-!
SUPPORT. The laws of the register file: what a register or a field reads as after a register or a field has been set.
-/
namespace Sys2Proof.Machine

theorem Reg.code_inj {q r : Reg} (h : q.code = r.code) : q = r := by
  have := congrArg Reg.ofNat h
  simpa only [Reg.code, Reg.ofNat_ctorIdx] using this

theorem Reg.code_lt (r : Reg) : r.code < 1024 := by cases r <;> decide

/-- Copies of different registers, and different copies of one, have different keys. -/
theorem Reg.key_inj {q r : Reg} {i j : Nat} (h : q.key i = r.key j) : q = r ∧ i = j := by
  unfold Reg.key at h
  have hq := q.code_lt
  have hr := r.code_lt
  have : q.code = r.code := by omega
  exact ⟨Reg.code_inj this, by omega⟩

@[simp] theorem State.reg_setReg_same (s : State) (r : Reg) (i : Nat) (v : Word) : (s.setReg r i v).reg r i = v := by
  simp [State.reg, State.setReg]

theorem State.reg_setReg_other (s : State) {q r : Reg} {i j : Nat} (v : Word) (h : q.key j ≠ r.key i) :
    (s.setReg r i v).reg q j = s.reg q j := by
  by_cases hq : q = r
  · subst hq; simp [State.reg, State.setReg, sget_sput_other _ _ _ h]
  · unfold State.reg State.setReg
    have : ∀ (d : Word) (m : Sparse Word), sget d (sput r.reset m (r.key i) v) (q.key j) = sget d m (q.key j) := by
      intro d m; unfold sput; split
      · exact sget_serase_other d m h
      · exact sget_sinsert_other d m v h
    exact this _ _

/-- Setting a register leaves the copies of every other register alone. -/
theorem State.reg_setReg_ne (s : State) {q r : Reg} {i j : Nat} (v : Word) (h : q ≠ r) :
    (s.setReg r i v).reg q j = s.reg q j :=
  s.reg_setReg_other v fun e => h (Reg.key_inj e).1

/-- Setting a copy of a register leaves the other copies alone. -/
theorem State.reg_setReg_copy (s : State) {r : Reg} {i j : Nat} (v : Word) (h : j ≠ i) : (s.setReg r i v).reg r j = s.reg r j :=
  s.reg_setReg_other v fun e => h (by unfold Reg.key at e; omega)

theorem putBits_lt (x lo n v : Nat) (m : Nat) (h : lo + n ≤ m) (hx : x < 2 ^ m) : putBits x lo n v < 2 ^ m := by
  unfold putBits
  have h1 : x % 2 ^ lo < 2 ^ lo := Nat.mod_lt _ (by positivity)
  have h2 : v % 2 ^ n < 2 ^ n := Nat.mod_lt _ (by positivity)
  have h3 : v % 2 ^ n * 2 ^ lo + x % 2 ^ lo < 2 ^ (lo + n) := by
    rw [Nat.pow_add]; nlinarith [Nat.mul_le_mul_right (2 ^ lo) (Nat.le_sub_one_of_lt h2), Nat.pow_pos (n := lo) (show 0 < 2 by omega)]
  obtain ⟨k, rfl⟩ := Nat.exists_eq_add_of_le h
  have h4 : x / 2 ^ (lo + n) < 2 ^ k := by
    rw [Nat.div_lt_iff_lt_mul (by positivity), ← Nat.pow_add]; rwa [Nat.add_comm]
  rw [Nat.pow_add (m := lo + n)]
  nlinarith [Nat.pow_pos (n := lo + n) (show 0 < 2 by omega)]

/-- A field reads back what was put there. -/
theorem bits_putBits_same (x lo n v : Nat) : bits (putBits x lo n v) lo n = v % 2 ^ n := by
  unfold bits putBits
  have h1 : x % 2 ^ lo < 2 ^ lo := Nat.mod_lt _ (by positivity)
  have e : x / 2 ^ (lo + n) * 2 ^ (lo + n) + v % 2 ^ n * 2 ^ lo + x % 2 ^ lo
      = (x / 2 ^ (lo + n) * 2 ^ n + v % 2 ^ n) * 2 ^ lo + x % 2 ^ lo := by rw [Nat.pow_add]; ring
  rw [e, Nat.add_comm, Nat.add_mul_div_right _ _ (by positivity), Nat.div_eq_of_lt h1, Nat.zero_add, Nat.add_comm,
    Nat.add_mul_mod_self_right, Nat.mod_mod]

/-- A field below another one is left alone. -/
theorem bits_putBits_below (x lo n v lo' n' : Nat) (h : lo' + n' ≤ lo) : bits (putBits x lo n v) lo' n' = bits x lo' n' := by
  unfold bits putBits
  obtain ⟨k, rfl⟩ := Nat.exists_eq_add_of_le h
  have e : x / 2 ^ (lo' + n' + k + n) * 2 ^ (lo' + n' + k + n) + v % 2 ^ n * 2 ^ (lo' + n' + k) + x % 2 ^ (lo' + n' + k)
      = x % 2 ^ (lo' + n' + k) + (x / 2 ^ (lo' + n' + k + n) * 2 ^ n + v % 2 ^ n) * 2 ^ k * 2 ^ n' * 2 ^ lo' := by
    simp only [Nat.pow_add]; ring
  rw [e, Nat.add_mul_div_right _ _ (by positivity), Nat.add_mul_mod_self_right]
  have : ∀ y, y % 2 ^ (lo' + n' + k) / 2 ^ lo' % 2 ^ n' = y / 2 ^ lo' % 2 ^ n' := by
    intro y
    rw [show lo' + n' + k = lo' + (n' + k) by omega, Nat.pow_add, Nat.mod_mul_right_div_self, Nat.pow_add, Nat.mod_mul_right_mod]
  exact this x

/-- A field above another one is left alone. -/
theorem bits_putBits_above (x lo n v lo' n' : Nat) (h : lo + n ≤ lo') : bits (putBits x lo n v) lo' n' = bits x lo' n' := by
  unfold bits putBits
  obtain ⟨k, rfl⟩ := Nat.exists_eq_add_of_le h
  have h1 : x % 2 ^ lo < 2 ^ lo := Nat.mod_lt _ (by positivity)
  have h2 : v % 2 ^ n < 2 ^ n := Nat.mod_lt _ (by positivity)
  have h3 : v % 2 ^ n * 2 ^ lo + x % 2 ^ lo < 2 ^ (lo + n) := by
    rw [Nat.pow_add]; nlinarith [Nat.mul_le_mul_right (2 ^ lo) (Nat.le_sub_one_of_lt h2), Nat.pow_pos (n := lo) (show 0 < 2 by omega)]
  rw [Nat.pow_add 2 (lo + n) k, ← Nat.div_div_eq_div_mul, ← Nat.div_div_eq_div_mul]
  congr 2
  rw [Nat.add_assoc, Nat.add_comm, Nat.add_mul_div_right _ _ (by positivity), Nat.div_eq_of_lt h3, Nat.zero_add]

/-- A field set reads back its value, as far as the field is wide. -/
theorem State.fld_setFld_same (s : State) (f : Fld) (i v : Nat) (h : f.lo + f.w ≤ 64) : (s.setFld f i v).fld f i = v % 2 ^ f.w := by
  unfold State.fld State.setFld
  rw [State.reg_setReg_same, BitVec.toNat_ofNat, Nat.mod_eq_of_lt (putBits_lt _ _ _ _ 64 h (s.reg f.reg i).isLt), bits_putBits_same]

/-- A field set leaves the other fields of its register alone. -/
theorem State.fld_setFld_beside (s : State) (f g : Fld) (i v : Nat) (hr : g.reg = f.reg) (h : f.lo + f.w ≤ 64)
    (hd : g.lo + g.w ≤ f.lo ∨ f.lo + f.w ≤ g.lo) : (s.setFld f i v).fld g i = s.fld g i := by
  unfold State.fld State.setFld
  rw [hr, State.reg_setReg_same, BitVec.toNat_ofNat, Nat.mod_eq_of_lt (putBits_lt _ _ _ _ 64 h (s.reg f.reg i).isLt)]
  rcases hd with hd | hd
  · exact bits_putBits_below _ _ _ _ _ _ hd
  · exact bits_putBits_above _ _ _ _ _ _ hd

/-- A field set leaves every other register copy alone. -/
theorem State.reg_setFld_other (s : State) (f : Fld) {q : Reg} {i j : Nat} (v : Nat) (h : q.key j ≠ f.reg.key i) :
    (s.setFld f i v).reg q j = s.reg q j := s.reg_setReg_other _ h

/-- A field set leaves the fields of every other register copy alone. -/
theorem State.fld_setFld_other (s : State) (f g : Fld) {i j : Nat} (v : Nat) (h : g.reg.key j ≠ f.reg.key i) :
    (s.setFld f i v).fld g j = s.fld g j := by unfold State.fld; rw [s.reg_setFld_other f v h]

end Sys2Proof.Machine
end

