-- ==== Sys2Proof/WellFormed.lean ====
section
/-!
DEFINITION. The form of a command's operands, as far as their types leave it open: lengths, alignments and ranges that the manual gives
the packets, requests, areas and messages that the commands carry.
-/
namespace Sys2Proof

/-- A naturally aligned address (R206), or one aligned as its table says. -/
def aligned (a n : Nat) : Bool := decide (a % n = 0)

/-- A host access request (R346): a multiple of 4 bytes, 4 to 1,952, within the 64 MiB window. -/
def requestShape (a n : Nat) : Bool :=
  aligned a 4 && aligned n 4 && decide (4 ≤ n) && decide (n ≤ 1952) && decide (a + n ≤ 2 ^ 26)

/-- A bank read or write: 1 to 512 bytes within one row (R205). -/
def rowShape (a n : Nat) : Bool := decide (1 ≤ n) && decide (a % 512 + n ≤ 512)

/-- The state areas of a generator step: within the crib, at most 256 KiB (R193). -/
def stateShape (a b : CribAddr) (n : Nat) : Bool :=
  decide (a.toNat + n ≤ 2 ^ 23) && decide (b.toNat + n ≤ 2 ^ 23) && decide (n ≤ 262144)

/-- A command whose operands have their form. -/
def Instr.wellFormed : Instr → Bool
  | .hostWrite _ _ addr data => requestShape addr data.length
  | .hostRead _ _ addr len => requestShape addr len
  | .ctxOpen _ => true
  | .ctxClose _ => true
  | .graphCreate _ => true
  | .graphLoad _ => true
  | .graphPatch _ => true
  | .graphRetire _ => true
  | .launch _ => true
  | .pause _ => true
  | .save _ => true
  | .resume _ => true
  | .readBest _ => true
  | .streamSubmit _ => true
  | .fenceSignal _ => true
  | .fenceWait _ => true
  | .groupJoin _ => true
  | .groupLeave _ => true
  | .replayStart _ => true
  | .captureRead _ => true
  | .cfgWrite _ => true
  | .monRead _ => true
  | .entRead _ => true
  | .channelReset _ => true
  | .moduleReset _ _ => true
  | .clrResetLimit => true
  | .clrLog => true
  | .clrAvail => true
  | .clrSlack _ => true
  | .clrErr _ => true
  | .clrAll => true
  | .monSelWrite _ _ => true
  | .pwrCeilingWrite _ => true
  | .acreCapWrite _ _ => true
  | .lnkCtrlWrite _ _ => true
  | .entTestWrite _ => true
  | .registerWrite _ addr _ => aligned addr 4 && decide (addr < 2 ^ 26)
  | .add _ _ _ _ => true
  | .sub _ _ _ _ => true
  | .and _ _ _ _ => true
  | .or _ _ _ _ => true
  | .xor _ _ _ _ => true
  | .shl _ _ _ _ => true
  | .shr _ _ _ _ => true
  | .sar _ _ _ _ => true
  | .slt _ _ _ _ => true
  | .sltu _ _ _ _ => true
  | .min _ _ _ _ => true
  | .max _ _ _ _ => true
  | .popc _ _ _ => true
  | .clz _ _ _ => true
  | .mul _ _ _ _ => true
  | .mulh _ _ _ _ => true
  | .mulhu _ _ _ _ => true
  | .div _ _ _ _ => true
  | .divu _ _ _ _ => true
  | .rem _ _ _ _ => true
  | .remu _ _ _ _ => true
  | .jr _ _ => true
  | .cadd16 _ _ _ _ => true
  | .cadd32 _ _ _ _ => true
  | .cswapw _ _ _ _ => true
  | .cswapd _ _ _ _ => true
  | .addi _ _ _ _ => true
  | .andi _ _ _ _ => true
  | .ori _ _ _ _ => true
  | .xori _ _ _ _ => true
  | .slti _ _ _ _ => true
  | .sltiu _ _ _ _ => true
  | .shli _ _ _ _ => true
  | .shri _ _ _ _ => true
  | .sari _ _ _ _ => true
  | .movk _ _ _ _ => true
  | .ldb _ _ _ _ => true
  | .ldh _ _ _ _ => true
  | .ldw _ _ _ _ => true
  | .ldd _ _ _ _ => true
  | .stb _ _ _ _ => true
  | .sth _ _ _ _ => true
  | .stw _ _ _ _ => true
  | .std _ _ _ _ => true
  | .cldw _ _ _ _ => true
  | .cldd _ _ _ _ => true
  | .cstw _ _ _ _ => true
  | .cstd _ _ _ _ => true
  | .beq _ _ _ _ => true
  | .bne _ _ _ _ => true
  | .blt _ _ _ _ => true
  | .bge _ _ _ _ => true
  | .bltu _ _ _ _ => true
  | .bgeu _ _ _ _ => true
  | .j _ _ => true
  | .jal _ _ => true
  | .halt _ => true
  | .waitc _ _ => true
  | .waitt _ _ => true
  | .tick _ _ => true
  | .cyc _ _ => true
  | .core _ _ => true
  | .qrd _ _ _ => true
  | .qwr _ _ _ _ => true
  | .qclose _ _ => true
  | .qpkt _ _ _ => true
  | .qtag _ _ => true
  | .rrd _ _ _ => true
  | .rwr _ _ _ => true
  | .own _ _ _ => true
  | .ownr _ _ => true
  | .chain _ _ => true
  | .fsig _ _ => true
  | .wall _ _ _ => true
  | .frd _ _ _ _ => true
  | .temp _ _ _ => true
  | .lstat _ _ _ _ => true
  | .mon _ _ _ _ => true
  | .ent _ _ _ _ => true
  | .coreStallRelease _ => true
  | .gleanStart _ _ => true
  | .cribRead _ _ addr len => rowShape addr.toNat len
  | .cribWrite _ _ addr data => rowShape addr.toNat data.length
  | .scatterWrite _ => true
  | .add16 _ _ addr _ => aligned addr.toNat 2
  | .add32 _ _ addr _ => aligned addr.toNat 4
  | .swap32 _ _ addr _ => aligned addr.toNat 4
  | .swap64 _ _ addr _ => aligned addr.toNat 8
  | .ownerWriteApply _ => true
  | .ownerResultDelivery _ => true
  | .queueBankRelease _ _ _ => true
  | .queueConsumerResume _ _ => true
  | .queueProducerResume _ _ => true
  | .chainEntryArrival _ addr => aligned addr.toNat 64
  | .chainEntryStart _ addr => aligned addr.toNat 64
  | .chainEntryComplete _ addr => aligned addr.toNat 64
  | .copy _ _ => true
  | .laneStart _ _ => true
  | .laneStop _ _ => true
  | .stateLoad _ _ => true
  | .stateCapture _ _ => true
  | .gemm _ _ => true
  | .gemv _ _ => true
  | .tokenStep _ _ _ stateFrom stateTo stateLen => stateShape stateFrom stateTo stateLen
  | .generatorRestart _ stateFrom stateTo stateLen => stateShape stateFrom stateTo stateLen
  | .generatorInputCopy _ _ => true
  | .proposalRecordArrival _ _ _ => true
  | .proposalPending _ _ => true
  | .coefficientPatchHandover _ _ count _ => decide (count ≤ 65536)
  | .decision _ => true
  | .linkWalkerRead _ => true
  | .tickBoundary => true
  | .tickWord _ => true
  | .deltaTileArrival _ _ => true
  | .tileLateHold _ => true
  | .rollbackNoticeArrival _ _ _ _ => true
  | .voteCast _ => true
  | .voteResult _ => true
  | .resolutionPoint _ _ => true
  | .patchOverlayWriteback _ => true
  | .contextSwitch _ => true
  | .reductionTick _ => true
  | .verdictArrival _ => true
  | .verdictLateHold _ => true
  | .bestCapture _ _ => true
  | .audit _ => true
  | .auditRecordEmit _ => true
  | .statisticsSample _ => true
  | .streamInputApply _ => true
  | .launchStart _ => true
  | .launchEnd _ => true
  | .checkpoint _ => true
  | .checkpointComplete _ _ => true
  | .mirrorSend _ => true
  | .mirrorComplete _ => true
  | .digestWrite _ => true
  | .watchdogExpiry _ => true
  | .faultReport _ => true
  | .recovery _ _ => true
  | .granaryDieLoss _ _ => true
  | .gddrDeviceLoss _ _ => true
  | .poisonedRowRewrite _ row mirror => decide (row < 2 ^ 26) && mirror.length == 320
  | .linkReroute _ _ => true
  | .wireRepair _ _ _ => true
  | .fieldDieLoss _ => true
  | .foldFrame _ => true
  | .pscLoss _ => true
  | .barnBothLoss => true
  | .badgerTakeover => true
  | .heartbeatTimeout _ => true
  | .commitRecord _ => true
  | .frameSend _ => true
  | .frameReceive _ f => f.payload.length == 1984
  | .linkReset _ => true
  | .laneFailure _ _ => true
  | .frameDeadlineMiss _ _ _ => true
  | .referenceLoss => true
  | .barrierArrive _ _ => true
  | .barrierRelease _ _ => true
  | .tickAlignment _ _ arrival => decide (arrival < 8192)
  | .trimTick => true
  | .reductionItem _ _ => true
  | .voteItem _ _ => true
  | .concordAnnounce _ _ => true
  | .concordReady _ _ => true
  | .concordRefuse _ _ => true
  | .concordCheck _ _ => true
  | .concordLeave _ _ => true
  | .joinTimeout => true
  | .groupStall _ _ => true
  | .groupStallTimeout => true
  | .memberLost _ => true
  | .hello _ body => body.length == 130
  | .reply _ _ => true
  | .finish _ _ => true
  | .confirm _ body => body.length == 8
  | .setupTimeout _ => true
  | .sessionEnd _ => true
  | .entropyStartup _ => true
  | .healthTestFailure _ _ => true
  | .seedConditioned _ _ => true
  | .reseed _ => true
  | .fieldNoiseKeyCommit _ => true
  | .powerManagerDecision temps => temps.length == 8
  | .energyReport dies _ _ _ => dies.length == 8
  | .thermalTrip _ => true
  | .leaveRequest _ _ => true
  | .leaveRelease _ _ => true
  | .leaveGrant _ _ => true
  | .queuedLeaveGrant _ => true
  | .timedGrantExpiry _ => true
  | .acreWake _ => true
  | .acreAwake _ => true
  | .powerUp _ => true
  | .referenceValid => true
  | .underVoltageTrip => true
  | .overVoltageTrip => true
  | .testEnNChange _ _ => true
  | .bypass _ _ => true
  | .idcode _ => true
  | .samplePreload _ => true
  | .extest _ => true
  | .i2cRead _ len => len == 4 || len == 8
  | .i2cWrite _ _ => true
  | .recordWriteComplete => true
  | .linkTrainingComplete _ delay _ _ => decide (delay < 1024)

end Sys2Proof
end

