-- ==== Sys2Proof/Tests/Slice0.lean ====
section
/-!
SUPPORT. Tests of the model on small states: ill-formed terms that the form check refuses, values worked out by hand from the manual, and for
every statement with hypotheses a state and operands that meet them.
-/
namespace Sys2Proof.Tests
set_option Elab.async false
open Sys2Proof.Machine

/-! ## Small states -/

def st0 : StookId := { die := 0, acre := 0, stook := 0 }
def eng0 : EngineId := { st := st0, eng := 0 }
def core0 : CoreId := { st := st0, core := 0 }
def acre0 : AcreId := { die := 0, acre := 0 }

/-- A class E image of one logical field with one block, in launch ticks 0 to 99. -/
def sched0 : Sched where
  level := 1
  classT := false
  fields := 1
  copies := 1
  prologue := 6
  ticks := 100
  fieldNoise := false
  bounded := true
  graphHash := 0
  graphBlocks := 1
  ladder := [4096, 4096, 4096, 4096]
  perm := [0, 1, 2, 3]
  base := [(0, 900)]
  laneEn := 15
  stay := []
  stuck := []
  winnow := 3
  tally := 0
  hist := 0
  auditSet := [0]
  captureTicks := 1
  fenceWaits := 0
  missing := 0
  slots := []
  bankBooks := []
  granBooks := []
  gddrBooks := []
  frames := []
  crossField := 0
  uses := []
  reserve := []
  propEn := true
  granSegs := []
  gddrSegs := []
  ckptMiB := []
  bookedLinks := []
  initial := []
  exch := []
  tiles := []
  imem := []
  dmem := []
  cribs := []
  banks := []
  ckptCribs := []
  chains := []
  coreBooks := []
  gens := []
  coefs := []
  writes := []
  stats := []
  inputArea := 0
  tallyArea := 0
  digestArea := 0
  deadlines := 0

/-- A launch of that image at launch tick 0, on field die 0. -/
def launch0 : Launch where
  sched := sched0
  image := []
  schedHash := 0
  graph := 0
  version := 1
  imageHash := 0
  seed := 0
  follow := false
  stream := 9
  seq := 1
  copies := 1
  first := 0
  group := false
  dies := [0]
  slots := [0]
  t0 := 0
  tau := 0
  turn := 0
  holds := []
  holdAt := 0
  phase := .none
  windowOnly := false
  perm := [0, 1, 2, 3]
  bests := [(0, 0), (0, 0), (0, 0), (0, 0)]
  energies := []
  verdict := none
  hist := []
  audits := []
  patches := []
  vote := none
  drain := none
  resumeAt := none
  inputs := []
  replay := none
  checkUntil := none
  ckpt := 0
  frame := 0
  framed := none
  origin := none
  lost := []
  past := []
  vres := []
  recover := none

def launchT : Launch := { launch0 with sched := { sched0 with classT := true } }

def saved0 : Saved where
  level := 1
  classT := false
  copies := 1
  fields := 1
  schedHash := 0
  tau := 0
  graph := 0
  version := 1
  seed := 0
  journalSeq := 0
  digestTau := none
  imageHash := 0
  sched := []
  follow := false
  lanes := []
  perm := [0, 1, 2, 3]
  ladder := [4096, 4096, 4096, 4096]
  lost := []
  bests := []
  winnowCount := 0
  hist := []
  statSamples := []
  statCribs := []
  samples := []
  audits := []
  gens := []
  cores := []
  cribs := []
  entries := []
  stooks := []
  recompute := false
  patches := []
  past := []
  inputs := []

def coeffs0 : Coeffs where
  level := 1
  blocks := 1
  mantissa := 128
  constK := 0
  scale := []
  codes := []
  bias := []
  frozen := []
  links := []
  far := []
  exacts := []

def version0 : Version := { num := 1, parent := 0, state := .live, hash := 0, coeffs := coeffs0, segs := [] }
def graph0 : Graph := { blocks := 1, modules := 1, staged := [], versions := [version0] }

/-- A module with one graph and a context 7 in a state. -/
def with7 (x : CtxState) (l : Option Launch) : State :=
  { State.reset with graphs := [(0, some graph0)], ctxs := [(7, { state := x, launch := l, journalMiB := 1 })] }

/-- The launch running on engine 0, which decides on its four lanes, with core 0 and generator tile 0 of its stook. -/
def running (l : Launch) : State :=
  ({ with7 .running (some l) with
    engines := [(0, { ctx := some 7, base := 900 })], cores := [(0, { ctx := some 7 })], gens := [(0, { ctx := some 7 })]
    acres := [(0, { ctx := some 7 })] } : State).setReg .shfCtrl 0 (0xF011)

/-- The same with bank 0 of the stook's crib in the launch's hands. -/
def banked (l : Launch) : State := (running l).setReg .stkBankOwner 0 0x4007

/-- A message in the slot form of R352: channel 3, opcode, SEQ 1, context, graph, staging area, payload. -/
def message (opcode ctx graph : Nat) (payload : List Byte) (stage : Option (Nat × Nat) := none) : List Byte :=
  padTo 256 ([3, 0, if stage.isSome then 1 else 0] ++ leBytes 1 opcode ++ leBytes 4 1 ++ leBytes 4 ctx ++ leBytes 4 graph ++
    leBytes 4 payload.length ++ leBytes 4 (stage.getD (0, 0)).1 ++ leBytes 4 (stage.getD (0, 0)).2 ++ leBytes 4 0 ++ payload)

/-- A state in which channel 3 holds a message. -/
def holding (s : State) (b : List Byte) : State := s.setChan 3 { msg := some b }

theorem due_of {s : State} {b : List Byte} {op : Nat} (h : (s.chan 3).msg = some b ∧ (parseMsg b).opcode = op ∧ (s.chan 3).waits = false ∧
    s.seqCheck 3 (parseMsg b).seq = .execute ∧ s.stagedClash 3 (parseMsg b) = false ∧ s.partClash (parseMsg b) = false) :
    Due s 3 op (parseMsg b) :=
  ⟨by rw [h.1]; rfl, h.2.1, h.2.2.1, h.2.2.2.1, h.2.2.2.2⟩

theorem issues_of {s : State} {k : CoreId} {c : Nat} {srcs : List GReg} {d : Bool} (h : (s.core k.ix).ctx = some c ∧ s.ready k.ix = true ∧
    s.issues c k.st.ix = true ∧ s.issueAt k.ix c srcs d = s.logical c ∧ s.cyc ≤ 1023 ∧ s.poisoned (imemAt k.ix (s.pc k.ix)) 4 = false ∧
    (gleanDecode k (BitVec.ofNat 32 (s.rdNat (imemAt k.ix (s.pc k.ix)) 4))).isSome = true) : Issues s k c srcs d :=
  ⟨h.1, h.2.1, h.2.2.1, h.2.2.2.1, h.2.2.2.2.1, h.2.2.2.2.2.1, h.2.2.2.2.2.2⟩

/-! ## The form of operands (WellFormed): one ill-formed term for each check -/

def req0 : BankReq := { who := .badger, age := 0, port := 0, rivals := [] }
def frame0 : Frame := { ctl := 0, payload := List.replicate 1983 0, trailer := 0 }

theorem test_write_form : Instr.wellFormed (.hostWrite 0 0 2 [0, 0, 0, 0]) = false ∧ Instr.wellFormed (.hostWrite 0 0 0 [0, 0, 0]) = false ∧
    Instr.wellFormed (.hostWrite 0 0 0 []) = false ∧ Instr.wellFormed (.hostWrite 0 0 0x4000000 [0, 0, 0, 0]) = false := by decide +kernel
theorem test_read_form : Instr.wellFormed (.hostRead 0 0 0 1956) = false ∧ Instr.wellFormed (.hostRead 0 0 0 1952) = true := by decide +kernel
theorem test_register_write_form : Instr.wellFormed (.registerWrite .window 2 0) = false ∧
    Instr.wellFormed (.registerWrite .window 0x4000000 0) = false := by decide +kernel
theorem test_bank_forms : Instr.wellFormed (.cribRead req0 st0 0 0) = false ∧ Instr.wellFormed (.cribRead req0 st0 511 2) = false ∧
    Instr.wellFormed (.cribWrite req0 st0 0 []) = false := by decide +kernel
theorem test_atomic_forms : Instr.wellFormed (.add16 req0 st0 1 0) = false ∧ Instr.wellFormed (.add32 req0 st0 2 0) = false ∧
    Instr.wellFormed (.swap32 req0 st0 2 0) = false ∧ Instr.wellFormed (.swap64 req0 st0 4 0) = false := by decide +kernel
theorem test_entry_forms : Instr.wellFormed (.chainEntryArrival st0 32) = false ∧ Instr.wellFormed (.chainEntryStart st0 32) = false ∧
    Instr.wellFormed (.chainEntryComplete st0 32) = false := by decide +kernel
theorem test_step_forms : Instr.wellFormed (.tokenStep st0 [] 0 0 0 262145) = false ∧
    Instr.wellFormed (.generatorRestart st0 0x7FFFFF 0 2) = false := by decide +kernel
theorem test_patch_form : Instr.wellFormed (.coefficientPatchHandover 0 0 65537 0) = false := by decide +kernel
theorem test_row_form : Instr.wellFormed (.poisonedRowRewrite 0 0x4000000 (List.replicate 320 0)) = false ∧
    Instr.wellFormed (.poisonedRowRewrite 0 0 []) = false := by decide +kernel
theorem test_frame_form : Instr.wellFormed (.frameReceive 0 frame0) = false := by decide +kernel
theorem test_setup_forms : Instr.wellFormed (.hello 0 []) = false ∧ Instr.wellFormed (.confirm 0 [0]) = false := by decide +kernel
theorem test_alignment_form : Instr.wellFormed (.tickAlignment 0 0 8192) = false := by decide +kernel
theorem test_power_forms : Instr.wellFormed (.powerManagerDecision []) = false ∧ Instr.wellFormed (.energyReport [] 0 0 0) = false := by
  decide +kernel
theorem test_side_port_form : Instr.wellFormed (.i2cRead 0 5) = false := by decide +kernel
theorem test_training_form : Instr.wellFormed (.linkTrainingComplete 0 1024 0 0) = false := by decide +kernel

/-- No row of the table gives bits. -/
theorem test_no_table_words : decodeTableWord 32 0 = none ∧ State.reset.withFetchWord 32 0 = State.reset := by decide +kernel

/-! ## Values worked out by hand from the manual -/

/-- ADD g1, g2, g3 of R245 and R246: OP 0, rd 1, ra 2, rb 3, FN 0; ADDI g5, g6, −1: OP 2. -/
theorem test_add_word : gleanDecode core0 0x00221800#32 = some (.add core0 1 2 3) := by decide +kernel
theorem test_addi_word : gleanDecode core0 0x08A6FFFF#32 = some (.addi core0 5 6 0xFFFF#16) := by decide +kernel
theorem test_reserved_word : gleanDecode core0 0xBC000000#32 = none := by decide +kernel

/-- CRC-32C of the nine ASCII digits, the check value that its definition gives (R305). -/
theorem test_crc32c : crc32c [0x31, 0x32, 0x33, 0x34, 0x35, 0x36, 0x37, 0x38, 0x39] = 0xE3069283 := by decide +kernel
/-- Half away from zero and half to even (R61, R175). -/
theorem test_rounding : divAway 5 2 = 3 ∧ divAway (-5) 2 = -3 ∧ divEven 5 2 = 2 ∧ divEven 7 2 = 4 := by decide +kernel
/-- Signed fields. -/
theorem test_signed : signed 4 0xF = -1 ∧ signed 4 7 = 7 ∧ unsign 4 (-8) = 8 := by decide +kernel

/-! ## Witnesses: the host interface -/

/-- A module that serves control port 0. -/
def served : State :=
  ({ State.reset with powered := true, ports := [(16, { session := some { secret := 0, dirZero := true, txFrom := 0, rxFrom := 0 } })] } :
    State).setFld F.hubStatusReady 0 1

theorem witness_HostAccess_staging : requestForm 0x3FFFFFC [1, 2, 3, 4].length = true ∧ 0x1000000 ≤ 0x3FFFFFC ∧ served.serves 0 = true := by
  decide +kernel
theorem witness_HostAccess_message : requestForm (0x100000 + 4096 * 3) (message 0x0D 0 0 []).length = true ∧
    (message 0x0D 0 0 []).length ≤ 256 ∧ wholeMessage (0x100000 + 4096 * 3) 3 (message 0x0D 0 0 []) = true ∧
    bytesAt (message 0x0D 0 0 []) 16 1 ≤ 224 ∧ served.serves 0 = true ∧ served.flag F.hubStatusReady 0 = true ∧
    (served.chan 3).msg = none := by decide +kernel
theorem witness_HostAccess_read : requestForm 8 4 = true ∧ served.serves 0 = true ∧ served.serves 1 = false ∧ requestForm 2 4 = false ∧
    requestForm 0x3FFFFFC 4 = true := by decide +kernel
/-- A plain register of the window, and the two that act; a READ that is not aligned, and WRITEs of no length and into a message slot in part. -/
theorem witness_HostAccess_register : served.serves 0 = true ∧ writeForm 0x20 (leBytes 4 0) = true ∧ writeForm 0x500000 (leBytes 4 0) = true := by
  decide +kernel
theorem witness_HostAccess_stray : served.serves 0 = true ∧ requestForm 2 4 = false ∧ writeForm 0x3FFFFFC [] = false ∧
    writeForm 0x100000 [0, 0, 0, 0] = false := by decide +kernel
theorem witness_ChannelReset : (State.reset.chan 3).msg = none ∧ ((holding State.reset []).chan 3).msg ≠ none := by decide +kernel
theorem witness_ClearBits_keeps : (State.reset.fld F.monSelSource 0, State.reset.fld F.monSelIndex 0) =
    ((State.reset.monSel 0 0).fld F.monSelSource 0, (State.reset.monSel 0 0).fld F.monSelIndex 0) := by decide +kernel
theorem witness_ClearBits_changes : (State.reset.fld F.monSelSource 511, State.reset.fld F.monSelIndex 511) ≠
    ((State.reset.monSel 511 (BitVec.allOnes 64)).fld F.monSelSource 511, (State.reset.monSel 511 (BitVec.allOnes 64)).fld F.monSelIndex 511) := by
  decide +kernel
theorem witness_CeilingWrite : 2000 = max 2000 (min 5600 ((0 : BitVec 32).toNat % 8192)) ∧
    5600 = max 2000 (min 5600 ((8191 : BitVec 32).toNat % 8192)) ∧ State.reset.cyc ≤ 991 ∧ State.reset.groupCtxs = [] := by decide +kernel

def linkUp : State := (State.reset.setFld F.lnkStatusState 0 2).setFld F.lnkCtrlEn 0 1
def linkEn : State := State.reset.setFld F.lnkCtrlEn 0 1
def linkTrains : State := State.reset.setFld F.lnkStatusState 0 1

theorem witness_PortControl_write : linkUp.portUp 0 = true ∧ State.reset.portUp 0 = false ∧ State.reset.flag F.lnkCtrlEn 0 = false ∧
    (1 : BitVec 32).getLsbD 0 = true ∧ linkEn.portUp 0 = false ∧ linkEn.flag F.lnkCtrlEn 0 = true ∧ linkEn.flag F.lnkCtrlSched 0 = false ∧
    (0 : BitVec 32).getLsbD 0 = false ∧ (9 : BitVec 32).getLsbD 0 = true := by decide +kernel
theorem witness_PortControl_lane : (linkUp.setFld F.lnkCtrlSpareEn 0 1).portUp 0 = true ∧ 7 < portWidth 0 ∧
    (linkUp.setFld F.lnkCtrlSpareEn 0 1).flag F.lnkStatusSpareInUse 0 = false ∧ (linkUp.setFld F.lnkCtrlSpareEn 0 1).flag F.lnkCtrlSpareEn 0 = true ∧
    linkUp.group = none ∧ linkUp.flag F.lnkStatusSpareInUse 0 = false ∧ linkUp.flag F.lnkCtrlSpareEn 0 = false ∧
    (linkUp.setFld F.lnkStatusSpareInUse 0 1).flag F.lnkStatusSpareInUse 0 = true ∧
    (linkUp.setFld F.lnkStatusSpareInUse 0 1).fld F.lnkStatusFailedLane 0 ≠ 7 := by decide +kernel
theorem witness_PortControl_training : State.reset.fld F.lnkStatusState 0 ≠ 1 ∧ linkTrains.fld F.lnkStatusState 0 = 1 ∧ 512 ≤ 512 ∧
    (State.reset.launch 7).any (·.group) = false := by decide +kernel

/-- An address of no register; a register that waits and one that does not; one that only clears; a core in FAULT; an enabled generator's. -/
theorem witness_RegisterWrites : regAt rowsShf eng0.ix 2 = none ∧ regAt rowsShf eng0.ix 0 = some (.shfCtrl, 0) ∧
    State.reset.writeWaits .shfCtrl 0 = false ∧ Reg.settable .shfCtrl ≠ 0 ∧ Reg.ofGen .shfCtrl = false ∧
    (running launch0).writeWaits .shfCtrl 0 = true ∧
    (0xF011 : Word) = (if Reg.bytes .shfCtrl = 8 then 0xF011 else (BitVec.setWidth 32 (0xF011 : Word)).setWidth 64) := by decide +kernel
theorem witness_RegisterWrites_fault : (regAt rowsStk core0.st.ix 0x408).map (·.1) = some .stkCoreFault ∧ Reg.settable .stkCoreFault = 0 ∧
    (16 : Word).getLsbD 4 = true ∧ (State.reset.setFld F.stkCoreStatusState 0 3).fld F.stkCoreStatusState 0 = 3 := by decide +kernel
theorem witness_RegisterWrites_token : Reg.ofGen .hrwGenTau = true ∧ Reg.settable .hrwGenTau ≠ 0 ∧
    (State.reset.setFld F.hrwGenCtrlEn 0 1).flag F.hrwGenCtrlEn (0 / Reg.copies .hrwGenTau) = true := by decide +kernel

def inTest : State := State.reset.setFld F.secLifecycleState 0 0
def shipped : State := State.reset.setFld F.secLifecycleState 0 1
def seeded (n : Nat) : State := { State.reset with sources := [(0, { state := n, pool := [0], drbg := some 0, blocks := 4096 })] }

theorem witness_EntropyService_test : shipped.fld F.secLifecycleState 0 ≠ 0 ∧ inTest.fld F.secLifecycleState 0 = 0 ∧
    (1 : BitVec 32).setWidth 2 ≠ 0 ∧ (4 : BitVec 32).setWidth 2 = (0 : BitVec 2) ∧ ((seeded 3).source 0).state ≠ 0 ∧
    ((seeded 3).source 0).state ≠ 6 ∧ ((seeded 7).source 0).state = 7 ∧ (seeded 7).fld F.secLifecycleState 0 = 0 := by decide +kernel

def askEnt (s : State) : State := holding s (message 0x15 0 0 [1])

theorem witness_EntropyService_read : Due (askEnt (seeded 1)) 3 0x15 (parseMsg (message 0x15 0 0 [1])) ∧
    ((askEnt (seeded 1)).executing 3 (parseMsg (message 0x15 0 0 [1]))).entStatus.isSome := ⟨due_of (by decide +kernel), by decide +kernel⟩
theorem witness_EntropyService_serve : Due (askEnt (seeded 3)) 3 0x15 (parseMsg (message 0x15 0 0 [1])) ∧
    ((askEnt (seeded 3)).executing 3 (parseMsg (message 0x15 0 0 [1]))).entStatus = none ∧ (askEnt (seeded 3)).entWaits = [] ∧
    ∃ l u, ((askEnt (seeded 3)).executing 3 (parseMsg (message 0x15 0 0 [1]))).blocks
      (ceilDiv ((parseMsg (message 0x15 0 0 [1])).p 0 1) 16) [] = ((l, 0), u) :=
  ⟨due_of (by decide +kernel), by decide +kernel, by decide +kernel, ⟨_, _, rfl⟩⟩
theorem witness_EntropyService_wait : Due (askEnt { seeded 3 with entWaits := [(4, 1, [])] }) 3 0x15 (parseMsg (message 0x15 0 0 [1])) ∧
    ((askEnt { seeded 3 with entWaits := [(4, 1, [])] }).executing 3 (parseMsg (message 0x15 0 0 [1]))).entStatus = none ∧
    (askEnt { seeded 3 with entWaits := [(4, 1, [])] }).entWaits ≠ [] := ⟨due_of (by decide +kernel), by decide +kernel, by decide +kernel⟩
theorem witness_EntropyService_source : (State.reset.entWaits = [] ∧ State.reset.keyAcres = []) ∧ (State.reset.source 0).state ∉ [1, 2] ∧
    ((seeded 1).source 0).state ∈ [1, 2] ∧ (seeded 1).keyAcres = [] ∧ ((seeded 3).source 0).state ∉ [0, 6, 7] ∧ ((seeded 3).source 0).restarts ≠ 3 ∧
    ((seeded 3).source 0).state ∈ [3, 4, 5] ∧ ((seeded 3).source 0).drbg = some 0 ∧ ((seeded 3).source 0).pool = [0] ∧
    (seeded 3).reseedAt ≤ ((seeded 3).source 0).blocks ∧
    ({ State.reset with acres := [(0, { keyWire := some 5 })] } : State).cyc ≤ 1023 ∧
    (({ State.reset with acres := [(0, { keyWire := some 5 })] } : State).acre acre0.ix).keyWire = some 5 := by decide +kernel
/-- A window of alternating samples, which passes both health tests, and one of equal samples, which fails both. -/
def alternating : BitVec 1024 := BitVec.ofNat 1024 ((2 ^ 1024 - 1) / 3)
theorem witness_Entropy_window : (runsOf ((seeded 2).source 0).run alternating).2.2 = 0 ∧ firstCount alternating < 794 ∧
    (runsOf ((seeded 2).source 0).run 0).2.2 ≠ 0 ∧ 794 ≤ firstCount 0 ∧ ((seeded 2).source 0).state ∉ [0, 6] ∧
    ((seeded 2).source 0).pool = 0 :: [] ∧ ((seeded 1).source 0).state ≠ 7 := by decide +kernel
theorem witness_EntropyService_latch :
    ((({ State.reset with sources := [(0, { state := 3, restarts := 3 })] } : State).source 0).restarts) = 3 := by decide +kernel

/-! ## Witnesses: the mailbox opcodes -/

def asked (s : State) (opcode ctx graph : Nat) (payload : List Byte) (stage : Option (Nat × Nat) := none) : State :=
  holding s (message opcode ctx graph payload stage)
def msgOf (opcode ctx graph : Nat) (payload : List Byte) (stage : Option (Nat × Nat) := none) : Msg :=
  parseMsg (message opcode ctx graph payload stage)

theorem due_asked {s : State} {op ctx graph : Nat} {payload : List Byte} {stage : Option (Nat × Nat)}
    (h : (parseMsg (message op ctx graph payload stage)).opcode = op ∧
      (asked s op ctx graph payload stage).seqCheck 3 (parseMsg (message op ctx graph payload stage)).seq = .execute ∧
      (asked s op ctx graph payload stage).stagedClash 3 (parseMsg (message op ctx graph payload stage)) = false ∧
      (asked s op ctx graph payload stage).partClash (parseMsg (message op ctx graph payload stage)) = false) :
    Due (asked s op ctx graph payload stage) 3 op (msgOf op ctx graph payload stage) := by
  have e : (asked s op ctx graph payload stage).chan 3 = { msg := some (message op ctx graph payload stage) } := by
    exact sget_sput_same ({} : Chan) s.chans 3 { msg := some (message op ctx graph payload stage) }
  exact ⟨by rw [e]; rfl, h.1, by rw [e], h.2.1, h.2.2⟩

/-- Channel 3 answered SEQ 1 before, and the message comes once more; and one that the history does not hold. -/
def repeats (h : List (Nat × List Byte)) : State :=
  { (State.reset.setFld F.mbxStatusLast 3 1).setChan 3 { msg := some (message 0x0D 0 0 []), history := h } with graphs := [] }

theorem witness_MessageRepeats : ((repeats [(1, [3, 0, 0, 13])]).group = none ∧
    ((repeats [(1, [3, 0, 0, 13])]).chan 3).msg = some (message 0x0D 0 0 []) ∧ ((repeats [(1, [3, 0, 0, 13])]).chan 3).waits = false ∧
    ((repeats [(1, [3, 0, 0, 13])]).chan 3).resetAsked = false ∧ (msgOf 0x0D 0 0 []).opcode = 0x0D ∧
    (repeats [(1, [3, 0, 0, 13])]).seqCheck 3 (msgOf 0x0D 0 0 []).seq = .again [3, 0, 0, 13] ∧ 3 ≤ [3, 0, 0, 13].length) ∧
    (repeats []).seqCheck 3 (msgOf 0x0D 0 0 []).seq = .late ∧ (msgOf 0x0D 0 0 []).opcode ≠ 0x0E := by decide +kernel

/-- CTX_OPEN of the context named, with the least and the greatest journal, and of the lowest free one. -/
theorem witness_Contexts_open : Due (asked State.reset 1 10239 0 [1, 0, 0, 0]) 3 1 (msgOf 1 10239 0 [1, 0, 0, 0]) ∧
    (State.reset.ctx 10239).state = .free ∧ (msgOf 1 10239 0 [1, 0, 0, 0]).ctx = 10239 ∧ (msgOf 1 10239 0 [1, 0, 0, 0]).p 0 4 = 1 ∧
    (msgOf 1 0x3FFF 0 [0, 16, 0, 0]).ctx = 0x3FFF ∧ (msgOf 1 0x3FFF 0 [0, 16, 0, 0]).p 0 4 = 4096 ∧
    (((asked State.reset 1 0x3FFF 0 [0, 16, 0, 0]).executing 3 (msgOf 1 0x3FFF 0 [0, 16, 0, 0])).allocKeep (segsFor (4096 * 2 ^ 20))).isSome :=
  ⟨due_asked (by decide +kernel), by decide +kernel⟩
theorem witness_Contexts_close : (∀ x ∈ [CtxState.opened, .loaded, .paused, .saved, .faulted, .running, .held],
    ((asked (with7 x none) 2 7 0 []).ctx (msgOf 2 7 0 []).ctx).state = x) ∧
    (asked (with7 .paused none) 2 7 0 []).seqCheck 3 (msgOf 2 7 0 []).seq = .execute := by decide +kernel

theorem witness_Graphs_create : Due (asked State.reset 3 0 0 [0, 0, 8, 0, 64, 0, 0, 0]) 3 3 (msgOf 3 0 0 [0, 0, 8, 0, 64, 0, 0, 0]) ∧
    (msgOf 3 0 0 [0, 0, 8, 0, 64, 0, 0, 0]).p 0 4 % 2 ^ 20 = 8192 * 64 ∧ (msgOf 3 0 0 [0, 0, 8, 0, 64, 0, 0, 0]).p 4 4 % 2 ^ 7 = 64 ∧
    State.reset.graph 0 = none ∧ (msgOf 3 0 0 []).p 0 4 % 2 ^ 20 = 0 := ⟨due_asked (by decide +kernel), by decide +kernel⟩

/-- A graph with nothing in it yet, and the last part of an image that reads as one empty block. -/
def unloaded : State := { State.reset with graphs := [(0, some { blocks := 1, modules := 1, staged := [], versions := [] })] }
def emptyBlock (f : Sparse (BitVec 1024)) : Coeffs := { coeffs0 with frozen := f }

/-! The empty block keeps the bounds of R64. -/

theorem sum_of_zeros (f : Nat → Nat) (h : ∀ x, f x = 0) (l : List Nat) : (l.map f).sum = 0 := by
  induction l with
  | nil => rfl
  | cons a l ih => rw [List.map_cons, List.sum_cons, h, ih]
theorem empty_block_code (x) (b p i j : Nat) : (emptyBlock x).code b p i j = 0 := (by decide : codeValue 0#4 = 0)
theorem empty_energy (c : Coeffs) (b : Nat) (hl : c.links = []) (hc : ∀ b p i j, c.code b p i j = 0) (hb : ∀ b p i, c.biasCode b p i = 0) :
    c.blockEnergy b = 0 := by
  simp only [Coeffs.blockEnergy, hl, hc, hb]
  refine Nat.add_eq_zero_iff.mpr ⟨?_, rfl⟩
  apply sum_of_zeros
  intro p
  apply sum_of_zeros
  intro i
  apply Nat.mul_eq_zero.mpr
  left
  apply Nat.add_eq_zero_iff.mpr
  constructor
  · apply sum_of_zeros
    intro j
    split <;> rfl
  · rfl
theorem empty_block_energy (x) : (emptyBlock x).blockEnergy 0 = 0 := empty_energy _ _ rfl (fun _ _ _ _ => (by decide : codeValue 0#4 = 0)) (fun _ _ _ => rfl)
theorem empty_block_magnitude (x) (b p i : Nat) : (emptyBlock x).magnitude b p i = 0 := by
  unfold Coeffs.magnitude
  have l : ∀ f, ((emptyBlock x).links.filter f) = [] := fun _ => rfl
  have e : ((List.range 1024).map fun j => if j = i then 0 else ((emptyBlock x).code b p i j).natAbs).sum = 0 :=
    sum_of_zeros _ (fun j => by rw [empty_block_code]; split <;> rfl) _
  rw [l, e]; rfl
theorem empty_block_good (x) : (emptyBlock x).blockBad 0 = false := by
  unfold Coeffs.blockBad
  have a : ((List.range 1024).any fun i =>
    decide (524287 < (emptyBlock x).magnitude 0 0 i) || decide (524287 < (emptyBlock x).magnitude 0 1 i) ||
    decide (2147483647 < 2 * (emptyBlock x).mantissa * ((emptyBlock x).magnitude 0 0 i * 2 ^ (emptyBlock x).sh 0 0 + (emptyBlock x).magnitude 0 1 i * 2 ^ (emptyBlock x).sh 0 1)))
      = false := by
    rw [List.any_eq_false]
    intro i _
    rw [empty_block_magnitude, empty_block_magnitude]
    simp
  rw [a]
  exact (by decide +kernel : ((false || [0, 1].any fun p => !coeffs0.empty 0 p && coeffs0.exps.any fun e => decide (coeffs0.exp 0 p + 16 < e)) ||
    decide (262144 < (coeffs0.links.filter fun l => l.1 / 1024 == 0).length) ||
    coeffs0.exacts.any fun y => bits y.toNat 32 29 / 1024 == 0 && (ofF32 (bits y.toNat 96 32)).isNone) = false)
theorem empty_block_bound (x) : (emptyBlock x).firstBad = none := by
  have o : List.range (emptyBlock x).blocks = [0] := rfl
  have p : List.range 1 = [0] := rfl
  unfold Coeffs.firstBad
  rw [o]
  apply List.find?_eq_none.mpr
  intro y hy
  rw [List.mem_singleton] at hy
  subst hy
  rw [empty_block_good, Nat.zero_add, p, List.map_cons, List.map_nil, empty_block_energy]
  decide

def loadPart : List Byte := leBytes 8 0 ++ leBytes 4 1
theorem witness_Graphs_part : ∀ f ∈ [0, 1], Due (asked unloaded 4 0 0 (leBytes 8 0 ++ leBytes 4 f) (some (0, 4))) 3 4
      (msgOf 4 0 0 (leBytes 8 0 ++ leBytes 4 f) (some (0, 4))) ∧
    (asked unloaded 4 0 0 (leBytes 8 0 ++ leBytes 4 f) (some (0, 4))).graph (msgOf 4 0 0 (leBytes 8 0 ++ leBytes 4 f) (some (0, 4))).graph =
      some { blocks := 1, modules := 1, staged := [], versions := [] } ∧ (msgOf 4 0 0 (leBytes 8 0 ++ leBytes 4 f) (some (0, 4))).p 8 4 % 2 = f := by
  intro f h
  simp only [List.mem_cons, List.not_mem_nil, or_false] at h
  rcases h with rfl | rfl <;> exact ⟨due_asked (by decide +kernel), by decide +kernel⟩
theorem witness_Graphs_load (h : Config.readGraph (putPart [] 0 ((asked unloaded 4 0 0 loadPart (some (0, 4))).stagedOf (msgOf 4 0 0 loadPart (some (0, 4)))))
    = some (emptyBlock [])) : Due (asked unloaded 4 0 0 loadPart (some (0, 4))) 3 4 (msgOf 4 0 0 loadPart (some (0, 4))) ∧
    ∃ gr c, (asked unloaded 4 0 0 loadPart (some (0, 4))).graph (msgOf 4 0 0 loadPart (some (0, 4))).graph = some gr ∧ gr.versions = [] ∧
      (msgOf 4 0 0 loadPart (some (0, 4))).p 8 4 % 2 = 1 ∧ Config.readGraph (putPart gr.staged ((msgOf 4 0 0 loadPart (some (0, 4))).p 0 8)
        ((asked unloaded 4 0 0 loadPart (some (0, 4))).stagedOf (msgOf 4 0 0 loadPart (some (0, 4))))) = some c ∧
      c.level = (asked unloaded 4 0 0 loadPart (some (0, 4))).fld F.hubIdentLevel 0 ∧ c.blocks ≤ gr.blocks ∧ c.firstBad = none ∧
      (((asked unloaded 4 0 0 loadPart (some (0, 4))).executing 3 (msgOf 4 0 0 loadPart (some (0, 4)))).allocKeep (segsFor c.bytes)).isSome := by
  refine ⟨due_asked (by decide +kernel), { blocks := 1, modules := 1, staged := [], versions := [] }, emptyBlock [], by decide +kernel, rfl,
    by decide +kernel, h, by decide +kernel, by decide +kernel, empty_block_bound _, by decide +kernel⟩
theorem witness_Graphs_retire : Due (asked (with7 .opened none) 6 0 0 (leBytes 4 1 ++ leBytes 4 0)) 3 6 (msgOf 6 0 0 (leBytes 4 1 ++ leBytes 4 0)) ∧
    (with7 .opened none).graph (msgOf 6 0 0 (leBytes 4 1 ++ leBytes 4 0)).graph = some graph0 ∧ version0 ∈ graph0.versions ∧
    version0.num = (msgOf 6 0 0 (leBytes 4 1 ++ leBytes 4 0)).p 0 4 ∧ (msgOf 6 0 0 (leBytes 4 1 ++ leBytes 4 0)).p 4 4 % 2 = 0 ∧
    (∀ x ∈ graph0.versions, x.num = version0.num → x = version0) ∧ version0.state ≠ .retired ∧ ((with7 .opened none).users 0 1).isEmpty = true ∧
    ((with7 .paused (some launch0)).users 0 1).isEmpty = false := ⟨due_asked (by decide +kernel), by decide +kernel⟩

/-- A patch that freezes spin 0 (kind 3, A = 0, NEW = 1). -/
def freezeItem : List Byte := leBytes 16 (3 * 2 ^ 124 + 2 ^ 32)
def patchBody : List Byte := leBytes 8 0 ++ leBytes 4 1 ++ leBytes 4 0 ++ freezeItem
def patchAsk : State := asked (with7 .opened none) 5 0 0 patchBody
def patchMsg : Msg := msgOf 5 0 0 patchBody
theorem patch_items : parseItems (patchMsg.p 8 4) (patchMsg.payload.drop 0x10) =
    [{ kind := 3, plane := 0, hasValue := false, guarded := false, a := 0, b := 0, new := 1, value := 0 }] := by decide +kernel
theorem derives_freeze {s : State} (hg : s.graph 0 = some graph0) (hk : ∀ n, n ≤ 2 → (s.allocKeep n).isSome = true) :
    Derives s 0 graph0 version0 [{ kind := 3, plane := 0, hasValue := false, guarded := false, a := 0, b := 0, new := 1, value := 0 }] where
  graph := hg
  formed := by decide +kernel
  alive := by decide +kernel
  top := by decide +kernel
  bounds := by
    have e : [({ kind := 3, plane := 0, hasValue := false, guarded := false, a := 0, b := 0, new := 1, value := 0 } : Item)].foldl Coeffs.change
      version0.coeffs = emptyBlock [(0, 1)] := by decide +kernel
    rw [e]
    exact empty_block_bound _
  room := hk _ (by decide +kernel)
theorem witness_Graphs_patch : Due patchAsk 3 5 patchMsg ∧ patchMsg.p 8 4 ≤ 1048576 ∧ patchMsg.stage = false ∧ patchMsg.p 0x0C 4 % 2 = 0 ∧
    graph0.newest = some version0 ∧ version0.state = .live ∧
    Derives (patchAsk.executing 3 patchMsg) patchMsg.graph graph0 version0 (parseItems (patchMsg.p 8 4) (patchMsg.payload.drop 0x10)) := by
  refine ⟨due_asked (by decide +kernel), by decide +kernel, by decide +kernel, by decide +kernel, rfl, rfl, ?_⟩
  rw [patch_items]
  exact derives_freeze (by decide +kernel) (by decide +kernel)

/-- The same items in a live patch for tick 9 of a launch that follows the graph; the room in its journal is the launch's own. -/
def liveBody : List Byte := leBytes 8 9 ++ leBytes 4 1 ++ leBytes 4 1 ++ freezeItem
def followed : Launch := { launch0 with follow := true }
def liveMsg : Msg := msgOf 5 7 0 liveBody
theorem witness_Graphs_live (h : (asked (running followed) 5 7 0 liveBody).journalFitsAll 7 (patchRuns (parseItems 1 freezeItem)) = true) :
    Due (asked (running followed) 5 7 0 liveBody) 3 5 liveMsg ∧ liveMsg.p 0x0C 4 % 2 = 1 ∧
    topologyPatch (bits (liveMsg.p 0x0C 4) 1 1 == 1) (parseItems 1 freezeItem) = false ∧
    parseItems (liveMsg.p 8 4) (liveMsg.payload.drop 0x10) = parseItems 1 freezeItem ∧
    (asked (running followed) 5 7 0 liveBody).launch liveMsg.ctx = some followed ∧ followed.follow = true ∧
    ((running followed).ctx liveMsg.ctx).state = .running ∧ signed 64 (liveMsg.p 0 8) = 9 ∧ followed.patchLate 9 = false ∧
    graph0.versions.find? (fun x => x.num == followed.lastVersion) = some version0 ∧ crowded (parseItems 1 freezeItem) = false ∧
    (asked (running followed) 5 7 0 liveBody).journalFitsAll liveMsg.ctx (patchRuns (parseItems 1 freezeItem)) = true ∧
    (parseItems 1 freezeItem).all (fun i => i.kind == 1 || i.kind == 2 || i.kind == 3) = true ∧
    Derives ((asked (running followed) 5 7 0 liveBody).executing 3 liveMsg) followed.graph graph0 version0 (parseItems 1 freezeItem) := by
  have e : parseItems 1 freezeItem = parseItems (patchMsg.p 8 4) (patchMsg.payload.drop 0x10) := by decide +kernel
  refine ⟨due_asked (by decide +kernel), by decide +kernel, by decide +kernel, by decide +kernel, by decide +kernel, rfl, by decide +kernel,
    by decide +kernel, by decide +kernel, by decide +kernel, by decide +kernel, h, by decide +kernel, ?_⟩
  rw [e, patch_items]
  exact derives_freeze (by decide +kernel) (by decide +kernel)

theorem launch_checks_ok {s : State} {c : Nat} {a : Ask} {w : Sched} {v : Version} (h1 : (s.ctx c).state = .opened)
    (h2 : s.streamFree a.stream c = true) (h3 : Config.readSched a.image = some w) (h4 : s.imageBreak w = none)
    (h5 : s.namedVersion a.graph a.version = some v) (h6 : v.state = .live ∧ w.graphHash = v.hash ∧ w.graphBlocks = v.coeffs.blocks) :
    s.launchChecks c a = .ok (w, v) := by
  simp [State.launchChecks, h1, h2, h3, h4, h5, h6]

def launchBody : List Byte := leBytes 8 0 ++ leBytes 4 1 ++ leBytes 4 9 ++ leBytes 4 0
def launchAsk : State := asked (with7 .opened none) 7 7 0 launchBody (some (0, 4))
def launchMsg : Msg := msgOf 7 7 0 launchBody (some (0, 4))
def schedOne : Sched := { sched0 with classT := true }
def launchNow : State := (launchAsk.executing 3 launchMsg).setCtx launchMsg.ctx { launchAsk.ctx launchMsg.ctx with staged := [] }

theorem witness_Launches_parts : ∀ f ∈ [0, 1], Due (asked (with7 .opened none) 7 7 0 (leBytes 8 0 ++ leBytes 4 f) (some (0, 4))) 3 7
      (msgOf 7 7 0 (leBytes 8 0 ++ leBytes 4 f) (some (0, 4))) ∧ (asked (with7 .opened none) 7 7 0 (leBytes 8 0 ++ leBytes 4 f) (some (0, 4))).group = none ∧
    ((asked (with7 .opened none) 7 7 0 (leBytes 8 0 ++ leBytes 4 f) (some (0, 4))).ctx
      (msgOf 7 7 0 (leBytes 8 0 ++ leBytes 4 f) (some (0, 4))).ctx).state ∈ [CtxState.opened, .faulted] ∧
    (msgOf 7 7 0 (leBytes 8 0 ++ leBytes 4 f) (some (0, 4))).p 8 4 % 2 = f := by
  intro f h
  simp only [List.mem_cons, List.not_mem_nil, or_false] at h
  rcases h with rfl | rfl <;> exact ⟨due_asked (by decide +kernel), by decide +kernel⟩
theorem witness_Launches_launch (hp : ∀ c g, Config.placeFrom c g = 0)
    (h : Config.readSched ((launchAsk.executing 3 launchMsg).askOf launchMsg).image = some schedOne) :
    Due launchAsk 3 7 launchMsg ∧ launchAsk.group = none ∧ launchMsg.p 8 4 % 2 = 1 ∧
    launchNow.launchChecks launchMsg.ctx ((launchAsk.executing 3 launchMsg).askOf launchMsg) = .ok (schedOne, version0) ∧
    capacityBreak schedOne = false ∧ ∃ p, launchNow.place launchMsg.ctx schedOne 1 none = some p ∧ p.evict = [] := by
  refine ⟨due_asked (by decide +kernel), by decide +kernel, by decide +kernel, ?_, by decide +kernel, ⟨1, 0, [0], []⟩, ?_, rfl⟩
  · exact launch_checks_ok (by decide +kernel) (by decide +kernel) h (by decide +kernel) (by decide +kernel) (by decide +kernel)
  · simp only [State.place, State.placeWith, hp]
    decide +kernel
def replayAsk (x : CtxState) : State :=
  asked { with7 x none with ctxs := [(7, { state := x }), (8, { state := .opened })] } 0x11 8 0 (leBytes 2 7)
def replayMsg : Msg := msgOf 0x11 8 0 (leBytes 2 7)
theorem witness_Launches_busy : Due (replayAsk .loaded) 3 0x11 replayMsg ∧ ((replayAsk .loaded).ctx replayMsg.ctx).state ≠ .free ∧
    ((replayAsk .loaded).ctx (replayMsg.p 0 2 % 2 ^ 14)).state = .loaded ∧
    Due (replayAsk .opened) 3 0x11 replayMsg ∧ ((replayAsk .opened).ctx replayMsg.ctx).state ≠ .free ∧
    ((replayAsk .opened).ctx (replayMsg.p 0 2 % 2 ^ 14)).state ∉ [CtxState.loaded, .running, .held] :=
  ⟨due_asked (by decide +kernel), by decide +kernel, by decide +kernel, due_asked (by decide +kernel), by decide +kernel⟩
theorem witness_Launches_free : Due (asked State.reset 0x11 8 0 (leBytes 2 7)) 3 0x11 replayMsg ∧
    ((asked State.reset 0x11 8 0 (leBytes 2 7)).ctx replayMsg.ctx).state = .free := ⟨due_asked (by decide +kernel), by decide +kernel⟩

def ended0 : State := with7 .opened none
theorem witness_Pauses_pause : Due (asked (running launch0) 8 7 0 []) 3 8 (msgOf 8 7 0 []) ∧ Due (asked (running launch0) 9 7 0 []) 3 9 (msgOf 9 7 0 []) ∧
    (running launch0).launch (msgOf 8 7 0 []).ctx = some launch0 ∧ launch0.group = false ∧
    ((running launch0).ctx (msgOf 8 7 0 []).ctx).state = .running ∧ launch0.drain = none ∧
    ((with7 .held (some launch0)).ctx 7).state = .held :=
  ⟨due_asked (by decide +kernel), due_asked (by decide +kernel), by decide +kernel⟩
theorem witness_Pauses_busy : Due (asked (with7 .paused (some launch0)) 8 7 0 []) 3 8 (msgOf 8 7 0 []) ∧
    ((with7 .paused (some launch0)).ctx 7).state ∉ [CtxState.running, .held] ∧ Due (asked ended0 9 7 0 []) 3 9 (msgOf 9 7 0 []) ∧
    (ended0.ctx 7).state ∉ [CtxState.running, .held, .paused] ∧ (ended0.launch 7).all (fun l => !l.group) = true :=
  ⟨due_asked (by decide +kernel), by decide +kernel, due_asked (by decide +kernel), by decide +kernel⟩

def paused7 : State := with7 .paused (some launchT)
def saveNow : State := ((asked paused7 9 7 0 []).executing 3 (msgOf 9 7 0 [])).wakeService 7
/-- The state with the HOST record of the message in the journal. -/
def saveMarked : State :=
  saveNow.setCtx 7 { saveNow.ctx 7 with journal := [⟨.host 9 1, 0, 0, 0, 0⟩], journalNext := 1 }
theorem save_marked (h : JBody.size (.host 9 1) ≤ 2 ^ 20) : saveNow.hostMark 7 9 1 = saveMarked := by
  have f : saveNow.journalFits 7 (.host 9 1) = true := by
    have e : journalSize (saveNow.ctx 7).journal = 0 := by decide +kernel
    have m : (saveNow.ctx 7).journalMiB = 1 := by decide +kernel
    simp only [State.journalFits, e, m]
    exact decide_eq_true (by omega)
  rw [State.hostMark, State.journal, if_pos f]
  decide +kernel
theorem witness_Pauses_save (h : JBody.size (.host 9 1) ≤ 2 ^ 20) (b : savedBytes (saveMarked.capture 7 launchT false) ≤ 83886080) :
    Due (asked paused7 9 7 0 []) 3 9 (msgOf 9 7 0 []) ∧ (asked paused7 9 7 0 []).launch (msgOf 9 7 0 []).ctx = some launchT ∧
    ((asked paused7 9 7 0 []).ctx (msgOf 9 7 0 []).ctx).state = .paused ∧ saveNow.hostMark 7 9 1 = saveMarked ∧
    saveMarked.launch 7 = some launchT ∧ (saveMarked.allocKeep (segsFor (savedBytes (saveMarked.capture 7 launchT false)))).isSome := by
  have g : 96 ≤ savedBytes (saveMarked.capture 7 launchT false) := Nat.le_trans (Nat.le_add_right _ _) (Nat.le_add_right _ _)
  have e : segsFor (savedBytes (saveMarked.capture 7 launchT false)) = 1 := by
    revert g b
    generalize savedBytes (saveMarked.capture 7 launchT false) = n
    intro b g
    simp only [segsFor, ceilDiv, if_neg (by decide : ¬(83886080 : Nat) = 0)]
    omega
  rw [e]
  exact ⟨due_asked (by decide +kernel), by decide +kernel, by decide +kernel, save_marked h, by decide +kernel⟩
def resumeMsg : Msg := msgOf 0x0A 7 0 (leBytes 12 0 ++ leBytes 4 4095)
theorem witness_Pauses_resume : Due (asked paused7 0x0A 7 0 (leBytes 12 0 ++ leBytes 4 4095)) 3 0x0A resumeMsg ∧ resumeMsg.stage = false ∧
    (asked paused7 0x0A 7 0 (leBytes 12 0 ++ leBytes 4 4095)).groupSaved.contains resumeMsg.ctx = false ∧ paused7.launch resumeMsg.ctx = some launchT ∧
    launchT.group = false ∧ (paused7.ctx resumeMsg.ctx).state = .paused ∧ paused7.streamFree (resumeMsg.p 0x0C 4 % 4096) 7 = true ∧
    (paused7.bind 4095 8).streamFree (resumeMsg.p 0x0C 4 % 4096) 7 = false := ⟨due_asked (by decide +kernel), by decide +kernel⟩
theorem witness_Pauses_image : Due (asked ended0 0x0A 7 0 (leBytes 16 0) (some (0, 4))) 3 0x0A (msgOf 0x0A 7 0 (leBytes 16 0) (some (0, 4))) ∧
    (msgOf 0x0A 7 0 (leBytes 16 0) (some (0, 4))).stage = true ∧ (ended0.ctx 7).state ∈ [CtxState.opened, .faulted] ∧
    (msgOf 0x0A 7 0 (leBytes 16 0) (some (0, 4))).p 8 4 % 2 = 0 := ⟨due_asked (by decide +kernel), by decide +kernel⟩

def endResult : Results where
  sched := sched0
  image := []
  copies := 1
  hist := []
  perm := []
  graph := 0
  version := 1
  last := 99
  bests := [(-5, 42)]
  spins := []
  audits := []
  lost := []
  winnowCount := 0
  statSamples := []
  statCribs := []
/-- A context whose launch has ended, with the result of one replica. -/
def ended : State :=
  { with7 .opened none with ctxs := [(7, { state := .opened, journalMiB := 1, results := some endResult })] }
def bestBody (r : Nat) : List Byte := leBytes 2 r
theorem witness_Reads_best : ∀ r ∈ [0, 0xFFFF],
    (msgOf 0x0B 7 0 (bestBody r) (some (0, 0xC0))).opcode = 0x0B ∧ ((ended.bestOf 7).isSome = true) ∧
    (ended.bestOf 7).map (fun x => (x.1.blocks, x.2.1, launchBest x.2.1 x.2.2.1)) = some (1, [(-5, 42)], 0) ∧
    (msgOf 0x0B 7 0 (bestBody r) (some (0, 0xC0))).p 0 2 = r ∧ 0x40 + 128 * 1 ≤ (msgOf 0x0B 7 0 (bestBody r) (some (0, 0xC0))).stageLen ∧
    (msgOf 0x0B 7 0 (bestBody r) (some (0, 0xC0))).stageOff + 0x40 + 128 * 1 ≤ 2 ^ 26 ∧
    (asked ended 0x0B 7 0 (bestBody r) (some (0, 0xC0))).seqCheck 3 (msgOf 0x0B 7 0 (bestBody r) (some (0, 0xC0))).seq = .execute := by
  decide +kernel
theorem witness_Reads_running : Due (asked (running launch0) 0x0B 7 0 (bestBody 0) (some (0, 0xC0))) 3 0x0B (msgOf 0x0B 7 0 (bestBody 0) (some (0, 0xC0))) ∧
    ((running launch0).ctx 7).state ∈ [CtxState.running, .held] ∧ Due (asked ended0 0x0B 7 0 (bestBody 0)) 3 0x0B (msgOf 0x0B 7 0 (bestBody 0)) ∧
    ended0.bestOf 7 = none ∧ (ended0.ctx 7).state ∉ [CtxState.running, .held] ∧
    Due (asked ended 0x0B 7 0 (bestBody 0)) 3 0x0B (msgOf 0x0B 7 0 (bestBody 0)) ∧ (msgOf 0x0B 7 0 (bestBody 0)).stageLen < 0x40 + 128 * 1 :=
  ⟨due_asked (by decide +kernel), by decide +kernel, due_asked (by decide +kernel), by decide +kernel, by decide +kernel, due_asked (by decide +kernel),
    by decide +kernel⟩
theorem witness_Reads_capture : Due (asked ended 0x12 7 0 (leBytes 1 3) (some (2 ^ 26 - 4, 4))) 3 0x12 (msgOf 0x12 7 0 (leBytes 1 3) (some (2 ^ 26 - 4, 4))) ∧
    (msgOf 0x12 7 0 (leBytes 1 3) (some (2 ^ 26 - 4, 4))).p 0 1 ≠ 0 ∧ ended.objectOf 3 0 7 = some [] ∧
    (msgOf 0x12 7 0 (leBytes 1 3) (some (2 ^ 26 - 4, 4))).stageOff + (msgOf 0x12 7 0 (leBytes 1 3) (some (2 ^ 26 - 4, 4))).stageLen ≤ 2 ^ 26 :=
  ⟨due_asked (by decide +kernel), by decide +kernel⟩
theorem witness_Reads_buffer : Due (asked ended 0x12 7 0 (leBytes 16 0) (some (0, 4))) 3 0x12 (msgOf 0x12 7 0 (leBytes 16 0) (some (0, 4))) ∧
    (msgOf 0x12 7 0 (leBytes 16 0) (some (0, 4))).p 0 1 = 0 ∧ ended.flag F.fltStatusCaptureBusy 0 = false ∧
    (msgOf 0x12 7 0 (leBytes 16 0) (some (0, 4))).p 8 8 ≤ 2 ^ 29 ∧ ended.objectOf 255 0 7 = none ∧
    (msgOf 0x12 7 0 (leBytes 1 255) (some (0, 4))).p 0 1 = 255 ∧
    Due (asked ended 0x12 7 0 (leBytes 1 255) (some (0, 4))) 3 0x12 (msgOf 0x12 7 0 (leBytes 1 255) (some (0, 4))) :=
  ⟨due_asked (by decide +kernel), by decide +kernel, by decide +kernel, by decide +kernel, by decide +kernel, by decide +kernel, due_asked (by decide +kernel)⟩
theorem witness_Reads_pages : Due (asked ended 0x14 7 0 (leBytes 4 0xA0000 ++ leBytes 2 224) (some (0, 224))) 3 0x14
      (msgOf 0x14 7 0 (leBytes 4 0xA0000 ++ leBytes 2 224) (some (0, 224))) ∧
    (msgOf 0x14 7 0 (leBytes 4 0xA0000 ++ leBytes 2 224) (some (0, 224))).stage = true ∧ ended.monPage 7 0xFFFFFFFF = none ∧
    Due (asked ended 0x14 7 0 (leBytes 4 0xFFFFFFFF)) 3 0x14 (msgOf 0x14 7 0 (leBytes 4 0xFFFFFFFF)) ∧
    (msgOf 0x14 7 0 (leBytes 4 0xFFFFFFFF)).p 0 4 = 0xFFFFFFFF :=
  ⟨due_asked (by decide +kernel), by decide +kernel, by decide +kernel, due_asked (by decide +kernel), by decide +kernel⟩
theorem witness_Reads_page : Due (asked ended 0x14 7 0 (leBytes 4 0xA0000 ++ leBytes 2 224)) 3 0x14 (msgOf 0x14 7 0 (leBytes 4 0xA0000 ++ leBytes 2 224)) ∧
    (msgOf 0x14 7 0 (leBytes 4 0xA0000 ++ leBytes 2 224)).stage = false ∧
    (ended.monPage 7 ((msgOf 0x14 7 0 (leBytes 4 0xA0000 ++ leBytes 2 224)).p 0 4)).isSome = true := ⟨due_asked (by decide +kernel), by decide +kernel⟩

def submitBody : List Byte := leBytes 4 9 ++ leBytes 4 0 ++ leBytes 4 0
def submitMsg : Msg := msgOf 0x0C 7 0 submitBody
theorem witness_Streams_submit : Due (asked (banked launch0) 0x0C 7 0 submitBody) 3 0x0C submitMsg ∧
    (((asked (banked launch0) 0x0C 7 0 submitBody).executing 3 submitMsg).submitCheck 7 submitMsg.submit []).toOption = some 0 ∧ submitMsg.submit.input = false ∧
    (asked (banked launch0) 0x0C 7 0 submitBody).ownerWord 0 (bankOf submitMsg.submit.addr) = 0x4000 + 7 ∧
    (((asked (running launch0) 0x0C 7 0 submitBody).executing 3 submitMsg).submitCheck 7 submitMsg.submit []).toOption = some 0 ∧
    (asked (running launch0) 0x0C 7 0 submitBody).ownerWord 0 (bankOf submitMsg.submit.addr) ≠ 0x4000 + 7 := ⟨due_asked (by decide +kernel), by decide +kernel⟩
theorem witness_Streams_fences : Due (asked ended 0x0D 7 0 (leBytes 4 16383)) 3 0x0D (msgOf 0x0D 7 0 (leBytes 4 16383)) ∧
    Due (asked ended 0x0E 7 0 (leBytes 4 0x0FFF0000)) 3 0x0E (msgOf 0x0E 7 0 (leBytes 4 0x0FFF0000)) ∧
    (msgOf 0x0E 7 0 (leBytes 4 0x0FFF0000)).p 0 4 / 2 ^ 16 % 2 ^ 12 = 4095 ∧ ended.streamFree 4095 7 = true ∧ ended.classE 7 = false ∧
    Due (asked (running launch0) 0x0E 7 0 (leBytes 4 0x0FFF0000)) 3 0x0E (msgOf 0x0E 7 0 (leBytes 4 0x0FFF0000)) ∧
    (running launch0).streamFree 4095 7 = true ∧ (running launch0).classE 7 = true ∧ (ended.bind 4095 8).streamFree 4095 7 = false :=
  ⟨due_asked (by decide +kernel), due_asked (by decide +kernel), by decide +kernel, by decide +kernel, by decide +kernel, due_asked (by decide +kernel),
    by decide +kernel⟩
/-- A submission that a check refuses: the context holds no launch. -/
theorem witness_Streams_refused : Due (asked ended 0x0C 7 0 submitBody) 3 0x0C submitMsg ∧
    (((asked ended 0x0C 7 0 submitBody).executing 3 submitMsg).submitCheck 7 submitMsg.submit []).toOption = none :=
  ⟨due_asked (by decide +kernel), by decide +kernel⟩

/-- A module without owner keys takes one: kind 4, index 0, no body. -/
def cfgBody : List Byte := leBytes 2 4
def cfgMsg : Msg := msgOf 0x13 0 0 cfgBody (some (0, 8))
def cfgBare : State := asked State.reset 0x13 0 0 cfgBody (some (0, 8))
def cfgAsk : State := asked (State.reset.wrN (stagingAt 0) (leBytes 8 (4 * 2 ^ 48))) 0x13 0 0 cfgBody (some (0, 8))
def cfgItem : StoreJob := { chan := some 3, image := false, kind := 4, index := 0, body := [] }
theorem cfg_kind : ¬(4 = Config.imageKind ∧ (4 = 0 ∨ 9 < 4)) := fun h => absurd h.2 (by decide)
theorem witness_Store_write : Due cfgAsk 3 0x13 cfgMsg ∧ cfgAsk.jobs.any (·.chan.isSome) = false ∧
    (cfgAsk.executing 3 cfgMsg).cfgJob 3 cfgMsg = .ok cfgItem := by
  refine ⟨due_asked (by decide +kernel), by decide +kernel, ?_⟩
  have k : cfgMsg.p 0 2 = 4 := by decide +kernel
  unfold State.cfgJob
  simp only [k, if_neg cfg_kind]
  rfl
theorem witness_Store_refused : Due cfgBare 3 0x13 cfgMsg ∧ ∃ st, (cfgBare.executing 3 cfgMsg).cfgJob 3 cfgMsg = .error st := by
  refine ⟨due_asked (by decide +kernel), stAuthFailed, ?_⟩
  have k : cfgMsg.p 0 2 = 4 := by decide +kernel
  unfold State.cfgJob
  simp only [k, if_neg cfg_kind]
  rfl
theorem witness_Store_busy : ({ cfgAsk with jobs := [cfgItem] } : State).jobs.any (·.chan.isSome) = true ∧
    Due { cfgAsk with jobs := [cfgItem] } 3 0x13 cfgMsg := ⟨by decide +kernel, due_of (by decide +kernel)⟩
theorem witness_Store_complete : State.reset.jobs = [] ∧
    ((({ State.reset with jobs := [cfgItem] } : State).setChan 3 { msg := some [], waits := true }).chan 3).msg.isSome = true := by decide +kernel

/-! ## Witnesses: groups -/

def grp0 : Group where
  id := 5
  mask := 3
  enc := false
  schedHash := 0
  config := 0
  chan := some 3
  joinAt := 0
  table := []
  number := 0
  meet := none
  sent := false
  arrived := []
  release := none
  stalls := []
  trimAt := none
  alignDue := false
  powerDies := []
  votes := []
  cast := []
  results := []
  sequence := none
  sums := []
  totals := []
  sumsSent := none
  heard := []

/-- A module of a group whose ports 0 and 1 run to the peers of two ranks. -/
def inGroup (g : Group) (state rank members peer0 peer1 : Nat) : State :=
  ((((({ State.reset with group := some g } : State).setReg .hubGroupStatus 0 (BitVec.ofNat 64 (rank * 2 ^ 26 + members * 2 ^ 19 + state))).setFld
    F.lnkStatusState 0 2).setFld F.lnkStatusState 1 2).setFld F.lnkStatusPeerRank 0 peer0).setFld F.lnkStatusPeerRank 1 peer1

/-- Rank 1 of three, in a join, with its own entry in the table. -/
def own1 : Member := { rank := 1, word := 0, groupId := 5, members := 3, enc := false, mask := 3, ready := false, check := none }
def joining : State := inGroup { grp0 with table := [own1] } 1 1 3 0 2
/-- Rank 0 of three, active, with children at both ports; and rank 1 of two, whose parent is at port 0. -/
def rootOf (g : Group) : State := inGroup g 2 0 3 1 2
def leafOf (g : Group) : State := inGroup g 2 1 2 0 0

def body (l : List (Nat × Nat)) : BitVec 240 := BitVec.ofNat 240 ((l.map fun x => x.2 * 2 ^ x.1).sum)

/-- The ready entry of rank 0 itself, and the root's own entry, not yet ready. -/
def own0 : Member := { rank := 0, word := 0, groupId := 5, members := 3, enc := false, mask := 3, ready := false, check := none }
def joinBody : List Byte := leBytes 4 5 ++ [63, 64]
theorem witness_Groups_join : Due (asked State.reset 0x0F 0 0 joinBody) 3 0x0F (msgOf 0x0F 0 0 joinBody) ∧ State.reset.group = none ∧
    (msgOf 0x0F 0 0 joinBody).p 5 1 % 128 = 64 ∧ 2 ≤ 64 ∧ (rootOf grp0).group ≠ none ∧ (rootOf grp0).fld F.hubGroupStatusState 0 ≠ 1 :=
  ⟨due_asked (by decide +kernel), by decide +kernel⟩
theorem witness_Groups_leave : Due (asked (rootOf grp0) 0x10 0 0 []) 3 0x10 (msgOf 0x10 0 0 []) ∧ (asked (rootOf grp0) 0x10 0 0 []).groupCtxs = [] ∧
    ({ rootOf grp0 with ctxs := [(7, { state := .paused, launch := some { launch0 with group := true } })] } : State).groupCtxs = [7] :=
  ⟨due_asked (by decide +kernel), by decide +kernel⟩
theorem witness_Groups_announce : (∀ x ∈ [own1], x.rank ≠ (memberOf (body [(74, 2)]).toNat).rank) ∧
    (0 < joining.members ∧ 0 ≠ (memberOf (body [(74, 2)]).toNat).rank ∧ ({ grp0 with table := [own1] } : Group).entries 0 = []) := by decide +kernel
theorem witness_Groups_ready : joining.rank ≠ 0 ∧ ({ grp0 with table := [own1] } : Group).entries (bits (body [(74, 1)]).toNat 74 6) = [own1] ∧
    own1.ready = false ∧ own1.check = none ∧ (0 < joining.members ∧ 0 ≠ bits (body [(74, 1)]).toNat 74 6) := by decide +kernel
theorem witness_Groups_refuse : joining.fld F.hubGroupStatusState 0 = 1 ∧ grp0.chan = some 3 ∧
    ((holding joining (message 0x0F 0 0 joinBody)).chan 3).msg = some (message 0x0F 0 0 joinBody) := by decide +kernel
theorem witness_Groups_timeout : joining.tick < grp0.joinAt + 2 ^ 20 ∧ grp0.joinAt + 2 ^ 20 ≤ (joining.setReg .hubTick 0 (2 ^ 20)).tick ∧
    ({ grp0 with table := [own1] } : Group).entries 2 = [] ∧ 2 < joining.members := by decide +kernel
theorem witness_Groups_lost : (rootOf grp0).fld F.hubGroupStatusState 0 = 2 ∧ 2 < (rootOf grp0).members ∧ 2 ≠ (rootOf grp0).rank ∧
    (rootOf grp0).tick < sget 0 grp0.heard 2 + 1024 ∧ sget 0 grp0.heard 2 + 1024 ≤ ((rootOf grp0).setReg .hubTick 0 1024).tick ∧
    (rootOf grp0).groupCtxs = [] := by decide +kernel
theorem witness_Groups_release : (leafOf grp0).parent grp0 = some 0 ∧ (rootOf grp0).parent grp0 ≠ some 0 ∧
    (leafOf grp0).groupTick < bits (body [(136, 1), (22, 2 ^ 64 - 1)]).toNat 136 64 ∧ grp0.meet = none ∧
    bits (body [(136, 1), (22, 2 ^ 64 - 1)]).toNat 22 64 = 2 ^ 64 - 1 ∧
    bits (body [(22, 2 ^ 64 - 1)]).toNat 136 64 < ((leafOf grp0).setReg .hubTick 0 1).groupTick ∧ (leafOf grp0).groupCtxs = [] ∧
    ({ grp0 with meet := some .stall } : Group).meet = some .stall ∧
    (leafOf { grp0 with meet := some .stall }).parent { grp0 with meet := some .stall } = some 0 := by decide +kernel
theorem witness_Groups_align : (leafOf grp0).fld F.hubGroupStatusState 0 = 2 ∧
    ∃ near : Int, near = ((8191 : Int) - bits (body [(163, 0)]).toNat 163 13 - 8 * (leafOf grp0).fld F.lnkDelayDelay 0 + 4096) % 8192 - 4096 :=
  ⟨by decide +kernel, _, rfl⟩
/-- A combined result that says not ready, one that says ready early in the tick, and a vote of one of two children. -/
theorem witness_Groups_vote : bits (body [(164, 1)]).toNat 164 1 = 1 ∧ bits (body [(164, 1)]).toNat 165 1 = 0 ∧
    bits (body [(164, 3)]).toNat 164 1 = 1 ∧ bits (body [(164, 3)]).toNat 165 1 = 1 ∧ (leafOf grp0).cyc ≤ 512 ∧ (leafOf grp0).parent grp0 = some 0 ∧
    bits (body [(166, 5)]).toNat 164 1 = 0 ∧ 1 ∈ (rootOf grp0).children grp0 ∧ (1 : Nat) ≠ 0 ∧
    ∀ v ∈ grp0.votes, v.1 = 1 → v.2.1 ≠ { switch := false, tau := 5 } := by decide +kernel
def stall1 : Stall := { tau := 5, late := false, cause := 0, since := 0, mine := false }
theorem witness_Groups_stall : (∀ y ∈ grp0.stalls, ¬(y.tau = signed 64 (bits (body [(170, 5)]).toNat 170 64) ∧ y.late = false)) ∧
    (rootOf { grp0 with stalls := [stall1] }).tick < stall1.since + 2 ^ 20 ∧
    stall1.since + 2 ^ 20 ≤ ((rootOf { grp0 with stalls := [stall1] }).setReg .hubTick 0 (2 ^ 20)).tick := by decide +kernel
theorem witness_Groups_trim : grp0.trimAt ≠ some (rootOf grp0).groupTick ∧
    ({ grp0 with trimAt := some 0 } : Group).trimAt = some (rootOf { grp0 with trimAt := some 0 }).groupTick := by decide +kernel

/-- A member whose group launch stands in a reduction tick. -/
def adding : State :=
  { (running { launch0 with group := true }).setReg .acrWinnowCtrl 0 1 with group := some grp0, regs :=
      (((inGroup grp0 2 0 3 1 2).regs).foldl (fun r x => sput 0 r x.1 x.2) ((running launch0).setReg .acrWinnowCtrl 0 1).regs) }
theorem witness_Groups_reduction : (rootOf grp0).reducing = none ∧ adding.reducing.map (fun x => (x.1, x.2.replicas)) = some (7, 4) ∧
    bits (body [(232, 1)]).toNat 223 1 = 0 ∧ 1 ∈ adding.children grp0 ∧ (1 : Nat) ≠ 0 ∧
    grp0.sums.find? (fun x => x.1 == 1 && x.2.1 == 3) = none := by decide +kernel

/-! ## Witnesses: start-up and the test connector -/

def found0 (ref : Bool) : StartUp where
  refValid := ref
  controlUp := (true, true)
  stooks := []
  acreUnits := []
  dies := []
  ringLinks := []
  acreLinks := []
  wires := []
  gddr := []
  granary := []
  elapsedMs := 0

def managed0 (pin : Bool) : State := { State.reset with testEnN := pin } |>.setFld F.cfgStartPhase 0 6

theorem witness_StartsUp : State.reset.managed = false ∧ State.reset.testEnN = true ∧ (found0 false).refValid = false ∧ (managed0 true).managed = true ∧
    State.reset.startWaits = none ∧ ({ State.reset with startWaits := some (found0 false) } : State).startWaits = some (found0 false) ∧
    State.reset.jobs = [] ∧ ((0xA5C3 : BitVec 16) = 0xA5C3) ∧ (0 : BitVec 16) ≠ 0xA5C3 := by decide +kernel
theorem witness_TestAccess_pins : (managed0 true).testEnN = true ∧ (managed0 false).testEnN = false ∧ (managed0 false).managed = true := by decide +kernel
theorem witness_TestAccess_read : coversWhole sideRows 0 (0x800048#24).toNat 4 = true ∧ coversWhole sideRows 0 (0#24).toNat 8 = true ∧
    ¬ (((3 : Nat) = 4 ∨ (3 : Nat) = 8) ∧ coversWhole sideRows 0 (0#24).toNat 3 = true) ∧ (managed0 true).managed = true := by decide +kernel
theorem witness_TestAccess_write : (0x80004C#24).toNat ≠ 0x800048 ∧ (0 : BitVec 32).toNat / 2 ^ 16 ≠ 0xA5C3 ∧
    (0xA5C30000#32).getLsbD 0 = false ∧ (0xA5C30001#32).toNat / 2 ^ 16 = 0xA5C3 ∧ (0xA5C30001#32).getLsbD 0 = true := by decide +kernel

/-! ## Witnesses: the gleaner -/

/-- Core 0 of a running launch at its first instruction, with registers g1, g2 and their poison bits; bank 0 of the crib is the launch's. -/
def gl (l : Launch) (g1 g2 : Word) (poison : BitVec 32) : State :=
  ({ banked l with cores := [(0, { ctx := some 7, g := [(1, g1), (2, g2)], poison := poison })] } : State).setFld F.stkCoreStatusState 0 1

theorem witness_Issues : Issues (gl launch0 5 3 0) core0 7 [1, 2] false ∧ Issues (gl launch0 5 3 0) core0 7 [1, 2] true ∧
    Issues (gl launch0 5 3 0) core0 7 [1] false ∧ Issues (gl launch0 5 3 0) core0 7 [31] false ∧ Issues (gl launch0 5 3 0) core0 7 [] false :=
  ⟨issues_of (by decide +kernel), issues_of (by decide +kernel), issues_of (by decide +kernel), issues_of (by decide +kernel),
    issues_of (by decide +kernel)⟩
theorem issues_gl {l : Launch} {g1 g2 : Word} {p : BitVec 32} {srcs : List GReg} (h : ((gl l g1 g2 p).core core0.ix).ctx = some 7 ∧
    (gl l g1 g2 p).ready core0.ix = true ∧ (gl l g1 g2 p).issues 7 0 = true ∧ (gl l g1 g2 p).issueAt core0.ix 7 srcs false = (gl l g1 g2 p).logical 7 ∧
    (gl l g1 g2 p).cyc ≤ 1023 ∧ (gl l g1 g2 p).poisoned (imemAt core0.ix ((gl l g1 g2 p).pc core0.ix)) 4 = false ∧
    (gleanDecode core0 (BitVec.ofNat 32 ((gl l g1 g2 p).rdNat (imemAt core0.ix ((gl l g1 g2 p).pc core0.ix)) 4))).isSome = true) :
    Issues (gl l g1 g2 p) core0 7 srcs false := issues_of h

/-- The last aligned data memory address of each width; one beyond; a misaligned one; a poisoned base. -/
theorem witness_GleanMemory : (∀ x ∈ [(65535, 1), (65534, 2), (65532, 4), (65528, 8)], ((gl launch0 (BitVec.ofNat 64 x.1) 0 0).g 0 1 + (0#16).signExtend 64).toNat = x.1 ∧
      x.1 % x.2 = 0 ∧ x.1 + x.2 ≤ 65536) ∧ (gl launch0 65536 0 0).gp 0 1 = false ∧ 65536 < ((gl launch0 65536 0 0).g 0 1 + (0#16).signExtend 64).toNat + 1 ∧
    ((gl launch0 65533 0 0).g 0 1 + (0#16).signExtend 64).toNat % 2 ≠ 0 ∧ (gl launch0 0 0 2).gp 0 1 = true ∧
    Issues (gl launch0 0 0 2) core0 7 [1] false ∧ Issues (gl launch0 65528 0 0) core0 7 [1] false ∧ Issues (gl launch0 65528 0 0) core0 7 [2, 1] false ∧
    (gl launch0 65528 0 4).gp 0 2 = true := by
  refine ⟨by decide +kernel, by decide +kernel, by decide +kernel, by decide +kernel, by decide +kernel, issues_of (by decide +kernel),
    issues_of (by decide +kernel), issues_of (by decide +kernel), by decide +kernel⟩

/-- A launch of no bounded mode, which has booked no crib access. -/
def booking : Launch := { launch0 with sched := { sched0 with bounded := false } }
theorem witness_GleanCrib : Issues (gl launch0 (2 ^ 19 - 8) 9 0) core0 7 [1] false ∧ Issues (gl launch0 (2 ^ 19 - 8) 9 0) core0 7 [2, 1] false ∧
    Issues (gl launch0 (2 ^ 19 - 8) 9 0) core0 7 [1, 2] false ∧ (gl launch0 (2 ^ 19 - 8) 9 0).gp 0 1 = false ∧
    ((gl launch0 (2 ^ 19 - 8) 9 0).g 0 1 + (0#16).signExtend 64).toNat = 2 ^ 19 - 8 ∧ (2 ^ 19 - 8) % 8 = 0 ∧ 2 ^ 19 - 8 + 8 ≤ 2 ^ 23 ∧
    (gl launch0 (2 ^ 19 - 8) 9 0).booked 0 7 0 = true ∧ (gl launch0 (2 ^ 19 - 8) 9 0).bankPass 0 (2 ^ 19 - 8) (asUnit 7) = true ∧
    (gl launch0 (2 ^ 23 - 4) 9 0).bankPass 0 (2 ^ 23 - 4) (asUnit 7) = false ∧ (gl launch0 (2 ^ 23 - 4) 9 0).booked 0 7 (bankOf (2 ^ 23 - 4)) = true ∧
    (gl booking 8 9 0).booked 0 7 0 = false ∧ Issues (gl booking 8 9 0) core0 7 [1] false := by
  refine ⟨issues_of (by decide +kernel), issues_of (by decide +kernel), issues_of (by decide +kernel), by decide +kernel, by decide +kernel,
    by decide +kernel, by decide +kernel, by decide +kernel, by decide +kernel, by decide +kernel, by decide +kernel, by decide +kernel,
    issues_of (by decide +kernel)⟩

theorem witness_GleanJumps : Issues (gl launch0 5 5 0) core0 7 [1, 2] false ∧ (gl launch0 5 5 0).gp 0 1 = false ∧ (gl launch0 5 5 0).gp 0 2 = false ∧
    (gl launch0 5 5 4).gp 0 2 = true ∧ Issues (gl launch0 5 5 4) core0 7 [1, 2] false :=
  ⟨issues_of (by decide +kernel), by decide +kernel, by decide +kernel, by decide +kernel, issues_of (by decide +kernel)⟩

/-- The core waits for an operand of the next tick; it stands idle; its launch is held. -/
def later : State := (gl launch0 5 5 0).setCore 0 { (gl launch0 5 5 0).core 0 with ready := [(1, 1024)] }
theorem witness_GleanFlow_waits : (later.core 0).ctx = some 7 ∧ later.ready 0 = true ∧ later.issues 7 0 = true ∧
    later.tau 7 * 1024 + 1024 ≤ later.issueAt 0 7 [1, 2] false ∧ (State.reset.core 0).ctx = none ∧ (banked launch0).ready 0 = false ∧
    (gl { launch0 with phase := .whole } 5 5 0).issues 7 0 = false := by decide +kernel
/-- Core 0 runs the operation of a chain entry of the GLEAN station. -/
def gleaning : State := (gl launch0 0 0 0).setStook 0 { running := [{ addr := 64, station := 5, unit := 0, poisoned := false }] }
theorem witness_GleanStops_entry : Issues gleaning core0 7 [] false ∧ (gleaning.gleanEntry core0).isSome = true :=
  ⟨issues_of (by decide +kernel), by decide +kernel⟩
/-- The core waited for a place in the chain unit, and for a word of queue 31, which has come. -/
def stalled : State := ((gl launch0 0 0 0).setCore 0 { (gl launch0 0 0 0).core 0 with wait := .chain }).setFld F.stkCoreStatusState 0 2
theorem witness_GleanFlow_release : stalled.fld F.stkCoreStatusState 0 = 2 ∧ (stalled.core 0).ctx = some 7 ∧ stalled.cyc ≤ 1023 ∧
    stalled.issues 7 0 = true ∧ (stalled.core 0).free ≤ stalled.logical 7 ∧ (stalled.core 0).wait ≠ .none ∧
    stalled.released core0 (stalled.core 0).wait = true := by decide +kernel
theorem witness_GleanFlow_start : ((banked launch0).core 0).ctx = some 7 ∧ (banked launch0).fld F.stkCoreStatusState 0 = 0 ∧
    (banked launch0).issues 7 0 = true ∧ (banked launch0).actor 0 0 = some 7 := by decide +kernel

/-- Queue 31 on, with a word in bank A, or with none; and with both banks full. -/
def queued (st : Nat) : State :=
  (((gl launch0 31 0 0).setStook 0 { written := [(62, 1)] }).setFld F.stkQueueCfgEn 31 1).setFld F.stkQueueStatusStateA 31 st
theorem witness_GleanQueues : (∀ x ∈ [qFilling, qReady], ((queued x).core 0).ctx = some 7 ∧ (queued x).ready 0 = true ∧ (queued x).issues 7 0 = true ∧
      (queued x).issueAt 0 7 [1] false = (queued x).logical 7 ∧ (queued x).issueAt 0 7 (1 :: 2 :: (List.range 4).map (groupReg 28)) false = (queued x).logical 7) ∧
    ((queued 0).g 0 1).toNat % 32 = 31 ∧ groupOk 28 = true ∧ (queued 0).flag F.stkQueueCfgEn (queueIx 0 31) = true ∧
    (queued qReady).queueHas 0 31 = true ∧ (queued qFilling).queueHas 0 31 = false ∧ (queued qFilling).queueTakes 0 31 = true ∧
    (queued qReady).queueTakes 0 31 = false ∧ (queued 0).gp 0 1 = false ∧
    ((queued 0).setFld F.stkQueueStatusWrIdx 31 63).fld F.stkQueueStatusWrIdx (queueIx 0 31) ≠ 0 := by decide +kernel

/-- Pages 0, 10 and 15 (reserved) of the register window of a core; a writable register of a page whose writes wait. -/
theorem witness_GleanReaches_pages : ((gl launch0 0xF000 0 0).g 0 1).toNat % 65536 / 4096 = 15 ∧ 11 ≤ 15 ∧ (pageOf 0 10).isSome = true ∧
    (pageOf 0 0).isSome = true ∧ (pageOf 0 11) = none ∧ Issues (gl launch0 0xF000 0 0) core0 7 [1] false ∧ Issues (gl launch0 0 0 0) core0 7 [1, 2] false ∧
    pageOf 0 0 = some (rowsShf, 0) ∧ regAt rowsShf 0 0 = some (.shfCtrl, 0) ∧ Reg.settable .shfCtrl ≠ 0 ∧ Reg.w1c .shfCtrl = 0 ∧
    Reg.ofGen .shfCtrl = false ∧ (gl launch0 0 0 0).writeWaits .shfCtrl 0 = true ∧ regAt rowsShf 0 2 = none := by
  refine ⟨by decide +kernel, by decide, by decide +kernel, by decide +kernel, by decide +kernel, issues_of (by decide +kernel),
    issues_of (by decide +kernel), by decide +kernel, by decide +kernel, by decide +kernel, by decide +kernel, by decide +kernel, by decide +kernel,
    by decide +kernel⟩
def resultsFull : State := (gl launch0 0 0 0).setCore 0 { (gl launch0 0 0 0).core 0 with results := [0, 0, 0, 0] }
def chainFull : State := (gl launch0 0 0 0).setStook 0 { chain := List.replicate 32 { addr := 0, arrived := 0 } }
theorem witness_GleanReaches_units : ((gl launch0 0 0 0).core 0).results.length < 4 ∧ 4 ≤ (resultsFull.core 0).results.length ∧
    ((gl launch0 0 0 0).stook 0).chain.length < 32 ∧ 32 ≤ (chainFull.stook 0).chain.length := by decide +kernel

theorem witness_GleanVariable : (gl launchT 17 0 0).launch 7 = some launchT ∧ launchT.sched.classT = true ∧ Issues (gl launchT 17 0 0) core0 7 [] false ∧
    Issues (gl launchT 17 0 0) core0 7 [1] false ∧ ((gl launchT 17 0 0).g 0 1).toNat % 32 < 18 ∧
    ({ gl launchT 0 0 0 with temps := [300] } : State).temps[0]? = some 300 ∧
    ({ gl launchT 0 0 0 with sources := [(0, { state := 1 })] } : State).entStatus.isSome = true ∧
    ({ gl launchT 0 0 0 with sources := (seeded 3).sources, entAsked := 31 } : State).entStatus = none ∧ 31 < 32 ∧
    (({ gl launchT 0 0 0 with sources := (seeded 3).sources, entAsked := 31 } : State).block 0).isSome = true ∧
    (gl launch0 0 0 0).launch 7 = some launch0 ∧ launch0.sched.classT = false := by
  refine ⟨by decide +kernel, rfl, issues_of (by decide +kernel), issues_of (by decide +kernel), by decide +kernel, by decide +kernel,
    by decide +kernel, by decide +kernel, by decide, ?_, by decide +kernel, rfl⟩
  rfl
/-- The result that WALL would journal; a replay launch that has a record of it, and one that has none. -/
def wallResult : JBody := .vresult ((gl launch0 0 0 0).core core0.ix).ident 0x440 5 0
def replay0 (r : List JRec) : Replay where
  ref := 0
  records := r
  windowStart := 0
  windowEnd := 0
  traceTick := 0
  traceLane := 0
  stop := false
  firstBad := none
  lastGood := 0
  badSeq := none
  badLanes := 0
  trace := []
def replaying (r : List JRec) : Launch := { launch0 with replay := some (replay0 r) }
theorem fits_gl {l : Launch} {b : JBody} (h : JBody.size b ≤ 2 ^ 20) : (gl l 0 0 0).journalFits 7 b = true := by
  have e : journalSize ((gl l 0 0 0).ctx 7).journal = 0 := by rfl
  have m : ((gl l 0 0 0).ctx 7).journalMiB = 1 := by rfl
  simp only [State.journalFits, e, m]
  exact decide_eq_true (by omega)
theorem witness_GleanVariable_journal (h : JBody.size (.vresult ((gl launch0 0 0 0).core core0.ix).ident 0x440 ((gl launch0 0 0 0).reg .hubTick 0) 0) ≤ 2 ^ 20) :
    launch0.vres = [] ∧ launch0.replay = none ∧ launch0.repeats (gl launch0 0 0 0).cyc = false ∧
    (gl launch0 0 0 0).journalFits 7 (.vresult ((gl launch0 0 0 0).core core0.ix).ident 0x440 ((gl launch0 0 0 0).reg .hubTick 0) 0) = true :=
  ⟨by decide +kernel, by decide +kernel, by decide +kernel, fits_gl h⟩
theorem witness_GleanVariable_replay (h : JBody.size wallResult ≤ 2 ^ 20) :
    [(⟨wallResult, 0, 0, 0, 0⟩ : JRec)].find? (isResult ((gl launch0 0 0 0).core core0.ix).ident 0x440 0 0) = some ⟨wallResult, 0, 0, 0, 0⟩ ∧
    (gl (replaying [⟨wallResult, 0, 0, 0, 0⟩]) 0 0 0).journalFits 7 wallResult = true ∧
    ([] : List JRec).find? (isResult ((gl launch0 0 0 0).core core0.ix).ident 0x440 0 0) = none ∧
    Issues (gl (replaying []) 0 0 0) core0 7 [] false :=
  ⟨by decide +kernel, fits_gl h, by decide +kernel, issues_of (by decide +kernel)⟩
theorem witness_GleanRoundTrip : gleanEncode (.add core0 1 2 3) = some (core0, 0x00221800#32) := by decide +kernel

/-! ## Witnesses: the crib and its units -/

def askOfUnit (w : Who) : BankReq := { who := w, age := 0, port := 0, rivals := [] }
/-- A port whose request loses to an older one; requests across a row. -/
theorem witness_CribAccess_forms : (banked launch0).served { askOfUnit (.unit 7) with rivals := [(1, 0)] } 0 0 = false ∧
    512 < (0x7FFFFF#23).toNat % 512 + 2 ∧ 512 < (0x1FF#23).toNat % 512 + ([some 1, some 2] : List (Option Byte)).length := by decide +kernel
theorem witness_CribPorts : (banked launch0).served (askOfUnit (.unit 7)) 0 0 = true ∧ (banked launch0).bankPass 0 0 (.unit 7) = true ∧
    (banked launch0).bankPass 0 0 (.unit 8) = false ∧ (banked launch0).served (askOfUnit (.unit 8)) 0 0x7FFFFF = true ∧
    (0x7FFFFF#23).toNat % 512 + 1 ≤ 512 ∧ (0#23).toNat % 512 + 512 ≤ 512 ∧ (0x7FFFFE#23).toNat % 2 = 0 ∧ (1#23).toNat % 2 ≠ 0 ∧
    (0x7FFFF8#23).toNat % 8 = 0 ∧ (0x7FFFFC#23).toNat % 8 ≠ 0 := by decide +kernel

def owned (w : OwnerWrite) : State := (banked launch0).setAcre 0 { writes := [w] }
/-- The gleaner hands bank 0 of stook 0 to context 8; a write of a word that the bank does not have. -/
def give : OwnerWrite := { core := some core0, stook := 0, bank := 0, fromWord := 0x4007, toWord := 0x4008, slot := 16, tick := 0 }
theorem witness_OwnerWrites_apply : ((owned give).setReg .hubTick 0 1).cyc = 0 ∧
    ((((owned give).setReg .hubTick 0 1).acre acre0.ix).writes.filter fun x => decide (x.tick < ((owned give).setReg .hubTick 0 1).tick)) = [give] ∧
    give.slot < 17 ∧ bankIx ((owned give).physStook 0 0 give.stook) give.bank = 0 ∧ give.bank < 16 ∧ (owned give).mayOwn give = true ∧
    (owned give).ownerWord 0 0 = give.fromWord.toNat ∧ ({ owned give with cyc := 1 } : State).cyc ≠ 0 ∧ (owned give).mayOwn { give with fromWord := 0x4009 } = false ∧ (State.reset.setAcre 0 { writes := [give] }).ownerWord 0 0 ≠ give.fromWord.toNat := by decide +kernel
theorem witness_OwnerWrites_result :
    (((banked launch0).setAcre 0 { results := [{ core := some core0, ok := true, tick := 0 }] }).acre acre0.ix).results =
      [{ core := some core0, ok := true, tick := 0 }] ∧ ((banked launch0).core core0.ix).results.length < 4 := by decide +kernel

/-- Queue 31: bank B is DRAINING and empty, its last word read at wall cycle 0 or 1022; the consumer stalls and has a word; the producer
stalls and the queue takes one. -/
def drainedAt (n : Nat) : State := (State.reset.setStook 0 { drained := [(63, n)] }).setFld F.stkQueueStatusStateB 31 qDraining
def hasWord : State :=
  (((gl launch0 31 0 0).setStook 0 { written := [(62, 1)], closedAt := [(62, 5)] }).setCore 3 { ctx := some 7, wait := .queueRead 31 }).setFld
    F.stkQueueStatusConsStall 31 1 |>.setFld F.stkQueueStatusStateA 31 qReady
theorem witness_QueueSteps : (drainedAt 0).fld (queueState 1) (queueIx 0 31) = qDraining ∧ (drainedAt 0).queueWords 0 31 1 = 0 ∧
    (sget 0 ((drainedAt 0).stook 0).drained (2 * 31 + 1) + 2) / 1024 ≤ (drainedAt 0).tick ∧
    (drainedAt 0).tick < (sget 0 ((drainedAt 1022).stook 0).drained (2 * 31 + 1) + 2) / 1024 ∧
    (hasWord.flag F.stkQueueStatusConsStall (queueIx 0 31) && hasWord.queueHas 0 31) = true ∧ (hasWord.core 3).wait = .queueRead 31 ∧
    (hasWord.core 3).ctx = some 7 ∧ (hasWord.core 0).wait ≠ .queueRead 31 ∧
    (State.reset.setFld F.stkQueueStatusProdStall 31 1).flag F.stkQueueStatusProdStall (queueIx 0 31) = true ∧
    (State.reset.setFld F.stkQueueStatusProdStall 31 1).queueTakes 0 31 = true ∧
    (State.reset.setCore 3 { wait := .queueRead 31 }).core 3 = { wait := .queueRead 31 } := by decide +kernel

/-- A chain entry for the COPY station, LAST, SIGNAL, DONE, stream 9, SEQ 1; and a timed one that starts at cycle 0 of tick 0. -/
def entryWord : Nat := 2 ^ 24 + 2 ^ 21 + 2 ^ 20 + 9
def entryBytes (timed : Bool) : List Byte := padTo 64 (leBytes 4 (entryWord + if timed then 2 ^ 23 else 0) ++ leBytes 4 1)
def chained (timed : Bool) : State := (banked launch0).wrN (cribAt 0 64) (entryBytes timed)
def inUnit : State := (chained false).setStook 0 { chain := [{ addr := 64, arrived := 0 }] }
def onUnit : State := (chained false).setStook 0 { running := [{ addr := 64, station := 0, unit := 0, poisoned := false }] }
theorem witness_Chains_arrive : (chained true).actor 0 64 = some 7 ∧ ((chained true).stook 0).chain.length < 32 ∧ ((chained true).entry 0 64).timed = true ∧
    ((chained true).entry 0 64).tau * 1024 + ((chained true).entry 0 64).cycle < ({ chained true with cyc := 1 } : State).logical 7 ∧
    32 ≤ ((chained true).setStook 0 { chain := List.replicate 32 { addr := 0, arrived := 0 } } |>.stook 0).chain.length ∧
    ((chained true).stook 0).offered.find? (·.addr == 64) = none := by decide +kernel
/-- A hand-off that comes at logical cycle 8, one that comes two ticks later, and one that the full unit keeps out; an entry of no bank. -/
def offering (n : Int) : State := (chained true).setStook 0 { offered := [{ addr := 64, arrived := n, source := none }] }
theorem witness_Chains_handoff : (offering 8).logical 7 < 8 ∧ (8 : Int) / 1024 = (offering 8).tau 7 ∧
    ((offering 8).upTo ((8 : Int) % 1024).toNat).moving 7 = true ∧ (offering 2048).logical 7 < 2048 ∧
    ¬ ((2048 : Int) / 1024 = (offering 2048).tau 7 ∧ ((offering 2048).upTo ((2048 : Int) % 1024).toNat).moving 7 = true) ∧
    ((offering 8).stook 0).offered.find? (·.addr == 64) = some { addr := 64, arrived := 8, source := none } ∧
    (running launch0).actor 0 64 = none := by decide +kernel
/-- The copy of the entry is complete at a logical cycle. -/
def endingAt (n : Int) : State :=
  (chained false).setStook 0 { running := [{ addr := 64, station := 0, unit := 0, poisoned := false, finishes := some n }] }
theorem witness_Chains_start : inUnit.actor 0 64 = some 7 ∧ (inUnit.stook 0).chain.any (·.addr == 64) = true ∧ (inUnit.entry 0 64).timed = false ∧
    (inUnit.entry 0 64).waits = false ∧ inUnit.movingOn 7 0 = true ∧ inUnit.streamEnded 9 = false ∧ (inUnit.entry 0 64).stream = 9 ∧
    inUnit.unitFree 0 (inUnit.entry 0 64) = true ∧ inUnit.fenced 0 64 9 = false := by decide +kernel
theorem witness_Chains_complete : onUnit.actor 0 64 = some 7 ∧
    (onUnit.stook 0).running.find? (·.addr == 64) = some { addr := 64, station := 0, unit := 0, poisoned := false } ∧
     (onUnit.entry 0 64).last = true ∧ (onUnit.entry 0 64).signal = true ∧ (onUnit.entry 0 64).done = true ∧
    (onUnit.entry 0 64).station ∈ [0, 2, 5] ∧ (endingAt 0).logical 7 = 0 ∧ (1024 : Int) / 1024 ≠ (endingAt 1024).tau 7 ∧
    (onUnit.stream 9).writes = none ∧ onUnit.fld F.doneWordStatus 9 = 0 ∧ serialAbove (onUnit.entry 0 64).seq (onUnit.fld F.doneWordSeq 9) = true := by decide +kernel

/-- A COPY of one 32-byte row between two places of granary segment 0, which the launch has mapped. -/
def copyBytes : List Byte := leBytes 4 (spGranary * 2 ^ 28 + spGranary * 2 ^ 24 + 1) ++ leBytes 4 32 ++ leBytes 8 0 ++ leBytes 8 64 ++ leBytes 8 0
def copying : State := ((banked launch0).wrN (cribAt 0 64) copyBytes).setFld F.grnSegValid 0 1
theorem witness_Moves : copying.actor 0 64 = some 7 ∧ copying.launch 7 = some launch0 ∧ copying.moving 7 = true ∧
    (parseCopy (copying.rdN (cribAt 0 64) 32)).formed = true ∧ (parseCopy (copying.rdN (cribAt 0 64) 32)).src = spGranary ∧
    (parseCopy (copying.rdN (cribAt 0 64) 32)).dst = spGranary ∧ spGranary ≠ spQueue ∧ (parseCopy (copying.rdN (cribAt 0 64) 32)).rows = 1 ∧
    (parseCopy (copying.rdN (cribAt 0 64) 32)).bytes = 32 ∧
    ((copying.copyRows 7 launch0 (parseCopy (copying.rdN (cribAt 0 64) 32)) 0 1 false).map (·.2)) = some false ∧
    (∀ j, j < 32 → copying.granaryByte launch0 (0 + j) = some (granaryAt 0 0 + j)) ∧
    (∀ j, j < 32 → copying.granaryByte launch0 (64 + j) = some (granaryAt 0 0 + 64 + j)) ∧ granaryAt 0 0 % 8 = 0 ∧
    (parseCopy ((banked launch0).rdN (cribAt 0 64) 32)).formed = false ∧ ((banked { launch0 with phase := .whole }).movingOn 7 0 = false) ∧
    copying.movingOn 7 0 = true ∧ copying.runningOf 0 0 64 = none := by decide +kernel
/-- The leave of the copy: booked in class E; to be sent, or granted, in class T. -/
def copyDesc : CopyDesc := parseCopy copyBytes
/-- A COPY from the granary to the crib. -/
def inwardBytes : List Byte := leBytes 4 (spGranary * 2 ^ 28 + spCrib * 2 ^ 24 + 1) ++ leBytes 4 32 ++ leBytes 8 0 ++ leBytes 8 4096 ++ leBytes 8 0
def inward : CopyDesc := parseCopy inwardBytes
def copyingT (g : List Grant) : State := (((banked launchT).setAcre 0 { grants := g }).wrN (cribAt 0 64) inwardBytes).setFld F.grnSegValid 0 1
def copyGrant : Grant := { unit := 9, lu := 17, classE := false, ends := none }
theorem witness_Copies_leave : ((copying.begins 7 (copying.copyNeeds 0 launch0 copyDesc none)).isSome) = true ∧ inward.formed = true ∧
    ((copyingT []).sends 7 ((copyingT []).copyNeeds 0 launchT inward none)).isSome = true ∧
    ((copyingT [copyGrant]).begins 7 ((copyingT [copyGrant]).copyNeeds 0 launchT inward none)).isSome = true ∧
    ((copying.copyBegin 0 7 64 launch0 copyDesc).copyOn 0 7 64 launch0 copyDesc).isSome = true ∧
    (((banked launch0).copyBegin 0 7 64 launch0 copyDesc).copyOn 0 7 64 launch0 copyDesc).isSome = false := by decide +kernel
/-- A COPY from the staging window to the granary. -/
def stagedBytes : List Byte := leBytes 4 (spStaging * 2 ^ 28 + spGranary * 2 ^ 24 + 1) ++ leBytes 4 32 ++ leBytes 8 0 ++ leBytes 8 64 ++ leBytes 8 0
def staging : State := ((banked launch0).wrN (cribAt 0 64) stagedBytes).setFld F.grnSegValid 0 1
theorem witness_Copies_staged : (parseCopy (staging.rdN (cribAt 0 64) 32)).src = spStaging ∧ (parseCopy (staging.rdN (cribAt 0 64) 32)).formed = true ∧
    staging.givenRows 7 launch0 = none ∧ (staging.copyOn 0 7 64 launch0 (parseCopy stagedBytes)).isSome = true := by decide +kernel

/-! ## Witnesses: the sheaf -/

def laneOf (n : Nat) (x : LaneState) (s : State) : State := { s with lanes := [(n, x)] }
def prop0 : Proposal := { record := BitVec.ofNat 192 (2 ^ 164), pair := 0, ready := 0 }

/-- The last slot of a tick and one beyond it; an engine that is held; a lane with rows of a move to apply. -/
theorem witness_Decides : max ({ running launch0 with cyc := 1023 } : State).cyc (({ running launch0 with cyc := 1023 } : State).engine eng0.ix).slot = 1023 ∧
    (({ running launch0 with cyc := 1023 } : State).upTo 1023).deciding eng0.ix (1023 % 4) = true ∧ ((running launch0).engine eng0.ix).ctx = some 7 ∧
    ((running launch0).lane 3).moveRows = [] ∧ ((running launch0).setEngine 0 { (running launch0).engine 0 with slot := 1024 } |>.engine 0).slot = 1024 ∧
    ((running { launch0 with phase := .whole }).upTo 0).deciding eng0.ix 0 = false ∧
    ((laneOf 0 { moveRows := [(5, true)] } (running launch0)).lane 0).moveRows = (5, true) :: [] ∧
    ((laneOf 0 { moveRows := [(5, true)] } (running launch0)).upTo 0).deciding eng0.ix 0 = true := by decide +kernel

/-- Records with COUNT 0, 16 and 17, with a position twice, with a frozen one, and one of one position. -/
def rec1 (n : Nat) : BitVec 192 := BitVec.ofNat 192 (n * 2 ^ 164)
theorem witness_RecordsRefused : (running launch0).flag F.shfCtrlPropEn eng0.ix = true ∧ recCount (rec1 0) = 0 ∧ 16 < recCount (rec1 17) ∧
    ¬(recPositions (rec1 16)).Nodup ∧ (recPositions (rec1 1)).Nodup ∧ recCount (rec1 1) = 1 ∧
    ((running launch0).setEngine 0 { (running launch0).engine 0 with frozen := 1 } |>.engine 0).frozen.getLsbD 0 = true ∧
    (∀ i ∈ recPositions (rec1 1), ((running launch0).engine eng0.ix).frozen.getLsbD i = false) := by decide +kernel
theorem witness_Proposals : ((running launch0).setFld F.shfCtrlPropEn 0 0).flag F.shfCtrlPropEn eng0.ix = false ∧
    ((running launch0).engine eng0.ix).refusesRec (rec1 0) = true ∧ ((running launch0).engine eng0.ix).refusesRec (rec1 1) = false ∧
    (running launch0).applyTick 7 = false ∧ ({ running launch0 with cyc := 1020 } : State).decisionFrom 0 3 1020 = 1023 ∧
    ((laneOf 3 { incoming := some prop0 } ({ running launch0 with cyc := 1020 } : State)).upTo 1023).deciding 0 3 = true ∧
    (running launch0).decisionFrom 0 3 1024 = 1027 ∧ ((running { launch0 with phase := .whole }).upTo 3).deciding 0 3 = false ∧ ((laneOf 3 { incoming := some prop0 } ({ running launch0 with cyc := 1020 } : State)).lane 3).incoming = some prop0 ∧
    nextCycle (max 1020 (prop0.ready - (running launch0).tau 7 * 1024).toNat) 4 3 = 1023 := by decide +kernel

def walk0 : Walk :=
  { next := 0, stop := 5, lane := 0, src := 0, cycle := 0, post := true, roll := false, tent := false, undo := 0, tag := 0, de := 0, ready := 1023 }
def walking : State := (banked launch0).setEngine 0 { (banked launch0).engine 0 with queue := [walk0] }
theorem witness_LinksScatter_read : (walking.engine eng0.ix).queue = walk0 :: [] ∧ max walking.cyc (max walk0.ready (walking.engine 0).walked - walking.tau 7 * 1024).toNat = 1023 ∧
    (walking.upTo 1023).movingOn 7 0 = true ∧
    walk0.next + 4 < walk0.stop ∧ ∀ k, k < 4 → walking.ownerPass 0 (bankOf ((walking.engine 0).linkBase + 4 * (walk0.next + k))) (asUnit 7) = true ∧
      walking.poisoned (cribAt 0 ((walking.engine 0).linkBase + 4 * (walk0.next + k))) 4 = false := by decide +kernel
def outRec0 : OutRec := { far := 0, dest := 5, slots := [1] }
def tilePlace0 : TilePlace := { src := 0, dst := 5, even := 0, odd := 256, stage := 512, slots := 2, note := 1024 }
def scatterLaunch : Launch := { launch0 with sched := { sched0 with tiles := [tilePlace0] } }
def scattering : State :=
  ((banked scatterLaunch).setEngine 0 { (banked scatterLaunch).engine 0 with heldRecs := [outRec0] }).setFld F.stkExchCfgDeltaEn 0 1
theorem witness_LinksScatter_write : nextCycle (max scattering.cyc ((scattering.engine eng0.ix).scattered - 1024 * scattering.tick)) 4 (scattering.fld F.stkExchCfgPhase 0 * 2) ≤ 1023 ∧ scattering.flag F.stkExchCfgDeltaEn 0 = true ∧
    (scattering.upTo (nextCycle scattering.cyc 4 (scattering.fld F.stkExchCfgPhase 0 * 2))).movingOn 7 0 = true ∧ scattering.turn 7 % 2 = 0 ∧
    scattering.fld F.stkExchCfgDeltaBank 0 = 0 ∧ scattering.ownerPass 0 0 (asUnit 7) = true ∧ (running launch0).ownerPass 0 0 (asUnit 7) = false ∧
    (scattering.engine eng0.ix).heldRecs = [outRec0] ∧ scattering.tilePlace 7 (scattering.engine eng0.ix).pos (8192 * outRec0.far + outRec0.dest) = some tilePlace0 ∧
    1 + (sget (0, 0) (scattering.engine eng0.ix).outUsed (8192 * outRec0.far + outRec0.dest)).1 + outRec0.slots.length ≤ tilePlace0.slots := by decide +kernel

/-- An engine without running lanes, in class E and in class T. -/
def still (l : Launch) : State := ((running l).setFld F.shfCtrlLaneEn 0 0).setFld F.pwrAcreCapCap 0 100
theorem witness_Lanes_start : (15 : BitVec 4).toNat - ((15 : BitVec 4).toNat &&& (still launch0).fld F.shfCtrlLaneEn eng0.ix) = 15 ∧ (still launch0).movingOn 7 0 = true ∧
    (still launch0).bookedLeave 7 = true ∧ (still launchT).bookedLeave 7 = false ∧ (still launchT).movingOn 7 0 = true ∧
    (still { launch0 with phase := .whole }).movingOn 7 0 = false ∧
    (15 : BitVec 4).toNat - ((15 : BitVec 4).toNat &&& (running launch0).fld F.shfCtrlLaneEn eng0.ix) = 0 := by decide +kernel
theorem witness_Lanes_load : (running launch0).launch 7 = some launch0 ∧ (running launch0).versionOf 7 = some version0 ∧
    (8 : BitVec 4) = BitVec.ofNat 4 (2 ^ 3) ∧
    ({ running launch0 with captured := [(3, (running launch0).saveLane 3 0)] } : State).captured.find? (fun y => y.1 == 4 * eng0.ix + 3) =
      some (3, (running launch0).saveLane 3 0) := by decide +kernel

/-- A launch that drains votes in tick u + 1; one that waits for a tile of engine 9. -/
def draining : Launch := { launch0 with drain := some (.pause, some 3, 3), windowOnly := true }
theorem witness_Window : ((running draining).upTo 16).moving 7 = true ∧ ({ running draining with cyc := 23 } : State).cyc ≤ 23 ∧ (running draining).voting 7 = true ∧
    ((running draining).upTo 56).moving 7 = true ∧ (running launch0).voting 7 = false ∧ ((running scatterLaunch).upTo 47).moving 7 = true ∧
    (∃ x ∈ ((running scatterLaunch).setEngine 0 { (running scatterLaunch).engine 0 with block := 5 }).enginesOf 7,
      ((running scatterLaunch).setEngine 0 { (running scatterLaunch).engine 0 with block := 5 }).tilesIn 7 x = false) ∧ scatterLaunch.phase = .none ∧
    (∀ x ∈ (running launch0).enginesOf 7, (running launch0).tilesIn 7 x = true) ∧
    (running launch0).receiver 0 0 = none := by decide +kernel
/-- Block 5 takes the tiles of block 0, in a bank of its launch and in one of none; the last receive cycle of each window, and the one after. -/
def taking (s : State) : State := s.setEngine 0 { s.engine 0 with block := 5 }
def tileOf : List Word := [BitVec.ofNat 64 0]
theorem witness_Window_tile : (taking (banked scatterLaunch)).receiver eng0.ix (tileSource tileOf) = some 0 ∧
    ((taking (banked scatterLaunch)).engine 0).ctx = some 7 ∧ (taking (banked scatterLaunch)).tilePlace 7 (tileSource tileOf) 5 = some tilePlace0 ∧
    (taking (banked scatterLaunch)).engineOfPos 7 0 = none ∧ ({ taking (banked scatterLaunch) with cyc := 47 } : State).receiveEnd 0 1 = 47 ∧
    ({ taking (banked scatterLaunch) with cyc := 48 } : State).receiveEnd 0 1 = 51 ∧ (taking (banked scatterLaunch)).exchangePass 0 7 = true ∧
    (taking (running scatterLaunch)).exchangePass 0 7 = false := by decide +kernel
theorem witness_Window_notice : (taking (banked scatterLaunch)).noticeTaker eng0.ix 0 = 0 ∧ (([5] : List (BitVec 16)).take 256) ≠ [] ∧
    ({ taking (banked scatterLaunch) with cyc := 59 } : State).cyc ≤ 59 ∧ (({ taking (banked scatterLaunch) with cyc := 59 } : State).upTo 48).receiveEnd 0 1 = 59 ∧
    59 < ({ taking (banked scatterLaunch) with cyc := 60 } : State).cyc := by decide +kernel
theorem witness_Window_again : ({ scatterLaunch with phase := .ends, holdAt := 3 } : Launch).again = none ∧
    (((running { scatterLaunch with phase := .ends, holdAt := 3 }).upTo 47).moving 7 = true) := by decide +kernel

def late1 : Launch := { launch0 with tau := 1 }
/-- No lane has resolved. -/
def unresolved : State := { running late1 with lanes := (List.range 4).map fun k => (k, { resolved := false }) }
theorem witness_Resolves_first : (∀ x ∈ unresolved.enginesOf 7, ∀ k, k < 4 → (unresolved.lane (4 * x + k)).resolved = false) ∧
    unresolved.enginesOf 7 = [0] ∧ unresolved.launch 7 = some late1 ∧ (unresolved.upTo 63).moving 7 = true ∧
    (∃ k, k < 4 ∧ (unresolved.lane k).resolved = false ∧ (unresolved.fld F.shfCtrlLaneEn 0).testBit k = true) := by decide +kernel
theorem witness_Resolves : (laneOf 3 { resolved := false } (running late1)).launch 7 = some late1 ∧
    ((laneOf 3 { resolved := false } (running late1)).lane 3).resolved = false ∧ ((laneOf 3 { resolved := false } (running late1)).upTo 66).moving 7 = true ∧
    ((laneOf 3 { resolved := false } (running late1)).lane 3).undoPrev = [] ∧ ((running late1).engine 0).items = [] ∧ late1.digestTick = false ∧
    recsOf ((running late1).engine 0).tiles 3 = [] ∧ ((running late1).lane 3).resolved = true ∧
    ((running late1).setEngine 0 { (running late1).engine 0 with overlay := [(1, 1023, 0, 7)] } |>.engine 0).overlay = [(1, 1023, 0, 7)] := by decide +kernel

/-- A launch whose reduction ticks are all its ticks; with a verdict; in class T with early exchange. -/
def reducingWith (l : Launch) : State := (running l).setReg .acrWinnowCtrl 0 1
def verdict0 : Verdict := { tick := 0, captures := [0], perm := [1, 0, 2, 3], ladder := [], bests := [(0, 0), (0, 0), (0, 0), (0, 0)] }
def judged : Launch := { launch0 with verdict := some verdict0 }
theorem witness_Reductions : ((reducingWith launch0).upTo 611).reduces 7 launch0 = true ∧ (running launch0).reduces 7 launch0 = false ∧ (reducingWith launch0).cyc ≤ 1023 ∧ launch0.group = false ∧
    judged.verdict = some verdict0 ∧ judged.folded = false ∧ (reducingWith judged).winnowAcre 7 = some 0 ∧
    ((reducingWith judged).upTo 1000).moving 7 = true ∧ (reducingWith judged).decides 7 = true ∧ (reducingWith judged).reductionTick 7 judged.tau = true ∧
    ((reducingWith launchT).setFld F.acrWinnowCtrlExchMode 0 2).fld F.acrWinnowCtrlExchMode 0 = 2 ∧ launchT.sched.classT = true ∧
    launch0.sched.classT = false := by decide +kernel

/-- A group launch that has no verdict at cycle 1,000, in a whole tick and in one that ends a hold. -/
def grouped0 : Launch := { launch0 with group := true }
def groupedT : Launch := { launchT with group := true }
def splitTick : Launch := { grouped0 with phase := .ends }
theorem witness_Reductions_late : (∀ l ∈ [grouped0, groupedT, splitTick], (reducingWith l).winnowAcre 7 = some 0 ∧ l.group = true ∧
      ((reducingWith l).upTo 1000).moving 7 = true ∧ (reducingWith l).decides 7 = true ∧ (reducingWith l).reductionTick 7 l.tau = true ∧
      (reducingWith l).cyc ≤ 1000 ∧ l.folded = false) ∧ grouped0.phase = .none ∧ splitTick.phase = .ends ∧ splitTick.again = none ∧
    (reducingWith grouped0).fld F.acrWinnowCtrlExchMode 0 ≠ 2 ∧
    ((reducingWith groupedT).setFld F.acrWinnowCtrlExchMode 0 2).fld F.acrWinnowCtrlExchMode 0 = 2 := by decide +kernel

def auditing (l : Launch) : State := (reducingWith l).setFld F.acrTallyCtrlAuditEn 0 1
theorem witness_Records_audit : (auditing launch0).versionOf 7 = some version0 ∧ ({ auditing launch0 with cyc := 99 } : State).cyc ≤ 99 ∧
    ((auditing launch0).upTo 68).moving 7 = true ∧ (auditing launch0).decides 7 = true ∧ (auditing launch0).auditTick 7 launch0.tau = true ∧
    launch0.audits.any (fun a => (a.tick : Int) == launch0.tau) = false ∧ launch0.folded = false ∧
    (launch0.sched.auditSet.filter fun r => decide (r < launch0.replicas) && !launch0.lost.contains (r / 4)) = [0] ∧
    (running launch0).auditTick 7 launch0.tau = false := by decide +kernel
def audited : Launch := { launch0 with audits := [{ tick := 0, replica := 0, version := 1, spins := [], parts := [], energy := some 0 }] }
/-- One whose reduction has not given its energy. -/
def unaudited : Launch := { launch0 with audits := [{ tick := 0, replica := 0, version := 1, spins := [], parts := [], energy := none }] }
theorem witness_Records_emit : (auditing audited).winnowAcre 7 = some 0 ∧ ((auditing audited).upTo 1000).moving 7 = true ∧ (auditing audited).decides 7 = true ∧
    audited.audits.filter (fun x => decide ((x.tick : Int) ≤ audited.tau - (auditing audited).fld F.acrTallyCtrlAuditSpan 0)) = audited.audits ∧
    (∀ x ∈ audited.audits, x.energy.isSome = true) ∧ (auditing audited).version audited.graph 1 = some version0 ∧
    unaudited.audits.filter (fun x => decide ((x.tick : Int) ≤ unaudited.tau - (auditing unaudited).fld F.acrTallyCtrlAuditSpan 0)) ≠ [] ∧
    (∃ x ∈ unaudited.audits, x.energy = none) ∧
    launch0.audits.filter (fun x => decide ((x.tick : Int) ≤ launch0.tau - (auditing launch0).fld F.acrTallyCtrlAuditSpan 0)) = [] := by decide +kernel
/-- STAT_EN with sampling of four lanes and 16-bit counters, with N at 32,763 and 32,764. -/
def sampling (n : Nat) : State :=
  (((running launch0).setFld F.acrTallyCtrlStatEn 0 1).setFld F.acrTallyCtrlSampleLanes 0 15).setFld F.acrStatSamplesN 0 n
theorem witness_Records_sample : ((sampling 0).acre acre0.ix).ctx = some 7 ∧ ((sampling 0).upTo 68).movingOn 7 (17 * acre0.ix) = true ∧ ((sampling 0).acre acre0.ix).sampled = [] ∧ (sampling 0).decides 7 = true ∧
    (sampling 0).flag F.acrTallyCtrlStatEn 0 = true ∧ (sampling 0).flag F.acrTallyStatusStatFull 0 = false ∧
    launch0.tau % (2 ^ (sampling 0).fld F.acrTallyCtrlSampleExp 0 : Nat) = 0 ∧
    ((List.range 4).filter fun k => ((sampling 0).fld F.acrTallyCtrlSampleLanes 0).testBit k).length = 4 ∧ (sampling 0).flag F.acrTallyCtrlCnt32 0 = false ∧
    (sampling 32763).fld F.acrStatSamplesN 0 + 4 ≤ 32767 ∧ 32767 < (sampling 32764).fld F.acrStatSamplesN 0 + 4 ∧
    ((sampling 0).acre acre0.ix).stats = [] := by decide +kernel
theorem witness_Records_digest (h : (running launch0).journalFits 7 (.digest (moduleDigest 0 ((running launch0).laneDigests 7 launch0))) = true) :
    ((running launch0).upTo 1000).moving 7 = true ∧ launch0.digestTick = true ∧ (∀ p ∈ (running launch0).enabledLanes 7 launch0, ((running launch0).lane p.2).resolved = true) ∧
    launch0.folded = false ∧ launch0.replay = none ∧ launch0.sched.classT = false ∧ launch0.tau % 64 = 0 ∧
    ((running launch0).ctx 7).digests.any (fun x => (x.1 : Int) == launch0.tau) = false ∧
    (running launch0).journalFits 7 (.digest (moduleDigest launch0.tau ((running launch0).laneDigests 7 launch0))) = true :=
  ⟨by decide +kernel, by decide +kernel, by decide +kernel, by decide +kernel, rfl, rfl, rfl, by decide +kernel, h⟩

/-! ## Witnesses: the life of a launch, checkpoints and recovery -/

/-- One running launch on a powered module, with a tick word that leaves die 0 fallow, or none. -/
def alone : State :=
  { State.reset with powered := true, ctxs := [(7, { state := .running, launch := some launch0 })] }
theorem witness_Boundary : State.reset.pending = [] ∧ State.reset.powered = false ∧ alone.powered = true ∧ alone.arrived = none ∧
    bits (BitVec.ofNat 96 (2 ^ 24)).toNat 24 8 = 1 ∧ launch0.homes.any (fun d => (1 : Nat).testBit d) = true ∧
    launch0.homes.any (fun d => (0 : Nat).testBit d) = false ∧ launch0.phase = .none ∧ launch0.resumeAt = none ∧ launch0.folded = false ∧
    launch0.windowOnly = false ∧ launch0.drain = none ∧ launch0.recover = none ∧ launch0.stopped = none ∧ launch0.patches = [] ∧ launch0.sched.fieldNoise = false ∧
    alone.chans = [] ∧ alone.group = none ∧ alone.ctxs = [(7, { state := .running, launch := some launch0 })] ∧
    ({ state := .running, launch := some launch0 } : Ctx) ≠ {} := by decide +kernel

/-- A LOADED launch at its T0 and before it; one with field noise and without a key. -/
def loadedAt (l : Launch) : State :=
  ((running l).setCtx 7 { (running l).ctx 7 with state := .loaded }).setFld F.pwrAcreStateState 0 2
def noisy : Launch := { launch0 with sched := { sched0 with fieldNoise := true } }
theorem witness_LaunchLife_start : (loadedAt launch0).cyc = 0 ∧ ((loadedAt launch0).ctx 7).state = .loaded ∧ launch0.t0 ≤ (loadedAt launch0).tick ∧
    launch0.group = false ∧ launch0.folded = false ∧ launch0.windowOnly = false ∧
    (loadedAt launch0).awakeFor launch0 ((loadedAt launch0).blocksOf 7) = true ∧ (loadedAt noisy).awakeFor noisy ((loadedAt noisy).blocksOf 7) = true ∧
    ((loadedAt launch0).setFld F.pwrAcreStateState 0 1).awakeFor launch0 ((loadedAt launch0).blocksOf 7) = false ∧ (loadedAt launch0).releaseOf 7 = none ∧
    ({ loadedAt launch0 with releases := [{ ctx := 7, tick := 1, cycle := 0, injected := 0 }] } : State).releaseOf 7 =
      some { ctx := 7, tick := 1, cycle := 0, injected := 0 } ∧
    (loadedAt launch0).zeroHolds 7 launch0 (loadedAt launch0).groupHolds = [] ∧ (loadedAt launch0).keyMissing 7 launch0 = false ∧
    (loadedAt noisy).zeroHolds 7 noisy (loadedAt noisy).groupHolds = [] ∧ (loadedAt noisy).keyMissing 7 noisy = true ∧
    (loadedAt { launch0 with t0 := 1 }).tick < 1 := by decide +kernel
theorem witness_LaunchLife_end : (running launch0).versionOf 7 = some version0 ∧ ((running launch0).ctx 7).state = .running ∧
    launch0.tau < launch0.sched.ticks ∧ launch0.sched.ticks ≤ ({ launch0 with tau := 100 } : Launch).tau ∧ launch0.verdict = none := by decide +kernel

def pauseMsg : List Byte := message 8 7 0 []
def switching : Launch := { launch0 with drain := some (.pause, some 3, 3), vote := some true }
def switchState : State := (running switching).setChan 3 { msg := some pauseMsg, waits := true }
theorem witness_LaunchLife_switch : switching.drain = some (.pause, some 3, 3) ∧ switching.vote = some true ∧ switching.group = false ∧
    (switchState.chan 3).msg = some pauseMsg ∧ switchState.waiters 7 [0x08, 0x09] = [3] ∧
    (∀ x ∈ switchState.enabledLanes 7 switching, (switchState.lane x.2).resolved = true) ∧ switchState.enabledLanes 7 switching ≠ [] ∧ switchState.launch 7 = some switching := by decide +kernel

def folded0 : Launch := { launch0 with dies := [0, 8], slots := [0, 1], phase := .whole }
theorem witness_LaunchLife_fold : folded0.folded = true ∧ folded0.phase = .whole ∧ folded0.holdAt = 0 ∧ folded0.holds = [] ∧ folded0.resumeAt = none ∧
    folded0.framed ≠ some (running folded0).tick ∧ ((running folded0).ctx 7).state = .running ∧
    (∀ e ∈ (running folded0).enginesOf 7, (running folded0).tilesIn 7 e = true) ∧ folded0.frame = 0 ∧
    (∃ e ∈ (taking (running { folded0 with sched := { sched0 with tiles := [tilePlace0] } })).enginesOf 7,
      (taking (running { folded0 with sched := { sched0 with tiles := [tilePlace0] } })).tilesIn 7 e = false) ∧ ({ folded0 with framed := some 0 } : Launch).framed = some (running folded0).tick := by decide +kernel
theorem witness_LaunchLife_input : (running { launch0 with inputs := [{ apply := 0, data := [1] }] }).cyc = 0 ∧
    (running { launch0 with inputs := [{ apply := 0, data := [1] }] }).moving 7 = true ∧
    (∀ i ∈ ({ launch0 with inputs := [{ apply := 1, data := [1] }] } : Launch).inputs, i.apply ≠ launch0.tau) := by decide +kernel
def coef0 : CoefDecl := { handover := 0, apply := 8, area := 0, entries := 0, report := 64 }
theorem witness_LaunchLife_patch : coef0 ∈ ({ sched0 with coefs := [coef0] } : Sched).coefs ∧ coef0.handover = launch0.tau ∧ (running launch0).moving 7 = true ∧
    (launch0.patches ++ launch0.past).all (fun p => p.apply != coef0.apply) = true ∧
    ((running launch0).ctx 7).coefReports.all (fun r => bytesAt r 0x10 8 != unsign 64 coef0.apply) = true ∧
    (running launch0).version launch0.graph launch0.lastVersion = some version0 := by decide +kernel

/-- A launch in the capture ticks of a checkpoint's drain; a COMPLETE generation, and a mirror copy on its way. -/
def capturing : Launch := { launch0 with drain := some (.ckpt, none, 4), tau := 5 }
/-- In class T, with bank 0 of stook 0. -/
def capturingT : Launch := { capturing with sched := { sched0 with classT := true, banks := [(0, 0)] } }
def pool0 (die state : Nat) (mirror : Bool) : PoolRec :=
  { ctx := 7, die := die, gen := 0, state := state, mirror := mirror, len := 96, tau := 0, base := 0, journalSeq := 0, saved := saved0 }
theorem witness_Checkpoints : capturing.drain = some (.ckpt, none, 4) ∧ 4 ≤ 4 ∧ capturing.ckpt ≠ capturing.tau ∧ (running capturing).launch 7 = some capturing ∧
    ((running capturing).begins 7 ((running capturing).captureNeeds capturing)).isSome = true ∧
    ((running capturingT).sends 7 ((running capturingT).captureNeeds capturingT)).isSome = true ∧
    ((running capturing).setFld F.grnStatusMirrorBusy 0 1).flag F.grnStatusMirrorBusy 0 = true ∧ (running launch0).toMirror 0 = none ∧
    ({ running launch0 with pools := [pool0 0 2 false] } : State).toMirror 0 = some (pool0 0 2 false) ∧
    (running launch0).flag F.grnStatusMirrorBusy 0 = false ∧ (running launch0).nextDie 0 ≠ 0 ∧ (running launch0).nextDie 0 = 1 ∧
    ({ running launch0 with pools := [pool0 0 2 false, pool0 1 1 true] } : State).pools.find?
      (fun (r : PoolRec) => r.mirror && r.die == 1 && r.state == 1) = some (pool0 1 1 true) := by decide +kernel

def rep (code stook : Nat) (c : Option CtxId) : FaultRep :=
  { code := code, die := 0, acre := 0, stook := Fin.ofNat 32 stook, unit := 0, index := 0, row := 0, ctx := c, stream := 9 }
/-- A member of a group launch that the fault concerns. -/
def memberRuns : State :=
  { running { launch0 with group := true } with group := some grp0 } |>.setReg .hubGroupStatus 0 (BitVec.ofNat 64 (3 * 2 ^ 19 + 2))
theorem witness_Recovers_group : (memberRuns.concerned { code := 0x03, die := 0, acre := 0, stook := 0, unit := 0, index := 0, row := 0, ctx := none, stream := 9 }).contains 7 = true ∧
    (memberRuns.ctx 7).state ∈ [CtxState.running, .held, .paused] ∧ memberRuns.grouped = true ∧ memberRuns.group.isSome = true ∧
    memberRuns.launch 7 = some { launch0 with group := true } := by decide +kernel
/-- The spare of the acre is taken; a recovery from another stook's fault is under way. -/
def spareGone : State := State.reset.setAcre 0 { retired := [3] }
def acreBusy : State := { State.reset with announced := [(1, (0, 2))] }
/-- A corrected read of the same row 5 ticks ago. -/
def hitBefore : State := { State.reset with eccHits := [(0x01, 5, 0, 0, 0, 0)] }
theorem witness_FaultReports : State.reset.dieLost 0 = false ∧ State.reset.acreRecovers 0 5 = false ∧ State.reset.acreRecovers 0 31 = false ∧
    acreBusy.acreRecovers 0 31 = true ∧ State.reset.sameRow (rep 0x01 5 none) = 0 ∧ 1 ≤ hitBefore.sameRow (rep 0x01 5 none) ∧
    ((State.reset.setFld F.fltStatusDieLost 0 1).dieLost 0 = true) ∧ (running launch0).concerned (rep 0x03 0 none) = [7] ∧
    State.reset.concerned (rep 0x02 5 none) = [] ∧ (State.reset.fixFault (rep 0x02 5 none)).2.1 = 2 ∧ (rep 0x03 0 none).code < 256 ∧
    ((running launch0).ctx 7).state ∈ [CtxState.loaded, .running, .held, .paused] ∧ State.reset.fld F.grnStatusLost 0 = 0 ∧
    (State.reset.acre 0).retired.contains 5 = false ∧ (spareGone.acre 0).retired.contains 5 = false ∧ (spareGone.acre 0).retired.isEmpty = false ∧
    acreBusy.acreRecovers 0 5 = true ∧ acreBusy.dieLost 0 = false ∧ (State.reset.fixFault (rep 0x03 5 none)).2.1 ≠ 9 ∧
    ((running launch0).fixFault (rep 0x05 5 (some 7))).2.1 = 9 ∧ (rep 0x05 5 (some 7)).ctx = some 7 := by decide +kernel
def lost0 (code : Nat) : FaultRep := { rep code 17 (some 7) with index := 0 }
/-- The launch keeps an area of the granary on port 0. -/
def onPort0 : State := ((running launch0).setFld F.grnSegValid 0 1).setFld F.grnSegCtx 0 7
theorem witness_Recovers : ((running launch0).ctx 7).state ∈ [CtxState.running, .held, .paused] ∧ (rep 0x10 17 (some 7)).stook.val ≥ 17 ∧
    (rep 0x03 0 none).code ∉ [0x09, 0x13, 0x14] ∧ (onPort0.concerned (rep 0x10 17 none)).contains 7 = true ∧ launch0.group = false ∧
    ((running launch0).concerned (rep 0x03 0 none)).contains 7 = true ∧ ((running launch0).concerned (rep 0x03 5 none)).contains 7 = false ∧
    ((running launch0).concerned (rep 0x09 17 (some 7))).contains 7 = true ∧ ((running launch0).concerned (rep 0x13 17 none)).contains 7 = true ∧
    ((running launch0).concerned (rep 0x02 0 none)).contains 7 = true ∧ (running launch0).spareFree 0 = true ∧ (rep 0x02 0 none).stook.val < 17 ∧
    (running launch0).versionAt launch0 (-launch0.sched.prologue) = 1 ∧ (running launch0).version 0 1 = some version0 ∧
    ({ running launch0 with pools := [pool0 0 3 true] } : State).newestMirrored 7 = some (pool0 0 3 true) ∧ ({ running launch0 with pools := [pool0 0 2 false] } : State).newestComplete 7 = some (pool0 0 2 false) ∧
    (((running launch0).graph 0).bind fun x => x.versions.find? fun v => v.num == saved0.version) = some version0 ∧
    (running launch0).newestComplete 7 = none ∧ launch0.origin = none ∧ (running launch0).versionOf 7 = some version0 ∧
    (running launch0).lastPassed 7 launch0 = none ∧ (running launch0).newestMirrored 7 = none := by decide +kernel

theorem witness_Losses_memories : (State.reset.fld F.grnStatusLost 7).testBit 3 = false ∧
    ((State.reset.setFld F.grnStatusLost 7 8).fld F.grnStatusLost 7).testBit 3 = true ∧ State.reset.fld F.gddStatusLost 7 = 0 ∧
    (State.reset.setFld F.gddStatusLost 7 1).fld F.gddStatusLost 7 ≠ 0 ∧ ((State.reset.setFld F.gddStatusLost 7 1).fld F.gddStatusLost 7).testBit 5 = false ∧
    ((State.reset.setFld F.gddStatusLost 7 32).fld F.gddStatusLost 7).testBit 5 = true ∧ State.reset.announced = [] ∧ State.reset.dieLost 7 = false ∧
    (State.reset.setFld F.fltStatusDieLost 0 128).dieLost 7 = true ∧ ((7, some 7) : Nat × Option Nat) ∉ State.reset.lostLinks := by decide +kernel
theorem witness_Losses_granary : State.reset.fld F.grnStatusLost 7 = 0 ∧ (State.reset.setFld F.grnStatusLost 7 8).fld F.grnStatusLost 7 ≠ 0 ∧
    ((State.reset.setFld F.grnStatusLost 7 8).fld F.grnStatusLost 7).testBit 0 = false := by decide +kernel
theorem witness_Losses_no_launch (c : Nat) : State.reset.launch c = none := rfl
theorem witness_Losses_wires : ((State.reset.wires.filter (· == (7, true, 15))).length < 2) ∧
    2 ≤ (({ State.reset with wires := [(7, true, 15), (7, true, 15)] } : State).wires.filter (· == (7, true, 15))).length := by decide +kernel
def poisonedRow : State := { State.reset with poison := [(gddrAt 0 ((2 ^ 26 - 1) * 320) / 8, true)] }
theorem witness_Losses_row : (2 ^ 26 - 1 < 2 ^ 26) ∧ (List.replicate 320 (0 : Byte)).length = 320 ∧
    poisonedRow.poisoned (gddrAt 0 ((2 ^ 26 - 1) * 320)) 320 = true ∧ poisonedRow.flag F.gddSegKeep ((2 ^ 26 - 1) / 262144) = false ∧
    (poisonedRow.setFld F.gddSegKeep ((2 ^ 26 - 1) / 262144) 1).flag F.gddSegKeep ((2 ^ 26 - 1) / 262144) = true ∧
    (poisonedRow.setFld F.gddSegKeep 255 1).otherCopy 255 = none ∧ poisonedRow.cyc ≤ 1023 ∧ Memory.wf poisonedRow.mem = true := by decide +kernel
/-- Segment 0 of die 0 and segment 3 of die 1 are the two copies of one segment of a launch. -/
def twoCopies : State :=
  ((((State.reset.setFld F.gddSegKeep 0 1).setFld F.gddSegOwner 0 1).setFld F.gddSegOwner 259 1).setFld F.gddSegMirror 259 1)
theorem witness_Losses_copy : twoCopies.flag F.gddSegKeep (0 * 256 + 5 / 262144) = true ∧ twoCopies.otherCopy (0 * 256 + 5 / 262144) = some 259 := by
  decide +kernel
theorem witness_Losses_barns : State.reset.ctxs = [] ∧ State.reset.chans = [] ∧ State.reset.flag F.hubStatusStandbyReady 0 = false ∧
    (State.reset.setFld F.hubStatusStandbyReady 0 1).flag F.hubStatusStandbyReady 0 = true ∧
    (State.reset.setFld F.mbxStatusLast 127 0).fld F.mbxStatusLast 127 ≠ 0xFFFFFFFF ∧ (State.reset.fld F.fltStatusPscLost 0).testBit 1 = false ∧
    ((State.reset.setFld F.fltStatusPscLost 0 2).fld F.fltStatusPscLost 0).testBit 1 = true := by decide +kernel
def watched : State := State.reset.setStream 4095 { deadline := some 5 }
theorem witness_Losses_watchdog : (watched.stream 4095).deadline.all (fun d => decide (watched.tick < d)) = true ∧
    ((watched.setReg .hubTick 0 5).stream 4095).deadline.any (fun d => decide (d ≤ (watched.setReg .hubTick 0 5).tick)) = true ∧
    (watched.setReg .hubTick 0 5).hungOf 4095 = [] ∧ watched.fld F.doneWordStatus 4095 = 0 ∧ (watched.stream 4095).writes = none := by decide +kernel
/-- An entry of stream 9 hangs, for the second time; the quarantine's fifth hang is at 4. -/
def hanging : State :=
  ((onUnit.setStream 9 { ctx := some 7, deadline := some 5 }).setCtx 7 { onUnit.ctx 7 with suspect := some (9, 1) }).setReg .hubTick 0 5
theorem witness_WatchdogEnds_hang : hanging.hungOf 9 = [(0, { addr := 64, station := 0, unit := 0, poisoned := false })] ∧
    (hanging.stream 9).ctx = some 7 ∧ (hanging.stream 9).deadline.any (fun d => decide (d ≤ hanging.tick)) = true ∧
    hanging.tick < hanging.hangStart + 2 ^ 35 ∧ (hanging.ctx 7).suspect = some (9, (hanging.entry 0 64).seq) ∧
    4 ≤ (hanging.setFld F.fltHangResetsWindow 0 4).fld F.fltHangResetsWindow 0 ∧
    (hanging.ctx 7).state ∈ [CtxState.loaded, .running, .held, .paused] := by decide +kernel

/-! ## Witnesses: links and sessions -/

def up (p : Nat) : State := (State.reset.setFld F.lnkStatusState p 2).setFld F.lnkCtrlEn p 1
/-- An empty frame of SEQ 0 in the clear, whose trailer carries a CHECK; and one of another SEQ. -/
def frameWith (head check : Nat) : Frame :=
  { ctl := 0, payload := List.replicate 1984 0, trailer := BitVec.ofNat 256 (head * 2 ^ 160 + check * 2 ^ 128) }
theorem frame_check {h c : Nat} (hc : c < 2 ^ 32) : (frameWith h c).check = c := by
  simp only [Frame.check, frameWith, bits, BitVec.toNat_ofNat]
  omega
theorem frame_head {h c : Nat} (hh : h < 2 ^ 96) (hc : c < 2 ^ 32) : (frameWith h c).head = h := by
  simp only [Frame.head, frameWith, bits, BitVec.toNat_ofNat]
  omega
def sumOf (h : Nat) : Nat := linkCheck 0 (List.replicate 1984 0) h

theorem witness_Frames_send : (up 17).portUp 17 = true ∧ State.reset.portUp 17 = false ∧ ((up 17).port 17).ctrlNext = none ∧
    ((up 17).port 17).resend = [] ∧ ((up 17).port 17).replay.length < 64 ∧
    (((up 17).setPort 17 { resend := [frameWith 0 0] }).port 17).resend = frameWith 0 0 :: [] := by decide +kernel
theorem witness_Frames_check : (frameWith 0 0).payload.length = 1984 ∧
    ∃ f : Frame, f.payload.length = 1984 ∧ linkCheck f.ctl f.payload f.head ≠ f.check := by
  refine ⟨by decide +kernel, ?_⟩
  by_cases h : sumOf 0 = 0
  · refine ⟨frameWith 0 1, by decide +kernel, ?_⟩
    rw [frame_check (by decide), frame_head (by decide) (by decide)]
    have e : sumOf 0 ≠ 1 := by rw [h]; decide
    exact e
  · refine ⟨frameWith 0 0, by decide +kernel, ?_⟩
    rw [frame_check (by decide), frame_head (by decide) (by decide)]
    exact h
/-- Head 2^29 is EMPTY with SEQ 0; head 2^64 + 2^29 has SEQ 1, ahead of the one expected. -/
theorem witness_Frames_sound (h : ∀ n, sumOf n < 2 ^ 32) : ∀ x ∈ [2 ^ 29, 2 ^ 64 + 2 ^ 29],
    linkCheck (frameWith x (sumOf x)).ctl (frameWith x (sumOf x)).payload (frameWith x (sumOf x)).head = (frameWith x (sumOf x)).check := by
  intro x hx
  have b : x < 2 ^ 96 := by
    simp only [List.mem_cons, List.not_mem_nil, or_false] at hx
    omega
  rw [frame_check (h x), frame_head b (h x)]
  rfl
theorem witness_Frames_fields : (frameWith (2 ^ 29) 5).seq = (up 17).fld F.lnkSeqRxExpect 17 ∧ (frameWith (2 ^ 29) 5).enc = false ∧
    (frameWith (2 ^ 29) 5).empty = true ∧ (frameWith (2 ^ 64 + 2 ^ 29) 5).seq ≠ (up 17).fld F.lnkSeqRxExpect 17 ∧
    serialAbove (frameWith (2 ^ 64 + 2 ^ 29) 5).seq ((up 17).fld F.lnkSeqRxExpect 17) = true ∧ (frameWith (2 ^ 29 + 2 ^ 31) 5).nak = true ∧
    bits (frameWith 0 0).ctl.toNat 248 8 = 0 := by decide +kernel

/-- A store whose record holds the items of the identity key, its wrapping and the certificate, all empty; an entropy source that serves. -/
def idItems : List (Nat × Nat × List Byte) := [(5, 0, []), (6, 0, []), (1, 0, [])]
def withId : State :=
  { (up 17).wrN (storeAt 0 0x800000) (recordImage false 1 (idItems.flatMap recItem)) with sources := (seeded 3).sources } |>.setFld F.entStatusState 0 3
theorem id_winner : withId.winner false = some (0, 1, idItems.flatMap recItem) := by decide +kernel
theorem id_items (hv : Config.itemVerifies 1 [] = true) : withId.items = idItems := by
  have e : itemsOf (idItems.flatMap recItem).length (idItems.flatMap recItem) = idItems := by decide +kernel
  simp only [State.items, id_winner, e]
  simp [idItems, signedKind, hv]
theorem id_key (hv : Config.itemVerifies 1 [] = true) (hu : ∀ b k w, (Config.unwrapKey b k w).isSome = true) : withId.identity.isSome = true := by
  have i5 : withId.item 5 0 = some [] := by rw [State.item, id_items hv]; decide +kernel
  have a : withId.activeBarn = 0 := by decide +kernel
  have i6 : withId.item 6 0 = some [] := by rw [State.item, id_items hv]; decide +kernel
  simp only [State.identity, i5, a, i6]
  exact hu _ _ _
theorem id_cert (hv : Config.itemVerifies 1 [] = true) : withId.certificate.isSome = true := by
  have i : withId.item 1 0 = some [] := by rw [State.item, id_items hv]; decide +kernel
  simp [State.certificate, i]

/-- A set-up on control port 17: on the answering side before and after REPLY, and on the initiating side. -/
def setup0 (initiator answered : Bool) : Setup :=
  { initiator := initiator, scalar := 0, hello := setupMsg 1 (List.replicate 130 0), reply := [], th2 := 0, owner := 0xFF, since := 0, answered := answered }
def settingUp (x : Setup) : State := withId.setPort 17 { setup := some x }

theorem witness_Sessions_hello : (up 17).portUp 17 = true ∧ (up 17).responds 17 = true ∧ (up 17).fld F.secLifecycleState 0 ≠ 2 ∧
    (List.replicate 129 (0 : Byte)).length ≠ 130 ∧ (List.replicate 129 (0 : Byte) ++ [0xFF]).length = 130 ∧
    (up 17).ownerOk (bytesAt (List.replicate 129 (0 : Byte) ++ [0xFF]) 129 1) = true ∧ (up 17).keysServed = false ∧ ((up 17).port 17).session = none ∧
    ((up 17).port 17).setup = none := by decide +kernel
theorem witness_Sessions_reply (hv : Config.itemVerifies 1 [] = true) (hu : ∀ b k w, (Config.unwrapKey b k w).isSome = true)
    (hs : ∀ a b, (Config.p384Shared a b).isSome = true) : ((settingUp (setup0 false false)).port 17).setup = some (setup0 false false) ∧
    (∃ r s', withId.takeBlocks 8 = some (r, s')) ∧ (∃ key, withId.identity = some key) ∧ (∃ cert, withId.certificate = some cert) ∧
    ∀ r : List Byte, (Config.p384Shared (num48 r) (((setup0 false false).hello.drop 8).take 97)).isSome := by
  refine ⟨by decide +kernel, ?_, Option.isSome_iff_exists.mp (id_key hv hu), Option.isSome_iff_exists.mp (id_cert hv), fun _ => hs _ _⟩
  obtain ⟨⟨r, s'⟩, h⟩ := Option.isSome_iff_exists.mp (by decide +kernel : (withId.takeBlocks 8).isSome = true)
  exact ⟨r, s', h⟩
theorem witness_Sessions_check (hc : ∀ l, (Config.certKey l).isSome = true) (hs : ∀ a b, (Config.p384Shared a b).isSome = true) :
    (setup0 true false).initiator = true ∧ (setup0 true false).answered = false ∧ 226 ≤ (List.replicate 226 (0 : Byte)).length ∧
    (∃ pub, Config.certKey (((List.replicate 226 (0 : Byte)).take (226 - 96)).drop 129) = some pub) ∧
    (∃ r s', withId.takeBlocks 3 = some (r, s')) ∧ ∀ y : Setup, (Config.p384Shared y.scalar y.peerPoint).isSome := by
  refine ⟨rfl, rfl, by decide +kernel, Option.isSome_iff_exists.mp (hc _), ?_, fun _ => hs _ _⟩
  obtain ⟨⟨r, s'⟩, h⟩ := Option.isSome_iff_exists.mp (by decide +kernel : (withId.takeBlocks 3).isSome = true)
  exact ⟨r, s', h⟩
theorem witness_Sessions_finish : ((settingUp (setup0 false true)).port 17).setup = some (setup0 false true) ∧ (settingUp (setup0 false true)).group = none ∧
    (setup0 false true).owner = 0xFF ∧ 96 ≤ (List.replicate 96 (0 : Byte)).length ∧
    ((List.replicate 96 (0 : Byte)).drop ((List.replicate 96 (0 : Byte)).length - 96)).all (· == 0) = true ∧ (List.replicate 95 (0 : Byte)).length < 96 ∧
    (setup0 true true).initiator = true ∧ (setup0 true true).answered = true := by decide +kernel
theorem witness_Sessions_end : (settingUp (setup0 false true)).tick < (setup0 false true).since + 2 ^ 20 ∧
    (setup0 false true).since + 2 ^ 20 ≤ ((settingUp (setup0 false true)).setReg .hubTick 0 (2 ^ 20)).tick ∧ ((up 17).port 17).session = none ∧
    (served.port 16).session ≠ none := by decide +kernel

/-! ## Witnesses: leave, power, the harrow -/

/-- A request of 12 LU for unit 3: booked, unbooked; a release; a grant. -/
def leaveItem (kind booked lu : Nat) : Word := BitVec.ofNat 64 (kind * 2 ^ 62 + booked * 2 ^ 61 + 3 * 2 ^ 53 + lu * 2 ^ 41)
def capped (n : Nat) : State := State.reset.setFld F.pwrAcreCapCap 0 n
def grant0 : Grant := { unit := 3, lu := 12, classE := false, ends := none }
def waiting : LeaveReq := { unit := 3, lu := 12, duration := 0, since := 0 }
theorem witness_Leave_request : bits (leaveItem 0 1 12).toNat 62 2 = 0 ∧ bits (leaveItem 0 1 12).toNat 61 1 = 1 ∧ bits (leaveItem 0 0 12).toNat 61 1 = 0 ∧
    ((capped 12).acre acre0.ix).queue = [] ∧ ((capped 12).acre acre0.ix).asks = [] ∧ (capped 12).leaveFits acre0.ix (bits (leaveItem 0 0 12).toNat 41 12) = true ∧
    (capped 11).leaveFits acre0.ix (bits (leaveItem 0 0 12).toNat 41 12) = false ∧
    ((capped 12).setAcre 0 { queue := List.replicate 63 waiting } |>.acre 0).queue.length < 64 := by decide +kernel
/-- A request on its way at wall cycles 3 and 4; with the queue full. -/
def onItsWay (q : List LeaveReq) : State := (capped 12).setAcre 0 { asks := [waiting], queue := q }
theorem witness_Leave_asks : ((onItsWay []).acre 0).asks = [waiting] ∧ ({ onItsWay [] with cyc := 3 } : State).now < waiting.since + 4 ∧
    waiting.since + 4 ≤ ({ onItsWay [] with cyc := 4 } : State).now ∧ ((onItsWay []).acre 0).queue = [] ∧ (onItsWay []).leaveFits 0 waiting.lu = true ∧
    64 ≤ ((onItsWay (List.replicate 64 waiting)).acre 0).queue.length ∧ ((onItsWay [waiting]).acre 0).queue.length < 64 := by decide +kernel
theorem witness_Leave_grants : bits (leaveItem 1 0 12).toNat 62 2 = 1 ∧
    ((capped 12).setAcre 0 { grants := [grant0] } |>.acre 0).grants.filter
      (fun (x : Grant) => x.unit == bits (leaveItem 1 0 12).toNat 53 8 && x.ends.isNone) = [grant0] ∧
    ((capped 12).setAcre 0 { queue := [waiting] } |>.acre 0).queue = waiting :: [] ∧ (capped 12).leaveFits 0 waiting.lu = true ∧
    (capped 0).leaveFits 0 waiting.lu = false := by decide +kernel
/-- Engine 3 of stook 0 waits for leave for its four lanes. -/
def wanting : State := ((capped 12).setEngine 3 { want := 15 }).setAcre 0 { grants := [{ grant0 with lu := 8 }] }
theorem witness_Leave_lanes : 8 * wanting.physStook 0 0 (bits (leaveItem 2 0 8).toNat 57 4) + bits (leaveItem 2 0 8).toNat 53 4 = 3 ∧
    bits (leaveItem 2 0 8).toNat 62 2 = 2 ∧ bits (leaveItem 2 0 8).toNat 53 4 < 8 ∧ (wanting.engine 3).want ≠ 0 ∧ (wanting.engine 3).want < 16 ∧
    (wanting.acre 0).asks.all (·.unit != bits (leaveItem 2 0 8).toNat 53 8) = true ∧
    wanting.hasLeave 0 (bits (leaveItem 2 0 8).toNat 53 8) (2 * laneCount (wanting.engine 3).want) = true ∧
    ((onItsWay []).acre 0).asks.find? (·.unit == bits (leaveItem 2 0 8).toNat 53 8) = some waiting ∧
    ({ capped 12 with cyc := 5 } : State).tick < (({ waiting with since := 1016 } : LeaveReq).since + 8) / 1024 := by decide +kernel

/-- A module of a group with one running group launch on die 0, whose bucket is spent. -/
def spending : State := { running { launch0 with group := true } with group := some grp0 }
theorem witness_Power_group : spending.group.isSome = true ∧ spending.groupRuns = [7] ∧ spending.launch 7 = some { launch0 with group := true } ∧
    0 ∈ ({ launch0 with group := true } : Launch).homes ∧ ((spending.setFld F.pwrBucketBucket 0 (2 ^ 31)).bucket 0 0) < 0 ∧ spending.cyc ≤ 991 := by
  decide +kernel
theorem witness_PowerAndWake : (State.reset.setFld F.pwrAcreStateState 63 2).fld F.pwrAcreStateState 63 ≠ 0 ∧
    (State.reset.setFld F.pwrAcreStateState 63 0).fld F.pwrAcreStateState 63 = 0 ∧ State.reset.dieLost 7 = false ∧
    (State.reset.setFld F.pwrAcreStateState 63 1).fld F.pwrAcreStateState 63 = 1 ∧ State.reset.fld F.pwrAcreStateWakeLeft 63 = 0 ∧
    ({ State.reset with cyc := 991 } : State).cyc ≤ 991 ∧ State.reset.groupCtxs = [] ∧
    min ((0xFFF : BitVec 32).toNat % 4096) 1920 = 1920 ∧ State.reset.fld F.pwrAcreStateRes 0 ≤ 1920 ∧
    min ((0 : BitVec 32).toNat % 4096) 1920 < (State.reset.setFld F.pwrAcreStateRes 0 1).fld F.pwrAcreStateRes 0 := by decide +kernel

/-- A GEMM descriptor at address 0 of the crib: INT8 by INT8, one row, one column, one block, all arrays in bank 0. -/
def kernelBytes (op : Nat) : List Byte :=
  padTo 64 (leBytes 4 (op * 2 ^ 28) ++ leBytes 4 0 ++ leBytes 4 (2 ^ 16 + 1) ++ leBytes 4 (2 ^ 16 + 1) ++
    leBytes 4 256 ++ leBytes 4 512 ++ leBytes 4 768 ++ leBytes 4 1024 ++ leBytes 4 1280 ++ leBytes 4 1536 ++ leBytes 4 1792 ++ leBytes 4 2048)
def kernelAt (l : Launch) (op : Nat) : State := ((banked l).wrN (cribAt 0 0) (kernelBytes op)).setFld F.hrwCtrlEn 0 1
theorem witness_Kernels : (∀ x ∈ [1, 2], (kernelAt launch0 x).actor 0 0 = some 7 ∧ (kernelAt launch0 x).flag F.hrwCtrlEn 0 = true ∧
      (kernelAt launch0 x).issues 7 0 = true ∧ (parseKernel ((kernelAt launch0 x).rdN (cribAt 0 0) 64)).formed x = true) ∧
    (parseKernel ((kernelAt launch0 0).rdN (cribAt 0 0) 64)).formed 1 = false ∧ (kernelAt { launch0 with phase := .whole } 1).issues 7 0 = false ∧
    (∀ x ∈ [1, 2], ((kernelAt launch0 x).begins 7 [⟨0, (kernelAt launch0 x).unitOf 0 8, 24, 5⟩]).isSome = true ∧
      ((kernelAt launchT x).sends 7 [⟨0, (kernelAt launchT x).unitOf 0 8, 24, 5⟩]).isSome = true ∧ (kernelAt launch0 x).runningOf 0 2 0 = none) ∧
    (running launch0).actor 0 0 = none := by decide +kernel

/-- A generator that is enabled, in a launch that moves. -/
def generating : State := (banked launch0).setFld F.hrwGenCtrlEn 0 1
theorem witness_Generators : (generating.gen 0).ctx = some 7 ∧ generating.stepDue 0 7 = true ∧ (banked launch0).stepDue 0 7 = false ∧
    generating.stepFormed 0 [] 0 0 0 0 = true ∧ generating.stepFormed 0 [] 0x7FFFFF 0 0 0 = false ∧
    (generating.begins 7 (generating.stepNeeds [])).isSome = true ∧ ¬ (0x7FFFFF + 2 ≤ 2 ^ 23) ∧ (0x7FFFFF#23).toNat + 1 ≤ 2 ^ 23 ∧
    (0x7FF000#23).toNat + 4096 ≤ 2 ^ 23 ∧ generating.issues 7 0 = true ∧ generating.flag F.hrwGenCtrlEn 0 = true ∧
    (generating.tau 7 - generating.fld F.hrwGenStartT0 0) % (max 1 (generating.fld F.hrwGenCtrlPTok 0) : Nat) = 0 ∧
    ({ generating with cyc := 379 } : State).cyc ≤ 379 ∧ (generating.upTo 100).issues 7 0 = true ∧
    (0#23).toNat + 128 * (generating.targets 0).length ≤ 2 ^ 23 := by decide +kernel

/-! ## Witnesses: every step -/

theorem witness_StepKeepsSound : Sound State.reset ∧ ∃ t, step State.reset = .next t := ⟨⟨by unfold Clocked; decide, by decide +kernel⟩, _, rfl⟩

end Sys2Proof.Tests
end

section
/-!
PROOF. Host-made errors (R10, R11): the unpredictable result of a context touches nothing of others.
-/
namespace Sys2Proof.Machine

/-- Setting a field leaves the copies of every other register alone. -/
theorem State.reg_setFld_ne (s : State) {f : Fld} {q : Reg} {i j : Nat} (v : Nat) (h : q ≠ f.reg) : (s.setFld f i v).reg q j = s.reg q j :=
  s.reg_setReg_ne _ h

/-- A change that keeps to what an error of a context may touch leaves an error of that context. -/
theorem Erred.step {s t u : State} {c : Nat} (h : Erred s t c)
    (bytes : ∀ a, s.owns c a = false → u.rd a = t.rd a) (lanes : ∀ n, n / 4 ∉ s.enginesOf c → u.lane n = t.lane n)
    (cores : ∀ k, k ∉ s.coresOf c → u.core k = t.core k) (regs : ∀ q j, q ≠ .shfEnergy → u.reg q j = t.reg q j)
    (rest : u = { t with
      free := u.free, mem := u.mem, poison := u.poison, lanes := u.lanes, regs := u.regs, cores := u.cores, stooks := u.stooks, latch := u.latch }) :
    Erred s u c where
  bytes a ha := (bytes a ha).trans (h.bytes a ha)
  lanes n hn := (lanes n hn).trans (h.lanes n hn)
  cores k hk := (cores k hk).trans (h.cores k hk)
  regs q j hq := (regs q j hq).trans (h.regs q j hq)
  rest := by
    rw [h.rest] at rest
    exact rest

/-- A free value drawn, and nothing else, is an error of any context. -/
theorem Erred.draw (s : State) (c : Nat) : Erred s { s with free := s.free + 1 } c :=
  ⟨fun _ _ => rfl, fun _ _ => rfl, fun _ _ => rfl, fun _ _ _ => rfl, rfl⟩

theorem Erred.storeByte {s t : State} {c : Nat} (h : Erred s t c) {a : Nat} (ha : s.owns c a = true) (v : Byte) (p : Bool) :
    Erred s (t.store a [v] p) c := by
  refine h.step (fun b hb => t.rd_store_out a [v] p b ?_) (fun _ _ => rfl) (fun _ _ => rfl) (fun _ _ _ => rfl) rfl
  have hne : b ≠ a := by rintro rfl; simp [ha] at hb
  simp only [List.length_singleton]
  omega

theorem Erred.setLane {s t : State} {c : Nat} (h : Erred s t c) {n : Nat} (hn : n / 4 ∈ s.enginesOf c) (v : LaneState) :
    Erred s (t.setLane n v) c :=
  h.step (fun _ _ => rfl) (fun _ hm => sget_sput_other _ _ _ fun e => hm (e ▸ hn)) (fun _ _ => rfl) (fun _ _ _ => rfl) rfl

theorem Erred.setFld {s t : State} {c : Nat} (h : Erred s t c) {f : Fld} (hf : f.reg = .shfEnergy) (n v : Nat) :
    Erred s (t.setFld f n v) c :=
  h.step (fun _ _ => rfl) (fun _ _ => rfl) (fun _ _ => rfl) (fun _ _ hq => t.reg_setFld_ne _ (hf ▸ hq)) rfl

theorem Erred.setCore {s t : State} {c : Nat} (h : Erred s t c) {k : Nat} (hk : k ∈ s.coresOf c) (v : CoreState) :
    Erred s (t.setCore k v) c :=
  h.step (fun _ _ => rfl) (fun _ _ => rfl) (fun _ hm => sget_sput_other _ _ _ fun e => hm (e ▸ hk)) (fun _ _ _ => rfl) rfl

theorem Erred.setStooks {s t : State} {c : Nat} (h : Erred s t c) (x : Sparse Stook) : Erred s { t with stooks := x } c :=
  h.step (fun _ _ => rfl) (fun _ _ => rfl) (fun _ _ => rfl) (fun _ _ _ => rfl) rfl

theorem Erred.modRunning {s t : State} {c : Nat} (h : Erred s t c) (k station payload : Nat) (f : Running → Running) :
    Erred s (t.modRunning k station payload f) c := h.setStooks _

theorem Erred.foldl {α : Type} {s t : State} {c : Nat} (h : Erred s t c) (l : List α) (f : State → α → State)
    (hf : ∀ u x, x ∈ l → Erred s u c → Erred s (f u x) c) : Erred s (l.foldl f t) c :=
  List.foldlRecOn l f h fun u hu x hx => hf u x hx hu

/-- The unpredictable result of a context is an error of that context (R10). -/
theorem State.erred_anything (s : State) (c : Nat) : Erred s (s.anything c) c := by
  unfold State.anything
  refine ((((Erred.draw s c).foldl _ _ fun t x _ h => ?bytes).foldl _ _ fun t e he h => ?lanes).foldl _ _ fun t k hk h => ?cores).setStooks _
  case bytes =>
    split
    · next ho => exact h.storeByte ho _ _
    · exact h
  case lanes =>
    refine h.foldl _ _ fun u j hj hu => (hu.setLane ?_ _).setFld rfl _ _
    have hj4 : j < 4 := List.mem_range.mp hj
    rwa [show (4 * e + j) / 4 = e by omega]
  case cores => exact h.setCore hk _

end Sys2Proof.Machine
end

section
/-!
PROOF. Leave (R39, R454, R455): an operation whose leave is there begins with it, one whose requests are not sent sends them, and taking leave
touches the ledgers and their registers alone.
-/
namespace Sys2Proof.Machine

/-- What the leave of an operation that begins changes: the acres' ledgers and PWR_ACRE_STATE. -/
structure LeaveTaken (s t : State) : Prop where
  regs : ∀ q j, q ≠ .pwrAcreState → t.reg q j = s.reg q j
  rest : t = { s with acres := t.acres, regs := t.regs }

theorem LeaveTaken.refl (s : State) : LeaveTaken s s := ⟨fun _ _ _ => rfl, rfl⟩

theorem LeaveTaken.trans {s t u : State} (h : LeaveTaken s t) (g : LeaveTaken t u) : LeaveTaken s u where
  regs q j hq := (g.regs q j hq).trans (h.regs q j hq)
  rest := by
    have e := g.rest
    rw [h.rest] at e
    exact e

theorem LeaveTaken.setAcre (s : State) (a : Nat) (x : Acre) : LeaveTaken s (s.setAcre a x) := ⟨fun _ _ _ => rfl, rfl⟩

theorem LeaveTaken.setFld (s : State) {f : Fld} (hf : f.reg = .pwrAcreState) (i v : Nat) : LeaveTaken s (s.setFld f i v) :=
  ⟨fun _ _ hq => s.reg_setFld_ne _ (hf ▸ hq), rfl⟩

theorem State.countLeave_leaveTaken (s : State) (a : Nat) : LeaveTaken s (s.countLeave a) := by
  unfold State.countLeave
  exact (LeaveTaken.setFld s rfl _ _).trans (LeaveTaken.setFld _ rfl _ _)

theorem State.grant_leaveTaken (s : State) (a : Nat) (g : Grant) : LeaveTaken s (s.grant a g) := by
  have counted : LeaveTaken s ((s.setAcre a { s.acre a with grants := (s.acre a).grants ++ [g] }).countLeave a) :=
    (LeaveTaken.setAcre s _ _).trans (State.countLeave_leaveTaken _ _)
  unfold State.grant
  dsimp only
  split
  · rw [State.raise_eq]
    exact counted.trans (LeaveTaken.setFld _ rfl _ _)
  · exact counted

theorem State.askLeave_leaveTaken (s : State) (a unit lu duration : Nat) : LeaveTaken s (s.askLeave a unit lu duration true) := by
  unfold State.askLeave
  rw [if_pos rfl]
  exact s.grant_leaveTaken _ _

theorem State.takeLeave_leaveTaken (s : State) (a unit lu : Nat) : LeaveTaken s (s.takeLeave a unit lu) := LeaveTaken.setAcre s _ _

theorem State.begins_leaveTaken {s t : State} {c : Nat} {l : List Need} (h : s.begins c l = some t) : LeaveTaken s t := by
  unfold State.begins at h
  split at h
  · obtain rfl := Option.some.inj h
    exact List.foldlRecOn l _ (LeaveTaken.refl s) fun u hu x _ => hu.trans (u.askLeave_leaveTaken _ _ _ _)
  · split at h
    · obtain rfl := Option.some.inj h
      exact List.foldlRecOn l _ (LeaveTaken.refl s) fun u hu x _ => hu.trans (u.takeLeave_leaveTaken _ _ _)
    · cases h

/-- A need whose grant is there has been put to its warden. -/
theorem State.asked_of_hasLeave {s : State} {x : Need} (h : s.hasLeave x.acre x.unit x.lu = true) : s.asked x = true := by
  simp [State.asked, h]

/-- A unit with no request on its way awaits nothing. -/
theorem State.awaitLeave_of_none {s : State} {a unit : Nat} (h : (s.acre a).asks.all (·.unit != unit) = true) (f : State → State) :
    s.awaitLeave a unit f = f s := by
  have hnone : (s.acre a).asks.find? (·.unit == unit) = none := by
    simpa [List.find?_eq_none] using h
  unfold State.awaitLeave
  rw [hnone]

/-- Units with no request on their way await nothing. -/
theorem State.foldr_awaitLeave_of_none {s : State} {l : List Need} (h : ∀ x ∈ l, (s.acre x.acre).asks.all (·.unit != x.unit) = true)
    (f : State → State) : l.foldr (fun x k s => s.awaitLeave x.acre x.unit k) f s = f s := by
  induction l with
  | nil => rfl
  | cons x l ih =>
    rw [List.foldr_cons, State.awaitLeave_of_none (h x List.mem_cons_self), ih fun y hy => h y (List.mem_cons_of_mem x hy)]

/-- An operation whose leave is there begins with it (R39). -/
theorem State.withLeaves_of_begins {s t : State} {c : Nat} {l : List Need} (h : s.begins c l = some t) (f : State → State) :
    s.withLeaves c l f = f t := by
  unfold State.begins at h
  unfold State.withLeaves
  split at h
  · next booked =>
    obtain rfl := Option.some.inj h
    rw [if_pos booked]
  · next unbooked =>
    split at h
    · next ready =>
      obtain rfl := Option.some.inj h
      simp only [List.all_eq_true, Bool.and_eq_true] at ready
      have granted : (l.all fun x => s.hasLeave x.acre x.unit x.lu) = true := List.all_eq_true.mpr fun x hx => (ready x hx).1
      have asked : l.all s.asked = true := List.all_eq_true.mpr fun x hx => State.asked_of_hasLeave (ready x hx).1
      have idle : ∀ x ∈ l, (s.acre x.acre).asks.all (·.unit != x.unit) = true := fun x hx => List.all_eq_true.mpr (ready x hx).2
      rw [if_neg unbooked, if_pos asked, State.foldr_awaitLeave_of_none idle, if_pos granted]
    · cases h

/-- An operation whose requests have not all been sent sends them, and does nothing else (R454). -/
theorem State.withLeaves_of_sends {s t : State} {c : Nat} {l : List Need} (h : s.sends c l = some t) (f : State → State) :
    s.withLeaves c l f = t := by
  unfold State.sends at h
  split at h
  · cases h
  · next unsent =>
    obtain rfl := Option.some.inj h
    simp only [Bool.or_eq_true, not_or] at unsent
    obtain ⟨unbooked, unasked⟩ := unsent
    unfold State.withLeaves
    rw [if_neg unbooked, if_neg unasked]

/-! ## What leave taken leaves -/

theorem LeaveTaken.fld {s t : State} (h : LeaveTaken s t) {f : Fld} (hf : f.reg ≠ .pwrAcreState) (i : Nat) : t.fld f i = s.fld f i := by
  unfold State.fld
  rw [h.regs _ _ hf]

theorem LeaveTaken.rd {s t : State} (h : LeaveTaken s t) (a : Nat) : t.rd a = s.rd a := by rw [h.rest]; rfl

theorem LeaveTaken.ctxs {s t : State} (h : LeaveTaken s t) : t.ctxs = s.ctxs := by rw [h.rest]

theorem LeaveTaken.lanes {s t : State} (h : LeaveTaken s t) : t.lanes = s.lanes := by rw [h.rest]

theorem LeaveTaken.gens {s t : State} (h : LeaveTaken s t) : t.gens = s.gens := by rw [h.rest]

theorem LeaveTaken.logical {s t : State} (h : LeaveTaken s t) (c : Nat) : t.logical c = s.logical c := by rw [h.rest]; rfl

theorem LeaveTaken.entry {s t : State} (h : LeaveTaken s t) (k a : Nat) : t.entry k a = s.entry k a := by rw [h.rest]; rfl

theorem LeaveTaken.stook {s t : State} (h : LeaveTaken s t) (k : Nat) : t.stook k = s.stook k := by rw [h.rest]; rfl

/-- Leave taken does not change which bank operations pass. -/
theorem LeaveTaken.bankPass {s t : State} (h : LeaveTaken s t) (k a : Nat) (who : Who) : t.bankPass k a who = s.bankPass k a who := by
  have owner : t.ownerWord k (bankOf a) = s.ownerWord k (bankOf a) := h.fld (by decide) _
  have link : t.isLinkBank k (bankOf a) = s.isLinkBank k (bankOf a) := by
    unfold State.isLinkBank State.flag
    simp only [h.fld (f := F.shfCtrlRun) (by decide), h.fld (f := F.stkExchCfgLinkAEn) (by decide), h.fld (f := F.stkExchCfgLinkA) (by decide),
      h.fld (f := F.stkExchCfgLinkBEn) (by decide), h.fld (f := F.stkExchCfgLinkB) (by decide)]
  unfold State.bankPass
  rw [link]
  cases who with
  | badger => rfl
  | unit c => simp only [State.ownerPass, owner]

theorem LeaveTaken.unitByte {s t : State} (h : LeaveTaken s t) (k c : Nat) : t.unitByte k c = s.unitByte k c := by
  funext a
  unfold State.unitByte
  rw [h.bankPass, h.rd]

end Sys2Proof.Machine
end

section
/-!
PROOF. Work on one crib: reads and writes of regions inside it change its bytes, poison tags and the status of its banks, and nothing else
(R204, R215, R236).
-/
namespace Sys2Proof.Machine

/-- What work on the crib of stook `k` may change: the bytes of that crib, poison tags, and the registers in the list. -/
structure CribWork (s t : State) (k : Nat) (rs : List Reg) : Prop where
  bytes : SameBytes s t (cribAt k 0) (2 ^ 23)
  regs : ∀ q j, q ∉ rs → t.reg q j = s.reg q j
  rest : t = { s with mem := t.mem, poison := t.poison, regs := t.regs }

section
variable {s t : State} {k : Nat} {rs : List Reg}

theorem CribWork.refl (s : State) (k : Nat) (rs : List Reg) : CribWork s s k rs := ⟨fun _ _ => rfl, fun _ _ _ => rfl, rfl⟩

theorem CribWork.trans {u : State} (h : CribWork s t k rs) (g : CribWork t u k rs) : CribWork s u k rs where
  bytes b hb := (g.bytes b hb).trans (h.bytes b hb)
  regs q j hq := (g.regs q j hq).trans (h.regs q j hq)
  rest := by
    have e := g.rest
    rw [h.rest] at e
    exact e

theorem CribWork.mono {rs' : List Reg} (h : CribWork s t k rs) (hrs : ∀ q ∈ rs, q ∈ rs') : CribWork s t k rs' :=
  ⟨h.bytes, fun q j hq => h.regs q j fun hm => hq (hrs q hm), h.rest⟩

theorem CribWork.setFld (h : CribWork s t k rs) {f : Fld} (hf : f.reg ∈ rs) (i v : Nat) : CribWork s (t.setFld f i v) k rs :=
  h.trans ⟨fun _ _ => rfl, fun _ _ hq => t.reg_setFld_ne _ fun e => hq (e ▸ hf), rfl⟩

theorem CribWork.ite (h : CribWork s t k rs) {u : State} (g : CribWork s u k rs) (p : Prop) [Decidable p] :
    CribWork s (if p then t else u) k rs := by
  split <;> assumption

theorem CribWork.fld (h : CribWork s t k rs) {f : Fld} (hf : f.reg ∉ rs) (i : Nat) : t.fld f i = s.fld f i := by
  unfold State.fld
  rw [h.regs _ _ hf]

theorem CribWork.ctxs (h : CribWork s t k rs) : t.ctxs = s.ctxs := by rw [h.rest]

theorem CribWork.lanes (h : CribWork s t k rs) : t.lanes = s.lanes := by rw [h.rest]

theorem CribWork.gens (h : CribWork s t k rs) : t.gens = s.gens := by rw [h.rest]

theorem CribWork.stook (h : CribWork s t k rs) (n : Nat) : t.stook n = s.stook n := by rw [h.rest]; rfl

theorem CribWork.store (h : CribWork s t k rs) {a : Nat} {v : List Byte} (ha : a + v.length ≤ 2 ^ 23) (p : Bool) :
    CribWork s (t.store (cribAt k a) v p) k rs := by
  refine h.trans ⟨fun b hb => t.rd_store_out _ _ _ _ ?_, fun q j _ => ?_, ?_⟩
  · unfold cribAt at hb ⊢
    omega
  · unfold State.store
    split <;> rfl
  · unfold State.store
    split <;> rfl

theorem CribWork.bankRead (h : CribWork s t k rs) (hr : Reg.stkBankStatus ∈ rs) (a n : Nat) (who : Who) :
    CribWork s (t.bankRead k a n who).2 k rs := by
  unfold State.bankRead
  split
  · unfold State.eccSeen
    rw [State.raise_eq]
    exact (h.setFld hr _ _).ite h _
  · exact h.setFld hr _ _

theorem CribWork.bankWrite (h : CribWork s t k rs) (hr : Reg.stkBankStatus ∈ rs) {a : Nat} {v : List (Option Byte)}
    (ha : a + v.length ≤ 2 ^ 23) (who : Who) (p : Bool) : CribWork s (t.bankWrite k a who v p) k rs := by
  unfold State.bankWrite
  exact (h.store (by simpa [State.masked] using ha) p).ite (h.setFld hr _ _) _

/-- The row pieces of a region lie inside it. -/
theorem mem_rowPieces {a n : Nat} {p : Nat × Nat} (h : p ∈ rowPieces a n) : a ≤ p.1 ∧ p.1 + p.2 ≤ a + n := by
  simp only [rowPieces, List.mem_filterMap, Option.ite_none_right_eq_some, Option.some.injEq] at h
  obtain ⟨i, -, hlt, rfl⟩ := h
  dsimp only
  omega

theorem CribWork.regionRead (h : CribWork s t k rs) (hr : Reg.stkBankStatus ∈ rs) (c a n : Nat) :
    CribWork s (t.regionRead k c a n).2 k rs :=
  List.foldlRecOn (motive := fun r : Bool × State => CribWork s r.2 k rs) _ _ h fun _ hu _ _ => hu.bankRead hr _ _ _

theorem CribWork.regionWrite (h : CribWork s t k rs) (hr : Reg.stkBankStatus ∈ rs) {a : Nat} {v : List Byte} (ha : a + v.length ≤ 2 ^ 23)
    (c : Nat) (p : Bool) : CribWork s (t.regionWrite k c a v p) k rs := by
  refine List.foldlRecOn (motive := fun u => CribWork s u k rs) _ _ h fun u hu q hq => hu.bankWrite hr ?_ _ _
  have hin := mem_rowPieces hq
  simp only [List.length_map, List.length_take]
  omega

end

end Sys2Proof.Machine
end

section
/-!
PROOF. Harrow kernels (R169–R185): what a kernel of a formed descriptor changes, and when GEMM and GEMV run one.
-/
namespace Sys2Proof.Machine

/-! ## What a kernel writes -/

theorem le_mul_ceilDiv {n d : Nat} (hd : 0 < d) : n ≤ d * ceilDiv n d := by
  unfold ceilDiv
  rw [if_neg hd.ne']
  have := Nat.div_add_mod (n + d - 1) d
  have := Nat.mod_lt (n + d - 1) hd
  omega

theorem leBytes_length (n v : Nat) : (leBytes n v).length = n := by
  induction n generalizing v with
  | zero => rfl
  | succ n ih => simp [leBytes, ih]

/-- A packed row of at most `n` codes fits the bytes from one row to the next (R173). -/
theorem packRow_length_le (f : Nat) {l : List Nat} {n : Nat} (h : l.length ≤ n) : (packRow f l).length ≤ rowBytes f n := by
  have hbits : l.length * fmtBits f ≤ n * fmtBits f := Nat.mul_le_mul_right _ h
  have hrow := le_mul_ceilDiv (n := n * fmtBits f) (d := 256) (by omega)
  simp only [packRow, leBytes_length, rowBytes]
  rw [ceilDiv, if_neg (by omega)]
  omega

/-- Row `m` of `b` rows of `n` bytes each lies inside the array. -/
theorem row_fits {a m b n : Nat} (hm : m < b) (h : a + b * n ≤ 2 ^ 23) : a + m * n + n ≤ 2 ^ 23 := by
  have : (m + 1) * n ≤ b * n := Nat.mul_le_mul_right _ hm
  rw [Nat.add_mul] at this
  omega

/-- The arrays that a formed descriptor has a kernel write lie inside the crib (R184). -/
theorem Kernel.writes_fit {q : Kernel} {op : Nat} (h : q.formed op = true) : ∀ a ∈ q.writes, a.1 + a.2 ≤ 2 ^ 23 := by
  intro a ha
  simp only [Kernel.formed, Bool.and_eq_true, List.all_eq_true, decide_eq_true_eq] at h
  obtain ⟨-, arrays⟩ := h
  exact (arrays a (List.mem_append_right _ ha)).2

section
variable {q : Kernel} {op : Nat} (hq : q.formed op = true)
include hq

theorem Kernel.out_fits_of_coef (h : q.ofmt = 10) : q.outAt + 16 * q.m * q.n ≤ 2 ^ 23 := by
  simpa [h] using q.writes_fit hq (q.outAt, 16 * q.m * q.n) (by simp [Kernel.writes, h])

theorem Kernel.out_fits (h : q.ofmt ≠ 10) : q.outAt + q.m * rowBytes q.ofmt q.n ≤ 2 ^ 23 :=
  q.writes_fit hq (q.outAt, q.m * rowBytes q.ofmt q.n) (by simp [Kernel.writes, h])

theorem Kernel.outScale_fits (h : (q.oexpAuto && fmtInt q.ofmt) = true) : q.outScaleAt + q.m * ceilDiv q.n 32 ≤ 2 ^ 23 :=
  q.writes_fit hq (q.outScaleAt, q.m * ceilDiv q.n 32) (by simp [Kernel.writes, h])

/-- A row of at most N outputs is written inside the arrays of the descriptor (R173, R183, R198). -/
theorem CribWork.writeRow {s t : State} {k : Nat} {rs : List Reg} (h : CribWork s t k rs) (hr : Reg.stkBankStatus ∈ rs) (c : Nat)
    (rd : Nat → Nat) {m : Nat} (hm : m < q.m) {ys : List Nat} (hys : ys.length ≤ q.n) (p : Bool) :
    CribWork s (t.writeRow k c q rd m ys p).2 k rs := by
  unfold State.writeRow
  split
  · next coef =>
    refine List.foldlRecOn (motive := fun u => CribWork s u k rs) _ _ h fun u hu y hy => hu.regionWrite hr ?_ _ _
    have hcol : y.2 < q.n := (List.snd_lt_of_mem_zipIdx hy).trans_le (by omega)
    have hrow := row_fits (a := q.outAt) (m := m * q.n + y.2) (b := q.m * q.n) (n := 16) (by nlinarith)
      (by have := q.out_fits_of_coef hq coef; rw [Nat.mul_assoc] at this; omega)
    rw [leBytes_length]
    omega
  · next plain =>
    have codes : ∀ l : List Nat, l.length = ys.length →
        CribWork s (t.regionWrite k c (q.outAt + m * rowBytes q.ofmt q.n) (packRow q.ofmt l) p) k rs := fun l hl =>
      h.regionWrite hr ((Nat.add_le_add_left (packRow_length_le _ (hl ▸ hys)) _).trans (row_fits hm (q.out_fits hq plain))) _ _
    dsimp only
    split
    · next auto =>
      refine (codes _ (by simp)).regionWrite hr ?_ _ _
      simpa using row_fits hm (q.outScale_fits hq auto)
    · exact codes _ (by simp)

/-! ## A kernel -/

/-- The registers that a kernel changes beside HRW_KERNELS. -/
def kernelRegs : List Reg := [.stkBankStatus, .hrwStatus, .hrwSatCount, .hrwRange]

/-- A kernel works on its crib and its tile's status, and is then counted. -/
theorem State.kernel_eq_bump (s : State) (k c : Nat) :
    ∃ t, CribWork s t k kernelRegs ∧ s.kernel k c q = t.bump F.hrwKernelsDone k 1 := by
  have bank : Reg.stkBankStatus ∈ kernelRegs := by decide
  unfold State.kernel
  extract_lets rd seen first again accExp last out wide w s1 asat s2 s3 s4 s5
  have hseen : CribWork s seen.2 k kernelRegs :=
    List.foldlRecOn (motive := fun r : Bool × State => CribWork s r.2 k kernelRegs) _ _ (.refl s k _) fun r hu a _ => hu.regionRead bank _ _ _
  have hrows : CribWork s w.2 k kernelRegs := by
    refine List.foldlRecOn (motive := fun r : Nat × State => CribWork s r.2 k kernelRegs) _ _ hseen fun r hu m hm => ?_
    refine hu.writeRow hq bank _ _ (List.mem_range.mp hm) ?_ _
    simp only [List.length_map, List.length_take]
    omega
  have h2 : CribWork s s2 k kernelRegs := (hrows.setFld (f := F.hrwStatusPoison) (by decide) _ _).ite hrows _
  have h3 : CribWork s s3 k kernelRegs :=
    h2.ite ((h2.setFld (f := F.hrwStatusOsat) (by decide) _ _).setFld (f := F.hrwSatCountOsatN) (by decide) _ _) _
  have h4 : CribWork s s4 k kernelRegs :=
    h3.ite ((h3.setFld (f := F.hrwStatusAsat) (by decide) _ _).setFld (f := F.hrwSatCountAsatN) (by decide) _ _) _
  have h5 : CribWork s s5 k kernelRegs := (h4.setFld (f := F.hrwRangeOvfKernels) (by decide) _ _).ite h4 _
  exact ⟨_, h5.setFld (f := F.hrwRangePeak) (by decide) _ _, rfl⟩

/-- A kernel of a formed descriptor changes the bytes of its crib, poison tags and registers, and nothing else. -/
theorem State.kernel_cribWork (s : State) (k c : Nat) : CribWork s (s.kernel k c q) k (.hrwKernels :: kernelRegs) := by
  obtain ⟨t, ht, e⟩ := s.kernel_eq_bump hq k c
  rw [e, State.bump_eq]
  exact (ht.mono fun _ => List.mem_cons_of_mem _).setFld List.mem_cons_self _ _

/-- A kernel is counted, up to the largest value of the counter. -/
theorem State.kernel_done (s : State) (k c : Nat) :
    (s.kernel k c q).fld F.hrwKernelsDone k = min (s.fld F.hrwKernelsDone k + 1) (2 ^ 32 - 1) := by
  obtain ⟨t, ht, e⟩ := s.kernel_eq_bump hq k c
  rw [e, State.bump_eq, State.fld_setFld_same _ _ _ _ (by decide), ht.fld (by decide)]
  exact Nat.mod_eq_of_lt (by simp only; omega)

end

/-! ## The running entry of a kernel -/

theorem State.running_modRunning (s : State) (k station payload : Nat) (f : Running → Running) :
    ((s.modRunning k station payload f).stook k).running = (s.stook k).running.map fun r =>
      if r.station = station ∧ (s.entry k r.addr).payload = payload then f r else r := by
  unfold State.modRunning State.stook State.setStook
  rw [sget_sput_same]

section
variable (s : State) (k c payload : Nat) (q : Kernel)

@[simp] theorem State.timeKernel_ctxs : (s.timeKernel k c payload q).ctxs = s.ctxs := rfl
@[simp] theorem State.timeKernel_lanes : (s.timeKernel k c payload q).lanes = s.lanes := rfl
@[simp] theorem State.timeKernel_gens : (s.timeKernel k c payload q).gens = s.gens := rfl
@[simp] theorem State.timeKernel_get_rd (a : Nat) : (s.timeKernel k c payload q).rd a = s.rd a := rfl
@[simp] theorem State.timeKernel_get_fld (f : Fld) (i : Nat) : (s.timeKernel k c payload q).fld f i = s.fld f i := rfl

end

/-- The kernel's entry ends as the state before its leave says: leave moves no time, memory or owner. -/
theorem LeaveTaken.running_timeKernel {s t : State} (h : LeaveTaken s t) (k c payload : Nat) (q : Kernel) :
    ((t.timeKernel k c payload q).stook k).running = (s.stook k).running.map fun r =>
      if r.station = 2 ∧ (s.entry k r.addr).payload = payload then
        { r with begun := some (s.logical c), finishes := some (s.logical c + q.time)
                 second := if q.secondPass (s.unitByte k c) then some (s.logical c + q.passTime) else none } else r := by
  unfold State.timeKernel
  rw [State.running_modRunning]
  simp only [h.stook, h.entry, h.logical, h.unitByte]

/-! ## When a kernel runs (R10, R39, R169, R170) -/

section
variable {s : State} {st : StookId} {desc : CribAddr} {c : Nat}

theorem State.harrow_of_not_accepted (op : Nat) (h : s.actor st.ix desc.toNat = none ∨ s.flag F.hrwCtrlEn st.ix = false) :
    s.harrow st desc op = .next s := by
  unfold State.harrow
  dsimp only
  split
  · rfl
  · next c hc =>
    have off : s.flag F.hrwCtrlEn st.ix = false := h.resolve_left (by simp [hc])
    rw [if_pos (by simp [off])]

theorem State.harrow_of_stopped (op : Nat)
    (h : s.issues c st.ix = false ∨ (s.runningOf st.ix 2 desc.toNat).any (·.finishes.isSome) = true)
    (hc : s.actor st.ix desc.toNat = some c) : s.harrow st desc op = .next s := by
  unfold State.harrow
  dsimp only
  rw [hc]
  exact if_pos (by rcases h with h | h <;> simp [h])

variable {op : Nat} (hc : s.actor st.ix desc.toNat = some c) (hen : s.flag F.hrwCtrlEn st.ix = true) (hi : s.issues c st.ix = true)
  (hf : (s.runningOf st.ix 2 desc.toNat).any (·.finishes.isSome) = false)
include hc hen hi hf

theorem State.harrow_of_malformed (hq : (parseKernel (s.rdN (cribAt st.ix desc.toNat) 64)).formed op = false) :
    s.harrow st desc op = .next ((s.anything c).modRunning st.ix 2 desc.toNat fun r => { r with finishes := some (s.logical c) }) := by
  unfold State.harrow
  dsimp only
  rw [hc]
  dsimp only
  rw [if_neg (by simp [hen, hi, hf]), if_pos (by simp [hq])]

theorem State.harrow_of_formed {q : Kernel} (e : q = parseKernel (s.rdN (cribAt st.ix desc.toNat) 64)) (hq : q.formed op = true) :
    s.harrow st desc op = .next (s.withLeaves c [⟨st.ix / 17, s.unitOf st.ix 8, harrowLeave q.factor, q.time⟩] fun s =>
      (s.timeKernel st.ix c desc.toNat q).kernel st.ix c q) := by
  subst e
  unfold State.harrow
  dsimp only
  rw [hc]
  dsimp only
  rw [if_neg (by simp [hen, hi, hf]), if_neg (by simp [hq])]
  rfl

end

theorem exec_kernel {x : (StookId → CribAddr → Instr) × Nat} (hx : x ∈ [((.gemm : StookId → CribAddr → Instr), 1), (.gemv, 2)])
    (st : StookId) (desc : CribAddr) (s : State) : exec (x.1 st desc) s = s.harrow st desc x.2 := by
  simp only [List.mem_cons, List.not_mem_nil, or_false] at hx
  rcases hx with rfl | rfl <;> rfl

/-- Settles O57: a kernel with its leave works on its crib alone and is counted, and one that does not run changes nothing of others. -/
theorem kernels : Obligations.Kernels := by
  rintro x hx st desc s q k rfl e
  simp only [Completes, exec_kernel hx]
  refine ⟨s.harrow_of_not_accepted x.2, fun c hc hen => ⟨fun h => State.harrow_of_stopped x.2 h hc, fun hi hf => ⟨fun hq => ?_, ?_⟩⟩⟩
  · exact ⟨_, State.harrow_of_malformed hc hen hi hf (e ▸ hq), (s.erred_anything c).modRunning _ _ _ _⟩
  · rintro hq n rfl
    rw [State.harrow_of_formed hc hen hi hf e hq]
    refine ⟨fun u hu => by rw [State.withLeaves_of_sends hu], fun u hu => ?_⟩
    have leave : LeaveTaken s u := State.begins_leaveTaken hu
    have work := (u.timeKernel st.ix c desc.toNat q).kernel_cribWork hq st.ix c
    refine ⟨_, by rw [State.withLeaves_of_begins hu], ?done, fun b hb => ?bytes, ?ctxs, ?lanes, ?gens, ?running⟩
    case done => rw [State.kernel_done hq, State.timeKernel_get_fld, leave.fld (by decide)]
    case bytes => rw [work.bytes b hb, State.timeKernel_get_rd, leave.rd]
    case ctxs => rw [work.ctxs, State.timeKernel_ctxs, leave.ctxs]
    case lanes => rw [work.lanes, State.timeKernel_lanes, leave.lanes]
    case gens => rw [work.gens, State.timeKernel_gens, leave.gens]
    case running => rw [work.stook, leave.running_timeKernel]

end Sys2Proof.Machine
end

section
/-!
PROOF. Traffic on the cartway (R288–R298) moves packets and their counts, and nothing else.
-/
namespace Sys2Proof.Machine

/-- Nothing but the packets on the cartway, the counts of its outputs and the cycle up to which they have granted has changed. -/
def OnlyCarts (s t : State) : Prop := t = { s with outs := t.outs, carts := t.carts, cartAt := t.cartAt }

theorem OnlyCarts.refl (s : State) : OnlyCarts s s := rfl

theorem OnlyCarts.trans {s t u : State} (h : OnlyCarts s t) (g : OnlyCarts t u) : OnlyCarts s u := by
  unfold OnlyCarts at h g
  rw [h] at g
  exact g

theorem OnlyCarts.setOut {s t : State} (h : OnlyCarts s t) (o : Nat) (x : CartOut) : OnlyCarts s (t.setOut o x) := h.trans rfl

theorem OnlyCarts.setCarts {s t : State} (h : OnlyCarts s t) (l : List Cart) : OnlyCarts s { t with carts := l } := h.trans rfl

theorem OnlyCarts.foldl {α : Type} {s t : State} (h : OnlyCarts s t) (l : List α) {f : State → α → State}
    (hf : ∀ u x, OnlyCarts u (f u x)) : OnlyCarts s (l.foldl f t) :=
  List.foldlRecOn l f h fun u hu x _ => hu.trans (hf u x)

theorem State.outCycle_onlyCarts (s : State) (t o : Nat) : OnlyCarts s (s.outCycle t o) := by
  unfold State.outCycle
  dsimp only
  split
  · exact .setOut (.refl s) _ _
  · split
    · exact .setOut (.setOut (.refl s) _ _) _ _
    · exact .setOut (.refl s) _ _

theorem State.enterCarts_onlyCarts (s : State) : OnlyCarts s s.enterCarts := by
  unfold State.enterCarts
  refine .foldl (.setCarts (.refl s) _) _ fun u p => ?_
  split
  · split
    · exact .setOut (.refl u) _ _
    · exact .setCarts (.refl u) _
  · exact .refl u

theorem State.cartCycles_onlyCarts (s : State) (n : Nat) : OnlyCarts s (s.cartCycles n) := by
  induction n generalizing s with
  | zero => exact .refl s
  | succ n ih =>
    unfold State.cartCycles
    split
    · exact .refl s
    · have granted : OnlyCarts s ((keysWhere s.outs fun x => !x.waits.isEmpty).foldl (fun t o => t.outCycle s.cartAt o) s) :=
        .foldl (.refl s) _ fun u o => u.outCycle_onlyCarts _ o
      have entered := granted.trans (State.enterCarts_onlyCarts _)
      have counted : OnlyCarts _ { State.enterCarts _ with cartAt := s.cartAt + 1 } := entered.trans rfl
      exact counted.trans (ih _)

theorem State.cartTo_onlyCarts (s : State) (t : Nat) : OnlyCarts s (s.cartTo t) :=
  (s.cartCycles_onlyCarts _).trans rfl

theorem State.cart_onlyCarts (s : State) (ctx : Option Nat) (channel n : Nat) (a b : Spot) : OnlyCarts s (s.cart ctx channel n a b) := by
  unfold State.cart
  dsimp only
  split
  · exact .foldl (.refl s) _ fun u o => .setOut (.refl u) _ _
  · split
    · exact s.cartTo_onlyCarts _
    · exact ((s.cartTo_onlyCarts _).setCarts _).trans (State.enterCarts_onlyCarts _)

/-- Traffic between two stooks changes nothing but the cartway. -/
theorem State.cartStooks_onlyCarts (s : State) (c channel bytes k n : Nat) : OnlyCarts s (s.cartStooks c channel bytes k n) := by
  unfold State.cartStooks
  split
  · exact .refl s
  · exact s.cart_onlyCarts _ _ _ _ _

end Sys2Proof.Machine
end

section
/-!
PROOF. What arrives in the exchange window (R118, R120, R129, R132, R215): tiles, notices, votes and the hold of a late tile.
-/
namespace Sys2Proof.Machine

/-! ## Arrivals in the delta bank -/

/-- Bytes staged in the delta bank of an engine, whose exchange unit then stands at `g`; or dropped by the owner check (R215). -/
def State.takeBytes (s : State) (n c off : Nat) (v : List Byte) (g : Engine) : State :=
  if s.exchangePass n c then (s.store (cribAt (n / 8) (s.deltaAddr n off)) v false).setEngine n g
  else s.deny (n / 8) (s.fld F.stkExchCfgDeltaBank n)

theorem State.takeTile_eq (s : State) (n c : Nat) (p : TilePlace) (tile : List Word) :
    s.takeTile n c p tile = s.takeBytes n c p.stage (slotBytes tile) { s.engine n with tiles := (s.engine n).tiles ++ [tile] } := rfl

theorem State.takeNotice_eq (s : State) (n c : Nat) (p : TilePlace) (words : List (BitVec 16)) :
    s.takeNotice n c p words = s.takeBytes n c p.note (words.flatMap fun w => leBytes 2 w.toNat)
      { s.engine n with notices := (s.engine n).notices ++ [(p.src / 8192, p.src % 8192, words)] } := rfl

/-- The receive cycles of an engine's exchange unit are used up to a cycle-in-tick (R212). -/
def State.endReceive (s : State) (n a : Nat) : State := s.setEngine n { s.engine n with received := 1024 * s.tick + a + 1 }

theorem State.engine_setEngine_same (s : State) (n : Nat) (g : Engine) : (s.setEngine n g).engine n = g := sget_sput_same _ _ _ _

theorem State.store_keeps (s : State) (a : Nat) (v : List Byte) (p : Bool) :
    s.store a v p = { s with mem := (s.store a v p).mem, poison := (s.store a v p).poison } := by
  unfold State.store
  split <;> rfl

section
variable {s t : State} {n c off a : Nat} {v : List Byte} {g : Engine} (h : OnlyCarts s t)
include h

theorem OnlyCarts.exchangePass (n c : Nat) : t.exchangePass n c = s.exchangePass n c := by
  rw [h]
  rfl

theorem OnlyCarts.engine (n : Nat) : t.engine n = s.engine n := by
  rw [h]
  rfl

/-- Bytes that pass the owner check are staged, and nothing else in memory or in a register changes. -/
theorem OnlyCarts.takeBytes_of_pass (hp : s.exchangePass n c = true) :
    ∃ u, u = ((t.upTo a).takeBytes n c off v g).endReceive n a ∧ u.cyc = max s.cyc a ∧ (u.engine n).tiles = g.tiles ∧
      (u.engine n).notices = g.notices ∧ u.regs = s.regs ∧ Wrote s u (cribAt (n / 8) (s.deltaAddr n off)) v := by
  have pass : (t.upTo a).exchangePass n c = true := (h.exchangePass n c).trans hp
  have place : (t.upTo a).deltaAddr n off = s.deltaAddr n off := by rw [h]; rfl
  have rd : ∀ b, (t.upTo a).rd b = s.rd b := fun b => by rw [h]; rfl
  refine ⟨_, rfl, ?_⟩
  rw [State.takeBytes, if_pos pass, place, State.endReceive, State.engine_setEngine_same, State.engine_setEngine_same]
  refine ⟨?cyc, rfl, rfl, ?regs, State.rdN_store (t.upTo a) _ v false, fun b hb => ?bytes⟩
  case cyc =>
    rw [State.store_keeps, h]
    rfl
  case regs =>
    rw [State.store_keeps, h]
    rfl
  case bytes => exact ((t.upTo a).rd_store_out _ v false b hb).trans (rd b)

/-- Bytes that the owner check drops change no memory, and set DENIED of the bank (R215). -/
theorem OnlyCarts.takeBytes_of_denied (hp : s.exchangePass n c = false) :
    ∃ u, u = ((t.upTo a).takeBytes n c off v g).endReceive n a ∧ SameMemory s u ∧ (u.engine n).tiles = (s.engine n).tiles ∧
      (u.engine n).notices = (s.engine n).notices ∧
      u.flag F.stkBankStatusDenied (bankIx (n / 8) (s.fld F.stkExchCfgDeltaBank n)) = true := by
  have denied : (t.upTo a).exchangePass n c = false := (h.exchangePass n c).trans hp
  have bank : (t.upTo a).fld F.stkExchCfgDeltaBank n = s.fld F.stkExchCfgDeltaBank n := by rw [h]; rfl
  have engine : ((t.upTo a).deny (n / 8) (s.fld F.stkExchCfgDeltaBank n)).engine n = s.engine n := h.engine n
  refine ⟨_, rfl, ?_⟩
  rw [State.takeBytes, if_neg (by rw [denied]; exact Bool.false_ne_true), bank, State.endReceive, State.engine_setEngine_same, engine]
  refine ⟨?mem, rfl, rfl, ?flag⟩
  case mem =>
    rw [h]
    exact ⟨rfl, rfl⟩
  case flag =>
    unfold State.deny State.raise
    rw [State.setEngine_get_flag, State.flag, State.fld_setFld_same _ _ _ _ (by decide)]
    rfl

end

/-! ## Tiles and notices -/

/-- A tile that an engine receives goes, by way of the cartway, through the owner check of its delta bank (R118, R212, R215). -/
theorem exec_deltaTileArrival {e : EngineId} {s : State} {slots tile : List Word} {n c a : Nat} {p : TilePlace}
    (hn : s.receiver e.ix (tileSource slots) = some n) (hc : (s.engine n).ctx = some c)
    (hp : s.tilePlace c (tileSource slots) (s.engine n).pos = some p)
    (ht : tile = (s.engineOfPos c p.src).elim slots fun x => s.sentTile x p (s.turn c))
    (ha : a = s.receiveEnd n (ceilDiv tile.length 64)) :
    ∃ t, OnlyCarts s t ∧ exec (.deltaTileArrival e slots) s =
      .next (if 47 < a then s else ((t.upTo a).takeTile n c p tile).endReceive n a) := by
  subst ha
  have arrives : exec (.deltaTileArrival e slots) s = execDeltaTileArrival e slots s := rfl
  rw [arrives, execDeltaTileArrival, hn]
  dsimp only
  rw [hc]
  dsimp only
  rw [hp]
  dsimp only
  cases hx : s.engineOfPos c p.src with
  | none =>
    rw [hx] at ht
    subst ht
    exact ⟨s, .refl s, rfl⟩
  | some x =>
    rw [hx] at ht
    subst ht
    exact ⟨_, s.cartStooks_onlyCarts _ _ _ _ _, rfl⟩

theorem exec_deltaTileArrival_of_none {e : EngineId} {s : State} {slots : List Word} (hn : s.receiver e.ix (tileSource slots) = none) :
    exec (.deltaTileArrival e slots) s = .next s := by
  have arrives : exec (.deltaTileArrival e slots) s = execDeltaTileArrival e slots s := rfl
  rw [arrives, execDeltaTileArrival, hn]

/-- A notice that comes in its window goes, by way of the cartway, through the owner check of the delta bank (R129, R212, R215). -/
theorem exec_rollbackNoticeArrival {e : EngineId} {s : State} {rank : Fin 64} {block : Fin 8192} {words sent : List (BitVec 16)} {n c a : Nat}
    {p : TilePlace} (hn : n = s.noticeTaker e.ix (8192 * rank.val + block.val)) (hc : (s.engine n).ctx = some c)
    (hp : s.tilePlace c (8192 * rank.val + block.val) (s.engine n).pos = some p)
    (ht : sent = (s.engineOfPos c p.src).elim (words.take 256) s.noticeOf) (ha : a = (s.upTo 48).receiveEnd n 1) :
    ∃ t, OnlyCarts s t ∧ exec (.rollbackNoticeArrival e rank block words) s =
      .next (if s.cyc ≤ 59 then if 59 < a ∨ sent.isEmpty then s else ((t.upTo a).takeNotice n c p sent).endReceive n a else s) := by
  subst ha hn
  have arrives : exec (.rollbackNoticeArrival e rank block words) s = execRollbackNoticeArrival e rank block words s := rfl
  rw [arrives, execRollbackNoticeArrival]
  dsimp only
  rw [hc]
  dsimp only
  rw [hp]
  dsimp only
  unfold State.within
  cases hx : s.engineOfPos c p.src with
  | none =>
    rw [hx] at ht
    subst ht
    exact ⟨s, .refl s, rfl⟩
  | some x =>
    rw [hx] at ht
    subst ht
    exact ⟨_, s.cartStooks_onlyCarts _ _ _ _ _, rfl⟩

/-! ## Votes and the hold of a late tile -/

theorem State.launch_modLaunch_same {s : State} {c : Nat} {l : Launch} (h : s.launch c = some l) (f : Launch → Launch) :
    (s.modLaunch c f).launch c = some (f l) := by
  have held : (s.ctx c).launch = some l := h
  unfold State.modLaunch
  rw [held]
  exact congrArg Ctx.launch (sget_sput_same _ _ _ _)

theorem Launch.hold_tau (l : Launch) (h : Hold) (a : Nat) : (l.hold h a).tau = l.tau := by
  unfold Launch.hold
  split
  · rfl
  · split <;> rfl

theorem Launch.hold_of_free {l : Launch} (hp : l.phase = .none) (h : Hold) (a : Nat) :
    l.hold h a = { l with holds := [h], holdAt := a, phase := .begins } := if_pos hp

theorem Launch.hold_again {l : Launch} (hp : l.phase = .ends) (ha : l.again = none) (h : Hold) (a : Nat) :
    l.hold h a = { l with holds := [h], again := some a } := by
  unfold Launch.hold
  rw [if_neg (by rw [hp]; decide), if_pos ⟨hp, ha⟩]

section
variable {s : State} {c : Nat}

theorem exec_voteCast {e : EngineId} (hc : (s.engine e.ix).ctx = some c) :
    exec (.voteCast e) s = .next (if s.cyc ≤ 23 then if (s.upTo 16).moving c && s.voting c then
      (s.upTo 16).setEngine e.ix { s.engine e.ix with voted := true } else s else s) := by
  have casts : exec (.voteCast e) s = execVoteCast e s := rfl
  rw [casts, execVoteCast, hc]
  rfl

theorem exec_voteResult (k : CtxId) :
    exec (.voteResult k) s = .next (if s.cyc ≤ 63 then if (s.upTo 56).moving k.val && s.voting k.val then
      (s.upTo 56).modLaunch k.val fun l => { l with vote := some ((s.enginesOf k.val).all fun e => (s.engine e).voted) } else s else s) := rfl

theorem exec_tileLateHold (k : CtxId) :
    exec (.tileLateHold k) s = .next (if s.cyc ≤ 47 then
      if (s.upTo 47).moving k.val && (s.enginesOf k.val).any fun e => !s.tilesIn k.val e then
        (s.upTo 47).modLaunch k.val (·.hold .tile 48) else s else s) := rfl

end

/-- Settles O43: what arrives passes the owner check into the delta bank or is dropped, votes count when all are there, and a missing tile
holds the launch at cycle 48. -/
theorem window : Obligations.Window := by
  intro e s c
  refine ⟨?tile, fun slots => exec_deltaTileArrival_of_none, ?notice, ?cast, ?noCast, ?result, ?late⟩
  case tile =>
    intro slots n p tile a hn hc hp ht ha
    replace ht : tile = (s.engineOfPos c p.src).elim slots fun x => s.sentTile x p (s.turn c) := by
      rw [ht]
      cases s.engineOfPos c p.src <;> rfl
    obtain ⟨t, carts, run⟩ := exec_deltaTileArrival hn hc hp ht ha
    unfold Completes
    rw [run, State.takeTile_eq]
    refine ⟨fun late => by rw [if_pos late], fun inTime pass => ?_, fun inTime denied => ?_⟩
    · obtain ⟨u, hu, cyc, tiles, -, regs, wrote⟩ := carts.takeBytes_of_pass pass
      refine ⟨u, by rw [if_neg (by omega), hu], cyc, tiles.trans ?_, regs, wrote⟩
      rw [State.upTo_get_engine, carts.engine]
    · obtain ⟨u, hu, mem, tiles, -, flag⟩ := carts.takeBytes_of_denied denied
      exact ⟨u, by rw [if_neg (by omega), hu], mem, tiles, flag⟩
  case notice =>
    intro rank block words n p sent a hn hc hp ht ha
    replace ht : sent = (s.engineOfPos c p.src).elim (words.take 256) s.noticeOf := by
      rw [ht]
      cases s.engineOfPos c p.src <;> rfl
    obtain ⟨t, carts, run⟩ := exec_rollbackNoticeArrival hn hc hp ht ha
    unfold Completes
    rw [run, State.takeNotice_eq]
    refine ⟨fun idle => ?_, fun early inTime sends pass => ?_, fun early inTime sends denied => ?_⟩
    · split
      · next early =>
        have nothing : 59 < a ∨ sent.isEmpty = true := by simpa using idle.resolve_left (by omega)
        rw [if_pos nothing]
      · rfl
    · obtain ⟨u, hu, cyc, -, notices, regs, wrote⟩ := carts.takeBytes_of_pass pass
      refine ⟨u, by rw [if_pos early, if_neg (by simp [sends]; omega), hu], cyc, notices.trans ?_, regs, wrote⟩
      rw [State.upTo_get_engine, carts.engine]
    · obtain ⟨u, hu, mem, -, notices, flag⟩ := carts.takeBytes_of_denied denied
      exact ⟨u, by rw [if_pos early, if_neg (by simp [sends]; omega), hu], mem, notices, flag⟩
  case cast =>
    intro hc early moves votes
    refine ⟨_, by rw [Completes, exec_voteCast hc, if_pos early, if_pos (by simp [moves, votes])], ?_, rfl⟩
    rw [State.engine_setEngine_same]
  case noCast =>
    intro hc idle
    rw [Completes, exec_voteCast hc]
    rcases idle with late | still | unasked
    · rw [if_neg (by omega)]
    · simp [still]
    · simp [unasked]
  case result =>
    intro k l hl early moves votes
    refine ⟨_, _, by rw [Completes, exec_voteResult, if_pos early, if_pos (by simp [moves, votes])],
      State.launch_modLaunch_same (s := s.upTo 56) hl _, rfl, ?_, ?_⟩
    · simp
    · simp
  case late =>
    intro k l hl early moves
    refine ⟨fun ⟨x, hx, missing⟩ => ⟨_, l.hold .tile 48, ?_, State.launch_modLaunch_same (s := s.upTo 47) hl (·.hold .tile 48),
      l.hold_tau _ _, fun free => ?_, fun ends again => ?_⟩, fun whole => ?_⟩
    · have lacking : ((s.enginesOf k.val).any fun e => !s.tilesIn k.val e) = true := List.any_eq_true.mpr ⟨x, hx, by simp [missing]⟩
      rw [Completes, exec_tileLateHold, if_pos early, if_pos (by simp [moves, lacking])]
    · rw [Launch.hold_of_free free]
      exact ⟨rfl, rfl, rfl⟩
    · rw [Launch.hold_again ends again]
      exact ⟨rfl, rfl⟩
    · have none_lacking : ((s.enginesOf k.val).any fun e => !s.tilesIn k.val e) = false := by simpa using whole
      rw [Completes, exec_tileLateHold, none_lacking, Bool.and_false]
      simp

end Sys2Proof.Machine
end

section
/-!
PROOF. The resolution point outside verdicts, patches and digests (R119, R122, R123, R135), and the overlay written back (R132).
-/
namespace Sys2Proof.Machine

theorem State.modLaunch_keeps (s : State) (c : Nat) (f : Launch → Launch) : s.modLaunch c f = { s with ctxs := (s.modLaunch c f).ctxs } := by
  unfold State.modLaunch
  split <;> rfl

theorem State.lane_setLane_same (s : State) (n : Nat) (x : LaneState) : (s.setLane n x).lane n = x := sget_sput_same _ _ _ _

/-- Setting a field leaves the fields of every other register alone. -/
theorem State.fld_setFld_ne (s : State) {f g : Fld} (h : g.reg ≠ f.reg) (i j v : Nat) : (s.setFld f i v).fld g j = s.fld g j := by
  unfold State.fld
  rw [State.reg_setFld_ne _ _ h]

/-! ## Work on a lane's fields and energies -/

/-- What corrections of lane `n` may change: fields of lanes, for lane `n` nothing beside, the registers in the list, and the reports. -/
structure LaneWork (s t : State) (n : Nat) (rs : List Reg) : Prop where
  lane : t.lane n = { s.lane n with field := (t.lane n).field }
  regs : ∀ q j, q ∉ rs → t.reg q j = s.reg q j
  rest : t = { s with lanes := t.lanes, regs := t.regs, reports := t.reports }

theorem LaneWork.refl (s : State) (n : Nat) (rs : List Reg) : LaneWork s s n rs := ⟨rfl, fun _ _ _ => rfl, rfl⟩

section
variable {s t : State} {n : Nat} {rs : List Reg}

theorem LaneWork.trans {u : State} (h : LaneWork s t n rs) (g : LaneWork t u n rs) : LaneWork s u n rs where
  lane := by
    have e := g.lane
    rw [h.lane] at e
    exact e
  regs q j hq := (g.regs q j hq).trans (h.regs q j hq)
  rest := by
    have e := g.rest
    rw [h.rest] at e
    exact e

theorem LaneWork.setFld (h : LaneWork s t n rs) {f : Fld} (hf : f.reg ∈ rs) (i v : Nat) : LaneWork s (t.setFld f i v) n rs :=
  h.trans ⟨rfl, fun _ _ hq => t.reg_setFld_ne _ fun e => hq (e ▸ hf), rfl⟩

theorem LaneWork.report (h : LaneWork s t n rs) (code stook unit index row : Nat) (ctx : Option Nat) :
    LaneWork s (t.report code stook unit index row ctx) n rs := h.trans ⟨rfl, fun _ _ _ => rfl, rfl⟩

theorem LaneWork.setField (h : LaneWork s t n rs) (f : Sparse (BitVec 20)) : LaneWork s (t.setLane n { t.lane n with field := f }) n rs :=
  h.trans ⟨by rw [State.lane_setLane_same], fun _ _ _ => rfl, rfl⟩

theorem LaneWork.ite (h : LaneWork s t n rs) {u : State} (g : LaneWork s u n rs) (p : Prop) [Decidable p] :
    LaneWork s (if p then t else u) n rs := by
  split <;> assumption

theorem LaneWork.fld (h : LaneWork s t n rs) {f : Fld} (hf : f.reg ∉ rs) (i : Nat) : t.fld f i = s.fld f i := by
  unfold State.fld
  rw [h.regs _ _ hf]

theorem LaneWork.cyc (h : LaneWork s t n rs) : t.cyc = s.cyc := by rw [h.rest]

theorem LaneWork.sameMemory (h : LaneWork s t n rs) : SameMemory s t := by
  rw [h.rest]
  exact ⟨rfl, rfl⟩

theorem LaneWork.engine (h : LaneWork s t n rs) (e : Nat) : t.engine e = s.engine e := by rw [h.rest]; rfl

theorem LaneWork.launch (h : LaneWork s t n rs) (c : Nat) : t.launch c = s.launch c := by rw [h.rest]; rfl

end

/-! ## Fields -/

/-- The registers in which a field update counts and marks a saturation (R80). -/
def fieldRegs : List Reg := [.shfSat, .shfStatus]

section
variable (s : State) (e l plane i : Nat) (d : Int)

theorem State.addField_work {rs : List Reg} (hrs : ∀ q ∈ fieldRegs, q ∈ rs) : LaneWork s (s.addField e l plane i d) (4 * e + l) rs := by
  have sat : ∀ p : Prop, [Decidable p] → (if p then F.shfSatSatP else F.shfSatSatQ).reg ∈ rs := fun p _ => by
    split <;> exact hrs _ (by decide)
  have set := (LaneWork.refl s (4 * e + l) rs).setField
    (sput 0 (s.lane (4 * e + l)).field (1024 * plane + i) (BitVec.ofInt 20 (satField (fieldOf (s.lane (4 * e + l)).field plane i + d)).1))
  unfold State.addField
  exact .ite (.refl s _ _) ((((set.setFld (sat _) _ _).setFld (f := F.shfStatusFsat) (hrs _ (by decide)) _ _).report _ _ _ _ _ _).ite set _) _

/-- A saturated value fits a field of 20 bits. -/
theorem toInt_ofInt_satField (v : Int) : (BitVec.ofInt 20 (satField v).1).toInt = (satField v).1 := by
  rw [BitVec.toInt_ofInt]
  have bound : -524288 ≤ (satField v).1 ∧ (satField v).1 ≤ 524287 := by
    unfold satField
    split
    · decide
    · split
      · decide
      · dsimp only
        omega
  exact Int.bmod_eq_of_le (by omega) (by omega)

/-- The value of a field is within its own range. -/
theorem satField_fieldOf (f : Sparse (BitVec 20)) : (satField (fieldOf f plane i)).1 = fieldOf f plane i := by
  have low : -524288 ≤ fieldOf f plane i := BitVec.le_toInt _
  have high : fieldOf f plane i < 524288 := BitVec.toInt_lt
  unfold satField
  rw [if_neg (by omega), if_neg (by omega)]

/-- A field changed by `d` saturates within its range (R80). -/
theorem State.fieldOf_addField : fieldOf ((s.addField e l plane i d).lane (4 * e + l)).field plane i =
    (satField (fieldOf (s.lane (4 * e + l)).field plane i + d)).1 := by
  unfold State.addField
  split
  · next hd => rw [hd, Int.add_zero, satField_fieldOf]
  · extract_lets n r before t
    have set : fieldOf (t.lane n).field plane i = r.1 := by
      rw [State.lane_setLane_same, fieldOf, sget_sput_same, toInt_ofInt_satField]
    split
    · rw [State.report_eq, State.reportAt_get_lane, State.raise_eq, State.setFld_get_lane, State.bump_eq, State.setFld_get_lane]
      exact set
    · exact set

end

/-- A received record in the field of its target (R119), unless its plane is EMPTY. -/
def State.addRec (s : State) (e l : Nat) (r : InRec) : State :=
  if s.emptyPlane e r.plane then s else s.addField e l r.plane r.target (2 * codeValue r.code * pm r.post)

/-- The received records of a lane in their fields, in order. -/
def State.addRecs (s : State) (e l : Nat) (recs : List InRec) : State := recs.foldl (fun s r => s.addRec e l r) s

theorem State.addRecs_work (s : State) (e l : Nat) (recs : List InRec) {rs : List Reg} (hrs : ∀ q ∈ fieldRegs, q ∈ rs) :
    LaneWork s (s.addRecs e l recs) (4 * e + l) rs :=
  List.foldlRecOn (motive := fun u => LaneWork s u (4 * e + l) rs) _ _ (.refl s _ _) fun u hu _ _ =>
    hu.trans (.ite (.refl u _ _) (u.addField_work _ _ _ _ _ hrs) _)

/-! ## Energies -/

theorem unsign_mod (w : Nat) (v : Int) : unsign w v % 2 ^ w = unsign w v := by
  refine Nat.mod_eq_of_lt ?_
  have positive : (0 : Int) < (2 ^ w : Nat) := by positivity
  have small := Int.emod_lt_of_pos v positive
  have nonneg := Int.emod_nonneg v positive.ne'
  unfold unsign
  omega

section
variable (s : State) (e l n : Nat) (d : Int)

theorem State.addEnergy_work {rs : List Reg} (h1 : Reg.shfEnergy ∈ rs) (h2 : Reg.shfStatus ∈ rs) :
    LaneWork s (s.addEnergy e l d) (4 * e + l) rs := by
  have set : LaneWork s (s.setFld F.shfEnergyEnergy (4 * e + l) (unsign 48 (s.sfld F.shfEnergyEnergy (4 * e + l) + d))) (4 * e + l) rs :=
    (LaneWork.refl s _ _).setFld h1 _ _
  unfold State.addEnergy
  exact ((set.setFld (f := F.shfStatusEsat) h2 _ _).report _ _ _ _ _ _).ite set _

theorem State.addEnergy_lanes : (s.addEnergy e l d).lanes = s.lanes := by
  unfold State.addEnergy
  dsimp only
  split
  · rw [State.report_eq, State.reportAt_lanes, State.raise_eq, State.setFld_lanes, State.setFld_lanes]
  · exact s.setFld_lanes _ _ _

/-- The energy register holds the sum, as far as it is wide (R101). -/
theorem State.energy_addEnergy :
    (s.addEnergy e l d).fld F.shfEnergyEnergy (4 * e + l) = unsign 48 (s.sfld F.shfEnergyEnergy (4 * e + l) + d) := by
  have set := s.fld_setFld_same F.shfEnergyEnergy (4 * e + l) (unsign 48 (s.sfld F.shfEnergyEnergy (4 * e + l) + d)) (by decide)
  rw [unsign_mod] at set
  unfold State.addEnergy
  dsimp only
  split
  · rw [State.report_eq, State.reportAt_get_fld, State.raise_eq, State.fld_setFld_ne _ (by decide)]
    exact set
  · exact set

theorem State.snap_addSnap : (s.addSnap n d).fld F.shfSnapEnergySnap n = unsign 48 (s.sfld F.shfSnapEnergySnap n + d) := by
  unfold State.addSnap
  rw [State.fld_setFld_same _ _ _ _ (by decide), unsign_mod]

end

/-! ## Verdicts and digests that change nothing -/

/-- A round of R128's third case finds nothing in an empty log. -/
theorem spreadGroup_nil (lost : List Nat) : spreadGroup [] lost = [] := rfl

/-- A lane without tentative flips of the last tick loses none (R128). -/
theorem State.losers_of_no_undo (s : State) (e lane : Nat) {ln : LaneState} (h : ln.undoPrev = []) (recs prev : List InRec) :
    s.losers e lane ln recs prev = [] := by
  unfold State.losers
  rw [h]
  exact List.foldlRecOn (motive := fun lost => lost = []) _ _ rfl fun lost _ _ _ => spreadGroup_nil lost

/-- Where no spin is lost nothing is rolled back. -/
theorem State.rollback_nil (s : State) (e l : Nat) (recs : List InRec) : s.rollback e l recs [] = s := rfl

/-- An engine without change items takes no patch (R132). -/
theorem State.patchLane_of_no_items (s : State) (c e l : Nat) (h : (s.engine e).items = []) : s.patchLane c e l = s := by
  unfold State.patchLane
  dsimp only
  rw [h]
  split
  · rw [if_neg (by simp)]
  · rfl

section
variable {s : State} {c : Nat} {w : Launch} (hw : s.launch c = some w) (hd : w.digestTick = false)
include hw hd

/-- Outside a digest tick a lane forms no digest (R283). -/
theorem State.digestLane_of_no_tick (e l : Nat) : s.digestLane c e l = s := by
  unfold State.digestLane
  dsimp only
  rw [hw]
  dsimp only
  rw [if_neg (by simp [hd])]

theorem State.digestDiffers_of_no_tick (e l : Nat) : s.digestDiffers c e l = false := by
  unfold State.digestDiffers
  rw [hw]
  dsimp only
  rw [hd, Bool.false_and, Bool.false_and]

end

/-! ## A lane resolves -/

/-- The records and the correction of a lane taken in (R119, R122, R123). -/
def State.takeRecs (s : State) (e l : Nat) (recs : List InRec) (corr : Int) : State :=
  ((s.addRecs e l recs).addEnergy e l corr).addSnap (4 * e + l) corr

/-- The registers that records and correction may change. -/
def takeRegs : List Reg := .shfEnergy :: .shfSnapEnergy :: fieldRegs

section
variable (s : State) (e l : Nat) (recs : List InRec) (corr : Int)

theorem State.takeRecs_work : LaneWork s (s.takeRecs e l recs corr) (4 * e + l) takeRegs :=
  ((s.addRecs_work e l recs (by decide)).trans (State.addEnergy_work _ _ _ _ (by decide) (by decide))).setFld (by decide) _ _

theorem State.takeRecs_lanes : (s.takeRecs e l recs corr).lanes = (s.addRecs e l recs).lanes := by
  unfold State.takeRecs State.addSnap
  rw [State.setFld_lanes, State.addEnergy_lanes]

theorem State.energy_takeRecs : (s.takeRecs e l recs corr).fld F.shfEnergyEnergy (4 * e + l) =
    unsign 48 (s.sfld F.shfEnergyEnergy (4 * e + l) + corr) := by
  have before := (s.addRecs_work e l recs fun _ h => h).fld (f := F.shfEnergyEnergy) (by decide) (4 * e + l)
  unfold State.takeRecs State.addSnap
  rw [State.fld_setFld_ne _ (by decide), State.energy_addEnergy, State.sfld, State.sfld, before]

theorem State.snap_takeRecs : (s.takeRecs e l recs corr).fld F.shfSnapEnergySnap (4 * e + l) =
    unsign 48 (s.sfld F.shfSnapEnergySnap (4 * e + l) + corr) := by
  have before := ((s.addRecs_work e l recs (rs := .shfEnergy :: fieldRegs) (by decide)).trans
    (State.addEnergy_work _ e l corr (by decide) (by decide))).fld (f := F.shfSnapEnergySnap) (by decide) (4 * e + l)
  unfold State.takeRecs
  rw [State.snap_addSnap, State.sfld, State.sfld, before]

/-- The field that a single record names takes it, saturated (R80, R119). -/
theorem State.fieldOf_takeRecs {r : InRec} (hr : s.emptyPlane e r.plane = false) :
    fieldOf ((s.takeRecs e l [r] corr).lane (4 * e + l)).field r.plane r.target =
      (satField (fieldOf (s.lane (4 * e + l)).field r.plane r.target + 2 * codeValue r.code * pm r.post)).1 := by
  have one : s.addRecs e l [r] = s.addField e l r.plane r.target (2 * codeValue r.code * pm r.post) := if_neg (by simp [hr])
  rw [← State.fieldOf_addField, ← one, State.lane, State.lane, State.takeRecs_lanes]

/-- Without records no field changes. -/
theorem State.lane_takeRecs_nil (n : Nat) : (s.takeRecs e l [] corr).lane n = s.lane n := by
  rw [State.lane, State.lane, State.takeRecs_lanes]
  rfl

/-- A lane whose resolution point has passed: its logs of the last tick are done with. -/
def State.markResolved (s : State) (n : Nat) : State := s.setLane n { s.lane n with undoPrev := [], latched := [], resolved := true }

/-- Without tentative flips, change items and digest, a lane that resolves takes its records in, and has resolved (R119). -/
theorem State.resolve_eq_takeRecs {c : Nat} {w : Launch} {prev : List InRec} (hw : s.launch c = some w) (hd : w.digestTick = false)
    (hu : (s.lane (4 * e + l)).undoPrev = []) (hi : (s.engine e).items = []) (hr : recs = recsOf (s.engine e).tiles l)
    (hp : prev = recsOf (s.engine e).tilesPrev l) :
    s.resolve c e l = (s.takeRecs e l recs (s.correction e (s.lane (4 * e + l)) recs prev)).markResolved (4 * e + l) := by
  subst hr hp
  unfold State.resolve
  extract_lets n g ln recs prev corr lost s1 s2 s3 s4 before s5
  have none_lost : lost = [] := by
    unfold lost
    split
    · rfl
    · exact s.losers_of_no_undo e l hu recs prev
  have rolled : s3 = s2 := by
    unfold s3
    rw [none_lost, State.rollback_nil]
  have taken : s2 = s.takeRecs e l recs corr := rfl
  have work : LaneWork s s3 (4 * e + l) takeRegs := by
    rw [rolled, taken]
    exact s.takeRecs_work e l recs corr
  have unpatched : s4 = s3 := State.patchLane_of_no_items _ _ _ _ ((congrArg Engine.items (work.engine e)).trans hi)
  have marked : s5 = s4.markResolved n := rfl
  have launch : s5.launch c = some w := by
    rw [marked, unpatched, State.markResolved, State.setLane_get_launch, work.launch, hw]
  rw [State.digestLane_of_no_tick launch hd, marked, unpatched, rolled, taken]

end

/-! ## Before the first resolution point of a tick (R135) -/

/-- What the check of verdicts leaves: all but the launch's mark of void verdicts. -/
structure VerdictsChecked (s t : State) (c : Nat) (w w' : Launch) : Prop where
  rest : t = { s with cyc := t.cyc, ctxs := t.ctxs }
  launch : t.launch c = some w'
  marked : w' = { w with void := w'.void }

section
variable {s t : State} {c : Nat} {w w' : Launch} (h : VerdictsChecked s t c w w')
include h

theorem VerdictsChecked.engine (e : Nat) : t.engine e = s.engine e := by rw [h.rest]; rfl

theorem VerdictsChecked.lane (n : Nat) : t.lane n = s.lane n := by rw [h.rest]; rfl

theorem VerdictsChecked.sfld (f : Fld) (i : Nat) : t.sfld f i = s.sfld f i := by rw [h.rest]; rfl

theorem VerdictsChecked.emptyPlane (e plane : Nat) : t.emptyPlane e plane = s.emptyPlane e plane := by rw [h.rest]; rfl

theorem VerdictsChecked.sameMemory : SameMemory s t := by
  rw [h.rest]
  exact ⟨rfl, rfl⟩

theorem VerdictsChecked.correction (e : Nat) (ln : LaneState) (recs prev : List InRec) :
    t.correction e ln recs prev = s.correction e ln recs prev := by
  rw [h.rest]
  rfl

theorem VerdictsChecked.digestTick : w'.digestTick = w.digestTick := by
  rw [h.marked]
  rfl

end

theorem State.checkVerdicts_cyc (s : State) (c : Nat) : (s.checkVerdicts c).cyc = s.cyc := by
  unfold State.checkVerdicts
  split
  · rw [State.modLaunch_keeps]
  · rfl

section
variable {s : State} {c : Nat} {w : Launch} (hw : s.launch c = some w) (k : Nat)
include hw

/-- A notice or a vote that has not come by the first resolution point of a tick makes the verdicts void (R135). -/
theorem State.checkVerdicts_checked : ∃ w', VerdictsChecked s ((s.upTo k).checkVerdicts c) c w w' ∧
    ((∀ x ∈ s.enginesOf c, ∀ j, j < 4 → (s.lane (4 * x + j)).resolved = false) →
      (w'.void = true ↔ s.noticeMissing c = true ∨ (w.windowOnly = false ∧ s.applyTick c = true ∧ w.vote ≠ some true))) := by
  unfold State.checkVerdicts
  split
  · refine ⟨_, ⟨?rest, State.launch_modLaunch_same (s := s.upTo k) hw _, rfl⟩, fun _ => ?void⟩
    case rest =>
      rw [State.modLaunch_keeps]
      rfl
    case void =>
      have notice : (s.upTo k).noticeMissing c = s.noticeMissing c := rfl
      have apply : (s.upTo k).applyTick c = s.applyTick c := rfl
      simp [notice, apply, and_assoc]
  · next resolved =>
    refine ⟨w, ⟨rfl, hw, rfl⟩, fun first => absurd ?_ resolved⟩
    have engines : (s.upTo k).enginesOf c = s.enginesOf c := rfl
    simpa [engines] using first

end

/-! ## RESOLUTION_POINT -/

section
variable {s : State} {e : EngineId} {l : Lane} {c : Nat} (hc : (s.engine e.ix).ctx = some c)
include hc

theorem exec_resolutionPoint : exec (.resolutionPoint e l) s = .next
    (if (s.lane (4 * e.ix + l.val)).resolved || !(s.upTo (63 + l.val)).moving c then s else
      let t := ((s.upTo (63 + l.val)).checkVerdicts c).resolve c e.ix l.val
      if t.digestDiffers c e.ix l.val then t.digestFault c e.ix else t) := by
  have point : exec (.resolutionPoint e l) s = execResolutionPoint e l s := rfl
  rw [point, execResolutionPoint]
  dsimp only
  rw [hc]

theorem exec_resolutionPoint_of_idle (h : (s.lane (4 * e.ix + l.val)).resolved = true ∨ (s.upTo (63 + l.val)).moving c = false) :
    exec (.resolutionPoint e l) s = .next s := by
  rw [exec_resolutionPoint hc, if_pos (by simpa using h)]

end

/-! ## The overlay (R132) -/

theorem State.storedCode_setEngine (s : State) (n : Nat) (g : Engine) (e plane i j : Nat) :
    (s.setEngine n g).storedCode e plane i j = s.storedCode e plane i j := rfl

theorem State.rd_wrN_one (s : State) (a b : Nat) (v : Byte) : (s.wrN a [v]).rd b = if b = a then v else s.rd b := by
  split
  · next h =>
    subst h
    exact s.rd_wrN_in b [v] 0 (by simp)
  · next h => exact s.rd_wrN_out a [v] b (by simp; omega)

section
variable (s : State) (e : Nat) {plane i j : Nat} (c : BitVec 4)

/-- A code written reads back. -/
theorem State.storedCode_putCode_same : (s.putCode e plane i j c).storedCode e plane i j = c := by
  have := c.isLt
  unfold State.storedCode State.putCode
  rw [State.rd_wrN_one, if_pos rfl]
  apply BitVec.eq_of_toNat_eq
  simp only [BitVec.toNat_ofNat]
  split <;> omega

/-- A code written leaves the codes at all other positions alone, also the one in the other half of its byte. -/
theorem State.storedCode_putCode_other (hi : i < 1024) (hj : j < 1024) {p a b : Nat} (ha : a < 1024) (hb : b < 1024)
    (h : (p, a, b) ≠ (plane, i, j)) : (s.putCode e plane i j c).storedCode e p a b = s.storedCode e p a b := by
  have := c.isLt
  unfold State.storedCode State.putCode
  rw [State.rd_wrN_one]
  split
  · next same =>
    have place : p = plane ∧ a = i ∧ b / 2 = j / 2 := by
      unfold sheafAt at same
      omega
    obtain ⟨rfl, rfl, half⟩ := place
    have parity : b % 2 ≠ j % 2 := fun e => h (by rw [show b = j by omega])
    rw [same]
    apply BitVec.eq_of_toNat_eq
    simp only [BitVec.toNat_ofNat]
    by_cases even : j % 2 = 0
    · rw [if_pos even, if_neg (by omega)]
      omega
    · rw [if_neg even, if_pos (by omega)]
      omega
  · rfl

end

theorem exec_patchOverlayWriteback (e : EngineId) (s : State) : exec (.patchOverlayWriteback e) s =
    .next (if s.cyc ≤ 1023 then if (List.range 4).all fun l => (s.lane (4 * e.ix + l)).resolved || !(s.fld F.shfCtrlLaneEn e.ix).testBit l then
      (s.upTo 67).flushOverlay e.ix else s else s) := rfl

/-- An overlay of one code is written at both mirrored positions, and emptied. -/
theorem State.flushOverlay_one {s : State} {e plane i j : Nat} {c : BitVec 4} (h : (s.engine e).overlay = [(plane, i, j, c)]) :
    s.flushOverlay e = ((s.putCode e plane i j c).putCode e plane j i c).setEngine e { s.engine e with overlay := [] } := by
  unfold State.flushOverlay
  dsimp only
  rw [h]
  rfl

/-- A lane resolves in a tick without digest: the check of verdicts, and then its own resolution (R119, R135). -/
theorem exec_resolutionPoint_of_no_tick {s : State} {e : EngineId} {l : Lane} {c : Nat} {w w' : Launch} {recs prev : List InRec}
    (hc : (s.engine e.ix).ctx = some c) (fresh : (s.lane (4 * e.ix + l.val)).resolved = false)
    (moves : (s.upTo (63 + l.val)).moving c = true) (noUndo : (s.lane (4 * e.ix + l.val)).undoPrev = [])
    (noItems : (s.engine e.ix).items = []) (noTick : w.digestTick = false)
    (hr : recs = recsOf (s.engine e.ix).tiles l.val) (hp : prev = recsOf (s.engine e.ix).tilesPrev l.val)
    (h : VerdictsChecked s ((s.upTo (63 + l.val)).checkVerdicts c) c w w') :
    exec (.resolutionPoint e l) s = .next ((((s.upTo (63 + l.val)).checkVerdicts c).takeRecs e.ix l.val recs
      (s.correction e.ix (s.lane (4 * e.ix + l.val)) recs prev)).markResolved (4 * e.ix + l.val)) := by
  rw [exec_resolutionPoint hc, if_neg (by simp [fresh, moves])]
  generalize (s.upTo (63 + l.val)).checkVerdicts c = u at h ⊢
  have engine := h.engine e.ix
  have lane := h.lane (4 * e.ix + l.val)
  have noTick' : w'.digestTick = false := h.digestTick.trans noTick
  have resolves := u.resolve_eq_takeRecs e.ix l.val recs h.launch noTick' (lane ▸ noUndo) (engine ▸ noItems) (engine ▸ hr) (engine ▸ hp)
  rw [lane, h.correction] at resolves
  have launch : (u.resolve c e.ix l.val).launch c = some w' := by
    rw [resolves, State.markResolved, State.setLane_get_launch, (u.takeRecs_work _ _ _ _).launch, h.launch]
  dsimp only
  rw [State.digestDiffers_of_no_tick launch noTick', if_neg Bool.false_ne_true, resolves]

/-- Settles O44: a lane without verdicts takes its records and correction in, late notices and votes void the verdicts, and the overlay goes
into the store. -/
theorem resolves : Obligations.Resolves := by
  intro e s c hc
  refine ⟨?resolve, fun l => exec_resolutionPoint_of_idle hc, ?waits, ?writeback⟩
  case resolve =>
    rintro l n w recs prev rfl hw fresh moves noUndo noItems noTick hr hp
    obtain ⟨w', checked, void⟩ := State.checkVerdicts_checked hw (63 + l.val)
    have run := exec_resolutionPoint_of_no_tick hc fresh moves noUndo noItems noTick hr hp checked
    have clock := (s.upTo (63 + l.val)).checkVerdicts_cyc c
    generalize (s.upTo (63 + l.val)).checkVerdicts c = u at checked run clock
    generalize s.correction e.ix (s.lane (4 * e.ix + l.val)) recs prev = corr at run ⊢
    have work := u.takeRecs_work e.ix l.val recs corr
    have lane := checked.lane (4 * e.ix + l.val)
    have marked : ((u.takeRecs e.ix l.val recs corr).markResolved (4 * e.ix + l.val)).lane (4 * e.ix + l.val) =
        { (u.takeRecs e.ix l.val recs corr).lane (4 * e.ix + l.val) with undoPrev := [], latched := [], resolved := true } :=
      State.lane_setLane_same _ _ _
    refine ⟨_, w', run, ?clock, ?resolved, ?spins, ?memory, ?energy, ?snap, fun r one plane => ?field, fun empty => ?fields, ?launch, void⟩
    case clock => rw [State.markResolved, State.setLane_cyc, work.cyc, clock, State.upTo]
    case resolved => rw [marked]
    case spins => rw [marked, work.lane, lane]
    case memory =>
      unfold SameMemory State.markResolved
      rw [State.setLane_mem, State.setLane_poison, work.sameMemory.1, work.sameMemory.2]
      exact checked.sameMemory
    case energy => rw [State.markResolved, State.setLane_get_fld, State.energy_takeRecs, checked.sfld]
    case snap => rw [State.markResolved, State.setLane_get_fld, State.snap_takeRecs, checked.sfld]
    case field =>
      rw [marked, one]
      dsimp only
      rw [State.fieldOf_takeRecs _ _ _ _ ((checked.emptyPlane _ _).trans plane), lane]
    case launch => rw [State.markResolved, State.setLane_get_launch, work.launch, checked.launch]
    case fields => rw [marked, empty, State.lane_takeRecs_nil, lane]
  case waits =>
    rintro ⟨k, hk, unresolved, enabled⟩
    have undone : ((List.range 4).all fun l => (s.lane (4 * e.ix + l)).resolved || !(s.fld F.shfCtrlLaneEn e.ix).testBit l) ≠ true := by
      rw [ne_eq, List.all_eq_true]
      exact fun every => by simpa [unresolved, enabled] using every k (List.mem_range.mpr hk)
    rw [Completes, exec_patchOverlayWriteback, if_neg undone, ite_self]
  case writeback =>
    intro plane i j code _ hi hj ne overlay early resolved
    have done : ((List.range 4).all fun l => (s.lane (4 * e.ix + l)).resolved || !(s.fld F.shfCtrlLaneEn e.ix).testBit l) = true := by
      simpa using resolved
    have run := exec_patchOverlayWriteback e s
    rw [if_pos early, if_pos done, State.flushOverlay_one (s := s.upTo 67) overlay] at run
    refine ⟨_, run, ?flushed, ?code, ?mirror, rfl, fun p a b _ ha hb first second => ?others⟩
    case flushed => rw [State.engine_setEngine_same]
    case code => rw [State.storedCode_setEngine, State.storedCode_putCode_other _ _ _ hj hi hi hj (by simp [ne]), State.storedCode_putCode_same]
    case mirror => rw [State.storedCode_setEngine, State.storedCode_putCode_same]
    case others =>
      rw [State.storedCode_setEngine, State.storedCode_putCode_other _ _ _ hj hi ha hb second,
        State.storedCode_putCode_other _ _ _ hi hj ha hb first]
      rfl

end Sys2Proof.Machine
end

section
/-!
PROOF. Every step keeps the block sound. `Sound` speaks of the clock and of the memory alone, so a change of any other part of the state keeps
it: there a proof of `Sound s` is one of `Sound t`, by definition. The clock is set by `upTo`, always to a cycle within the tick, by the next
tick, and by a step on an empty queue; the memory is written byte by byte, blanked, or exchanged with its shadow. Each operation of the model
has one lemma, in the order of the model, made of the lemmas of the operations it is made of.
-/
namespace Sys2Proof.Machine

/-! ## Canonical tables -/

section
variable {α : Type}

/-- The canonical form, said of the entries: rising keys, and no entry that its key reads as when unlisted. -/
theorem swf_iff [DecidableEq α] {d : Nat → α} {m : Sparse α} :
    swf d m = true ↔ m.Pairwise (fun x y => x.1 < y.1) ∧ ∀ x ∈ m, x.2 ≠ d x.1 := by
  have : IsTrans (Nat × α) fun x y => x.1 < y.1 := ⟨fun _ _ _ => Nat.lt_trans⟩
  rw [← List.isChain_iff_pairwise]
  induction m with
  | nil => simp [swf]
  | cons e m ih =>
    have hfirst : sabove e.1 m = true ↔ ∀ x ∈ m.head?, e.1 < x.1 := by cases m <;> simp [sabove]
    simp only [swf, Bool.and_eq_true, ih, hfirst, List.isChain_cons, List.forall_mem_cons, decide_eq_true_iff]
    tauto

theorem swf_filter [DecidableEq α] {d : Nat → α} {p : Nat × α → Bool} {m : Sparse α} (h : swf d m = true) : swf d (m.filter p) = true := by
  obtain ⟨hp, hd⟩ := swf_iff.mp h
  exact swf_iff.mpr ⟨hp.filter _, fun x hx => hd x (List.mem_of_mem_filter hx)⟩

/-- Entries under keys of their own, exchanged one to one, stay canonical. -/
theorem swf_rekey [DecidableEq α] {d : α} {f : Nat → Nat} {m : Sparse α} (hf : f.Injective) (h : swf (fun _ => d) m = true) :
    swf (fun _ => d) (rekey f m) = true := by
  obtain ⟨hp, hd⟩ := swf_iff.mp h
  have hperm := List.mergeSort_perm (m.map fun e => (f e.1, e.2)) fun x y => decide (x.1 ≤ y.1)
  have hle : (rekey f m).Pairwise fun x y => x.1 ≤ y.1 :=
    (List.pairwise_mergeSort (by simpa using fun _ _ _ _ _ _ => Nat.le_trans) (by simpa using fun _ _ _ _ => Nat.le_total _ _) _).imp
      of_decide_eq_true
  have hne : (rekey f m).Pairwise fun x y => x.1 ≠ y.1 :=
    (hperm.pairwise_iff fun h => h.symm).mpr (List.pairwise_map.mpr (hp.imp fun h e => h.ne (hf e)))
  refine swf_iff.mpr ⟨hle.imp₂ (fun _ _ => lt_of_le_of_ne) hne, fun x hx => ?_⟩
  obtain ⟨e, he, rfl⟩ := List.mem_map.mp (hperm.mem_iff.mp hx)
  exact hd e he

/-! ## The exchange with a shadow, its own inverse -/

theorem shadow_shadow (l : List Nat) (off n : Nat) : shadow l off (shadow l off n) = n := by
  unfold shadow
  grind

theorem shadow_lt {l : List Nat} {n : Nat} (b : Nat) (h : n < b) (hb : 2 * shadowStook ≤ b) : shadow l shadowStook n < b := by
  unfold shadow
  grind

theorem shadowIn_shadowIn (l : List Nat) {per : Nat} (n : Nat) (h : 0 < per) : shadowIn l per (shadowIn l per n) = n := by
  have hq : shadowIn l per n / per = shadow l shadowStook (n / per) := by
    rw [shadowIn, Nat.add_comm, Nat.add_mul_div_right _ _ h, Nat.div_eq_of_lt (Nat.mod_lt _ h), Nat.zero_add]
  have hr : shadowIn l per n % per = n % per := by
    rw [shadowIn, Nat.add_comm, Nat.add_mul_mod_self_right, Nat.mod_mod]
  rw [shadowIn, hq, hr, shadow_shadow, Nat.mul_comm, Nat.div_add_mod]

/-- What is exchanged stays in its space, which holds 2^44 bytes. -/
theorem shadowIn_lt (l : List Nat) {per n : Nat} (h : 0 < per) (hd : per ∣ 2 ^ 44) (hp : 2 * shadowStook * per ≤ 2 ^ 44) (hn : n < 2 ^ 44) :
    shadowIn l per n < 2 ^ 44 := by
  obtain ⟨b, hb⟩ := hd
  have hq := shadow_lt (l := l) b (Nat.div_lt_of_lt_mul (hb ▸ hn)) (by rw [hb, Nat.mul_comm] at hp; exact Nat.le_of_mul_le_mul_left hp h)
  have hr := Nat.mod_lt n h
  rw [shadowIn, hb]
  nlinarith

/-- What `shadowByte` does within a space, given by its number. -/
def shadowOff (k : List Nat) (p off : Nat) : Nat :=
  if p * 2 ^ 44 = Space.crib.base then shadowIn k (2 ^ 23) off
  else if p * 2 ^ 44 = Space.sheaf.base then shadowIn k (8 * 2 ^ 20) off
  else if p * 2 ^ 44 = Space.imem.base then shadowIn k (4 * 2 ^ 16) off
  else if p * 2 ^ 44 = Space.dmem.base then shadowIn k (4 * 2 ^ 16) off
  else off

theorem shadowByte_eq (k : List Nat) (a : Nat) : shadowByte k a = a / 2 ^ 44 * 2 ^ 44 + shadowOff k (a / 2 ^ 44) (a % 2 ^ 44) := by
  unfold shadowByte shadowOff
  dsimp only
  split_ifs
  · rfl
  · rfl
  · rfl
  · rfl
  · omega

theorem shadowOff_lt (k : List Nat) (p : Nat) {off : Nat} (h : off < 2 ^ 44) : shadowOff k p off < 2 ^ 44 := by
  have hin (per : Nat) := @shadowIn_lt k per off
  unfold shadowOff
  split_ifs
  · exact hin _ (by decide) (by decide) (by decide) h
  · exact hin _ (by decide) (by decide) (by decide) h
  · exact hin _ (by decide) (by decide) (by decide) h
  · exact hin _ (by decide) (by decide) (by decide) h
  · exact h

theorem shadowOff_shadowOff (k : List Nat) (p off : Nat) : shadowOff k p (shadowOff k p off) = off := by
  unfold shadowOff
  split_ifs
  · exact shadowIn_shadowIn k off (by decide)
  · exact shadowIn_shadowIn k off (by decide)
  · exact shadowIn_shadowIn k off (by decide)
  · exact shadowIn_shadowIn k off (by decide)
  · rfl

theorem shadowByte_shadowByte (k : List Nat) (a : Nat) : shadowByte k (shadowByte k a) = a := by
  have hlt := shadowOff_lt k (a / 2 ^ 44) (Nat.mod_lt a (by decide : 0 < 2 ^ 44))
  have hq : shadowByte k a / 2 ^ 44 = a / 2 ^ 44 := by rw [shadowByte_eq]; omega
  have hr : shadowByte k a % 2 ^ 44 = shadowOff k (a / 2 ^ 44) (a % 2 ^ 44) := by rw [shadowByte_eq]; omega
  rw [shadowByte_eq k (shadowByte k a), hq, hr, shadowOff_shadowOff, Nat.mul_comm, Nat.div_add_mod]

/-- The exchange of the memory with its shadow keeps it canonical. -/
theorem Memory.wf_rekey_shadowByte {k : List Nat} {m : List Host.Cell} (h : Memory.wf m = true) : Memory.wf (rekey (shadowByte k) m) = true :=
  swf_rekey (Function.LeftInverse.injective (shadowByte_shadowByte k)) h

end

/-! ## Soundness and its combinators -/

section
variable {s t : State} {α : Type}

/-- What a command answers with is sound. -/
def Leaves : Out → Prop
  | .next t => Sound t
  | _ => True

/-- The state in which a message has been executed is sound. -/
def Done.Sound : Done → Prop
  | .answer _ t => Machine.Sound t
  | .wait t => Machine.Sound t

theorem Sound.ite {p : Prop} {_ : Decidable p} (hs : Sound s) (ht : Sound t) : Sound (if p then s else t) := by
  split
  · exact hs
  · exact ht

theorem Sound.iteThen {p : Prop} {_ : Decidable p} (ht : Sound t) (hs : Sound t → Sound s) : Sound (if p then s else t) :=
  .ite (hs ht) ht

theorem Sound.iteElse {p : Prop} {_ : Decidable p} (hs : Sound s) (ht : Sound s → Sound t) : Sound (if p then s else t) :=
  .ite hs (ht hs)

theorem Sound.foldl {l : List α} {f : State → α → State} (h : Sound s) (hf : ∀ {t x}, Sound t → Sound (f t x)) : Sound (l.foldl f s) :=
  List.foldlRecOn l f h fun _ ht _ _ => hf ht

/-- A fold that carries something beside the state. -/
theorem Sound.foldPair {β γ : Type} {l : List β} {f : γ × State → β → γ × State} {r : γ × State} (h : Sound r.2)
    (hf : ∀ {r x}, Sound r.2 → Sound (f r x).2) : Sound (l.foldl f r).2 :=
  List.foldlRecOn l f (motive := fun r => Sound r.2) h fun _ h _ _ => hf h

theorem Done.Sound.ite {p : Prop} {_ : Decidable p} {x y : Done} (hx : x.Sound) (hy : y.Sound) : Done.Sound (if p then x else y) := by
  split
  · exact hx
  · exact hy

/-- A message answered, or kept waiting. -/
theorem Done.Sound.settle {d : Done} {f : Reply → State → State} {g : State → State}
    (hf : ∀ {r t}, Machine.Sound t → Machine.Sound (f r t)) (hg : ∀ {t}, Machine.Sound t → Machine.Sound (g t)) :
    d.Sound → Machine.Sound (match d with | .answer r t => f r t | .wait t => g t) := by
  cases d with
  | answer r t => exact fun h => hf h
  | wait t => exact fun h => hg h

/-! ### Fields of the state away from clock and memory -/

theorem Sound.setStaged {v} (h : Sound s) : Sound { s with staged := v } := h
theorem Sound.setLatch {v} (h : Sound s) : Sound { s with latch := v } := h
theorem Sound.setStooks {v} (h : Sound s) : Sound { s with stooks := v } := h
theorem Sound.setAnswers {v} (h : Sound s) : Sound { s with answers := v } := h
theorem Sound.setPools {v} (h : Sound s) : Sound { s with pools := v } := h
theorem Sound.setCarts {v} (h : Sound s) : Sound { s with carts := v } := h
theorem Sound.setCartAt {v} (h : Sound s) : Sound { s with cartAt := v } := h
theorem Sound.setStale {v} (h : Sound s) : Sound { s with stale := v } := h
theorem Sound.setEccHits {v} (h : Sound s) : Sound { s with eccHits := v } := h
theorem Sound.setHangStart {v} (h : Sound s) : Sound { s with hangStart := v } := h
theorem Sound.setLostLinks {v} (h : Sound s) : Sound { s with lostLinks := v } := h
theorem Sound.setWires {v} (h : Sound s) : Sound { s with wires := v } := h
theorem Sound.setBarnLost {v} (h : Sound s) : Sound { s with barnLost := v } := h
theorem Sound.setStandby {v} (h : Sound s) : Sound { s with standby := v } := h
theorem Sound.setSendq {v} (h : Sound s) : Sound { s with sendq := v } := h
theorem Sound.setSources {v} (h : Sound s) : Sound { s with sources := v } := h
theorem Sound.setEntWaits {v} (h : Sound s) : Sound { s with entWaits := v } := h
theorem Sound.setRawNext {v} (h : Sound s) : Sound { s with rawNext := v } := h
theorem Sound.setTemps {v} (h : Sound s) : Sound { s with temps := v } := h
theorem Sound.setEnergies {v} (h : Sound s) : Sound { s with energies := v } := h
theorem Sound.setGroup {v} (h : Sound s) : Sound { s with group := v } := h
theorem Sound.setJobs {v} (h : Sound s) : Sound { s with jobs := v } := h
theorem Sound.setPowered {v} (h : Sound s) : Sound { s with powered := v } := h
theorem Sound.setRefValid {v} (h : Sound s) : Sound { s with refValid := v } := h
theorem Sound.setStartWaits {v} (h : Sound s) : Sound { s with startWaits := v } := h
theorem Sound.setFree {v} (h : Sound s) : Sound { s with free := v } := h

/-! ## The state -/

theorem Sound.setReg {r i v} (h : Sound s) : Sound (s.setReg r i v) :=
  h

theorem Sound.setFld {f i v} (h : Sound s) : Sound (s.setFld f i v) :=
  h.setReg

theorem Sound.setBitOf {f i k b} (h : Sound s) : Sound (s.setBitOf f i k b) :=
  h.setFld

theorem Sound.wrN {a v} (h : Sound s) : Sound (s.wrN a v) :=
  ⟨h.1, s.wrN_wf a v h.2⟩

theorem Sound.wrNat {a n v} (h : Sound s) : Sound (s.wrNat a n v) :=
  h.wrN

theorem Sound.tag {a n p} (h : Sound s) : Sound (s.tag a n p) :=
  h

theorem Sound.store {a v p} (h : Sound s) : Sound (s.store a v p) :=
  .ite h h.wrN.tag

theorem Sound.setEngine {n v} (h : Sound s) : Sound (s.setEngine n v) :=
  h

theorem Sound.setLane {n v} (h : Sound s) : Sound (s.setLane n v) :=
  h

theorem Sound.setStook {n v} (h : Sound s) : Sound (s.setStook n v) :=
  h

theorem Sound.setCore {n v} (h : Sound s) : Sound (s.setCore n v) :=
  h

theorem Sound.setGen {n v} (h : Sound s) : Sound (s.setGen n v) :=
  h

theorem Sound.setAcre {n v} (h : Sound s) : Sound (s.setAcre n v) :=
  h

theorem Sound.setCtx {n v} (h : Sound s) : Sound (s.setCtx n v) :=
  h

theorem Sound.setGraph {n v} (h : Sound s) : Sound (s.setGraph n v) :=
  h

theorem Sound.setStream {n v} (h : Sound s) : Sound (s.setStream n v) :=
  h

theorem Sound.modLaunch {c f} (h : Sound s) : Sound (s.modLaunch c f) := by
  unfold State.modLaunch
  split
  · exact h.setCtx
  · exact h

theorem Sound.each {l f} (h : Sound s) (hf : ∀ {t y}, Sound t → Sound (f t y)) : Sound (s.each l f) :=
  h.foldl fun h => hf h

theorem Sound.upTo {c} (h : Sound s) (hc : c ≤ 1023) : Sound (s.upTo c) :=
  ⟨max_le h.1 hc, h.2⟩

theorem Sound.within {lo hi f} (h : Sound s) (hlo : lo ≤ 1023) (hf : ∀ {t}, Sound t → Sound (f t)) :
    Sound (s.within lo hi f) :=
  .ite (hf (h.upTo hlo)) h

theorem Sound.fromWall {k f} (h : Sound s) (hf : ∀ {t}, Sound t → Sound (f t)) : Sound (s.fromWall k f) :=
  .ite h (hf (.ite (h.upTo (by omega)) h))

theorem Sound.fromLogical {c k f} (h : Sound s) (hf : ∀ {t}, Sound t → Sound (f t)) : Sound (s.fromLogical c k f) :=
  .ite (hf h) (.ite (hf (h.upTo (by omega))) h)

theorem Sound.draw (h : Sound s) : Sound (s.draw).2 :=
  h

/-! ## Flags and counters -/

theorem Sound.raise {f i} (h : Sound s) : Sound (s.raise f i) :=
  h.setFld

theorem Sound.bump {f i n} (h : Sound s) : Sound (s.bump f i n) :=
  h.setFld

theorem Sound.wrap {f i n} (h : Sound s) : Sound (s.wrap f i n) :=
  h.setFld

theorem Sound.reportAt {code die acre stook unit index row ctx} (h : Sound s) : Sound (s.reportAt code die acre stook unit index row ctx) :=
  h

theorem Sound.report {code stook unit index row ctx} (h : Sound s) : Sound (s.report code stook unit index row ctx) :=
  h.reportAt

theorem Sound.reportAcre {code a ctx} (h : Sound s) : Sound (s.reportAcre code a ctx) :=
  h.reportAt

/-! ## Unpredictable results -/

theorem Sound.anything {c} (h : Sound s) : Sound (s.anything c) := by
  unfold State.anything
  exact .setStooks (.foldl (.foldl (.foldl h fun h => .ite h.store h) fun h => h.foldl fun h => h.setLane.setFld) fun h => h.setCore)

theorem Sound.formed {c ok} (h : Sound s) (ht : Sound t) : Leaves (s.formed c ok t) := by
  refine .ite ht ?_
  split
  · exact h.anything
  · exact h

theorem Sound.openBytes {n} (h : Sound s) : Sound (s.openBytes n).2 :=
  h.draw

/-! ## Cartway -/

theorem Sound.setOut {o x} (h : Sound s) : Sound (s.setOut o x) :=
  h

theorem Sound.outCycle {t o} (h : Sound s) : Sound (s.outCycle t o) := by
  unfold State.outCycle
  dsimp only
  split
  · exact h.setOut
  · split
    · exact h.setOut.setOut
    · exact h.setOut

theorem Sound.enterCarts (h : Sound s) : Sound s.enterCarts := by
  unfold State.enterCarts
  refine .foldl h fun h => ?_
  split
  · exact .ite h.setOut h
  · exact h

theorem Sound.cartCycles {n} (h : Sound s) : Sound (s.cartCycles n) := by
  induction n generalizing s with
  | zero => exact h
  | succ n ih => exact .ite h (ih (h.foldl fun h => h.outCycle).enterCarts)

theorem Sound.cartTo {t} (h : Sound s) : Sound (s.cartTo t) :=
  h.cartCycles.setCartAt

theorem Sound.cart {ctx channel n a b} (h : Sound s) : Sound (s.cart ctx channel n a b) :=
  .ite ((h.foldl fun h => h.setOut)) (.ite h.cartTo h.cartTo.setCarts.enterCarts)

theorem Sound.cartStooks {c channel bytes k n} (h : Sound s) : Sound (s.cartStooks c channel bytes k n) :=
  .ite h h.cart

theorem Sound.serviceCart {a bytes} (h : Sound s) : Sound (s.serviceCart a bytes) :=
  h.cart

theorem Sound.clearOuts (h : Sound s) : Sound s.clearOuts :=
  h.foldl fun h => h.setOut

theorem Sound.dropSlots {c} (h : Sound s) : Sound (s.dropSlots c) :=
  h

theorem Sound.reslot {die} (h : Sound s) : Sound (s.reslot die) := by
  unfold State.reslot
  refine .foldl h fun h => ?_
  split
  · exact h
  · exact h

theorem Sound.release32 {c tick} (h : Sound s) : Sound (s.release32 c tick) :=
  h

theorem Sound.acted {c} (h : Sound s) : Sound (s.acted c) :=
  h

/-! ## Crib banks -/

theorem Sound.handBank {i f t} (h : Sound s) : Sound (s.handBank i f t).2 := by
  unfold State.handBank
  split
  · exact h.setFld.bump
  · exact h.raise

theorem Sound.deny {stook bank} (h : Sound s) : Sound (s.deny stook bank) :=
  h.raise

theorem Sound.eccSeen {stook addr p} (h : Sound s) : Sound (s.eccSeen stook addr p) :=
  .ite h.raise h

theorem Sound.bankRead {stook addr n who} (h : Sound s) : Sound (s.bankRead stook addr n who).2 := by
  unfold State.bankRead
  split
  · exact h.eccSeen
  · exact h.deny

theorem Sound.bankWrite {stook addr who v p} (h : Sound s) : Sound (s.bankWrite stook addr who v p) :=
  .ite h.store h.deny

theorem Sound.bankAtomic {stook addr n who f mix p} (h : Sound s) : Sound (s.bankAtomic stook addr n who f mix p).2 := by
  unfold State.bankAtomic
  dsimp only
  split
  · exact h.store.eccSeen
  · exact h.deny

theorem Sound.latched {r : (List Byte × Bool) × State} (h : Sound r.2) : Sound (State.latched r) :=
  h

theorem Sound.request {q k a n ok} (h : Sound s) (ht : Sound t) : Leaves (s.request q k a n ok t) := by
  unfold State.request
  split
  · exact ht
  · exact .formed (.setLatch h.openBytes) ht

theorem Sound.atomic {q k a n f mix} (h : Sound s) : Leaves (s.atomic q k a n f mix) :=
  h.request (.ite (.latched h.bankAtomic) h)

/-! ## Sheaf engine -/

theorem Sound.addField {e l plane i d} (h : Sound s) : Sound (s.addField e l plane i d) :=
  .ite h (.ite h.setLane.bump.raise.report h.setLane)

theorem Sound.applyRow {e l i v late} (h : Sound s) : Sound (s.applyRow e l i v late) :=
  (h.foldl fun h => .ite h ((h.each fun h => .ite h h.addField)))

theorem Sound.addEnergy {e l d} (h : Sound s) : Sound (s.addEnergy e l d) :=
  .ite h.setFld.raise.report h.setFld

theorem Sound.stuck {e l} (h : Sound s) : Sound (s.stuck e l) :=
  .ite h.setFld.setFld.setFld (.ite h.setFld.setFld h.setFld)

theorem Sound.countWithdrawn {n k} (h : Sound s) : Sound (s.countWithdrawn n k) :=
  .ite h h.bump

theorem Sound.withdraw {n p} (h : Sound s) : Sound (s.withdraw n p) :=
  h.setLane.countWithdrawn

theorem Sound.withdrawSpin {n i} (h : Sound s) : Sound (s.withdrawSpin n i) :=
  h.withdraw

theorem Sound.logged {n u} (h : Sound s) : Sound (s.logged n u) :=
  .ite h.setLane.setFld.bump.withdraw h.setLane.setFld

theorem Sound.flip {e l i c tent} (h : Sound s) : Sound (s.flip e l i c tent) := by
  unfold State.flip
  dsimp only
  split
  · exact .logged (.ite h.setLane h.setLane.setEngine)
  · exact .ite h.setLane h.setLane.setEngine

theorem Sound.takeSpin {e l c i} (h : Sound s) : Sound (s.takeSpin e l c i) :=
  h.flip.addEnergy.stuck.withdrawSpin.applyRow

theorem Sound.takeMove {e l c p} (h : Sound s) : Sound (s.takeMove e l c p) := by
  unfold State.takeMove
  dsimp only
  split
  · exact (h.setLane.bump.each fun h => h.flip.withdrawSpin).addEnergy.stuck
  · exact (h.setLane.bump.each fun h => h.flip.withdrawSpin).addEnergy.stuck.applyRow.setLane.setBitOf

theorem Sound.moveSlot {e l c} (h : Sound s) : Sound (s.moveSlot e l c) := by
  unfold State.moveSlot
  dsimp only
  split
  · exact h
  · exact h.applyRow.setLane.setBitOf

theorem Sound.traced {e l c winner key} (h : Sound s) : Sound (s.traced e l c winner key) := by
  unfold State.traced
  dsimp only
  split
  · exact h
  · exact h.modLaunch

theorem Sound.decision {e l c} (h : Sound s) : Sound (s.decision e l c) := by
  unfold State.decision
  extract_lets n bq w saturated traced engine accepted
  have htraced : Sound traced := .traced (.iteThen h fun h => h.raise)
  have haccepted : Sound accepted := .iteElse htraced fun h => h.setEngine
  refine .ite haccepted.takeSpin (.ite ?_ haccepted.stuck)
  split
  · exact haccepted.takeMove
  · exact haccepted

theorem execDecision_sound {e} (h : Sound s) : Leaves (execDecision e s) := by
  unfold execDecision
  dsimp only
  split
  · exact h
  · split
    · exact (h.upTo (by omega)).setEngine.decision
    · exact (h.upTo (by omega)).setEngine.moveSlot

theorem Sound.offRouter {n r} (h : Sound s) : Sound (s.offRouter n r) := by
  unfold State.offRouter
  split
  · exact h
  · exact h.setGen

theorem execProposalRecordArrival_sound {e l rec} (h : Sound s) : Leaves (execProposalRecordArrival e l rec s) := by
  unfold execProposalRecordArrival
  dsimp only
  split
  · exact h.offRouter
  · exact .ite h.offRouter.bump h.offRouter.countWithdrawn.setLane

theorem execProposalPending_sound {e l} (h : Sound s) : Leaves (execProposalPending e l s) := by
  unfold execProposalPending
  dsimp only
  split
  · split
    · exact (h.upTo (by omega)).setLane.countWithdrawn
    · exact h
  · exact h

theorem Sound.walk {e k n} (h : Sound s) : Sound (s.walk e k n) := by
  induction n generalizing s with
  | zero => exact h
  | succ n ih =>
    unfold State.walk
    dsimp only
    split
    · exact h
    · exact .ite h (ih (Sound.setEngine (.ite (.report (.ite h.eccSeen h.deny)) (.ite h.eccSeen h.deny))))

theorem execLinkWalkerRead_sound {e} (h : Sound s) : Leaves (execLinkWalkerRead e s) := by
  unfold execLinkWalkerRead
  dsimp only
  split
  · split
    · exact (h.upTo (by omega)).setEngine.walk
    · exact h
  · exact h

theorem Sound.captureBest {n} (h : Sound s) : Sound (s.captureBest n) :=
  h.setLane

/-! ## Exchange window -/

theorem Sound.openTiles {c e l turn} (h : Sound s) : Sound (s.openTiles c e l turn) :=
  .ite h ((h.foldl fun h => h.store))

theorem Sound.emptyTiles {c l} (h : Sound s) : Sound (s.emptyTiles c l) :=
  h.each fun h => h.openTiles.openTiles

theorem Sound.scatterRec {e r} (h : Sound s) : Sound (s.scatterRec e r) := by
  unfold State.scatterRec
  dsimp only
  split
  · exact h
  · split
    · exact h
    · exact .ite h h.store.store.setEngine

theorem execScatterWrite_sound {e} (h : Sound s) : Leaves (execScatterWrite e s) := by
  unfold execScatterWrite
  dsimp only
  split
  · exact h
  · split
    · split
      · exact (h.upTo (by omega)).setEngine.foldl fun h => h.scatterRec
      · exact (h.upTo (by omega)).setEngine.deny
    · exact h

theorem Sound.takeTile {n c p tile} (h : Sound s) : Sound (s.takeTile n c p tile) :=
  .ite h.store.setEngine h.deny

theorem execDeltaTileArrival_sound {e slots} (h : Sound s) : Leaves (execDeltaTileArrival e slots s) := by
  unfold execDeltaTileArrival
  change Sound _
  split
  · exact h
  · split
    · exact h
    · split
      · exact h
      · dsimp only
        split_ifs
        · exact h
        · refine .setEngine (.takeTile (.upTo ?_ (by omega)))
          split
          · exact h.cartStooks
          · exact h

theorem Sound.frameTiles {c l} (h : Sound s) : Sound (s.frameTiles c l) := by
  unfold State.frameTiles
  refine h.each fun h => (h.foldl fun h => ?_)
  split
  · exact h.takeTile
  · exact h

theorem Sound.takeNotice {n c p words} (h : Sound s) : Sound (s.takeNotice n c p words) :=
  .ite h.store.setEngine h.deny

theorem execRollbackNoticeArrival_sound {e rank block words} (h : Sound s) : Leaves (execRollbackNoticeArrival e rank block words s) := by
  unfold execRollbackNoticeArrival
  refine h.within (by decide) fun _ => ?_
  split
  · exact h
  · split
    · exact h
    · extract_lets sent arrives carted taken
      have hcarted : Sound carted := by
        unfold carted
        split
        · exact h.cartStooks
        · exact h
      split
      · exact h
      · exact (hcarted.upTo (by omega)).takeNotice.setEngine

theorem Sound.frameNotices {c l} (h : Sound s) : Sound (s.frameNotices c l) := by
  unfold State.frameNotices
  refine h.each fun h => (h.foldl fun h => ?_)
  split
  · exact .ite h h.takeNotice
  · exact h

theorem Sound.addSnap {n d} (h : Sound s) : Sound (s.addSnap n d) :=
  h.setFld

theorem Sound.rollSpin {e l i} (h : Sound s) : Sound (s.rollSpin e l i) :=
  .ite h.setLane h.setLane.setEngine

theorem Sound.rollback {e l recs lost} (h : Sound s) : Sound (s.rollback e l recs lost) :=
  .ite h (((h.each fun h => h.rollSpin.withdrawSpin).each fun h => h.applyRow).addEnergy.addSnap)

theorem Sound.takeItem {c e l earlier x} (h : Sound s) : Sound (s.takeItem c e l earlier x) :=
  .ite (.ite h.setEngine.withdrawSpin h.setEngine) (.ite h (.ite h.addField.addField.addEnergy h.addField.addEnergy))

theorem Sound.takeItems {c e l done rest} (h : Sound s) : Sound (s.takeItems c e l done rest) := by
  induction rest generalizing s done with
  | nil => exact h
  | cons x rest ih => exact ih h.takeItem

theorem Sound.patchLane {c e l} (h : Sound s) : Sound (s.patchLane c e l) := by
  unfold State.patchLane
  dsimp only
  split
  · exact .ite h.takeItems.setEngine h
  · exact h

theorem Sound.digestLane {c e l} (h : Sound s) : Sound (s.digestLane c e l) := by
  unfold State.digestLane
  dsimp only
  split
  · exact .ite h.setLane h
  · exact h

theorem Sound.resolve {c e l} (h : Sound s) : Sound (s.resolve c e l) :=
  (h.foldl fun h => .ite h h.addField).addEnergy.addSnap.rollback.patchLane.setLane.digestLane

theorem Sound.checkVerdicts {c} (h : Sound s) : Sound (s.checkVerdicts c) :=
  .ite h.modLaunch h

theorem execVoteCast_sound {e} (h : Sound s) : Leaves (execVoteCast e s) := by
  unfold execVoteCast
  refine h.within (by decide) fun ht => ?_
  split
  · exact .ite ht.setEngine h
  · exact h

theorem Sound.putCode {e plane i j c} (h : Sound s) : Sound (s.putCode e plane i j c) :=
  h.wrN

theorem Sound.flushOverlay {e} (h : Sound s) : Sound (s.flushOverlay e) :=
  .ite h ((h.foldl fun h => h.putCode.putCode).setEngine)

/-! ## Mailbox -/

theorem Sound.setChan {n v} (h : Sound s) : Sound (s.setChan n v) :=
  h

theorem Sound.resetChan {n} (h : Sound s) : Sound (s.resetChan n) :=
  h.setFld.setFld.setChan

theorem Sound.post {n slot} (h : Sound s) : Sound (s.post n slot) :=
  .ite h.wrN.setFld.setChan.resetChan h.wrN.setFld.setChan

theorem Sound.respond {n m r} (h : Sound s) : Sound (s.respond n m r) :=
  h.setChan.post

theorem Sound.openStaged {m} (h : Sound s) : Sound (s.openStaged m) :=
  h.openBytes.wrN

theorem Sound.notePart {m} (h : Sound s) : Sound (s.notePart m) := by
  unfold State.notePart
  split
  · exact h
  · exact h

theorem Sound.execute {n m body} (h : Sound s) (hbody : ∀ {m t}, Sound t → Done.Sound (body m t)) : Done.Sound (s.execute n m body) := by
  have hs : Done.Sound (body m (if s.stagedClash n m || s.partClash m then s.openStaged m else s)) := hbody (.ite h.openStaged h)
  unfold State.execute
  dsimp only
  split
  · rename_i e
    rw [e] at hs
    exact .notePart (.ite (.openStaged hs) (.ite (.wrN hs) hs))
  · rename_i e
    rw [e] at hs
    exact .notePart (.ite (.openStaged hs) (.ite (.wrN hs) hs))

theorem Sound.message {ch n opcode} {body : Msg → State → Done} (h : Sound s) (hbody : ∀ {m t}, Sound t → (body m t).Sound) :
    Sound (s.message ch n opcode body) := by
  unfold State.message
  split
  · exact h
  · refine .ite h ?_
    split
    · exact Done.Sound.settle (fun h => .respond h) (fun h => .setChan h) (h.setFld.execute hbody)
    · exact h.post
    · exact h.post

theorem Sound.endWait {n r} (h : Sound s) : Sound (s.endWait n r) := by
  unfold State.endWait
  split
  · exact h.respond
  · exact h

theorem Sound.arrive {n slot} (h : Sound s) : Sound (s.arrive n slot) := by
  unfold State.arrive
  dsimp only
  split
  · exact h.bump
  · split
    · exact .ite h h.bump
    · exact h.wrN.setFld.setChan

theorem Sound.done {x seq status} (h : Sound s) : Sound (s.done x seq status) :=
  h.setReg.setStream

theorem Sound.endStream {x status} (h : Sound s) : Sound (s.endStream x status) :=
  h.done.setStream

theorem Sound.endLaunchStream {l status} (h : Sound s) : Sound (s.endLaunchStream l status) :=
  h.done.setStream

theorem Sound.rewatch {x} (h : Sound s) : Sound (s.rewatch x) :=
  h.setStream

theorem Sound.bind {x c} (h : Sound s) : Sound (s.bind x c) :=
  h.setStream

theorem Sound.fence {f n} (h : Sound s) : Sound (s.fence f n) :=
  h.setReg

/-! ## Graphs and versions -/

theorem Sound.markSegs {d l mirror} (h : Sound s) : Sound (s.markSegs d l mirror) :=
  h.each fun h => h.setReg

theorem Sound.allocKeep {n p} (h : Sound s) (e : s.allocKeep n = some p) : Sound p.2 := by
  obtain ⟨d, -, rfl⟩ := Option.map_eq_some_iff.mp e
  exact h.markSegs.markSegs

theorem Sound.freeObject {l} (h : Sound s) : Sound (s.freeObject l) :=
  h.each fun h => h.setReg

theorem Sound.journal {c b tau cycle} (h : Sound s) : Sound (s.journal c b tau cycle) :=
  .ite h.setCtx h

theorem Sound.sweepOnce {n} (h : Sound s) : Sound (s.sweepOnce n) := by
  unfold State.sweepOnce
  split
  · exact h
  · exact .ite ((h.foldl fun h => h.freeObject).setGraph) ((h.foldl fun h => h.freeObject).setGraph)

theorem Sound.sweep {n} (h : Sound s) : Sound (s.sweep n) := by
  unfold State.sweep
  split
  · exact h
  · exact h.foldl fun h => h.sweepOnce

theorem Sound.sweepAll (h : Sound s) : Sound s.sweepAll :=
  h.each fun h => h.sweep

/-- Blanked bytes leave the memory canonical: what is left of it is a part of it. -/
theorem Sound.blank {a n} (h : Sound s) : Sound (s.blank a n) :=
  ⟨h.1, swf_filter h.2⟩

theorem Sound.writeTiles {segs c tiles} (h : Sound s) : Sound (s.writeTiles segs c tiles) := by
  unfold State.writeTiles
  refine ((h.foldl fun h => h.blank).foldl fun h => ?_)
  dsimp only
  split
  · refine h.foldl fun h => ?_
    split
    · exact h.wrNat
    · exact h
  · exact h

theorem Sound.patched {c items} (h : Sound s) : Sound (s.patched c items).2 := by
  unfold State.patched
  split
  · exact h
  · exact h

/-- The state that a derived version leaves: the one it is made in where it is refused. -/
theorem Sound.derive {g v items raw w} (h : Sound s) (e : s.derive g v items raw = .ok (w, t)) : Sound t := by
  unfold State.derive at e
  dsimp only at e
  split at e
  · cases e
  · split at e
    · cases e
    · split at e
      · cases e
      · split at e
        · cases e
        · rename_i alloc
          cases e
          exact (h.patched.allocKeep alloc).writeTiles.setGraph

theorem Sound.graphCreate {m} (h : Sound s) : Done.Sound (s.graphCreate m) := by
  unfold State.graphCreate
  dsimp only
  split
  · exact h
  · split
    · exact h
    · exact h.setGraph

theorem Sound.graphFinal {g gr image} (h : Sound s) : Done.Sound (s.graphFinal g gr image) := by
  unfold State.graphFinal
  extract_lets cleared
  have hcleared : Sound cleared := h.setGraph
  split
  · exact hcleared
  · refine .ite hcleared (.ite hcleared ?_)
    split
    · exact hcleared
    · split
      · exact hcleared
      · rename_i alloc
        exact (hcleared.allocKeep alloc).writeTiles.setGraph

theorem Sound.graphLoad {m} (h : Sound s) : Done.Sound (s.graphLoad m) := by
  unfold State.graphLoad
  split
  · exact h
  · split
    · exact h
    · dsimp only
      split
      · exact h.graphFinal
      · exact h.setGraph

theorem Sound.graphRetire {m} (h : Sound s) : Done.Sound (s.graphRetire m) := by
  unfold State.graphRetire
  dsimp only
  split
  · exact h
  · split
    · exact h
    · split
      · exact h
      · exact h.setGraph.sweep

theorem Sound.versionPatch {m} (h : Sound s) : Done.Sound (s.versionPatch m) := by
  unfold State.versionPatch
  split
  · exact h
  · split
    · exact h
    · split
      · exact h
      · split
        · exact h
        · rename_i e
          have h := h.derive e
          exact h.sweep

theorem Sound.livePatch {m} (h : Sound s) : Done.Sound (s.livePatch m) := by
  unfold State.livePatch
  dsimp only
  split
  · exact h
  · refine .ite h (.ite h ?_)
    split
    · exact h
    · refine .ite h (.ite h ?_)
      split
      · exact h
      · rename_i e
        refine .ite h ?_
        exact .sweep (.iteElse (.modLaunch (.foldl (h.derive e).draw fun h => .journal h)) fun h => .anything h)

theorem Sound.graphPatch {m} (h : Sound s) : Done.Sound (s.graphPatch m) := by
  unfold State.graphPatch
  dsimp only
  split
  · exact h
  · split
    · exact h.livePatch
    · exact h.versionPatch

theorem Sound.setExacts {g n x} (h : Sound s) : Sound (s.setExacts g n x) := by
  unfold State.setExacts
  split
  · exact h.setGraph
  · exact h

theorem Sound.rederive {c l} (h : Sound s) (e : s.rederive c l = some t) : Sound t := by
  induction l generalizing s with
  | nil => cases e; exact h
  | cons p l ih =>
    obtain ⟨w, -, e⟩ := Option.bind_eq_some_iff.mp e
    obtain ⟨v, -, e⟩ := Option.bind_eq_some_iff.mp e
    dsimp only at e
    split at e
    · cases e
    · rename_i e'
      have h := h.derive e'
      refine ih (.modLaunch (.draw ?_)) e
      split
      · exact h.setExacts
      · exact h

/-! ## Loader -/

theorem Sound.countRes {gone} (h : Sound s) : Sound (s.countRes gone) :=
  h.each fun h => h.setFld

theorem Sound.loadStore {v e b} (h : Sound s) : Sound (s.loadStore v e b) :=
  h.blank.foldl fun h => h.putCode

theorem Sound.loadEngine {c l v e idx} (h : Sound s) : Sound (s.loadEngine c l v e idx) := by
  unfold State.loadEngine
  extract_lets b links w place base engine indexed ctrl scale shift status points schedule keys lanes exchange
  have hpoints : Sound points := h.loadStore.setEngine.store.setReg.setReg.setReg.setReg.setReg
  have hkeys : Sound keys := (hpoints.each fun h => h.setReg).each fun h => h.setReg
  have hlanes : Sound lanes := hkeys.each fun h => h.setReg.setReg.setReg.setReg.setReg.setReg.setReg
  exact hlanes.setReg.setReg

theorem Sound.loadLane {l v e idx k} (h : Sound s) : Sound (s.loadLane l v e idx k) :=
  h.setLane.setFld.setFld

theorem Sound.loadLadder {l v e idx} (h : Sound s) : Sound (s.loadLadder l v e idx) :=
  h.each fun h => h.setFld

theorem Sound.loadCore {c w g acre st k core} (h : Sound s) : Sound (s.loadCore c w g acre st k core) :=
  ((h.setCore.blank.blank.foldl fun h => h.wrN).foldl fun h => h.wrN).setReg.setReg

theorem Sound.loadTile {k} (h : Sound s) : Sound (s.loadTile k) :=
  h.setReg.setFld.setReg.setReg

theorem Sound.loadGen {c l d} (h : Sound s) : Sound (s.loadGen c l d) := by
  unfold State.loadGen
  split
  · exact h
  · exact (h.setGen.each fun h => h.setReg).setReg.setReg.setReg.setReg.setReg

theorem Sound.loadAcre {c l g a n} (h : Sound s) : Sound (s.loadAcre c l g a n) :=
  h.setAcre.setReg.setReg.setReg.setReg.setReg.setReg

theorem Sound.mapGran {c l} (h : Sound s) : Sound (s.mapGran c l) := by
  unfold State.mapGran
  refine h.foldl fun h => ?_
  split
  · exact h
  · dsimp only
    split
    · exact h
    · split
      · exact h
      · exact h.setReg

theorem Sound.mapSeg {c d g seg keep mirror} (h : Sound s) : Sound (s.mapSeg c d g seg keep mirror) := by
  unfold State.mapSeg
  split
  · exact h
  · split
    · exact h
    · exact h.setReg

theorem Sound.mapGddr {c l} (h : Sound s) : Sound (s.mapGddr c l) := by
  unfold State.mapGddr
  refine h.foldl fun h => ?_
  split
  · exact h
  · exact .ite h.mapSeg.mapSeg h.mapSeg

theorem Sound.countGran (h : Sound s) : Sound s.countGran :=
  h.each fun h => h.setFld

theorem Sound.giveBank {c i} (h : Sound s) : Sound (s.giveBank c i) :=
  .ite h h.handBank

theorem Sound.bookSlots {c l} (h : Sound s) : Sound (s.bookSlots c l) := by
  unfold State.bookSlots
  split
  · exact h
  · refine h.foldl fun h => ?_
    split
    · exact h
    · exact h

theorem Sound.wakeAcre {a} (h : Sound s) : Sound (s.wakeAcre a) :=
  .ite h.setFld.setFld h

theorem Sound.wakeFor {l blocks} (h : Sound s) : Sound (s.wakeFor l blocks) :=
  h.each fun h => h.wakeAcre

theorem Sound.loadUnits {c l v} (h : Sound s) : Sound (s.loadUnits c l v) := by
  unfold State.loadUnits
  extract_lets w awake banks booked cribs engines cores gens acres
  have hbanks : Sound banks := h.wakeFor.foldl fun h => by
    split
    · exact h.giveBank
    · exact h
  have hcribs : Sound cribs := hbanks.bookSlots.foldl fun h => by
    split
    · exact h.store
    · exact h
  have hengines : Sound engines := hcribs.foldl fun h => by
    split
    · exact h.loadEngine.loadLadder
    · exact h
  have hcores : Sound cores := hengines.foldl fun h => by
    split
    · exact (h.each fun h => h.loadCore).loadTile
    · exact h
  have hacres : Sound acres := (hcores.foldl fun h => h.loadGen).foldl fun h => h.loadAcre
  exact hacres.mapGran.mapGddr.countGran.countRes.emptyTiles

theorem Sound.offer {k addr due source} (h : Sound s) : Sound (s.offer k addr due source) :=
  h.setStook

theorem Sound.loadLanes {l v} (h : Sound s) : Sound (s.loadLanes l v) := by
  unfold State.loadLanes
  refine ((h.foldl fun h => ?_).foldl fun h => ?_)
  · split
    · exact h.offer
    · exact h
  · split
    · exact h.each fun h => h.loadLane
    · exact h

theorem Sound.gddrPut {c l addr data} (h : Sound s) : Sound (s.gddrPut c l addr data) := by
  unfold State.gddrPut
  refine h.foldl fun h => ?_
  dsimp only
  split
  · refine .wrN ?_
    split
    · exact h.wrN
    · exact h
  · split
    · exact h.wrN
    · exact h

theorem Sound.countLeave {a} (h : Sound s) : Sound (s.countLeave a) :=
  h.setFld.setFld

theorem Sound.dropGrants {a unit} (h : Sound s) : Sound (s.dropGrants a unit) :=
  h.setAcre.countLeave

theorem Sound.releaseUnits {c} (h : Sound s) : Sound (s.releaseUnits c) := by
  unfold State.releaseUnits
  extract_lets owned mine engines grants cores gens acres
  have hengines : Sound engines := h.each fun h => h.setEngine.setFld.setFld.setFld.each fun h => h.setLane
  have hcores : Sound cores := (hengines.each fun h => h.dropGrants).each fun h => h.setCore.setFld
  have hacres : Sound acres := (hcores.each fun h => h.setGen.setFld).each fun h => h.setAcre
  exact hacres.dropSlots.each fun h => h.handBank

theorem Sound.release {c} (h : Sound s) : Sound (s.release c) :=
  ((h.releaseUnits.each fun h => .ite h.setReg h).each fun h => .ite h.setReg h).countGran.countRes.acted

/-! ## Leave -/

theorem Sound.grant {a g} (h : Sound s) : Sound (s.grant a g) :=
  .ite h.setAcre.countLeave.raise h.setAcre.countLeave

theorem Sound.serveLeave {a q} (h : Sound s) : Sound (s.serveLeave a q) :=
  .ite h.grant (.ite h.setAcre.countLeave h.setAcre)

theorem Sound.settleLeave {a} (h : Sound s) : Sound (s.settleLeave a) :=
  h.setAcre.foldl fun h => h.serveLeave

theorem Sound.askLeave {a unit lu duration booked} (h : Sound s) : Sound (s.askLeave a unit lu duration booked) :=
  .ite h.grant h.settleLeave.setAcre

theorem Sound.expireLeave {a} (h : Sound s) : Sound (s.expireLeave a) :=
  h.setAcre.countLeave

theorem Sound.awaitLeave {a unit f} (h : Sound s) (hf : ∀ {t}, Sound t → Sound (f t)) : Sound (s.awaitLeave a unit f) := by
  unfold State.awaitLeave
  split
  · exact h.fromWall fun h => hf h.settleLeave
  · exact hf h

theorem Sound.takeLeave {a unit lu} (h : Sound s) : Sound (s.takeLeave a unit lu) :=
  h.setAcre

/-- An operation that waits for leave begins once all its requests are answered, in whatever order its units are named. -/
theorem Sound.awaitLeaves {l : List Need} {f : State → State} (h : Sound s) (hf : ∀ {t}, Sound t → Sound (f t)) :
    Sound (l.foldr (fun x k s => s.awaitLeave x.acre x.unit k) f s) := by
  induction l generalizing s with
  | nil => exact hf h
  | cons x l ih => exact h.awaitLeave ih

theorem Sound.withLeaves {c l f} (h : Sound s) (hf : ∀ {t}, Sound t → Sound (f t)) : Sound (s.withLeaves c l f) :=
  .ite (hf (h.foldl fun h => h.askLeave))
    (.ite (h.awaitLeaves fun h => .ite (hf (h.foldl fun h => h.takeLeave)) h) (h.foldl fun h => .ite h h.askLeave))

theorem Sound.withLeave {c a unit lu duration f} (h : Sound s) (hf : ∀ {t}, Sound t → Sound (f t)) : Sound (s.withLeave c a unit lu duration f) :=
  h.withLeaves fun h => hf h

/-! ## Unit register writes -/

theorem Sound.showLanes {e} (h : Sound s) : Sound (s.showLanes e) :=
  h.setFld

theorem Sound.settle {r i v} (h : Sound s) : Sound (s.settle r i v) :=
  .ite h.setReg.showLanes h.setReg

theorem Sound.unitWrite {r i v} (h : Sound s) : Sound (s.unitWrite r i v) := by
  unfold State.unitWrite
  extract_lets cleared woken
  have hwoken : Sound woken := .iteThen (.iteElse h fun h => h.setReg) fun h => h.setFld
  exact .ite hwoken (.ite hwoken.setStaged (.ite hwoken.setStaged hwoken.settle))

/-! ## Saved states -/

theorem Sound.putBack {a n m} (h : Sound s) : Sound (s.putBack a n m) :=
  ((h.blank.foldl fun h => h.wrN).foldl fun h => h.tag)

theorem Sound.restoreLane {n w f} (h : Sound s) : Sound (s.restoreLane n w f) :=
  h.setLane.setFld.setFld.setFld.setFld

theorem Sound.restoreLanes {l v w} (h : Sound s) : Sound (s.restoreLanes l v w) := by
  unfold State.restoreLanes
  refine h.foldl fun h => ?_
  split
  · refine h.each fun h => ?_
    split
    · exact h.restoreLane.setFld
    · exact h
  · exact h

theorem Sound.restoreChains {c l w} (h : Sound s) : Sound (s.restoreChains c l w) := by
  unfold State.restoreChains
  refine (((h.foldl fun h => ?_).foldl fun h => ?_).foldl fun h => ?_)
  · split
    · exact h.setStook
    · exact h
  · split
    · exact h.setStook
    · exact h
  · split
    · exact h.setFld
    · exact h

theorem Sound.restoreStook {c k w} (h : Sound s) : Sound (s.restoreStook c k w) :=
  (h.setStook.foldl fun h => h.setReg.setReg).setFld

theorem Sound.restoreUnits {c l blocks w} (h : Sound s) : Sound (s.restoreUnits c l blocks w) := by
  unfold State.restoreUnits
  extract_lets stooks stats samples root gens cribs
  have hstooks : Sound stooks := h.foldl fun h => by
    split
    · exact h.restoreStook
    · exact h
  have hstats : Sound stats := hstooks.foldl fun {t x} h => by
    extract_lets id count
    have hcount : Sound count := by
      unfold count
      split
      · exact h.setReg
      · exact h
    split
    · exact hcount.each fun h => h.store
    · exact hcount
  have hsamples : Sound samples := hstats.foldl fun {t x} h => by
    extract_lets busy
    have hbusy : Sound busy := .ite h h.setFld
    split
    · exact hbusy.setAcre.setFld
    · exact hbusy
  have hroot : Sound root := by
    unfold root
    split
    · exact hsamples.setReg
    · exact hsamples
  have hgens : Sound gens := hroot.foldl fun h => by
    split
    · extract_lets gen state input
      have hinput : Sound input := h.setReg.setReg.setGen.foldl fun h => h.store
      split
      · exact hinput.store
      · exact hinput
    · exact h
  have hcribs : Sound cribs := hgens.foldl fun h => by
    split
    · exact h.putBack
    · exact h
  refine hcribs.foldl fun h => ?_
  split
  · exact h.setCore.setReg.setReg.putBack
  · exact h

theorem Sound.cfgWrite {e w} (h : Sound s) : Sound (s.cfgWrite e w) := by
  unfold State.cfgWrite
  dsimp only
  split
  · exact h.settle
  · exact h.settle
  · exact h.settle
  · exact h.settle
  · exact h.settle
  · exact h.settle
  · exact h.settle
  · exact h.settle
  · exact h.settle
  · exact h

theorem Sound.rebook {l tau} (h : Sound s) : Sound (s.rebook l tau) := by
  unfold State.rebook
  refine h.foldl fun h => ?_
  split
  · exact h.cfgWrite
  · exact h

theorem Sound.loadSaved {c l v w} (h : Sound s) : Sound (s.loadSaved c l v w) :=
  h.loadUnits.restoreLanes.rebook.restoreUnits.emptyTiles

/-! ## Contexts -/

theorem Sound.failWaiters {c} (h : Sound s) : Sound (s.failWaiters c) :=
  h.each fun h => h.endWait

theorem Sound.setState {c x} (h : Sound s) : Sound (s.setState c x) :=
  h.setCtx

theorem Sound.dropObject {c} (h : Sound s) : Sound (s.dropObject c) :=
  h.freeObject.setCtx

theorem Sound.withdrawAll {c} (h : Sound s) : Sound (s.withdrawAll c) :=
  (h.each fun h => (h.each fun h => h.withdraw))

theorem Sound.ctxOpen {m} (h : Sound s) : Done.Sound (s.ctxOpen m) := by
  unfold State.ctxOpen
  dsimp only
  split
  · exact h
  · split
    · exact h
    · split
      · exact h
      · rename_i e
        have h := h.allocKeep e
        exact h.setCtx

theorem Sound.unbind {c} (h : Sound s) : Sound (s.unbind c) :=
  h.each fun h => h.setStream

theorem Sound.ctxClose {m} (h : Sound s) : Done.Sound (s.ctxClose m) := by
  unfold State.ctxClose
  dsimp only
  split
  · exact h
  · exact h
  · exact h
  · exact h.release.failWaiters.freeObject.dropObject.unbind.setCtx.sweepAll

theorem Sound.toSaved {c l w segs} (h : Sound s) : Sound (s.toSaved c l w segs) :=
  h.setCtx

theorem Sound.evict {l} (h : Sound s) (e : s.evict l = some t) : Sound t := by
  refine List.foldlRecOn l _ (motive := fun o => ∀ t, o = some t → Sound t) ?start ?next t e
  case start => rintro t ⟨⟩; exact h
  case next =>
    intro o ho c _ t e
    obtain ⟨u, rfl, e⟩ := Option.bind_eq_some_iff.mp e
    have h := ho u rfl
    change (match u.launch c with | none => _ | some ln => _) = some t at e
    split at e
    · cases e; exact h
    · obtain ⟨p, alloc, rfl⟩ := Option.map_eq_some_iff.mp e
      exact (h.allocKeep alloc).withdrawAll.release.failWaiters.toSaved

theorem Sound.launchWith {c a w v window} (h : Sound s) : Sound (s.launchWith c a w v window).2 := by
  unfold State.launchWith
  dsimp only
  split
  · exact h
  · split
    · exact h
    · split
      · exact h
      · rename_i e
        have h := h.evict e
        exact h.dropObject.bind.setCtx.journal.loadUnits.loadLanes.modLaunch.release32.sweepAll

theorem Sound.launchLoad {c a w v} (h : Sound s) : Sound (s.launchLoad c a w v).2 :=
  h.launchWith

theorem Sound.keepPart {m} (h : Sound s) : Sound (s.keepPart m) :=
  h.setCtx

theorem Sound.launchMsg {m} (h : Sound s) : Done.Sound (s.launchMsg m) := by
  unfold State.launchMsg
  split
  · exact h
  · split
    · exact h.keepPart
    · dsimp only
      split
      · exact h.setCtx
      · exact h.setCtx.launchLoad

theorem Sound.askDrain {c f ch} (h : Sound s) : Sound (s.askDrain c f ch) :=
  h.modLaunch

theorem Sound.saveNow {c p} (h : Sound s) (e : s.saveNow c = some p) : Sound p.2 := by
  obtain ⟨l, -, e⟩ := Option.bind_eq_some_iff.mp e
  obtain ⟨q, alloc, rfl⟩ := Option.map_eq_some_iff.mp e
  exact (h.allocKeep alloc).withdrawAll.release.toSaved

theorem Sound.wakeService {c} (h : Sound s) : Sound (s.wakeService c) := by
  unfold State.wakeService
  split
  · exact .ite h.wakeFor h
  · exact h

theorem Sound.saveDone {c} (h : Sound s) : Sound (s.saveDone c).2 := by
  unfold State.saveDone
  split
  · exact h
  · rename_i e
    have h := h.saveNow e
    exact h

theorem Sound.hostMark {c opcode seq} (h : Sound s) : Sound (s.hostMark c opcode seq) :=
  h.journal

theorem Sound.afterPause {c n} (h : Sound s) : Sound (s.afterPause c n) := by
  unfold State.afterPause
  split
  · exact h
  · exact .ite h.saveDone.endWait h.endWait

theorem Sound.drained {c f ch} (h : Sound s) : Sound (s.drained c f ch) := by
  unfold State.drained
  refine .each ?_ fun h => h.afterPause
  split
  · exact h.setState.modLaunch.endWait
  · exact h.setState.modLaunch.saveDone.endWait
  · exact h.setState.modLaunch

theorem Sound.pauseMsg {n m} (h : Sound s) : Done.Sound (s.pauseMsg n m) := by
  unfold State.pauseMsg
  split
  · exact h.hostMark.askDrain
  · exact h.hostMark.askDrain
  · exact h

theorem Sound.saveMsg {n m} (h : Sound s) : Done.Sound (s.saveMsg n m) := by
  unfold State.saveMsg
  split
  · exact h.hostMark.askDrain
  · exact h.hostMark.askDrain
  · exact h.wakeService.hostMark.saveDone
  · exact h

theorem Sound.resumeLoad {c stream m w graph v} (h : Sound s) : Sound (s.resumeLoad c stream m w graph v).2 := by
  unfold State.resumeLoad
  split
  · exact h
  · split_ifs
    · exact h
    · exact h
    · exact h
    · split
      · exact h
      · split
        · exact h
        · rename_i evicted
          exact (h.evict evicted).dropObject.bind.setCtx.loadSaved.hostMark.release32.sweepAll

theorem Sound.resumePaused {m l} (h : Sound s) : Sound (s.resumePaused m l).2 :=
  h.bind.wakeFor.setState.modLaunch.hostMark.release32

theorem Sound.resumeHeld {m} (h : Sound s) : Sound (s.resumeHeld m).2 := by
  unfold State.resumeHeld
  dsimp only
  split
  · split
    · exact h.resumePaused
    · exact h
  · split
    · exact h
    · split
      · exact h.resumeLoad
      · exact h
  · exact h

theorem Sound.resumeStaged {m} (h : Sound s) : Sound (s.resumeStaged m).2 := by
  unfold State.resumeStaged
  extract_lets c stream image ctx cleared
  have hcleared : Sound cleared := h.setCtx
  split
  · exact hcleared
  · split
    · exact hcleared
    · split
      · exact hcleared
      · split
        · exact hcleared
        · extract_lets emptied r
          split
          · split
            · rename_i patched
              exact hcleared.setCtx.resumeLoad.rederive patched
            · exact hcleared
          · exact hcleared

theorem Sound.resumeMsg {m} (h : Sound s) : Done.Sound (s.resumeMsg m) := by
  unfold State.resumeMsg
  split
  · exact h.resumeHeld
  · split
    · exact h
    · split
      · exact h.keepPart
      · exact h.resumeStaged

theorem Sound.closeRecovery {c at_} (h : Sound s) : Sound (s.closeRecovery c at_) := by
  unfold State.closeRecovery
  split
  · exact h
  · exact .ite ((h.modLaunch.foldl fun h => h.wrNat.wrap)) ((h.modLaunch.foldl fun h => h.wrNat.wrap).setFld)

theorem Sound.faultCtx {c} (h : Sound s) : Sound (s.faultCtx c) := by
  unfold State.faultCtx
  dsimp only
  split
  · exact h.closeRecovery.release.failWaiters.setState
  · exact h.closeRecovery.release.failWaiters.setState
  · exact h.closeRecovery.release.failWaiters.setState
  · exact h.closeRecovery.release.failWaiters.setState
  · exact h

theorem Sound.faultStream {c status} (h : Sound s) : Sound (s.faultStream c status) := by
  unfold State.faultStream
  split
  · exact .ite h.faultCtx.endLaunchStream h.faultCtx.endStream
  · exact h.faultCtx

theorem Sound.digestFault {c e} (h : Sound s) : Sound (s.digestFault c e) :=
  h.faultStream.report

theorem execResolutionPoint_sound {e l} (h : Sound s) : Leaves (execResolutionPoint e l s) := by
  unfold execResolutionPoint
  dsimp only
  split
  · exact h
  · exact .ite h (.ite (h.upTo (by omega)).checkVerdicts.resolve.digestFault (h.upTo (by omega)).checkVerdicts.resolve)

/-! ## WINNOW and TALLY -/

theorem Sound.decideReduction {c l e} (h : Sound s) : Sound (s.decideReduction c l e) := by
  unfold State.decideReduction
  split
  · exact h
  · dsimp only
    split
    · exact h.modLaunch
    · refine .modLaunch ?_
      split
      · exact h.bump.bump
      · exact h

theorem Sound.captureReplica {l blocks r} (h : Sound s) : Sound (s.captureReplica l blocks r) := by
  unfold State.captureReplica
  refine h.foldl fun h => ?_
  split
  · exact h.captureBest
  · exact h

theorem Sound.stageLadder {l blocks w} (h : Sound s) : Sound (s.stageLadder l blocks w) := by
  unfold State.stageLadder
  refine h.foldl fun h => ?_
  split
  · exact h
  · exact h

theorem Sound.applyVerdict {c l v} (h : Sound s) : Sound (s.applyVerdict c l v) :=
  ((h.foldl fun h => h.captureReplica).foldl fun h => h.stageLadder).modLaunch

theorem execVerdictArrival_sound {c} (h : Sound s) : Leaves (execVerdictArrival c s) := by
  unfold execVerdictArrival
  split
  · exact h
  · split
    · exact h
    · exact .ite h (h.upTo (by omega)).applyVerdict

theorem execVerdictLateHold_sound {c} (h : Sound s) : Leaves (execVerdictLateHold c s) := by
  unfold execVerdictLateHold
  split
  · exact .ite (.ite (h.upTo (by omega)).modLaunch (h.upTo (by omega)).modLaunch) h
  · exact h

theorem Sound.auditRecord {l v x final} (h : Sound s) : Sound (s.auditRecord l v x final).2 :=
  .ite h.draw h

theorem Sound.mismatch {c a} (h : Sound s) : Sound (s.mismatch c a) :=
  h.raise.reportAcre

theorem Sound.auditBusy {c v} (h : Sound s) : Sound (s.auditBusy c v) :=
  h.each fun h => h.setFld

theorem Sound.copyAudits {c l} (h : Sound s) : Sound (s.copyAudits c l) :=
  .ite (.ite h (.auditBusy (.modLaunch h))) h

theorem execAudit_sound {c} (h : Sound s) : Leaves (execAudit c s) := by
  unfold execAudit
  split
  · exact h.within (by decide) fun ht => .ite ht.copyAudits h
  · exact h

theorem Sound.takeParts {c l blocks} (h : Sound s) : Sound (s.takeParts c l blocks) := by
  unfold State.takeParts
  dsimp only
  split
  · exact ((h.copyAudits.foldl fun h => h.setAcre).modLaunch.foldl fun h => (h.each fun h => h.mismatch))
  · exact h.copyAudits.foldl fun h => h.setAcre

theorem Sound.putAudit {c l rec} (h : Sound s) : Sound (s.putAudit c l rec) := by
  unfold State.putAudit
  exact .gddrPut (.setCtx h)

theorem Sound.emitAudits {c l due} (h : Sound s) : Sound (s.emitAudits c l due) := by
  unfold State.emitAudits
  refine h.foldl fun h => ?_
  split
  · exact h.auditRecord.putAudit
  · exact h

theorem execAuditRecordEmit_sound {c} (h : Sound s) : Leaves (execAuditRecordEmit c s) := by
  unfold execAuditRecordEmit
  split
  · refine .ite h (.ite (h.upTo (by omega)).modLaunch ?_)
    exact .ite (h.upTo (by omega)).emitAudits.modLaunch.auditBusy (h.upTo (by omega)).emitAudits.modLaunch
  · exact h

theorem Sound.sampleAdd {c a k lane entry} (h : Sound s) : Sound (s.sampleAdd c a k lane entry) :=
  .ite h.reportAcre h.bankAtomic

theorem Sound.sampleOn {c a n} (h : Sound s) : Sound (s.sampleOn c a n) :=
  .ite ((h.foldl fun h => h.sampleAdd).setAcre.setFld) ((h.foldl fun h => h.sampleAdd).setAcre)

theorem Sound.sampleTick {c n} (h : Sound s) : Sound (s.sampleTick c n) :=
  h.each fun h => h.sampleOn

theorem execStatisticsSample_sound {a} (h : Sound s) : Leaves (execStatisticsSample a s) := by
  unfold execStatisticsSample
  dsimp only
  split
  · exact h
  · split
    · exact h
    · exact h.within (by decide) fun ht => .ite (.ite ht.raise ht.sampleOn.setAcre.wrap.setFld) h

theorem Sound.writeDigest {c l} (h : Sound s) : Sound (s.writeDigest c l) :=
  .modLaunch (.ite h.setCtx.gddrPut h.setCtx.gddrPut.journal)

/-! ## Register pages and the fault log -/

theorem Sound.captureRecord {die kind logSeq c stream seq entry startTau startCyc sections} (h : Sound s) :
    Sound (s.captureRecord die kind logSeq c stream seq entry startTau startCyc sections) :=
  .setFld (.setFld (.bump (.serviceCart (.wrN h))))

theorem Sound.logFault {code action outside die acre stook unit index c us cap} (h : Sound s) :
    Sound (s.logFault code action outside die acre stook unit index c us cap) :=
  .setFld (.setFld (.wrN (.ite h h.bump)))

theorem Sound.logLoss {code action outside die acre index c us} (h : Sound s) : Sound (s.logLoss code action outside die acre index c us) :=
  .ite h h.logFault

theorem Sound.clrLog (h : Sound s) : Sound s.clrLog :=
  h.blank.setFld

theorem Sound.clrResetLimit (h : Sound s) : Sound s.clrResetLimit :=
  h.setFld.setFld

theorem Sound.clrAvail (h : Sound s) : Sound s.clrAvail :=
  h.setReg

/-! ## Checkpoints, faults and recovery -/

theorem Sound.countPools (h : Sound s) : Sound s.countPools :=
  h.each fun h => h.setFld.setFld.setFld

theorem Sound.takeGeneration {c l state} (h : Sound s) : Sound (s.takeGeneration c l state) :=
  .countPools h

theorem execCheckpoint_sound {c} (h : Sound s) : Leaves (execCheckpoint c s) := by
  unfold execCheckpoint
  split
  · exact h
  · split
    · exact .ite h ((h.withLeaves fun h => h.takeGeneration.modLaunch))
    · exact h

theorem execMirrorSend_sound {d} (h : Sound s) : Leaves (execMirrorSend d s) := by
  unfold execMirrorSend
  split
  · exact .ite h (.countPools (.setFld h))
  · exact h

theorem execMirrorComplete_sound {d} (h : Sound s) : Leaves (execMirrorComplete d s) := by
  unfold execMirrorComplete
  dsimp only
  split
  · exact .countPools (.setFld h)
  · exact h

theorem Sound.openScratch {c} (h : Sound s) : Sound (s.openScratch c) :=
  .foldl h fun h => .ite h.store h

theorem Sound.restoreSaved {c l w} (h : Sound s) : Sound (s.restoreSaved c l w) := by
  unfold State.restoreSaved
  dsimp only
  split
  · exact h
  · exact h.releaseUnits.setCtx.loadSaved.restoreChains.openScratch

theorem Sound.restartLaunch {c l} (h : Sound s) : Sound (s.restartLaunch c l) := by
  unfold State.restartLaunch
  split
  · exact h.restoreSaved
  · dsimp only
    split
    · exact h
    · exact h.releaseUnits.setCtx.loadUnits.loadLanes.modLaunch

theorem Sound.rewatchAll {c} (h : Sound s) : Sound (s.rewatchAll c) :=
  h.each fun h => h.rewatch

theorem Sound.recoverFrom {c l g cause entry place} (h : Sound s) : Sound (s.recoverFrom c l g cause entry place) := by
  unfold State.recoverFrom
  refine .setFld (.rewatchAll (.wrNat (.modLaunch (.journal ?_))))
  split
  · exact h.restoreSaved
  · exact h.restartLaunch

theorem Sound.retireStook {a p} (h : Sound s) : Sound (s.retireStook a p) :=
  .ite h h.setAcre.setJobs.setFld.setReg.setStandby

theorem Sound.syncEnt (h : Sound s) : Sound s.syncEnt :=
  h.setReg.setReg.setReg.setReg

theorem Sound.stopCore {n c cause} (h : Sound s) : Sound (s.stopCore n c cause) :=
  h.setCore.setFld.setFld.setFld.setFld

theorem Sound.captureUnit {r} (h : Sound s) : Sound (s.captureUnit r) :=
  h.captureRecord

theorem Sound.stopReported {r} (h : Sound s) : Sound (s.stopReported r) := by
  unfold State.stopReported
  dsimp only
  split
  · exact .ite h.draw.stopCore h
  · exact h

theorem Sound.stopLaunch {code c} (h : Sound s) : Sound (s.stopLaunch code c) :=
  h.modLaunch

theorem Sound.retireStandby (h : Sound s) : Sound s.retireStandby :=
  .syncEnt (.setFld h)

theorem execFaultReport_sound {r} (h : Sound s) : Leaves (execFaultReport r s) := by
  unfold execFaultReport
  extract_lets f k con interrupts counted cap new stopped count ecc capture log launches
  have hstopped : Sound stopped := Sound.stopReported h
  have hcount : Sound count := .ite hstopped (.ite hstopped.bump (.iteThen hstopped fun h => h.bump))
  have hecc : Sound ecc := .iteThen hcount fun h => h.setEccHits
  have hlog : Sound log := .logFault (.iteThen hecc fun h => h.captureUnit)
  have hlaunches : Sound launches := .iteThen hlog fun h => h.each fun h => h.stopLaunch
  change Sound _
  refine .ite ?_ (.ite hlaunches.retireStook (.ite hlaunches.retireStandby (.iteThen hlaunches fun h => h.setFld)))
  split
  · exact hlaunches.faultStream
  · exact hlaunches

theorem Sound.recoverRunning {cause} (h : Sound s) : Sound (s.recoverRunning cause) := by
  unfold State.recoverRunning
  refine h.each fun h => ?_
  split
  · exact h.recoverFrom
  · exact h

theorem Sound.dropCopies {c d l} (h : Sound s) : Sound (s.dropCopies c d l) :=
  .ite h.faultStream ((h.setCtx.each fun h => h.setEngine))

theorem Sound.reload {c} (h : Sound s) : Sound (s.reload c) := by
  unfold State.reload
  split
  · split
    · exact h.loadSaved
    · exact h.loadUnits.loadLanes
  · exact h

theorem Sound.loseDieFor {c d} (h : Sound s) : Sound (s.loseDieFor c d) := by
  unfold State.loseDieFor
  split
  · exact h
  · dsimp only
    split_ifs
    · exact h
    · exact h.dropCopies
    · split
      · refine .ite h.faultStream ?_
        split
        · exact h.faultStream
        · rename_i evicted
          have ht := h.evict evicted
          exact .ite ht.releaseUnits.setCtx.reload ht.recoverFrom
      · exact h.closeRecovery.release.failWaiters.endLaunchStream.toSaved
      · exact h.faultStream

theorem Sound.copySeg {i j} (h : Sound s) : Sound (s.copySeg i j) :=
  h.putBack

theorem Sound.rehome {d l} (h : Sound s) : Sound (s.rehome d l).2 := by
  unfold State.rehome
  dsimp only
  split
  · exact h.freeObject.each fun h => h.setFld
  · exact ((h.freeObject.each fun h => h.setFld).markSegs.foldl fun h => h.copySeg)

theorem Sound.rehomeAreas {d} (h : Sound s) : Sound (s.rehomeAreas d) := by
  unfold State.rehomeAreas
  refine h.each fun h => ?_
  split
  · exact h
  · split
    · exact h.setReg
    · dsimp only
      split
      · exact .ite h.setReg.setFld h.setReg.setFld.setReg.setFld.copySeg
      · exact h.setReg.setFld

theorem Sound.dropDie {d} (h : Sound s) : Sound (s.dropDie d) := by
  unfold State.dropDie
  extract_lets objects versions homed moved cleared
  have hobjects {t c} (h : Sound t) : Sound (objects t c) := h.rehome.rehome.setCtx
  have hversions {t g} (h : Sound t) : Sound (versions t g) := by
    unfold versions
    dsimp only
    split
    · exact h
    · exact .setGraph (.foldPair h .rehome)
  have hcleared : Sound cleared := ((h.rehomeAreas.each hobjects).each hversions).each fun h => h.setReg
  exact (Sound.setPools hcleared).countPools.countGran.countRes

theorem Sound.loseDie {d} (h : Sound s) : Sound (s.loseDie d) :=
  .ite h ((h.setBitOf.reslot.reslot.dropDie.each fun h => h.loseDieFor))

theorem execLinkReroute_sound {d acre} (h : Sound s) : Leaves (execLinkReroute d acre s) := by
  unfold execLinkReroute
  extract_lets link code number con place lost slots logged
  have hlost : Sound lost := h
  have hslots : Sound slots := .ite hlost.reslot hlost
  refine .ite (p := _) (s := s) h (.ite hlost.logLoss.loseDie (hslots.logLoss.each fun h => ?_))
  split
  · exact h.recoverFrom
  · exact h

theorem execPoisonedRowRewrite_sound {d row mirror} (h : Sound s) : Leaves (execPoisonedRowRewrite d row mirror s) := by
  unfold execPoisonedRowRewrite
  dsimp only
  split
  · refine h.within (by decide) fun h => ?_
    split
    · exact h.putBack
    · exact h.store
  · exact h

theorem Sound.remapPort {d p} (h : Sound s) : Sound (s.remapPort d p) := by
  unfold State.remapPort
  refine h.each fun h => ?_
  split
  · exact h
  · exact h.putBack.setFld.setFld

theorem execGranaryDieLoss_sound {d p} (h : Sound s) : Leaves (execGranaryDieLoss d p s) := by
  unfold execGranaryDieLoss
  dsimp only
  split
  · exact h
  · split
    · exact h.setBitOf.logLoss.loseDie
    · refine h.setBitOf.logLoss.remapPort.countGran.each fun h => ?_
      split
      · exact .ite h.releaseUnits.reload h.recoverFrom
      · exact h

theorem Sound.takeOver (h : Sound s) : Sound s.takeOver := by
  unfold State.takeOver
  extract_lets act lost active again group jobs
  have hactive : Sound active := .setFld (.setFld h)
  have hagain : Sound again := hactive.each fun h => h.setChan.setFld
  have hgroup : Sound group := .iteThen hagain fun h => .setFld h.setGroup
  have hjobs : Sound jobs := .syncEnt hgroup
  exact hjobs.each fun h => h.modLaunch

theorem Sound.takeover (h : Sound s) : Sound s.takeover :=
  h.logLoss.takeOver.recoverRunning

theorem execPscLoss_sound {c} (h : Sound s) : Leaves (execPscLoss c s) := by
  unfold execPscLoss
  extract_lets dies hit active takes logged barn lost dropped
  have hlogged : Sound logged := h.setBitOf.logLoss
  have hbarn : Sound barn := .ite hlogged.takeOver (.ite (.setFld hlogged.setBarnLost) (.syncEnt (.setFld hlogged.setBarnLost)))
  have hdropped : Sound dropped := ((hbarn.each fun h => h.setBitOf).each fun h => h.faultStream).each fun h => h.dropDie
  change Sound _
  split
  · exact h
  · exact .ite hdropped.recoverRunning hdropped

/-! ## Queues, chains and owner writes -/

theorem Sound.queueClose {k q} (h : Sound s) : Sound (s.queueClose k q) :=
  .ite h (.ite (.ite h.setFld h) h.setStook.setFld.setFld.setFld.setFld)

theorem Sound.queuePut {k q who slot slotPoison} (h : Sound s) : Sound (s.queuePut k q who slot slotPoison) :=
  .ite h.bankWrite.setFld.queueClose h.bankWrite.setFld

theorem Sound.queueGet {k q who ctx} (h : Sound s) : Sound (s.queueGet k q who ctx).2 := by
  unfold State.queueGet
  extract_lets i b n r read data tag bad poison reported raised counted state index x moved
  have hreported : Sound reported := .iteThen h.bankRead fun h => h.bump.report
  have hraised : Sound raised := .iteThen hreported fun h => h.raise
  have hcounted : Sound counted := .iteThen hraised fun h => h.setFld
  exact .iteElse hcounted.setFld.setFld fun h => h.setStook.setFld

theorem Sound.wake {n} (h : Sound s) : Sound (s.wake n) :=
  h.setCore.setFld

theorem Sound.resumeRead {k q} (h : Sound s) : Sound (s.resumeRead k q) :=
  h.setFld.each fun h => .ite h.setCore.wake h

theorem Sound.countChain {k} (h : Sound s) : Sound (s.countChain k) :=
  h.setFld

theorem execChainEntryArrival_sound {st addr} (h : Sound s) : Leaves (execChainEntryArrival st addr s) := by
  unfold execChainEntryArrival
  dsimp only
  split
  · exact h
  · exact .ite (.ite h h.offer) ((h.fromLogical fun h => .ite h.setStook.countChain.raise h.setStook.countChain))

theorem Sound.unplace {k addr stream} (h : Sound s) : Sound (s.unplace k addr stream) :=
  h.setStream

/-- A chain entry names a cycle of its tick (R232). -/
theorem State.entry_cycle_le (s : State) (k a : Nat) : (s.entry k a).cycle ≤ 1023 :=
  Nat.le_of_lt_succ (Nat.mod_lt _ (by decide))

theorem execChainEntryStart_sound {st addr} (h : Sound s) : Leaves (execChainEntryStart st addr s) := by
  unfold execChainEntryStart
  dsimp only
  split
  · exact .ite (.rewatch (.unplace (.bump (.countChain (.setStook (.ite (h.upTo (s.entry_cycle_le _ _)) h)))))) h
  · exact h

theorem Sound.closeProduced {k station unit} (h : Sound s) : Sound (s.closeProduced k station unit) :=
  h.each fun h => .ite h.queueClose h

theorem execChainEntryComplete_sound {st addr} (h : Sound s) : Leaves (execChainEntryComplete st addr s) := by
  unfold execChainEntryComplete
  extract_lets k a x
  change Sound _
  split
  · refine .ite h (h.fromLogical fun h => ?_)
    extract_lets stook ended closed fenced status answered stream passed ctx cleared rearmed
    have hclosed : Sound closed := h.setStook.closeProduced
    have hfenced : Sound fenced := .iteThen hclosed fun h => h.fence
    have hanswered : Sound answered := .iteThen hfenced fun h => h.done
    have hrearmed : Sound rearmed := .rewatch (.iteThen hanswered.setStream fun h => h.setCtx)
    refine .ite hrearmed ?_
    split
    · exact hrearmed.offer.cartStooks
    · exact hrearmed
  · exact h

theorem Sound.modRunning {k station payload f} (h : Sound s) : Sound (s.modRunning k station payload f) :=
  h.setStook

theorem Sound.taint {k station payload} (h : Sound s) : Sound (s.taint k station payload) :=
  h.modRunning

theorem Sound.issueOwner {a slot core stook bank f t} (h : Sound s) : Sound (s.issueOwner a slot core stook bank f t) :=
  h.setAcre

theorem Sound.applyOwner {a w} (h : Sound s) : Sound (s.applyOwner a w) := by
  unfold State.applyOwner
  refine .setAcre ?_
  split
  · exact h.handBank
  · exact h.raise

theorem execOwnerResultDelivery_sound {a} (h : Sound s) : Leaves (execOwnerResultDelivery a s) := by
  unfold execOwnerResultDelivery
  refine h.within (by decide) fun h => (h.setAcre.foldl fun h => ?_)
  split
  · exact h.setCore
  · exact h

/-! ## COPY station -/

theorem Sound.rowRead {d row} (h : Sound s) : Sound (s.rowRead d row) := by
  unfold State.rowRead
  split
  · exact h
  · exact h.bump
  · exact (h.each fun h => h.bump).reportAt

theorem Sound.slotRead {c l space a r} (h : Sound s) (e : s.slotRead c l space a = some r) : Sound r.2 := by
  unfold State.slotRead at e
  split at e
  · obtain ⟨k, -, rfl⟩ := Option.map_eq_some_iff.mp e
    exact h.bankRead
  · obtain ⟨k, -, rfl⟩ := Option.map_eq_some_iff.mp e
    exact .ite h.rowRead h

theorem Sound.slotWrite {c l space a v p} (h : Sound s) (e : s.slotWrite c l space a v p = some t) : Sound t := by
  unfold State.slotWrite at e
  split at e
  · obtain ⟨k, -, rfl⟩ := Option.map_eq_some_iff.mp e
    exact h.bankWrite
  · obtain ⟨k, -, rfl⟩ := Option.map_eq_some_iff.mp e
    dsimp only
    split
    · exact h.store.store
    · exact h.store

theorem Sound.copySlots {c l d a b n p r} (h : Sound s) (e : s.copySlots c l d a b n p = some r) : Sound r.1 := by
  induction n generalizing s a b p with
  | zero => cases e; exact h
  | succ n ih =>
    obtain ⟨q, read, e⟩ := Option.bind_eq_some_iff.mp e
    obtain ⟨u, write, e⟩ := Option.bind_eq_some_iff.mp e
    exact ih ((h.slotRead read).slotWrite write) e

theorem Sound.copyRows {c l d k n p r} (h : Sound s) (e : s.copyRows c l d k n p = some r) : Sound r.1 := by
  induction n generalizing s k p with
  | zero => cases e; exact h
  | succ n ih =>
    obtain ⟨q, slots, e⟩ := Option.bind_eq_some_iff.mp e
    exact ih (h.copySlots slots) e

theorem Sound.wordRead {c l space a r} (h : Sound s) (e : s.wordRead c l space a = some r) : Sound r.2 := by
  refine List.foldlRecOn (List.range 4) _ (motive := fun o => ∀ r, o = some r → Sound r.2) ?start ?next r e
  case start => rintro r ⟨⟩; exact h
  case next =>
    intro o ho k _ r e
    obtain ⟨q, rfl, e⟩ := Option.bind_eq_some_iff.mp e
    obtain ⟨p, read, rfl⟩ := Option.map_eq_some_iff.mp e
    have h := (ho q rfl).slotRead read
    exact h

theorem Sound.wordWrite {c l space a v p} (h : Sound s) (e : s.wordWrite c l space a v p = some t) : Sound t := by
  refine List.foldlRecOn (List.range 4) _ (motive := fun o => ∀ t, o = some t → Sound t) ?start ?next t e
  case start => rintro t ⟨⟩; exact h
  case next =>
    intro o ho k _ t e
    obtain ⟨u, rfl, e⟩ := Option.bind_eq_some_iff.mp e
    exact (ho u rfl).slotWrite e

theorem Sound.moveWord {c l d m m'} (h : Sound s) (e : s.moveWord c l d m = some m') : Sound m'.st := by
  unfold State.moveWord at e
  obtain ⟨g, got, e⟩ := Option.bind_eq_some_iff.mp e
  dsimp only at e
  split at e
  · obtain ⟨q, -, rfl⟩ := Option.map_eq_some_iff.mp e
    exact h.raise
  · rename_i w u
    have hu : Sound u := by
      split at got
      · obtain ⟨q, -, e⟩ := Option.map_eq_some_iff.mp got
        split at e
        · cases e
          exact h.queueGet
        · cases e
      · obtain ⟨r, read, e⟩ := Option.map_eq_some_iff.mp got
        cases e
        exact h.wordRead read
    split at e
    · cases e
    · split at e
      · obtain ⟨q, -, rfl⟩ := Option.map_eq_some_iff.mp e
        split
        · exact hu.queuePut
        · exact h.raise
      · obtain ⟨v, write, rfl⟩ := Option.map_eq_some_iff.mp e
        exact hu.wordWrite write

theorem Sound.move {d : CopyDesc} {c l n m m'} (h : Sound m.st) (e : d.move c l n m = some m') : Sound m'.st := by
  induction n generalizing m with
  | zero =>
    cases e
    exact h
  | succ n ih =>
    unfold CopyDesc.move at e
    split at e
    · cases e
      exact h
    · obtain ⟨q, word, e⟩ := Option.bind_eq_some_iff.mp e
      exact ih (h.moveWord word) e

theorem Sound.cartRows {c l d} (h : Sound s) : Sound (s.cartRows c l d) := by
  unfold State.cartRows
  split
  · exact .ite h h.cart
  · exact h

theorem Sound.putRows {d v} (h : Sound s) : Sound (s.putRows d v) :=
  h.foldl fun h => h.wrN

theorem Sound.withHostData {c l d f} (h : Sound s) (hf : ∀ {t}, Sound t → Sound (f t)) : Sound (s.withHostData c l d f) := by
  unfold State.withHostData
  split
  · exact hf h
  · split
    · exact .putRows (hf (.putRows (.ite h.journal h)))
    · exact hf h.journal

theorem Sound.copied {k c a l d at_ poison} (h : Sound s) : Sound (s.copied k c a l d at_ poison) := by
  unfold State.copied
  dsimp only
  split
  · exact .queueClose (.modRunning (.ite h.taint h))
  · exact .modRunning (.ite h.taint h)

theorem Sound.copyOn {k c a l d} (h : Sound s) (e : s.copyOn k c a l d = some t) : Sound t := by
  unfold State.copyOn at e
  split at e
  · obtain ⟨r, rows, rfl⟩ := Option.map_eq_some_iff.mp e
    exact (h.copyRows rows).copied
  · obtain ⟨m, moved, rfl⟩ := Option.map_eq_some_iff.mp e
    exact Sound.copied (Sound.move (m := { st := s, row := _, off := _, poison := false, stalled := false }) h moved)

theorem Sound.linkFails {d p row} (h : Sound s) : Sound (s.linkFails d p row) :=
  .ite h (.ite h.bump h.bump.setStale.setFld)

theorem Sound.checkLink {c l d rows x} (h : Sound s) : Sound (s.checkLink c l d rows x) := by
  unfold State.checkLink
  split
  · exact h.linkFails
  · exact h

theorem Sound.linkChecks {c l d rows n} (h : Sound s) : Sound (s.linkChecks c l d rows n) := by
  induction n generalizing s with
  | zero => exact h
  | succ n ih =>
    unfold State.linkChecks
    exact ih h.draw.checkLink

theorem Sound.writeChecks {k c a l d} (h : Sound s) : Sound (s.writeChecks k c a l d) :=
  .ite h.draw.linkChecks h

theorem Sound.portHold {c l d} (h : Sound s) : Sound (s.portHold c l d) := by
  unfold State.portHold
  split
  · exact .ite (.ite h.draw.modLaunch h.draw) h
  · exact h

theorem Sound.copyBegin {k c a l d} (h : Sound s) : Sound (s.copyBegin k c a l d) :=
  h.modRunning.cartRows

/-- A copy carried out with its link checks, or its launch's error where its descriptor names no memory of the launch. -/
theorem Sound.copyRun {k c a l d} {f : State → Running → Running} (h : Sound s) :
    Sound (s.withHostData c l d fun s => ((s.copyOn k c a l d).map fun s => s.writeChecks k c a l d).getD
      ((s.anything c).modRunning k 0 a (f s))) := by
  refine h.withHostData fun {u} h => ?_
  cases e : u.copyOn k c a l d with
  | none => exact h.anything.modRunning
  | some t => exact (h.copyOn e).writeChecks

theorem execCopy_sound {st desc} (h : Sound s) : Leaves (execCopy st desc s) := by
  unfold execCopy
  change Sound _
  split
  · exact h
  · split
    · exact h
    · refine .ite h (.ite h.anything.modRunning (.ite h.copyRun (.ite ?_ ?_)))
      · exact h.copyBegin.copyRun.portHold
      · exact h.withLeave fun h => h.copyBegin.copyRun.portHold

/-! ## Entropy -/

theorem Sound.setSource {b v} (h : Sound s) : Sound (s.setSource b v) :=
  .syncEnt h

theorem Sound.dropKeys (h : Sound s) : Sound s.dropKeys :=
  h.each fun h => h.setAcre

theorem Sound.block {b p} (h : Sound s) (e : s.block b = some p) : Sound p.2 := by
  unfold State.block at e
  dsimp only at e
  split at e
  · cases e
  · split at e
    · cases e
    · cases e
      exact .ite h.setSource.dropKeys h.setSource

theorem Sound.blocks {n l} (h : Sound s) : Sound (s.blocks n l).2 := by
  induction n generalizing s l with
  | zero => exact h
  | succ n ih =>
    unfold State.blocks
    split
    · exact h
    · rename_i e
      exact ih (h.block e)

theorem Sound.drawKeys {late} (h : Sound s) : Sound (s.drawKeys late) := by
  unfold State.drawKeys
  split
  · refine .each h fun h => ?_
    split
    · rename_i e
      have h := h.block e
      exact h.setAcre
    · exact h
  · exact h

theorem execFieldNoiseKeyCommit_sound {a} (h : Sound s) : Leaves (execFieldNoiseKeyCommit a s) := by
  unfold execFieldNoiseKeyCommit
  refine h.within (by decide) fun h => ?_
  split
  · exact h.setAcre
  · exact h

theorem Sound.serveReads (h : Sound s) : Sound s.serveReads :=
  (h.foldl fun h => .ite h (.ite h.blocks.setEntWaits.endWait h.blocks.setEntWaits))

theorem Sound.entRead {n m} (h : Sound s) : Done.Sound (s.entRead n m) := by
  unfold State.entRead
  split
  · exact h
  · dsimp only
    split
    · split
      · exact h.blocks
      · exact h.blocks.setEntWaits
    · exact h

theorem Sound.entPort (h : Sound s) : Sound (s.entPort).2 := by
  unfold State.entPort
  dsimp only
  split
  · exact h
  · split
    · exact h
    · split
      · rename_i e
        have hasked : Sound { s with entAsked := s.entAsked + 1 } := h
        exact hasked.block e
      · exact h

theorem Sound.failReads (h : Sound s) : Sound s.failReads :=
  .foldl h fun h => h.endWait

theorem Sound.anySeed (h : Sound s) : Sound (s.anySeed).2 :=
  h.draw

theorem Sound.instantiate {b x} (h : Sound s) : Sound (s.instantiate b x) := by
  unfold State.instantiate
  split
  · exact .ite h.setSource.drawKeys.serveReads h.setSource
  · exact h

theorem Sound.entStart {b} (h : Sound s) : Sound (s.entStart b) :=
  .ite h.anySeed.anySeed.instantiate h

theorem Sound.healthFail {b rct} (h : Sound s) : Sound (s.healthFail b rct) :=
  .ite h.setSource (.ite h.setSource.dropKeys.failReads h.setSource)

theorem Sound.rawCopy {v} (h : Sound s) : Sound (s.rawCopy v) :=
  (h.each fun h => h.setReg).setRawNext

theorem Sound.seed {b w} (h : Sound s) : Sound (s.seed b w) :=
  .ite (.ite h.setSource.rawCopy h.setSource) (.ite h.setSource.healthFail (.ite h.setSource (.ite (.ite h.setSource h.instantiate) h.setSource)))

theorem Sound.reseed {b} (h : Sound s) : Sound (s.reseed b) := by
  unfold State.reseed
  dsimp only
  split
  · exact .ite (.ite (h.upTo (by omega)).setSource.drawKeys.serveReads (h.upTo (by omega)).setSource) h
  · exact h

theorem Sound.entTestWrite {v} (h : Sound s) : Sound (s.entTestWrite v) :=
  .ite h ((h.setReg.each fun h => .ite h (.ite h.setSource (.ite h.setSource h))))

/-! ## Ports -/

theorem Sound.setPort {p v} (h : Sound s) : Sound (s.setPort p v) :=
  h

theorem Sound.syncDjc {p} (h : Sound s) : Sound (s.syncDjc p) :=
  .ite h.setFld (.ite h.setFld h)

theorem Sound.sendItem {p kind body} (h : Sound s) : Sound (s.sendItem p kind body) :=
  .ite h h

theorem Sound.endSession {p} (h : Sound s) : Sound (s.endSession p) :=
  .ite h (.ite h.setPort.setFld.syncDjc h.setPort.setFld.syncDjc.setFld.setFld.setFld.setFld)

theorem Sound.stopPort {p st} (h : Sound s) : Sound (s.stopPort p st) :=
  h.endSession.setPort.setFld.setFld

theorem Sound.authFail {p} (h : Sound s) : Sound (s.authFail p) :=
  .ite h.bump.setPort.stopPort (.ite h.bump.setPort.setFld h.bump.setPort)

theorem Sound.takeBlocks {n p} (h : Sound s) (e : s.takeBlocks n = some p) : Sound p.2 := by
  unfold State.takeBlocks at e
  dsimp only at e
  split at e
  · cases e; exact h.blocks
  · cases e

theorem Sound.sendReply {p} (h : Sound s) : Sound (s.sendReply p) := by
  unfold State.sendReply
  split
  · rename_i e _ _
    exact .ite h (.ite h.authFail (h.takeBlocks e).setPort)
  · exact h.authFail
  · exact h

theorem Sound.helloIn {p body} (h : Sound s) : Sound (s.helloIn p body) :=
  .ite h (.ite h.authFail (.sendReply (.ite h.setPort.setFld h.setPort)))

theorem Sound.sendHello {p} (h : Sound s) : Sound (s.sendHello p) := by
  unfold State.sendHello
  split
  · exact h
  · rename_i e
    have h := h.takeBlocks e
    exact h.setPort

theorem Sound.replyIn {p x body} (h : Sound s) : Sound (s.replyIn p x body) := by
  unfold State.replyIn
  dsimp only
  split
  · rename_i e _ _
    exact .ite h.authFail (h.takeBlocks e).setPort
  · exact h
  · exact h.authFail

theorem Sound.replyMsg {p body} (h : Sound s) : Sound (s.replyMsg p body) := by
  unfold State.replyMsg
  split
  · exact .ite (.ite h h.replyIn) h.sendReply
  · exact h

theorem Sound.showEnc {p} (h : Sound s) : Sound (s.showEnc p) :=
  h.setFld

theorem Sound.goLive {p x txFrom rxFrom} (h : Sound s) : Sound (s.goLive p x txFrom rxFrom) :=
  .ite h.setPort.setFld.showEnc.syncDjc h.setPort.setFld.showEnc.syncDjc.bump.setFld.setFld.setFld.setFld

theorem Sound.finishIn {p x body} (h : Sound s) : Sound (s.finishIn p x body) :=
  .ite h.authFail h.draw.setPort.goLive

theorem Sound.confirmIn {p x body} (h : Sound s) : Sound (s.confirmIn p x body) :=
  h.goLive

theorem execSetupTimeout_sound {p} (h : Sound s) : Leaves (execSetupTimeout p s) := by
  unfold execSetupTimeout
  split
  · exact .ite (.ite h.setPort.setFld h.setPort) h
  · exact h

theorem Sound.resetLink {p} (h : Sound s) : Sound (s.resetLink p) :=
  h.bump.setPort.setFld.logFault

theorem Sound.nextPayload {p enc} (h : Sound s) : Sound (s.nextPayload p enc).2.2 := by
  unfold State.nextPayload
  dsimp only
  split_ifs
  · exact h.openBytes (n := 1984)
  · split
    · exact h.setPort
    · exact h.setAnswers
  · split
    · exact h.setPort
    · exact h

theorem Sound.advanceEpoch {p seq} (h : Sound s) : Sound (s.advanceEpoch p seq) := by
  unfold State.advanceEpoch
  split
  · exact h
  · exact .ite h (.ite h.endSession (.ite h.setFld (.ite h.setFld.setFld (.ite h.setFld.sendHello h.setFld))))

theorem Sound.newFrame {p} (h : Sound s) : Sound (s.newFrame p) := by
  unfold State.newFrame
  dsimp only
  split
  · exact .ite h.advanceEpoch.setSendq.nextPayload.setPort.setPort.setFld.resetLink h.advanceEpoch.setSendq.nextPayload.setPort.setPort.setFld
  · exact .ite h.advanceEpoch.nextPayload.setPort.setPort.setFld.resetLink h.advanceEpoch.nextPayload.setPort.setPort.setFld

theorem Sound.resendFrame {p f rest} (h : Sound s) : Sound (s.resendFrame p f rest) :=
  h.setPort.bump.setFld

theorem Sound.sendFrame {p} (h : Sound s) : Sound (s.sendFrame p) := by
  unfold State.sendFrame
  split
  · exact h
  · split
    · exact h.resendFrame
    · exact h.newFrame

/-! ## Groups -/

theorem Sound.modGroup {f} (h : Sound s) : Sound (s.modGroup f) :=
  h

theorem Sound.showPath {g} (h : Sound s) : Sound (s.showPath g) :=
  h.setReg

theorem Sound.flood {g except kind body} (h : Sound s) : Sound (s.flood g except kind body) :=
  h.each fun h => h.sendItem

theorem Sound.endJoin {g excess r} (h : Sound s) : Sound (s.endJoin g excess r) := by
  unfold State.endJoin
  dsimp only
  split
  · exact h
  · refine .endWait ?_
    split
    · exact .ite (.wrN h) h
    · exact h

theorem Sound.showGroup {rank members state} (h : Sound s) : Sound (s.showGroup rank members state) :=
  h.setReg

theorem Sound.noGroup (h : Sound s) : Sound s.noGroup :=
  .setReg (.setReg (.showGroup h))

theorem Sound.refuseJoin {r code} (h : Sound s) : Sound (s.refuseJoin r code) := by
  unfold State.refuseJoin
  split
  · exact h
  · exact h.endJoin.noGroup

theorem Sound.groupDown (h : Sound s) : Sound s.groupDown :=
  h.setFld.modGroup.setFld

theorem Sound.groupFault (h : Sound s) : Sound s.groupFault := by
  unfold State.groupFault
  refine h.logFault.groupDown.each fun h => ?_
  split
  · exact h.closeRecovery.release.failWaiters.endLaunchStream.toSaved
  · exact h

theorem Sound.releaseActs {m start ckpt} (h : Sound s) : Sound (s.releaseActs m start ckpt) := by
  unfold State.releaseActs
  refine .iteElse ?acts fun h => h.each fun h => ?recover
  case acts =>
    dsimp only
    split
    · split
      · exact h.setFld.endJoin.modGroup
      · exact h.setFld
    · split
      · exact h.modLaunch.release32.endWait
      · exact h.modLaunch.release32
    · refine h.each fun h => ?_
      split
      · exact .ite h.saveDone.endWait h.endWait
      · exact h
    · exact h
  case recover =>
    split
    · exact h.recoverFrom
    · exact h

theorem Sound.takeRelease {start cycle trim ckpt} (h : Sound s) : Sound (s.takeRelease start cycle trim ckpt) := by
  unfold State.takeRelease
  split
  · exact h
  · exact .ite h.groupFault h.modGroup.releaseActs

theorem Sound.sendRelease {g cycle trim ckpt} (h : Sound s) : Sound (s.sendRelease g cycle trim ckpt) :=
  (h.each fun h => h.sendItem).takeRelease

theorem Sound.rootReleases {g m ckpt} (h : Sound s) : Sound (s.rootReleases g m ckpt) := by
  unfold State.rootReleases
  extract_lets least most skew shown counted logged r cycle
  have hlogged : Sound logged := .iteThen h.setFld.setFld.bump fun h => h.raise.logFault
  exact .ite hlogged.flood.refuseJoin (.ite hlogged.groupFault hlogged.sendRelease)

theorem Sound.tryArrive (h : Sound s) : Sound s.tryArrive := by
  unfold State.tryArrive
  split
  · exact h
  · split
    · exact h
    · split
      · exact h
      · dsimp only
        split
        · exact h.rootReleases
        · exact h.sendItem.modGroup.bump

theorem Sound.meetAt {m} (h : Sound s) : Sound (s.meetAt m) :=
  .ite h.modGroup.tryArrive h

theorem Sound.heardFrom {p} (h : Sound s) : Sound (s.heardFrom p) :=
  h.modGroup

theorem Sound.arriveIn {p body} (h : Sound s) : Sound (s.arriveIn p body) :=
  h.heardFrom.modGroup.tryArrive

theorem Sound.releaseIn {p body} (h : Sound s) : Sound (s.releaseIn p body) := by
  unfold State.releaseIn
  split
  · exact h
  · exact .ite h ((h.heardFrom.each fun h => h.sendItem).takeRelease)

theorem Sound.sendAlignment {g} (h : Sound s) : Sound (s.sendAlignment g) :=
  h.each fun h => h.sendItem

theorem Sound.allReady (h : Sound s) : Sound s.allReady := by
  unfold State.allReady
  split
  · exact h
  · exact .ite h.sendAlignment.meetAt h

theorem Sound.compare (h : Sound s) : Sound s.compare := by
  unfold State.compare
  split
  · exact h
  · split
    · exact h
    · split
      · exact h.flood.refuseJoin
      · exact .ite h h.flood.modGroup.allReady

theorem Sound.announce (h : Sound s) : Sound s.announce := by
  unfold State.announce
  split
  · exact h
  · exact .ite h h.flood.modGroup.compare

theorem Sound.joinMsg {n m} (h : Sound s) : Done.Sound (s.joinMsg n m) := by
  unfold State.joinMsg
  split
  · exact h
  · exact Sound.iteThen (.showPath (.setReg (.setReg (.showGroup h)))) fun h => h.each fun h => h.sendHello

theorem Sound.finishMsg {p body} (h : Sound s) : Sound (s.finishMsg p body) := by
  unfold State.finishMsg
  split
  · exact .ite h.finishIn.announce h
  · exact h

theorem Sound.confirmMsg {p body} (h : Sound s) : Sound (s.confirmMsg p body) := by
  unfold State.confirmMsg
  split
  · exact .ite h.confirmIn.announce h
  · exact h

theorem Sound.announceIn {p body} (h : Sound s) : Sound (s.announceIn p body) := by
  unfold State.announceIn
  split
  · exact h
  · exact .ite h.heardFrom h.heardFrom.flood.modGroup.compare

theorem Sound.readyIn {p body} (h : Sound s) : Sound (s.readyIn p body) := by
  unfold State.readyIn
  split
  · exact h
  · exact .ite h.heardFrom h.heardFrom.flood.modGroup.allReady

theorem Sound.refuseIn {p body} (h : Sound s) : Sound (s.refuseIn p body) := by
  unfold State.refuseIn
  split
  · exact h
  · exact .ite h h.flood.refuseJoin

theorem execJoinTimeout_sound (h : Sound s) : Leaves (execJoinTimeout s) := by
  unfold execJoinTimeout
  split
  · exact h
  · split
    · exact .ite h.refuseJoin h
    · exact h

theorem Sound.alignIn {p body arrival} (h : Sound s) : Sound (s.alignIn p body arrival) := by
  unfold State.alignIn
  split
  · exact h
  · exact .ite h (.ite h.heardFrom.setFld (.ite h.heardFrom.setFld.setReg.sendAlignment.meetAt h.heardFrom.setFld.setReg.modGroup))

theorem execTrimTick_sound (h : Sound s) : Leaves (execTrimTick s) := by
  unfold execTrimTick
  split
  · exact .ite h.setFld.modGroup h
  · exact h

theorem Sound.leaveMsg (h : Sound s) : Done.Sound s.leaveMsg := by
  unfold State.leaveMsg
  split
  · exact h
  · refine .noGroup ?_
    split
    · exact h.flood
    · exact h

theorem Sound.leaveIn {p body} (h : Sound s) : Sound (s.leaveIn p body) := by
  unfold State.leaveIn
  split
  · exact h
  · exact h.flood.noGroup

theorem execMemberLost_sound {rank} (h : Sound s) : Leaves (execMemberLost rank s) := by
  unfold execMemberLost
  split
  · exact .ite ((h.logFault.groupDown.each fun h => h.faultStream)) h
  · exact h

theorem Sound.addStall {x} (h : Sound s) : Sound (s.addStall x) :=
  .ite h h.modGroup.setFld

theorem Sound.raiseStall {tau late cause} (h : Sound s) : Sound (s.raiseStall tau late cause) := by
  unfold State.raiseStall
  split
  · exact h
  · exact h.flood.addStall

theorem Sound.stallIn {p body} (h : Sound s) : Sound (s.stallIn p body) := by
  unfold State.stallIn
  split
  · exact h
  · exact .ite h.heardFrom h.heardFrom.flood.addStall

theorem execRecovery_sound {c cause} (h : Sound s) : Leaves (execRecovery c cause s) := by
  unfold execRecovery
  extract_lets x a entry spare retired cleared place go
  have hretired : Sound retired := .ite h.retireStook h
  have hcleared : Sound cleared := hretired
  have hgo : Sound go := hcleared.modLaunch
  change Sound _
  split
  · exact h
  · refine .ite h (.ite hgo.releaseUnits.reload (.ite hgo.raiseStall (.ite ?late (.ite ?lost hcleared.recoverFrom))))
    case late =>
      split
      · exact hcleared.faultStream
      · split
        · exact hcleared.recoverFrom
        · exact hcleared.faultStream
    case lost =>
      split
      · exact hcleared.recoverFrom
      · exact hcleared.faultStream

theorem Sound.portLost {p st} (h : Sound s) : Sound (s.portLost p st) := by
  unfold State.portLost
  dsimp only
  split
  · exact .ite h.stopPort.logFault (.ite h.stopPort.logFault.groupFault (.ite h.stopPort.logFault.showPath.groupFault h.stopPort.logFault.showPath))
  · exact h.stopPort.logFault

theorem Sound.applyCtrl {p v} (h : Sound s) : Sound (s.applyCtrl p v) :=
  .ite h.setReg.showEnc.setFld (.ite (.ite h.setReg.showEnc.portLost h.setReg.showEnc.stopPort) h.setReg.showEnc)

theorem Sound.lnkCtrlWrite {p v} (h : Sound s) : Sound (s.lnkCtrlWrite p v) :=
  .ite h.setPort h.applyCtrl

theorem execFrameSend_sound {p} (h : Sound s) : Leaves (execFrameSend p s) := by
  unfold execFrameSend
  dsimp only
  split
  · exact h
  · refine .sendFrame ?_
    split
    · exact h.setPort.applyCtrl
    · exact h

theorem Sound.combined {b ready} (h : Sound s) : Sound (s.combined b ready) :=
  .ite h.modGroup h.modGroup.raiseStall

theorem Sound.tryVote {b} (h : Sound s) : Sound (s.tryVote b) := by
  unfold State.tryVote
  split
  · dsimp only
    split
    · exact h
    · split
      · exact h.modGroup.sendItem
      · exact (h.modGroup.each fun h => h.sendItem).combined
  · exact h

theorem Sound.castVotes {c} (h : Sound s) : Sound (s.castVotes c) :=
  .ite ((h.foldl fun h => h.tryVote)) h

theorem Sound.voteIn {p body} (h : Sound s) : Sound (s.voteIn p body) := by
  unfold State.voteIn
  split
  · exact h
  · exact .ite (.ite h.heardFrom ((h.heardFrom.each fun h => h.sendItem).combined)) h.heardFrom.modGroup.tryVote

theorem Sound.groupTotals {c e} (h : Sound s) : Sound (s.groupTotals c e) := by
  unfold State.groupTotals
  dsimp only
  split
  · exact .ite h.modGroup.decideReduction h.modGroup.modLaunch
  · exact h.modGroup

theorem Sound.trySums {c l} (h : Sound s) : Sound (s.trySums c l) := by
  unfold State.trySums
  split
  · exact h
  · dsimp only
    split
    · exact h
    · split
      · exact h.modGroup.foldl fun h => h.sendItem
      · exact (h.modGroup.each fun h => (h.foldl fun h => h.sendItem)).groupTotals

theorem Sound.sumsIn {p body} (h : Sound s) : Sound (s.sumsIn p body) := by
  unfold State.sumsIn
  split
  · extract_lets b got heard rest mine sent totals kept
    refine .ite h.heardFrom.modGroup.trySums (.ite h.heardFrom ?_)
    have hkept : Sound kept := (h.heardFrom.each fun h => h.sendItem).modGroup
    exact .ite hkept.groupTotals hkept
  · exact h

theorem execReductionTick_sound {c} (h : Sound s) : Leaves (execReductionTick c s) := by
  unfold execReductionTick
  refine h.within (by decide) fun ht => ?_
  split
  · exact h
  · exact .ite h (.ite ht.takeParts.trySums (ht.takeParts.upTo (by omega)).decideReduction)

theorem Sound.groupChecked (h : Sound s) : Sound s.groupChecked := by
  unfold State.groupChecked
  split
  · exact h
  · refine .ite h ?_
    split
    · exact h
    · split
      · exact h
      · extract_lets m ask a closed ctx cleared
        have hcleared : Sound cleared := h.modGroup.setCtx
        refine .ite hcleared.endWait ?_
        split
        · exact hcleared.endWait
        · exact .ite hcleared.launchLoad.meetAt hcleared.launchLoad.endWait

theorem Sound.checkIn {p body} (h : Sound s) : Sound (s.checkIn p body) := by
  unfold State.checkIn
  split
  · exact h
  · exact .ite h.heardFrom h.heardFrom.flood.modGroup.groupChecked

theorem Sound.groupFinal {m a g} (h : Sound s) : Done.Sound (s.groupFinal m a g) := by
  unfold State.groupFinal
  split
  · exact h.setCtx
  · split
    · exact h.setCtx
    · exact h.setCtx.flood.modGroup

theorem Sound.launchAny {m} (h : Sound s) : Done.Sound (s.launchAny m) := by
  unfold State.launchAny
  dsimp only
  split
  · split
    · exact h.groupFinal
    · exact h.launchMsg
  · exact h.launchMsg

theorem Sound.groupBegin {m} (h : Sound s) : Done.Sound (s.groupBegin m) := by
  unfold State.groupBegin
  split
  · exact h
  · split
    · exact h
    · exact h.hostMark.sendRelease

theorem Sound.pauseAny {n m} (h : Sound s) : Done.Sound (s.pauseAny n m) := by
  unfold State.pauseAny
  split
  · exact h.groupBegin
  · exact h.pauseMsg

theorem Sound.saveAny {n m} (h : Sound s) : Done.Sound (s.saveAny n m) := by
  unfold State.saveAny
  split
  · split
    · exact h
    · split
      · exact h.groupBegin
      · exact h.saveMsg
  · exact h.saveMsg

theorem Sound.resumeGroup {m} (h : Sound s) : Done.Sound (s.resumeGroup m) := by
  unfold State.resumeGroup
  dsimp only
  split
  · exact h
  · split
    · exact h.resumeHeld
    · split
      · exact h.sendRelease
      · exact h

theorem Sound.resumeAny {m} (h : Sound s) : Done.Sound (s.resumeAny m) := by
  unfold State.resumeAny
  split_ifs
  · exact h.groupBegin
  · exact h.resumeGroup
  · have hr : Done.Sound (s.resumeMsg m) := h.resumeMsg
    split
    · rename_i e
      rw [e] at hr
      split_ifs
      · exact Sound.meetAt hr
      · exact hr
    · rename_i e
      rw [e] at hr
      exact hr

theorem execContextSwitch_sound {c} (h : Sound s) : Leaves (execContextSwitch c s) := by
  unfold execContextSwitch
  split
  · split
    · exact .ite h (.ite (h.upTo (by omega)).setState.modLaunch.meetAt (h.upTo (by omega)).drained)
    · exact h
  · exact h

theorem Sound.loadSequence {c} (h : Sound s) : Sound (s.loadSequence c) := by
  unfold State.loadSequence
  extract_lets n sent blank m stream
  split
  · exact h
  · extract_lets r
    have hr : Sound r.2 := by
      unfold r
      split
      · exact h.resumeLoad
      · exact h
    have hanswered (n : Option Nat) : Sound (match n with
        | some n => r.2.endWait n r.1
        | none => r.2) := by
      cases n with
      | some n => exact hr.endWait
      | none => exact hr
    exact .ite hr.meetAt (hanswered n)

theorem Sound.beginSequence (h : Sound s) : Sound s.beginSequence := by
  unfold State.beginSequence
  dsimp only
  split
  · exact h.modGroup.each fun h => h.loadSequence
  · refine h.modGroup.each fun h => ?_
    split
    · exact h.askDrain
    · exact h.askDrain
    · exact h.setState.modLaunch.meetAt
    · exact h

theorem Sound.sequenceDue (h : Sound s) : Sound s.sequenceDue := by
  unfold State.sequenceDue
  split
  · exact h
  · split
    · exact h.beginSequence
    · exact .ite h.raiseStall h

theorem Sound.groupBoundary (h : Sound s) : Sound s.groupBoundary := by
  unfold State.groupBoundary
  split
  · exact h
  · exact .iteThen (.setFld (.iteThen h.sequenceDue fun h => h.modGroup.setFld)) fun h => h.sendAlignment

/-! ## Power -/

theorem Sound.showAwake (h : Sound s) : Sound s.showAwake :=
  h.each fun h => h.setBitOf

theorem Sound.wakeTick (h : Sound s) : Sound s.wakeTick :=
  (h.each fun h => .ite (.ite h.setFld.setFld h.setFld) h)

theorem Sound.sleepTick (h : Sound s) : Sound s.sleepTick :=
  ((h.each fun h => .ite h.setFld h).each fun h => .ite h.setFld h).showAwake

theorem execLeaveRelease_sound {a item} (h : Sound s) : Leaves (execLeaveRelease a item s) := by
  unfold execLeaveRelease
  dsimp only
  split
  · exact h
  · split
    · exact h.setAcre.countLeave
    · exact h

theorem execQueuedLeaveGrant_sound {a} (h : Sound s) : Leaves (execQueuedLeaveGrant a s) := by
  unfold execQueuedLeaveGrant
  dsimp only
  split
  · exact .ite h.settleLeave.setAcre.grant h.settleLeave
  · exact h.settleLeave

theorem Sound.capWrite {a v} (h : Sound s) : Sound (s.capWrite a v) :=
  .ite (.raise (.ite h.setFld h)) (.setFld (.ite h.setFld h))

theorem Sound.startLanes {e mask} (h : Sound s) : Sound (s.startLanes e mask) :=
  h.setEngine.setFld.showLanes

theorem execLaneStart_sound {e mask} (h : Sound s) : Leaves (execLaneStart e mask s) := by
  unfold execLaneStart
  dsimp only
  split
  · exact .ite h (.ite h.askLeave.startLanes h.askLeave.setEngine)
  · exact h

theorem execLaneStop_sound {e mask} (h : Sound s) : Leaves (execLaneStop e mask s) := by
  unfold execLaneStop
  dsimp only
  split
  · exact h
  · split
    · exact h.setEngine.setFld.showLanes.dropGrants
    · split
      · exact h.setEngine.setFld.showLanes.setAcre.countLeave
      · exact h.setEngine.setFld.showLanes

theorem execStateLoad_sound {e mask} (h : Sound s) : Leaves (execStateLoad e mask s) := by
  unfold execStateLoad
  dsimp only
  split
  · exact h
  · split
    · refine h.each fun h => ?_
      split
      · exact h.restoreLane
      · exact h.loadLane
    · exact h

theorem execPowerManagerDecision_sound {temps} (h : Sound s) : Leaves (execPowerManagerDecision temps s) := by
  refine h.within (by decide) fun h => ?_
  extract_lets t new buckets limits spent module wants shared mask next still powered calm stalls mine
  have hmodule : Sound module := ((h.each fun h => h.setFld).each fun h => h.setBitOf.setBitOf).setFld.showAwake
  have hstalls : Sound stalls := (Sound.setFld hmodule.setTemps).modGroup.modGroup
  exact .iteElse hstalls fun h => (h.each fun h => h.raiseStall).setFld

theorem Sound.ceilingWrite {v} (h : Sound s) : Sound (s.ceilingWrite v) :=
  (h.each fun h => h.setFld).setFld

theorem Sound.clearPoint {i} (h : Sound s) : Sound (s.clearPoint i) :=
  (h.each fun h => h.setReg).setReg.setReg.setReg

theorem Sound.clearPoints (h : Sound s) : Sound s.clearPoints :=
  h.each fun h => h.clearPoint

theorem Sound.monSel {i v} (h : Sound s) : Sound (s.monSel i v) :=
  .ite h.setReg.clearPoint h.setReg

theorem Sound.sampleInto {i v} (h : Sound s) : Sound (s.sampleInto i v) :=
  .bump (.bump (.ite (.setFld (.ite h.setFld.setFld h.setFld)) (.ite h.setFld.setFld h.setFld)))

theorem Sound.samplePoints (h : Sound s) : Sound s.samplePoints := by
  unfold State.samplePoints
  split
  · exact h
  · refine h.each fun h => ?_
    split
    · exact h
    · dsimp only
      split
      · exact h
      · split
        · exact h.sampleInto
        · exact h

/-! ## Operands -/

theorem Sound.setG {n c r v p lat} (h : Sound s) : Sound (s.setG n c r v p lat) :=
  .ite h h.setCore

theorem Sound.next {n c pc cost} (h : Sound s) : Sound (s.next n c pc cost) :=
  h.setCore.setFld

theorem Sound.advance {n c} (h : Sound s) : Sound (s.advance n c) :=
  h.next

/-! ## Gleaner cores -/

theorem Sound.captureCore {k c} (h : Sound s) : Sound (s.captureCore k c) := by
  unfold State.captureCore
  dsimp only
  split
  · exact h.draw.captureRecord
  · exact h.draw.captureRecord

theorem Sound.coreFault {k c cause} (h : Sound s) : Sound (s.coreFault k c cause) := by
  unfold State.coreFault
  dsimp only
  split
  · exact h.stopCore.captureCore.faultStream
  · split
    · refine .faultStream ?_
      split
      · exact h.stopCore.setCtx
      · exact h.stopCore
    · exact .ite h.stopCore.report.faultStream h.stopCore.report

theorem Sound.issue {k srcs divides f} (h : Sound s) (hf : ∀ {y t}, Sound t → Sound (f y t)) : Sound (s.issue k srcs divides f) := by
  unfold State.issue
  dsimp only
  split
  · exact h
  · split
    · exact h
    · split
      · exact h.setFld
      · split
        · exact (h.upTo (by omega)).setFld.coreFault
        · split
          · exact (h.upTo (by omega)).setFld.coreFault
          · exact hf (h.upTo (by omega)).setFld

theorem Sound.issueClean {k srcs clean f} (h : Sound s) (hf : ∀ {y t}, Sound t → Sound (f y t)) : Sound (s.issueClean k srcs clean f) :=
  h.issue fun h => .ite h.coreFault (hf h)

theorem Sound.alu {k rd srcs lat v} (h : Sound s) : Sound (s.alu k rd srcs lat v) :=
  h.issue fun h => h.setG.advance

theorem Sound.alu2 {k rd ra rb lat f} (h : Sound s) : Sound (s.alu2 k rd ra rb lat f) :=
  h.alu

theorem Sound.alu1 {k rd ra f} (h : Sound s) : Sound (s.alu1 k rd ra f) :=
  h.alu

theorem Sound.divide {k rd ra rb f} (h : Sound s) : Sound (s.divide k rd ra rb f) :=
  h.issue fun h => h.setG.setCore.advance

theorem Sound.branch {k ra rb off p} (h : Sound s) : Sound (s.branch k ra rb off p) :=
  h.issueClean fun h => .ite h.next h.advance

theorem Sound.load {k rd ra off n} (h : Sound s) : Sound (s.load k rd ra off n) :=
  h.issueClean fun h => .ite h.coreFault h.setG.advance

theorem Sound.storeD {k rd ra off n} (h : Sound s) : Sound (s.storeD k rd ra off n) :=
  h.issueClean fun h => .ite h.coreFault h.store.advance

theorem Sound.cribLatency {k c bank} (h : Sound s) : Sound (s.cribLatency k c bank).2 := by
  unfold State.cribLatency
  dsimp only
  split
  · exact h
  · exact h.draw

theorem Sound.cribOp {k c a n drop f} (h : Sound s) (hdrop : ∀ {t}, Sound t → Sound (drop t)) (hf : ∀ {t}, Sound t → Sound (f t)) :
    Sound (s.cribOp k c a n drop f) :=
  .ite h.coreFault (.ite (.advance (hf h)) (.advance (hdrop h.raise)))

theorem Sound.cribResult {r : (List Byte × Bool) × State} {k c bank rd} (h : Sound r.2) : Sound (State.cribResult r k c bank rd) :=
  h.cribLatency.setG

theorem Sound.dropRead {k c rd} (h : Sound s) : Sound (s.dropRead k c rd) :=
  h.setG

theorem Sound.cribLoad {k rd ra off n} (h : Sound s) : Sound (s.cribLoad k rd ra off n) :=
  h.issueClean fun h => h.cribOp (fun h => h.dropRead) fun h => h.bankRead.cribResult

theorem Sound.cribStore {k rd ra off n} (h : Sound s) : Sound (s.cribStore k rd ra off n) :=
  h.issueClean fun h => h.cribOp (fun h => h) fun h => h.bankWrite

theorem Sound.cribAtomic {k rd ra rb n f mix} (h : Sound s) : Sound (s.cribAtomic k rd ra rb n f mix) :=
  h.issueClean fun h => h.cribOp (fun h => h.dropRead) fun h => h.bankAtomic.cribResult

theorem Sound.holdCore {n w} (h : Sound s) : Sound (s.holdCore n w) :=
  h.setCore.setFld

theorem Sound.waitUntil {n t w} (h : Sound s) : Sound (s.waitUntil n t w) :=
  h.setCore.holdCore

theorem execQrd_sound {k rd ra} (h : Sound s) : Leaves (execQrd k rd ra s) :=
  h.issueClean fun h => .ite h.coreFault (.ite h.raise.holdCore ((h.queueGet.setCore.foldl fun h => h.setG).advance))

theorem execRrd_sound {k rd ra} (h : Sound s) : Leaves (execRrd k rd ra s) := by
  unfold execRrd
  refine h.issueClean fun h => ?_
  dsimp only
  split
  · exact h.coreFault
  · exact h.setG.advance

theorem execRwr_sound {k ra rb} (h : Sound s) : Leaves (execRwr k ra rb s) := by
  unfold execRwr
  refine h.issueClean fun h => ?_
  dsimp only
  split
  · exact h.coreFault
  · refine .advance ?_
    split
    · exact h.unitWrite
    · exact h

theorem Sound.vJournal {k c sub v f} (h : Sound s) (hf : ∀ {y t}, Sound t → Sound (f y t)) : Sound (s.vJournal k c sub v f) :=
  .ite (hf h.journal) h.coreFault

theorem Sound.vop {k d srcs clean sub read f} (h : Sound s) (hread : ∀ {t}, Sound t → Sound (read t).2)
    (hf : ∀ {c v t}, Sound t → Sound (f c v t)) :
    Sound (s.vop k d srcs clean sub read f) := by
  refine h.issueClean fun {c t} h => ?_
  dsimp only
  split
  · exact h
  · refine .ite (hf (hread h.bump)) (.ite h.bump.coreFault ?_)
    split
    · exact hf h.bump.modLaunch
    · split
      · split
        · exact h.bump.modLaunch.vJournal hf
        · exact h.bump.modLaunch.coreFault
      · exact .ite h.bump.coreFault (.vJournal (hread h.bump) hf)

theorem Sound.vResult {k rd srcs c v} (h : Sound s) : Sound (s.vResult k rd srcs c v) :=
  h.setG.advance

theorem execTemp_sound {k d rd} (h : Sound s) : Leaves (execTemp k d rd s) := by
  refine h.vop (fun h => ?_) fun h => h.vResult
  split
  · exact h
  · exact h.draw

theorem execLstat_sound {k d rd ra} (h : Sound s) : Leaves (execLstat k d rd ra s) := by
  refine h.vop (fun h => ?_) fun h => h.vResult
  dsimp only
  split
  · exact h
  · exact h.draw

theorem execGleanStart_sound {k desc} (h : Sound s) : Leaves (execGleanStart k desc s) := by
  unfold execGleanStart
  dsimp only
  split
  · exact h
  · exact .ite h h.setCore.setFld.setFld

theorem execHalt_sound {k} (h : Sound s) : Leaves (execHalt k s) := by
  unfold execHalt
  refine h.issue fun h => ?_
  dsimp only
  split
  · exact h.advance.setCore.bump.setFld.modRunning
  · exact h.advance.setCore.bump.setFld

theorem execCoreStallRelease_sound {k} (h : Sound s) : Leaves (execCoreStallRelease k s) := by
  unfold execCoreStallRelease
  extract_lets n
  change Sound _
  split
  · exact h
  · extract_lets cyc begun resumed
    have hbegun (early : cyc < 1024) : Sound begun := (h.upTo (by omega))
    split
    · exact h
    · rename_i waits
      have hbegun : Sound begun := hbegun (not_le.mp fun late => waits (.inr (.inr (.inl late))))
      have hresumed : Sound resumed := by
        unfold resumed
        split
        · exact hbegun.resumeRead
        · exact hbegun.setFld
        · exact hbegun
      exact .ite hresumed hresumed.wake

/-! ## Harrow tiles -/

theorem Sound.regionRead {k c a n} (h : Sound s) : Sound (s.regionRead k c a n).2 :=
  .foldPair h .bankRead

theorem Sound.regionWrite {k c a v p} (h : Sound s) : Sound (s.regionWrite k c a v p) :=
  h.foldl fun h => h.bankWrite

theorem Sound.writeRow {k c q rd m ys p} (h : Sound s) : Sound (s.writeRow k c q rd m ys p).2 := by
  unfold State.writeRow
  dsimp only
  split
  · exact h.foldl fun h => h.regionWrite
  · exact .ite h.regionWrite.regionWrite h.regionWrite

theorem Sound.kernel {k c q} (h : Sound s) : Sound (s.kernel k c q) := by
  unfold State.kernel
  dsimp only
  refine .bump (.setFld (.iteThen (.iteElse (.iteElse (.iteThen (.foldPair (.foldPair h fun h => .regionRead h) fun h => .writeRow h) ?p) ?o) ?a) ?r))
  case p => exact fun h => .raise h
  case o => exact fun h => .bump (.raise h)
  case a => exact fun h => .bump (.raise h)
  case r => exact fun h => .bump h

theorem Sound.timeKernel {k c payload q} (h : Sound s) : Sound (s.timeKernel k c payload q) :=
  h.modRunning

theorem Sound.harrow {st desc op} (h : Sound s) : Leaves (s.harrow st desc op) := by
  unfold State.harrow
  dsimp only
  split
  · exact h
  · split
    · exact h
    · split
      · exact h.anything.modRunning
      · exact h.withLeave fun h => h.timeKernel.kernel

theorem Sound.closeMove {k} (h : Sound s) : Sound (s.closeMove k) :=
  h.setFld.setFld.setFld.setGen

theorem Sound.takeToken {k v} (h : Sound s) : Sound (s.takeToken k v) :=
  .ite h.setGen.setFld (.ite h.closeMove.setFld.setFld (.ite h.setGen.closeMove.wrap.bump (.ite h.closeMove.bump (.ite h.setFld h))))

theorem Sound.logToken {k c v} (h : Sound s) : Sound (s.logToken k c v) := by
  unfold State.logToken
  split
  · exact h
  · refine .setCtx ?_
    split
    · exact h.gddrPut
    · exact h

theorem Sound.endStep {k v} (h : Sound s) : Sound (s.endStep k v) :=
  .ite (.ite h.setFld.wrap.raise.closeMove.bump h.setFld.wrap.raise) h.setFld.wrap

theorem Sound.broadcast {c layer v} (h : Sound s) : Sound (s.broadcast c layer v) :=
  h.foldl fun h => h.regionWrite.regionWrite

theorem Sound.part {k c a n} (h : Sound s) : Sound (s.part k c a n).2.2 :=
  h.regionRead

theorem Sound.gather {c layer} (h : Sound s) : Sound (s.gather c layer).2 := by
  refine .foldPair h fun h => ?_
  dsimp only
  split_ifs
  · exact .part (.part h)
  · exact .part h

theorem Sound.runLayers {k c logits layers v} (h : Sound s) : Sound (s.runLayers k c logits layers v) := by
  induction layers generalizing s v with
  | nil => exact h
  | cons layer rest ih =>
    have hout : Sound (((layer.foldl (fun s x => s.kernel x.1.ix c (s.kernelAt x)) ((s.broadcast c layer v).cart (some c) chHarrow
        (cartPackets v.elements.length * layer.length) (stookSpot k) (stookSpot k))).gather c layer)).2 :=
      .gather (.foldl (.cart (.broadcast h)) fun h => .kernel h)
    unfold State.runLayers
    dsimp only
    split
    · exact hout.regionWrite
    · exact ih hout

theorem Sound.regionCopy {k c src dst n} (h : Sound s) : Sound (s.regionCopy k c src dst n) :=
  h.part.regionWrite

theorem Sound.stepInput {k c at_ len start} (h : Sound s) : Sound (s.stepInput k c at_ len start).2 :=
  h.part.part.part

theorem Sound.tokenStep {k c layers logits stateFrom stateTo stateLen} (h : Sound s) :
    Sound (s.tokenStep k c layers logits stateFrom stateTo stateLen) :=
  h.stepInput.runLayers.regionCopy.logToken.takeToken.endStep.setGen

theorem execTokenStep_sound {st layers logits stateFrom stateTo stateLen} (h : Sound s) :
    Leaves (execTokenStep st layers logits stateFrom stateTo stateLen s) := by
  unfold execTokenStep
  dsimp only
  split
  · exact h
  · split
    · exact h
    · exact h.formed (h.withLeaves fun h => h.tokenStep)

theorem execGeneratorRestart_sound {st stateFrom stateTo stateLen} (h : Sound s) : Leaves (execGeneratorRestart st stateFrom stateTo stateLen s) := by
  unfold execGeneratorRestart
  dsimp only
  split
  · exact h
  · split
    · exact h
    · exact h.formed h.closeMove.setFld.setFld.setFld.setFld.setGen.regionCopy

theorem execGeneratorInputCopy_sound {st buf} (h : Sound s) : Leaves (execGeneratorInputCopy st buf s) := by
  unfold execGeneratorInputCopy
  dsimp only
  split
  · exact h
  · exact (h.formed ((h.within (by decide) fun h => .ite h h.regionWrite.setGen)))

/-! ## Mailbox reads and replay -/

theorem Sound.readBestNow {m} (h : Sound s) : Sound (s.readBestNow m).2 := by
  unfold State.readBestNow
  dsimp only
  split
  · exact h
  · split
    · exact h
    · refine .wrN ?_
      split
      · exact h
      · split
        · exact h
        · exact h.draw

theorem Sound.readBest {n m} (h : Sound s) : Done.Sound (s.readBest n m) := by
  unfold State.readBest
  split
  · exact h.setChan
  · exact h.wakeService.readBestNow

theorem Sound.answerBest {n} (h : Sound s) : Sound (s.answerBest n) := by
  unfold State.answerBest
  split
  · exact h.readBestNow.endWait
  · exact h

theorem Sound.serveBests (h : Sound s) : Sound s.serveBests :=
  h.each fun h => h.answerBest

theorem Sound.captureRead {m} (h : Sound s) : Sound (s.captureRead m).2 := by
  unfold State.captureRead
  dsimp only
  split
  · split
    · exact h
    · exact h.serviceCart.wrN
  · split
    · exact h
    · exact h.serviceCart.wrN

theorem Sound.monRead {m} (h : Sound s) : Sound (s.monRead m).2 := by
  unfold State.monRead
  dsimp only
  split
  · exact h
  · split
    · exact h.serviceCart.wrN
    · exact h.serviceCart

theorem Sound.feedReplay {c r ticks} (h : Sound s) (ht : Sound t) : Sound (s.feedReplay t c r ticks).2 := by
  unfold State.feedReplay
  dsimp only
  split
  · exact h
  · rename_i e
    exact Sound.rederive (.foldl ht.modLaunch .journal) e

theorem Sound.revive {g n} (h : Sound s) : Sound (s.revive g n) := by
  unfold State.revive
  split
  · exact h
  · exact h.setGraph

theorem Sound.replayFresh {m j image w seed v g} (h : Sound s) : Sound (s.replayFresh m j image w seed v g).2 := by
  unfold State.replayFresh
  dsimp only
  split
  · exact h.feedReplay h.revive.launchWith
  · exact h.revive.launchWith.sweep

theorem Sound.replaySaved {m j w saved v} (h : Sound s) : Sound (s.replaySaved m j w saved v).2 := by
  unfold State.replaySaved
  dsimp only
  split
  · refine h.feedReplay ?_
    split
    · exact h.setCtx.resumeLoad.journal
    · exact h.setCtx.resumeLoad
  · exact h

theorem Sound.replayStart {m} (h : Sound s) : Sound (s.replayStart m).2 := by
  unfold State.replayStart
  dsimp only
  split
  · exact h
  · split
    · exact h
    · split
      · exact h
      · split
        · exact h
        · split
          · exact h
          · split
            · exact h
            · split
              · exact h
              · split
                · exact h
                · split
                  · split
                    · exact h
                    · split
                      · exact h.replaySaved
                      · exact h
                  · split
                    · split
                      · exact h
                      · exact h.replayFresh
                    · exact h

/-! ## Ticks -/

theorem Sound.takeStaged {p} (h : Sound s) : Sound (s.takeStaged p) :=
  .foldl h fun h => h.settle

theorem Sound.withdrawGroup {e} (h : Sound s) : Sound (s.withdrawGroup e) :=
  h.each fun h => h.withdraw

theorem Sound.beginLane {n tau} (h : Sound s) : Sound (s.beginLane n tau) :=
  h.setLane.setFld.setFld

theorem Sound.beginEngine {c e l fresh} (h : Sound s) : Sound (s.beginEngine c e l fresh) := by
  unfold State.beginEngine
  extract_lets flushed g drains written run stopped opened points shown items s'
  have hwritten : Sound written := .iteElse h.flushOverlay fun h => h.foldl fun h => h.cfgWrite
  have hrun : Sound run := .ite hwritten.setFld (.iteThen hwritten fun h => h.setFld)
  have hstopped : Sound stopped := .iteThen hrun fun h => h.withdrawGroup
  have hshown : Sound shown := hstopped.openTiles.setReg.setFld
  exact .showLanes (hshown.setEngine.each fun h => h.beginLane)

theorem Sound.stepKeys {c l} (h : Sound s) : Sound (s.stepKeys c l) :=
  h.each fun h => h.setGen

theorem Sound.beginOn {c fresh engines} (h : Sound s) : Sound (s.beginOn c fresh engines) := by
  unfold State.beginOn
  dsimp only
  split
  · exact h.modLaunch
  · exact .each (.ite h.modLaunch.takeStaged.stepKeys.withdrawAll h.modLaunch.takeStaged.stepKeys) fun h => h.beginEngine

theorem Sound.beginTick {c fresh} (h : Sound s) : Sound (s.beginTick c fresh) :=
  h.modLaunch.beginOn.castVotes

theorem Sound.meetStall {c} (h : Sound s) : Sound (s.meetStall c) := by
  unfold State.meetStall
  split
  · split
    · exact .ite h.meetAt h
    · exact h
  · exact h

theorem Sound.quiet {c key} (h : Sound s) : Sound (s.quiet c key) :=
  (h.each fun h => .setFld (.ite h.withdrawGroup.setFld h))

theorem Sound.stallVotes {c l} (h : Sound s) : Sound (s.stallVotes c l) :=
  .ite (.raiseStall (.ite h.castVotes h)) (.ite h.castVotes h)

theorem Sound.enterTick {c group fresh} (h : Sound s) : Sound (s.enterTick c group fresh) := by
  unfold State.enterTick
  split
  · exact h
  · extract_lets due voted holds drains key at_ held was woken begun
    have hvoted : Sound voted := h.stallVotes
    have hheld : Sound held := hvoted.modLaunch.quiet
    have hbegun : Sound begun := .beginTick (.iteThen hvoted fun h => h.setState)
    exact .ite (.ite hheld.meetStall hheld)
      (.ite (.ite hvoted.modLaunch.quiet.setState hvoted.modLaunch.setState.beginTick) (.ite hbegun.modLaunch hbegun))

theorem Sound.coefReported {c l apply report} (h : Sound s) : Sound (s.coefReported c l apply report) := by
  unfold State.coefReported
  dsimp only
  split
  · exact h.setCtx.gddrPut
  · exact h.setCtx

theorem Sound.settlePatch {c l} (h : Sound s) : Sound (s.settlePatch c l) := by
  unfold State.settlePatch
  split
  · exact h
  · exact .ite h (.sweep (.ite h.modLaunch.coefReported h.modLaunch))

theorem Sound.settleRecovery {c l} (h : Sound s) : Sound (s.settleRecovery c l) := by
  unfold State.settleRecovery
  split
  · exact h
  · exact .ite (.ite h h.closeRecovery) (.modLaunch (.ite h h.closeRecovery))

theorem Sound.startDrain {c f ch} (h : Sound s) : Sound (s.startDrain c f ch) :=
  h.modLaunch.each fun h => h.withdrawGroup

theorem Sound.chooseDrain {c} (h : Sound s) : Sound (s.chooseDrain c) := by
  unfold State.chooseDrain
  split
  · exact h
  · split
    · exact .ite h.startDrain h
    · exact h
    · split
      · exact h.startDrain
      · split
        · exact .ite h.startDrain h
        · exact h

theorem Sound.advanceLogical {c l} (h : Sound s) : Sound (s.advanceLogical c l).2 := by
  unfold State.advanceLogical
  extract_lets drain
  have hdrain {d w} : Sound (drain d w) := h.modLaunch
  split
  · split_ifs
    · exact h.modLaunch.chooseDrain
    · exact hdrain
    · exact hdrain
    · exact hdrain
    · exact h
    · exact h
  · exact h.modLaunch.chooseDrain
  · exact h.sampleTick.settlePatch.settleRecovery.modLaunch.chooseDrain

theorem Sound.countHold {c} (h : Sound s) : Sound (s.countHold c) :=
  h.modLaunch

theorem Sound.retryTick {c group} (h : Sound s) : Sound (s.retryTick c group) :=
  h.chooseDrain.enterTick

theorem Sound.frameBoundary {c l group} (h : Sound s) : Sound (s.frameBoundary c l group) := by
  unfold State.frameBoundary
  extract_lets ended r
  have hr : Sound r.2 := by
    unfold r
    split
    · exact h.advanceLogical
    · exact h
  split
  · exact hr
  · extract_lets voted holds held
    have hheld : Sound held := .modLaunch (.iteThen hr fun h => h.stallVotes)
    exact .ite hheld (.iteThen hheld.countHold.quiet fun h => h.meetStall)

theorem Sound.launchBoundary {c group} (h : Sound s) : Sound (s.launchBoundary c group) := by
  unfold State.launchBoundary
  split
  · exact h
  · refine .ite h ?_
    split
    · exact .ite h (.ite h.acted.modLaunch.frameBoundary h.acted.modLaunch.enterTick)
    · extract_lets m begun mid still held r
      have hbegun : Sound begun := h.modLaunch
      have hheld : Sound held := hbegun.modLaunch.countHold.quiet
      exact .ite (.ite (hbegun.each fun h => h.showLanes).modLaunch (.ite hheld.meetStall hheld))
        (.ite hbegun.frameBoundary (.ite hbegun.countHold.retryTick hbegun.advanceLogical.enterTick))

theorem Sound.idle (h : Sound s) : Sound s.idle :=
  ⟨Nat.min_le_right _ _, h.2⟩

/-- The next wall tick begins at cycle 0 (R136). -/
theorem Sound.nextTick (h : Sound s) : Sound s.nextTick := by
  have hr : Sound (s.setReg .hubTick 0 (s.reg .hubTick 0 + 1)) := h.setReg
  have h0 {arrived fallow} : Sound { s.setReg .hubTick 0 (s.reg .hubTick 0 + 1) with
    cyc := 0, arrived := arrived, fallow := fallow, entAsked := 0, stale := [], standbyTick := s.standbyTick + 1 } := ⟨Nat.zero_le _, hr.2⟩
  exact .iteThen (.setSources (.each (.each (.each (.each h0 .setFld) .wrap) .setAcre) .setEngine)) fun h => .each h .wrap

theorem Sound.watchdogTick (h : Sound s) : Sound s.watchdogTick :=
  h.each fun h => .ite h.setStream h

theorem Sound.compareTicks (h : Sound s) : Sound s.compareTicks :=
  .ite h h.reportAt

theorem Sound.boundary (h : Sound s) : Sound s.boundary := by
  unfold State.boundary
  extract_lets ticked group aligned awake launches idle staged
  have hticked : Sound ticked := h.cartTo.samplePoints.clearOuts.nextTick.compareTicks.groupBoundary
  have hlaunches : Sound launches := hticked.modGroup.wakeTick.sleepTick.each fun h => h.launchBoundary
  exact hlaunches.takeStaged.drawKeys.serveReads.serveBests.watchdogTick

theorem execLaunchStart_sound {c} (h : Sound s) : Leaves (execLaunchStart c s) := by
  unfold execLaunchStart
  refine h.within (by decide) fun ht => ?_
  split
  · exact .ite (.ite ht.acted.setState.modLaunch.frameBoundary ht.acted.setState.enterTick) h
  · exact h

theorem Sound.finalAudits {c l v} (h : Sound s) : Sound (s.finalAudits c l v) :=
  .auditBusy (.ite ((h.emitAudits.setFree.auditRecord.each fun h => h.mismatch).putAudit) h.emitAudits)

theorem Sound.endLaunch {c l v last} (h : Sound s) : Sound (s.endLaunch c l v last) := by
  have hverdict : Sound (match l.verdict with
      | some w => if l.folded then s.applyVerdict c l w else s
      | none => s) := by
    split
    · exact .ite h.applyVerdict h
    · exact h
  unfold State.endLaunch
  refine .sweepAll (.failWaiters (.each (.done (.setCtx (.release (.journal ?_)))) .answerBest))
  split
  · rename_i alloc
    exact (hverdict.withdrawAll.sampleTick.finalAudits.dropObject.allocKeep alloc).setCtx
  · exact hverdict.withdrawAll.sampleTick.finalAudits.dropObject

theorem execLaunchEnd_sound {c} (h : Sound s) : Leaves (execLaunchEnd c s) := by
  unfold execLaunchEnd
  split
  · exact .ite h.endLaunch h
  · exact h

theorem execDigestWrite_sound {c} (h : Sound s) : Leaves (execDigestWrite c s) := by
  unfold execDigestWrite
  refine h.within (by decide) fun ht => ?_
  split
  · dsimp only
    split
    · split
      · exact .ite ht.writeDigest.endLaunch ht.writeDigest
      · exact ht.writeDigest
    · exact h
  · exact h

theorem execStreamInputApply_sound {c} (h : Sound s) : Leaves (execStreamInputApply c s) := by
  unfold execStreamInputApply
  refine h.within (by decide) fun ht => ?_
  split
  · exact .ite ((ht.foldl fun h => h.gddrPut).modLaunch) h
  · exact h

theorem Sound.handOver {c l d parent} (h : Sound s) : Sound (s.handOver c l d parent) := by
  unfold State.handOver
  dsimp only
  split
  · exact h.coefReported
  · split
    · exact h.coefReported
    · rename_i e
      have h := h.derive e
      exact (h.setExacts.foldl fun h => h.journal).draw.modLaunch

theorem execCoefficientPatchHandover_sound {c area count apply} (h : Sound s) : Leaves (execCoefficientPatchHandover c area count apply s) := by
  unfold execCoefficientPatchHandover
  dsimp only
  split
  · split
    · split
      · exact h
      · split
        · exact h.handOver
        · exact h
    · exact h
  · exact h

/-! ## Fold frames -/

theorem Sound.swapAcre {a} (h : Sound s) : Sound (s.swapAcre a) :=
  h.setAcre.setAcre

theorem Sound.swapFields {c l} (h : Sound s) : Sound (s.swapFields c l) := by
  have hswap : Sound (l.foldedAcres.foldl State.swapAcre s) := h.foldl fun h => h.swapAcre
  exact .modLaunch ⟨hswap.1, Memory.wf_rekey_shadowByte hswap.2⟩

theorem Sound.frameVotes {c l} (h : Sound s) : Sound (s.frameVotes c l) :=
  .ite ((h.each fun h => h.setEngine)) h

theorem Sound.verdictTick {c} (h : Sound s) : Sound (s.verdictTick c) := by
  unfold State.verdictTick
  extract_lets verdict begun quiet
  have hverdict : Sound verdict := by
    unfold verdict
    split
    · split
      · exact h.applyVerdict
      · exact h
    · exact h
  have hquiet : Sound quiet := hverdict.beginTick.quiet.modLaunch
  split
  · exact hquiet.frameTiles.frameVotes
  · exact hquiet

theorem Sound.slotTick {c dies} (h : Sound s) : Sound (s.slotTick c dies) :=
  ((h.each fun h => h.setEngine).each fun h => h.showLanes).modLaunch

theorem Sound.firstSlot {c l} (h : Sound s) : Sound (s.firstSlot c l) :=
  .ite h.frameNotices.slotTick.modLaunch h.frameNotices.slotTick

theorem execFoldFrame_sound {c} (h : Sound s) : Leaves (execFoldFrame c s) := by
  unfold execFoldFrame
  dsimp only
  split
  · exact h
  · exact .ite h (.ite h.modLaunch.verdictTick (.ite h.modLaunch.firstSlot (.ite h.modLaunch.swapFields (.ite h.modLaunch.slotTick h.modLaunch))))

/-! ## Streams and fences -/

theorem Sound.placeEntry {c k a data} (h : Sound s) : Sound (s.placeEntry c k a data) := by
  unfold State.placeEntry
  extract_lets bound stream restarted stream limited input stored stream waiting
  have hrestarted : Sound restarted := .iteThen h.bind fun h => h.setReg.setStream
  have hlimited : Sound limited := .iteThen hrestarted fun h => h.setStream
  have hinput : Sound input := .iteThen hlimited fun h => h.journal.modLaunch
  exact .iteThen hinput.store.offer.setStream fun h => h.rewatch

theorem Sound.submitMsg {m} (h : Sound s) : Sound (s.submitMsg m).2 := by
  unfold State.submitMsg
  dsimp only
  split
  · exact h
  · split
    · exact h.deny
    · exact h.placeEntry

theorem Sound.fenceSignal {m} (h : Sound s) : Sound (s.fenceSignal m).2 :=
  h.fence

theorem Sound.fenceWait {m} (h : Sound s) : Sound (s.fenceWait m).2 := by
  unfold State.fenceWait
  dsimp only
  split
  · exact h
  · split
    · exact h
    · exact h.bind.setStream

theorem Sound.captureHang {kind c x k r} (h : Sound s) : Sound (s.captureHang kind c x k r) :=
  h.captureRecord

theorem Sound.wipeUnits (h : Sound s) : Sound s.wipeUnits :=
  .each h fun h => h.setAcre.countLeave

theorem Sound.keepPaused {c} (h : Sound s) : Sound (s.keepPaused c) := by
  unfold State.keepPaused
  split
  · exact h.takeGeneration
  · exact h

theorem Sound.restorePaused {c} (h : Sound s) : Sound (s.restorePaused c) := by
  unfold State.restorePaused
  split
  · exact h.restoreSaved.modLaunch
  · exact h

theorem Sound.hangWindow (h : Sound s) : Sound s.hangWindow :=
  .ite h h.setFld.setFld.setHangStart

theorem Sound.planeReset (h : Sound s) : Sound s.planeReset := by
  unfold State.planeReset
  extract_lets counted limit wiped restored
  have hlimit : Sound limit := .iteThen h.bump.bump fun h => h.raise
  exact (((hlimit.each fun h => h.keepPaused).wipeUnits.each fun h => h.reload).each fun h => h.restorePaused).recoverRunning

theorem Sound.dropChains {c} (h : Sound s) : Sound (s.dropChains c) :=
  h.each fun h => h.setStook.countChain

theorem Sound.logHang {code action k r c us} (h : Sound s) : Sound (s.logHang code action k r c us) :=
  h.logFault

theorem Sound.quarantine {c x k r} (h : Sound s) : Sound (s.quarantine c x k r) :=
  h.captureHang.logHang.bump.dropChains.faultCtx.setCtx.endStream

theorem Sound.hang {c x k r} (h : Sound s) : Sound (s.hang c x k r) :=
  h.captureHang.logHang.setCtx.planeReset

theorem Sound.expire {x} (h : Sound s) : Sound (s.expire x) := by
  unfold State.expire
  split
  · exact .ite h.hangWindow.quarantine h.hangWindow.hang
  · exact h.endStream

/-! ## Start-up and configuration store -/

theorem Sound.eraseArea {bank image} (h : Sound s) : Sound (s.eraseArea bank image) :=
  .ite h.blank h.blank

theorem Sound.syncCfg (h : Sound s) : Sound s.syncCfg := by
  unfold State.syncCfg
  dsimp only
  split
  · exact (h.each fun h => h.setReg.setReg).setFld.setFld
  · exact (h.each fun h => h.setReg.setReg).setFld.setFld

theorem Sound.syncSec (h : Sound s) : Sound s.syncSec :=
  h.setFld.setFld.setFld.each fun h => h.setReg

theorem Sound.loadRepair (h : Sound s) : Sound s.loadRepair := by
  unfold State.loadRepair
  split
  · exact h
  · exact ((h.each fun h => .setWires (.setFld (.setFld (.ite h.setReg.setBitOf h.setReg)))).each fun h => h.setAcre)

theorem Sound.writeStore {image payload} (h : Sound s) : Sound (s.writeStore image payload) := by
  unfold State.writeStore
  exact .syncCfg (.bump (.wrN h.eraseArea))

theorem Sound.writeItems {l} (h : Sound s) : Sound (s.writeItems l) :=
  h.writeStore

theorem Sound.retireModule {body} (h : Sound s) : Sound (s.retireModule body) := by
  unfold State.retireModule
  exact .syncCfg (.eraseArea h.writeStore)

theorem Sound.deploy {body} (h : Sound s) : Sound (s.deploy body) := by
  unfold State.deploy
  split
  · rename_i e _ _
    exact (h.takeBlocks e).writeItems
  · exact h.writeItems

theorem Sound.runJob {j} (h : Sound s) : Sound (s.runJob j) :=
  .ite h.writeStore (.ite h.writeItems (.ite h.retireModule (.ite h.deploy h.writeItems)))

theorem Sound.endSessions (h : Sound s) : Sound s.endSessions :=
  .ite h.endSession.endSession h

theorem Sound.storeDone (h : Sound s) : Sound s.storeDone := by
  unfold State.storeDone
  split
  · exact h
  · dsimp only
    split
    · exact .setFld (.syncSec (.runJob h))
    · exact .endSessions (.endWait (.setFld (.setFld (.syncSec (.runJob h)))))

theorem Sound.cfgMsg {n m} (h : Sound s) : Done.Sound (s.cfgMsg n m) := by
  unfold State.cfgMsg
  split
  · exact h.setFld
  · split
    · exact .setFld (.ite h.bump h)
    · exact .setFld h

/-- A cold start keeps the configuration store alone: a part of the memory that it erases its spare bank in (R509). -/
theorem Sound.cold (h : Sound s) : Sound s.cold := by
  have herased : Sound (match s.jobs with
      | j :: _ => s.eraseArea (s.spareBank j.image) j.image
      | [] => s) := by
    split
    · exact h.eraseArea
    · exact h
  exact ⟨Nat.zero_le _, swf_filter herased.2⟩

theorem Sound.barnsBack (h : Sound s) : Sound s.barnsBack :=
  h.foldl fun h => .ite h.draw.setBarnLost h.draw

theorem Sound.loadDefaults (h : Sound s) : Sound s.loadDefaults := by
  unfold State.loadDefaults
  split
  · exact h
  · exact h.setReg.setFld.setReg.setReg

theorem Sound.trainDjc {p up} (h : Sound s) : Sound (s.trainDjc p up) :=
  .ite h.setReg.setFld.setFld h.setReg.setFld

theorem Sound.startLose {d} (h : Sound s) : Sound (s.startLose d) :=
  .ite h h.setBitOf.setBitOf

theorem Sound.testAcre {a failed} (h : Sound s) : Sound (s.testAcre a failed) := by
  unfold State.testAcre
  dsimp only
  split
  · exact h
  · exact h.setAcre.bump.setReg
  · exact h.startLose

theorem Sound.selfTest {f} (h : Sound s) : Sound (s.selfTest f) :=
  (((h.each fun h => h.testAcre).each fun h => h.startLose).foldl fun h => .ite h.setWires h.setLostLinks).setLostLinks

theorem Sound.trainMemory {f} (h : Sound s) : Sound (s.trainMemory f) :=
  (((h.foldl fun h => h.setBitOf).foldl fun h => h.setBitOf).each fun h => .ite (.startLose (.ite h.setFld h)) (.ite h.setFld h))

theorem Sound.bringUp {f} (h : Sound s) : Sound (s.bringUp f) := by
  unfold State.bringUp
  extract_lets loaded trained tested repaired powered
  have htested : Sound tested := h.loadRepair.loadDefaults.trainDjc.trainDjc.selfTest.trainMemory
  have hrepaired : Sound repaired := .iteThen htested fun h => h.writeItems
  have hpowered : Sound powered := .sleepTick hrepaired.setPowered
  exact hpowered.setFld.setFld.setFld

theorem Sound.boot {f} (h : Sound s) : Sound (s.boot f) := by
  unfold State.boot
  dsimp only
  split
  · exact h.barnsBack.syncCfg.syncSec.setFld.bump.setFld.setFld.setFld.setFld.setFld.setFld.setFld.setFld.syncEnt.bringUp
  · exact h.barnsBack.syncCfg.syncSec.setFld.bump.setFld

theorem Sound.startFrom {f} (h : Sound s) : Sound (s.startFrom f) := by
  unfold State.startFrom
  extract_lets phase sources valid
  have hvalid : Sound valid := Sound.setRefValid (h.setFld.setSource.setSource : Sound sources)
  exact .ite hvalid (.ite hvalid.setStartWaits hvalid.boot)

theorem execReferenceValid_sound (h : Sound s) : Leaves (execReferenceValid s) := by
  unfold execReferenceValid
  split
  · exact .boot h
  · exact h

theorem Sound.moduleReset {f} (h : Sound s) : Sound (s.moduleReset f) :=
  .ite h.cold.startFrom h

theorem Sound.cfgCtrl {unlock reset f} (h : Sound s) : Sound (s.cfgCtrl unlock reset f) :=
  .ite h.moduleReset h

theorem Sound.cfgCtrlWrite {v} (h : Sound s) : Sound (s.cfgCtrlWrite v) :=
  h.cfgCtrl

theorem Sound.tap {t f} (h : Sound s) : Sound (s.tap t f) :=
  .ite h h

/-! ## Host window -/

theorem Sound.channelReset {n} (h : Sound s) : Sound (s.channelReset n) :=
  .ite h.resetChan h.setChan

theorem Sound.windowWrite {r i v} (h : Sound s) : Sound (s.windowWrite r i v) := by
  unfold State.windowWrite
  dsimp only
  split
  · exact h.lnkCtrlWrite
  · exact .iteThen (.iteThen h fun h => h.setReg) fun h => h.setReg
  · exact .ite h.channelReset h
  · exact .iteThen (.iteThen (.iteThen h fun h => h.clrResetLimit) fun h => h.clrLog) fun h => h.clrAvail
  · exact .ite h.setReg.clearPoints h.setReg
  · exact h.monSel
  · exact h.ceilingWrite
  · exact h.capWrite
  · exact h.cfgCtrlWrite
  · exact h.entTestWrite
  · exact .ite h.setReg h
  · exact h.setReg.setFld.each fun h => h.setSource
  · exact h.setReg

theorem Sound.windowRegs {a data} (h : Sound s) : Sound (s.windowRegs a data) := by
  unfold State.windowRegs
  refine h.foldl fun h => ?_
  split
  · exact h.windowWrite
  · exact h

theorem execRegisterWrite_sound {page addr v} (h : Sound s) : Leaves (execRegisterWrite page addr v s) := by
  unfold execRegisterWrite
  dsimp only
  split
  · exact h
  · split
    · exact h.windowWrite
    · exact h.unitWrite

theorem Sound.takeMessage {port c slot} (h : Sound s) : Sound (s.takeMessage port c slot) :=
  .ite h.bump (.ite h.arrive h.arrive.setChan)

theorem Sound.applyWrite {port a data} (h : Sound s) : Sound (s.applyWrite port a data) :=
  .ite h.wrN ((h.foldl fun h => h.takeMessage).windowRegs.wrN)

theorem Sound.hostWrite {port tag a data} (h : Sound s) : Sound (s.hostWrite port tag a data) :=
  .ite h.applyWrite.setAnswers h.applyWrite

theorem Sound.answer {port tag a data} (h : Sound s) : Sound (s.answer port tag a data) :=
  h

theorem Sound.strayWrite {port tag a n} (h : Sound s) : Sound (s.strayWrite port tag a n) :=
  ((h.openBytes.foldl fun h => .ite h.wrN (.ite h.wrN h)).foldl fun h => h.draw.setReg).answer

theorem Sound.writeIn {port tag a data} (h : Sound s) : Sound (s.writeIn port tag a data) :=
  .ite h.hostWrite h.strayWrite

theorem Sound.readIn {port tag a n} (h : Sound s) : Sound (s.readIn port tag a n) :=
  .ite h.answer h.openBytes.answer

/-! ## Frames received -/

theorem Sound.concordIn {p body} (h : Sound s) : Sound (s.concordIn p body) :=
  .ite h.announceIn (.ite h.readyIn (.ite h.refuseIn (.ite h.checkIn (.ite h.leaveIn h))))

theorem Sound.itemIn {p ctl} (h : Sound s) : Sound (s.itemIn p ctl) :=
  .ite h (.ite (.ite h.arriveIn (.ite h.releaseIn h)) (.ite h.alignIn (.ite h.sumsIn (.ite h.voteIn (.ite h.concordIn (.ite h.stallIn h))))))

theorem Sound.setupIn {p b} (h : Sound s) : Sound (s.setupIn p b) :=
  .ite h (.ite h.helloIn (.ite h.replyMsg (.ite h.finishMsg (.ite h.confirmMsg h))))

theorem Sound.packetIn {port x} (h : Sound s) : Sound (s.packetIn port x) :=
  .ite h (.ite (.ite h.writeIn h.strayWrite) h.readIn)

theorem Sound.nak {p} (h : Sound s) : Sound (s.nak p) :=
  h.setPort

theorem Sound.tagFail {p} (h : Sound s) : Sound (s.tagFail p) :=
  .ite h.bump.nak.setPort.portLost h.bump.nak.setPort

theorem Sound.acceptFrame {p f} (h : Sound s) : Sound (s.acceptFrame p f) :=
  .ite h.setFld.setPort.bump.setPort h.setFld.setPort

theorem Sound.deliver {p f payload} (h : Sound s) : Sound (s.deliver p f payload) := by
  unfold State.deliver
  extract_lets heard item
  have hitem : Sound item := .itemIn (.iteThen h fun h => h.heardFrom)
  exact .ite hitem (.ite (.ite hitem.bump (.ite hitem.setupIn hitem)) (.iteElse hitem fun h => h.foldl fun h => h.packetIn))

theorem Sound.frameIn {p f} (h : Sound s) : Sound (s.frameIn p f) := by
  unfold State.frameIn
  split
  · exact h
  · dsimp only
    split
    · exact h.setPort.bump.nak
    · split
      · exact .ite h.setPort.nak h.setPort
      · split
        · split
          · exact h.setPort.tagFail
          · exact h.setPort.acceptFrame.deliver
        · exact h.setPort.acceptFrame.deliver

/-! ## The step -/

/-- What one command answers with is sound. -/
theorem exec_sound (i : Instr) (h : Sound s) : Leaves (exec i s) := by
  cases i with
  | hostWrite => exact .ite h.writeIn h
  | hostRead => exact .ite h.readIn h
  | ctxOpen => exact h.message fun h => h.ctxOpen
  | ctxClose => exact h.message fun h => h.ctxClose
  | graphCreate => exact h.message fun h => h.graphCreate
  | graphLoad => exact h.message fun h => h.graphLoad
  | graphPatch => exact h.message fun h => h.graphPatch
  | graphRetire => exact h.message fun h => h.graphRetire
  | launch => exact (h.message fun h => h.launchAny).groupChecked
  | pause => exact h.message fun h => h.pauseAny
  | save => exact h.message fun h => h.saveAny
  | resume => exact h.message fun h => h.resumeAny
  | readBest => exact h.message fun h => h.readBest
  | streamSubmit => exact h.message fun h => h.submitMsg
  | fenceSignal => exact h.message fun h => h.fenceSignal
  | fenceWait => exact h.message fun h => h.fenceWait
  | groupJoin => exact (h.message fun h => h.joinMsg).announce
  | groupLeave => exact h.message fun h => h.leaveMsg
  | replayStart => exact h.message fun h => h.replayStart
  | captureRead => exact h.message fun h => h.captureRead
  | cfgWrite => exact h.message fun h => h.cfgMsg
  | monRead => exact h.message fun h => h.monRead
  | entRead => exact h.message fun h => h.entRead
  | channelReset => exact h.channelReset
  | moduleReset => exact h.cfgCtrl
  | clrResetLimit => exact h.clrResetLimit
  | clrLog => exact h.clrLog
  | clrAvail => exact h.clrAvail
  | clrSlack => exact h.setReg
  | clrErr => exact h.setReg
  | clrAll => exact h.clearPoints
  | monSelWrite => exact h.monSel
  | pwrCeilingWrite => exact h.ceilingWrite
  | acreCapWrite => exact h.capWrite
  | lnkCtrlWrite => exact h.lnkCtrlWrite
  | entTestWrite => exact h.entTestWrite
  | registerWrite => exact execRegisterWrite_sound h
  | add => exact h.alu2
  | sub => exact h.alu2
  | and => exact h.alu2
  | or => exact h.alu2
  | xor => exact h.alu2
  | shl => exact h.alu2
  | shr => exact h.alu2
  | sar => exact h.alu2
  | slt => exact h.alu2
  | sltu => exact h.alu2
  | min => exact h.alu2
  | max => exact h.alu2
  | popc => exact h.alu1
  | clz => exact h.alu1
  | mul => exact h.alu2
  | mulh => exact h.alu2
  | mulhu => exact h.alu2
  | div => exact h.divide
  | divu => exact h.divide
  | rem => exact h.divide
  | remu => exact h.divide
  | jr => exact h.issueClean fun h => h.next
  | cadd16 => exact h.cribAtomic
  | cadd32 => exact h.cribAtomic
  | cswapw => exact h.cribAtomic
  | cswapd => exact h.cribAtomic
  | addi => exact h.alu1
  | andi => exact h.alu1
  | ori => exact h.alu1
  | xori => exact h.alu1
  | slti => exact h.alu1
  | sltiu => exact h.alu1
  | shli => exact h.alu1
  | shri => exact h.alu1
  | sari => exact h.alu1
  | movk => exact h.alu1
  | ldb => exact h.load
  | ldh => exact h.load
  | ldw => exact h.load
  | ldd => exact h.load
  | stb => exact h.storeD
  | sth => exact h.storeD
  | stw => exact h.storeD
  | std => exact h.storeD
  | cldw => exact h.cribLoad
  | cldd => exact h.cribLoad
  | cstw => exact h.cribStore
  | cstd => exact h.cribStore
  | beq => exact h.branch
  | bne => exact h.branch
  | blt => exact h.branch
  | bge => exact h.branch
  | bltu => exact h.branch
  | bgeu => exact h.branch
  | j => exact h.issue fun h => h.next
  | jal => exact h.issue fun h => h.setG.next
  | halt => exact execHalt_sound h
  | waitc => exact h.issue fun h => h.advance.waitUntil
  | waitt => exact h.issue fun h => .ite h.advance h.advance.waitUntil
  | tick => exact h.issue fun h => h.setG.advance
  | cyc => exact h.issue fun h => h.setG.advance
  | core => exact h.issue fun h => h.setG.advance
  | qrd => exact execQrd_sound h
  | qwr => exact (h.issueClean fun h => .ite h.coreFault (.ite h.raise.holdCore h.queuePut.advance))
  | qclose => exact h.issueClean fun h => h.queueClose.advance
  | qpkt => exact h.issueClean fun h => h.setG.advance
  | qtag => exact h.issue fun h => h.setG.advance
  | rrd => exact execRrd_sound h
  | rwr => exact execRwr_sound h
  | own => exact h.issueClean fun h => .ite h.holdCore h.issueOwner.setCore.advance
  | ownr => exact h.issue fun h => h.setCore.setG.advance
  | chain => exact h.issueClean fun h => .ite h.holdCore h.offer.advance
  | fsig => exact h.issueClean fun h => h.fence.advance
  | wall => exact h.vop (fun h => h) fun h => h.vResult
  | frd => exact h.vop (fun h => h) fun h => h.vResult
  | temp => exact execTemp_sound h
  | lstat => exact execLstat_sound h
  | mon => exact h.vop (fun h => h) fun h => h.vResult
  | ent => exact h.vop (fun h => h.entPort) fun h => h.setG.setG.advance
  | coreStallRelease => exact execCoreStallRelease_sound h
  | gleanStart => exact execGleanStart_sound h
  | cribRead => exact h.request (.ite (.latched h.bankRead) h)
  | cribWrite => exact h.formed (.ite h.bankWrite h)
  | scatterWrite => exact execScatterWrite_sound h
  | add16 => exact h.atomic
  | add32 => exact h.atomic
  | swap32 => exact h.atomic
  | swap64 => exact h.atomic
  | ownerWriteApply => exact h.within (by decide) fun h => (h.setAcre.foldl fun h => (h.foldl fun h => h.applyOwner))
  | ownerResultDelivery => exact execOwnerResultDelivery_sound h
  | queueBankRelease => exact .ite ((h.fromWall fun h => .ite h.setFld h.setFld.setFld)) h
  | queueConsumerResume => exact .ite h.resumeRead h
  | queueProducerResume => exact .ite ((h.setFld.each fun h => .ite h.wake h)) h
  | chainEntryArrival => exact execChainEntryArrival_sound h
  | chainEntryStart => exact execChainEntryStart_sound h
  | chainEntryComplete => exact execChainEntryComplete_sound h
  | copy => exact execCopy_sound h
  | laneStart => exact execLaneStart_sound h
  | laneStop => exact execLaneStop_sound h
  | stateLoad => exact execStateLoad_sound h
  | stateCapture => exact .ite h h
  | gemm => exact h.harrow
  | gemv => exact h.harrow
  | tokenStep => exact execTokenStep_sound h
  | generatorRestart => exact execGeneratorRestart_sound h
  | generatorInputCopy => exact execGeneratorInputCopy_sound h
  | proposalRecordArrival => exact execProposalRecordArrival_sound h
  | proposalPending => exact execProposalPending_sound h
  | coefficientPatchHandover => exact execCoefficientPatchHandover_sound h
  | decision => exact execDecision_sound h
  | linkWalkerRead => exact execLinkWalkerRead_sound h
  | tickBoundary => exact .ite h.boundary h
  | tickWord => exact h.within (by decide) fun h => h
  | deltaTileArrival => exact execDeltaTileArrival_sound h
  | tileLateHold => exact h.within (by decide) fun ht => .ite ht.modLaunch h
  | rollbackNoticeArrival => exact execRollbackNoticeArrival_sound h
  | voteCast => exact execVoteCast_sound h
  | voteResult => exact h.within (by decide) fun ht => .ite ht.modLaunch h
  | resolutionPoint => exact execResolutionPoint_sound h
  | patchOverlayWriteback => exact h.within (by decide) fun ht => .ite ht.flushOverlay h
  | contextSwitch => exact execContextSwitch_sound h
  | reductionTick => exact execReductionTick_sound h
  | verdictArrival => exact execVerdictArrival_sound h
  | verdictLateHold => exact execVerdictLateHold_sound h
  | bestCapture => exact h.within (by decide) fun h => h.captureBest
  | audit => exact execAudit_sound h
  | auditRecordEmit => exact execAuditRecordEmit_sound h
  | statisticsSample => exact execStatisticsSample_sound h
  | streamInputApply => exact execStreamInputApply_sound h
  | launchStart => exact execLaunchStart_sound h
  | launchEnd => exact execLaunchEnd_sound h
  | checkpoint => exact execCheckpoint_sound h
  | checkpointComplete => exact .countPools h
  | mirrorSend => exact execMirrorSend_sound h
  | mirrorComplete => exact execMirrorComplete_sound h
  | digestWrite => exact execDigestWrite_sound h
  | watchdogExpiry => exact .ite h.expire h
  | faultReport => exact execFaultReport_sound h
  | recovery => exact execRecovery_sound h
  | granaryDieLoss => exact execGranaryDieLoss_sound h
  | gddrDeviceLoss => exact .ite h (.ite h.setBitOf.raise.logLoss h.setBitOf.logLoss.loseDie)
  | poisonedRowRewrite => exact execPoisonedRowRewrite_sound h
  | linkReroute => exact execLinkReroute_sound h
  | wireRepair => exact .ite h h.reportAt
  | fieldDieLoss => exact .ite h h.logLoss.loseDie
  | foldFrame => exact execFoldFrame_sound h
  | pscLoss => exact execPscLoss_sound h
  | barnBothLoss => exact .setFld h
  | badgerTakeover => exact .ite h.takeover h
  | heartbeatTimeout => exact .ite h (.ite ((h.each fun h => h.modLaunch).retireStandby.logLoss) h.takeover)
  | commitRecord => exact .ite h h
  | frameSend => exact execFrameSend_sound h
  | frameReceive => exact h.frameIn
  | linkReset => exact .ite h.resetLink h
  | laneFailure => exact .ite h (.ite (.ite h h.portLost) (.ite h.setFld.setFld.setFld.setBitOf.logFault h.portLost))
  | frameDeadlineMiss => exact .ite h.bump.raiseStall h.bump
  | referenceLoss => exact h
  | barrierArrive => exact h.arriveIn
  | barrierRelease => exact h.releaseIn
  | tickAlignment => exact h.alignIn
  | trimTick => exact execTrimTick_sound h
  | reductionItem => exact h.sumsIn
  | voteItem => exact h.voteIn
  | concordAnnounce => exact h.announceIn
  | concordReady => exact h.readyIn
  | concordRefuse => exact h.refuseIn
  | concordCheck => exact h.checkIn
  | concordLeave => exact h.leaveIn
  | joinTimeout => exact execJoinTimeout_sound h
  | groupStall => exact h.stallIn
  | groupStallTimeout => exact .ite h.groupFault h
  | memberLost => exact execMemberLost_sound h
  | hello => exact h.helloIn
  | reply => exact h.replyMsg
  | finish => exact h.finishMsg
  | confirm => exact h.confirmMsg
  | setupTimeout => exact execSetupTimeout_sound h
  | sessionEnd => exact h.endSession
  | entropyStartup => exact h.entStart
  | healthTestFailure => exact h.healthFail
  | seedConditioned => exact h.seed
  | reseed => exact h.reseed
  | fieldNoiseKeyCommit => exact execFieldNoiseKeyCommit_sound h
  | powerManagerDecision => exact execPowerManagerDecision_sound h
  | energyReport => exact h.within (by decide) fun h => (h.each fun h => h.wrap).setEnergies.setFld.setFld
  | thermalTrip => exact .ite h h.logLoss.loseDie
  | leaveRequest => exact .ite h h.askLeave
  | leaveRelease => exact execLeaveRelease_sound h
  | leaveGrant => exact .ite h ((h.awaitLeave fun h => .ite h.takeLeave.startLanes h))
  | queuedLeaveGrant => exact execQueuedLeaveGrant_sound h
  | timedGrantExpiry => exact h.settleLeave.expireLeave
  | acreWake => exact h.wakeAcre
  | acreAwake => exact .ite h.setFld.showAwake h
  | powerUp => exact .ite h h.cold.startFrom
  | referenceValid => exact execReferenceValid_sound h
  | underVoltageTrip => exact h.cold
  | overVoltageTrip => exact h.cold
  | testEnNChange => exact .ite h (.moduleReset h)
  | bypass => exact h.tap
  | idcode => exact h.tap
  | samplePreload => exact .ite h h.draw.tap
  | extest => exact h.tap
  | i2cRead => exact .ite h (.ite h h.openBytes.setLatch)
  | i2cWrite => exact .ite h.cfgCtrlWrite h
  | recordWriteComplete => exact h.storeDone
  | linkTrainingComplete => exact .ite h h.setFld.setFld.setFld.setFld.setFld

end

/-- Settles O59: an empty queue idles, and any other step carries its first command out. -/
theorem stepKeepsSound : Obligations.StepKeepsSound := by
  intro s t h run
  unfold step at run
  split at run
  · cases run
    exact h.idle
  · rename_i c rest _
    have hc : Leaves (exec c { s with pending := rest }) := exec_sound c h
    rw [run] at hc
    exact hc

end Sys2Proof.Machine
end

section
/-!
PROOF. O45: a reduction tick that decides nothing.
-/
namespace Sys2Proof.Machine

/-- A class E image of one logical field that places no block and uses logical acre 5. -/
def emptyAcreSched : Sched :=
  { level := 1, classT := false, fields := 1, copies := 0, prologue := 0, ticks := 1, fieldNoise := false, bounded := true,
    graphHash := 0, graphBlocks := 0, ladder := [], perm := [], base := [], laneEn := 0, stay := [], stuck := [], winnow := 1,
    tally := 0, hist := 0, auditSet := [], captureTicks := 0, fenceWaits := 0, missing := 0, slots := [], bankBooks := [],
    granBooks := [], gddrBooks := [], frames := [], crossField := 0, uses := [(0, 5, 0)], reserve := [], propEn := false,
    granSegs := [], gddrSegs := [], ckptMiB := [], bookedLinks := [], initial := [], exch := [], tiles := [], imem := [], dmem := [],
    cribs := [], banks := [], ckptCribs := [], chains := [], coreBooks := [], gens := [], coefs := [], writes := [], stats := [],
    inputArea := 0, tallyArea := 0, digestArea := 0, deadlines := 0 }

/-- A launch of that image alone on the module, in launch tick 0. -/
def emptyAcreLaunch : Launch :=
  { sched := emptyAcreSched, image := [], schedHash := 0, graph := 0, version := 0, imageHash := 0, seed := 0, follow := false,
    stream := 0, seq := 0, copies := 0, first := 0, group := false, dies := [0], slots := [0], t0 := 0, tau := 0, turn := 0,
    holds := [], holdAt := 0, phase := .none, windowOnly := false, perm := [], bests := [], energies := [], verdict := none, hist := [],
    audits := [], patches := [], vote := none, drain := none, resumeAt := none, inputs := [], replay := none, checkUntil := none,
    ckpt := 0, frame := 0, framed := none, origin := none, lost := [], past := [], vres := [], recover := none }

/-- That launch runs in context 0; the acre table holds key 5 twice, with a default entry before the one that the launch owns, and WINNOW is
enabled in acre 5. -/
def shadowedAcre : State :=
  ({ ctxs := [(0, { state := .running, launch := some emptyAcreLaunch })], acres := [(5, {}), (5, { ctx := some 0 })] } : State).setFld
    F.acrWinnowCtrlEn 5 1

theorem reduces_shadowedAcre : (shadowedAcre.upTo 611).reduces 0 emptyAcreLaunch = true := by decide +kernel

/-- Taking the parts writes acre 5 back as it is read, the default, and that erases both entries: the launch has no root left to decide. -/
theorem reductionTick_shadowedAcre {t : State} (h : Completes (.reductionTick 0) shadowedAcre t) :
    t.launch 0 = some emptyAcreLaunch := by
  cases h
  decide +kernel

/-- Refutes O45: REDUCTION_TICK of a launch whose acre is the second entry of its key in the acre table leaves no verdict. Tables with a key
twice are no states of a run; the statement speaks of every state. -/
theorem not_reductions : ¬ Obligations.Reductions := by
  unfold Obligations.Reductions
  intro h
  obtain ⟨hred, -⟩ := h 0 emptyAcreLaunch shadowedAcre (by decide +kernel)
  obtain ⟨t, l', v, hc, -, -, hl, -, hv, -⟩ := hred (by decide +kernel) reduces_shadowedAcre rfl
  cases (reductionTick_shadowedAcre hc).symm.trans hl
  cases hv

end Sys2Proof.Machine
end

section
/-!
PROOF. O46: audits, audit records, statistics samples and digest blocks.
-/
namespace Sys2Proof.Machine

/-! ## What the records' operations leave unchanged -/

/-- Nothing but the bytes of memory differs. -/
def OnlyMem (s t : State) : Prop := ∃ m, t = { s with mem := m }

theorem OnlyMem.wrN {s t : State} (h : OnlyMem s t) (a : Nat) (b : List Byte) : OnlyMem s (t.wrN a b) := by
  obtain ⟨m, rfl⟩ := h
  exact ⟨_, rfl⟩

section
variable (s : State) (c : Nat) (l : Launch)

theorem State.gddrPut_onlyMem (addr : Nat) (data : List Byte) : OnlyMem s (s.gddrPut c l addr data) := by
  unfold State.gddrPut
  refine List.foldlRecOn (motive := OnlyMem s) (List.range data.length) _ ⟨s.mem, rfl⟩ fun u hu k _ => ?_
  dsimp only
  split
  · refine .wrN ?_ _ _
    split
    · exact hu.wrN _ _
    · exact hu
  · split
    · exact hu.wrN _ _
    · exact hu

theorem State.auditBusy_keeps (v : Nat) : s.auditBusy c v = { s with regs := (s.auditBusy c v).regs } := by
  unfold State.auditBusy State.each
  exact List.foldlRecOn (motive := fun u : State => u = { s with regs := u.regs }) (s.acresOf c) _ rfl fun u hu _ _ => by rw [hu]; rfl

/-- Setting a field of the same register index for a list of indices leaves it set at each. -/
theorem State.fld_each_setFld {f : Fld} {v : Nat} (hf : f.lo + f.w ≤ 64) (hv : v < 2 ^ f.w) (is : List Nat) {i : Nat} :
    ∀ s : State, i ∈ is ∨ s.fld f i = v → (s.each is fun s a => s.setFld f a v).fld f i = v := by
  induction is with
  | nil => exact fun s h => h.resolve_left List.not_mem_nil
  | cons a as ih =>
    refine fun s h => ih (s.setFld f a v) ?_
    by_cases same : i = a
    · exact .inr (by rw [same, State.fld_setFld_same _ _ _ _ hf, Nat.mod_eq_of_lt hv])
    · refine h.imp (fun mem => (List.mem_cons.mp mem).resolve_left same) fun set => ?_
      rw [State.fld_setFld_other s f f v fun e => same (Reg.key_inj e).2, set]

end

/-! ## Audits -/

/-- The audits that an audit tick of a launch begins (R159). -/
def State.newAudits (s : State) (c : Nat) (l : Launch) : List Audit :=
  (l.sched.auditSet.filter fun r => decide (r < l.replicas) && !l.lost.contains (r / 4)).map fun r =>
    { tick := l.tau.toNat, replica := r, version := l.version, spins := s.auditSpins l (s.blocksOf c) r false, parts := [], energy := none }

/-- The state in which the tally buffers hold the new audits. -/
def State.audited (s : State) (c : Nat) (l : Launch) : State :=
  (({ s with free := s.free + 1 } : State).modLaunch c fun m => { m with audits := m.audits ++ s.newAudits c l }).auditBusy c 1

theorem State.copyAudits_eq (s : State) (c : Nat) (l : Launch) :
    s.copyAudits c l = if s.auditTick c l.tau && !l.audits.any (fun a => (a.tick : Int) == l.tau) then
      if (s.newAudits c l).isEmpty then s else s.audited c l else s := rfl

section
variable {s : State} {c : Nat} {l : Launch}

theorem State.audited_spec (hl : s.launch c = some l) :
    SameMemory s (s.audited c l) ∧ (s.audited c l).cyc = s.cyc ∧
      (s.audited c l).launch c = some { l with audits := l.audits ++ s.newAudits c l } ∧
      ∀ a ∈ s.acresOf c, (s.audited c l).fld F.acrTallyStatusAuditBusy a = 1 := by
  have drawn : ({ s with free := s.free + 1 } : State).launch c = some l := hl
  refine ⟨?_, ?_, ?_, fun a ha => ?_⟩
  · rw [State.audited, State.auditBusy_keeps, State.modLaunch_keeps]
    exact ⟨rfl, rfl⟩
  · rw [State.audited, State.auditBusy_keeps, State.modLaunch_keeps]
  · rw [State.audited, State.auditBusy_keeps]
    exact State.launch_modLaunch_same drawn _
  · refine State.fld_each_setFld (by decide) (by decide) _ _ (.inl ?_)
    rw [State.modLaunch_keeps]
    exact ha

end

theorem exec_audit {c : CtxId} {l : Launch} {s : State} (hl : s.launch c.val = some l) :
    exec (.audit c) s = .next (if s.cyc ≤ 99 then
      if (s.upTo 68).moving c.val && s.decides c.val && (!l.folded || l.frame == 74) then (s.upTo 68).copyAudits c.val l else s else s) := by
  have audits : exec (.audit c) s = execAudit c s := rfl
  rw [audits, execAudit, hl]
  rfl

/-! ## Audit records -/

/-- The emission of audit records leaves the cycle and the launch as they are. -/
structure TallyWork (s t : State) (c : Nat) : Prop where
  cyc : t.cyc = s.cyc
  launch : t.launch c = s.launch c

section
variable (s : State) (c : Nat) (l : Launch)

theorem State.auditRecord_snd (v : Coeffs) (x : Audit) (final : Bool) :
    ∃ n, (s.auditRecord l v x final).2 = { s with free := n } := by
  show ∃ n, (if l.group then s.draw.2 else s) = { s with free := n }
  split
  · exact ⟨s.free + 1, rfl⟩
  · exact ⟨s.free, rfl⟩

theorem State.ctx_putAudit (rec : List Byte) :
    (s.putAudit c l rec).ctx c = { s.ctx c with tally := putRecord (s.ctx c).tally rec } := by
  obtain ⟨m, e⟩ := (s.setCtx c { s.ctx c with tally := putRecord (s.ctx c).tally rec }).gddrPut_onlyMem c l
    (l.sched.tallyArea + 64 * (putRecord (s.ctx c).tally rec).idxOf rec) rec
  rw [State.putAudit, e]
  exact sget_sput_same _ _ _ _

theorem State.putAudit_tallyWork (rec : List Byte) : TallyWork s (s.putAudit c l rec) c := by
  obtain ⟨m, e⟩ := (s.setCtx c { s.ctx c with tally := putRecord (s.ctx c).tally rec }).gddrPut_onlyMem c l
    (l.sched.tallyArea + 64 * (putRecord (s.ctx c).tally rec).idxOf rec) rec
  refine ⟨?_, ?_⟩
  · rw [State.putAudit, e]
    rfl
  · rw [State.launch, State.ctx_putAudit]
    rfl

/-- One record of an audit whose version is known. -/
theorem State.emitAudits_one {x : Audit} {v : Version} (hv : s.version l.graph x.version = some v) :
    s.emitAudits c l [x] = (s.auditRecord l v.coeffs x false).2.putAudit c l (s.auditRecord l v.coeffs x false).1 := by
  simp only [State.emitAudits, List.foldl_cons, List.foldl_nil, hv]

theorem State.emitAudits_tallyWork (due : List Audit) : TallyWork s (s.emitAudits c l due) c := by
  refine List.foldlRecOn (motive := fun u : State => TallyWork s u c) due _ ⟨rfl, rfl⟩ fun u hu x _ => ?_
  split
  · next v _ =>
    have put := State.putAudit_tallyWork (u.auditRecord l v.coeffs x false).2 c l (u.auditRecord l v.coeffs x false).1
    obtain ⟨n, e⟩ := u.auditRecord_snd l v.coeffs x false
    refine ⟨put.cyc.trans ?_, put.launch.trans ?_⟩ <;> rw [e]
    · exact hu.cyc
    · exact hu.launch
  · exact hu

end

theorem exec_auditRecordEmit {c : CtxId} {l : Launch} {s : State} {a : Nat} {due rest : List Audit} (hl : s.launch c.val = some l)
    (ha : s.winnowAcre c.val = some a) (hdue : due = l.audits.filter fun x => decide ((x.tick : Int) ≤ l.tau - s.fld F.acrTallyCtrlAuditSpan a))
    (hrest : rest = l.audits.filter fun x => !decide ((x.tick : Int) ≤ l.tau - s.fld F.acrTallyCtrlAuditSpan a)) :
    exec (.auditRecordEmit c) s = .next (if due.isEmpty || !(s.upTo 1000).moving c.val || !s.decides c.val then s
      else if due.any (·.energy.isNone) then (s.upTo 1000).modLaunch c.val (·.hold .tally 1000)
      else if rest.isEmpty then (((s.upTo 1000).emitAudits c.val l due).modLaunch c.val fun l => { l with audits := rest }).auditBusy c.val 0
      else ((s.upTo 1000).emitAudits c.val l due).modLaunch c.val fun l => { l with audits := rest }) := by
  subst hdue hrest
  have emits : exec (.auditRecordEmit c) s = execAuditRecordEmit c s := rfl
  rw [emits, execAuditRecordEmit, hl, ha]

theorem State.ctx_setCtx_same (s : State) (c : Nat) (x : Ctx) : (s.setCtx c x).ctx c = x := sget_sput_same _ _ _ _

theorem State.tally_modLaunch (s : State) (c : Nat) (f : Launch → Launch) : ((s.modLaunch c f).ctx c).tally = (s.ctx c).tally := by
  unfold State.modLaunch
  split
  · rw [State.ctx_setCtx_same]
  · rfl

theorem Launch.mem_hold (l : Launch) (h : Hold) (a : Nat) : h ∈ (l.hold h a).holds := by
  unfold Launch.hold
  split
  · exact List.mem_singleton.mpr rfl
  · split
    · exact List.mem_singleton.mpr rfl
    · by_cases held : h ∈ l.holds <;> simp [held]

theorem Launch.hold_audits (l : Launch) (h : Hold) (a : Nat) : (l.hold h a).audits = l.audits := by
  unfold Launch.hold
  split
  · rfl
  · split <;> rfl

section
variable {s : State} {c : CtxId} {l : Launch} (hl : s.launch c.val = some l)
include hl

/-- An emission whose audits are complete leaves the others to wait, and keeps the launch tick. -/
theorem emitted_spec {due rest : List Audit} {t : State}
    (ht : t = ((s.upTo 1000).emitAudits c.val l due).modLaunch c.val fun l => { l with audits := rest }) :
    t.cyc = max s.cyc 1000 ∧ t.launch c.val = some { l with audits := rest } ∧
      ∀ x v, due = [x] → s.version l.graph x.version = some v →
        (t.ctx c.val).tally = putRecord (s.ctx c.val).tally (s.auditRecord l v.coeffs x false).1 := by
  have work := (s.upTo 1000).emitAudits_tallyWork c.val l due
  have held : ((s.upTo 1000).emitAudits c.val l due).launch c.val = some l := work.launch.trans hl
  subst ht
  refine ⟨by rw [State.modLaunch_keeps]; exact work.cyc, State.launch_modLaunch_same held _, fun x v one hv => ?_⟩
  rw [State.tally_modLaunch, one, State.emitAudits_one (s := s.upTo 1000) (hv := hv), State.ctx_putAudit]
  obtain ⟨n, e⟩ := (s.upTo 1000).auditRecord_snd l v.coeffs x false
  rw [e]
  rfl

end

/-! ## Statistics samples -/

section
variable (s : State)

/-- An atomic of a bank writes no count of samples. -/
theorem State.reg_bankAtomic_stat (k addr n : Nat) (who : Who) (f : Nat → Nat) (mix p : Bool) (j : Nat) :
    (s.bankAtomic k addr n who f mix p).2.reg .acrStatSamples j = s.reg .acrStatSamples j := by
  unfold State.bankAtomic
  split
  · unfold State.eccSeen
    dsimp only
    split
    · rw [State.raise, State.reg_setFld_ne _ _ (by decide), State.store_keeps]
      rfl
    · rw [State.store_keeps]
      rfl
  · exact State.reg_setFld_ne _ _ (by decide)

theorem State.reg_sampleAdd_stat (c a k lane : Nat) (entry : Word) (j : Nat) :
    (s.sampleAdd c a k lane entry).reg .acrStatSamples j = s.reg .acrStatSamples j := by
  unfold State.sampleAdd
  dsimp only
  split
  · rfl
  · exact s.reg_bankAtomic_stat _ _ _ _ _ _ _ _

theorem State.reg_sampleOn_stat (c a n j : Nat) : (s.sampleOn c a n).reg .acrStatSamples j = s.reg .acrStatSamples j := by
  have adds : ∀ (is : List Nat) (f : State → Nat → State), (∀ u i, (f u i).reg .acrStatSamples j = u.reg .acrStatSamples j) →
      (is.foldl f s).reg .acrStatSamples j = s.reg .acrStatSamples j := fun is f hf =>
    List.foldlRecOn (motive := fun u : State => u.reg .acrStatSamples j = s.reg .acrStatSamples j) is f rfl
      fun u hu i _ => (hf u i).trans hu
  unfold State.sampleOn
  dsimp only
  split
  · rw [State.reg_setFld_ne _ _ (by decide)]
    exact adds _ _ fun u i => u.reg_sampleAdd_stat ..
  · exact adds _ _ fun u i => u.reg_sampleAdd_stat ..

/-- Without a sample under way there is nothing to add. -/
theorem State.sampleOn_sameMemory {c a n : Nat} (h : (s.acre a).sampled = []) : SameMemory s (s.sampleOn c a n) := by
  simp only [State.sampleOn, h, List.length_nil, Nat.zero_mul, Nat.min_zero, Nat.zero_sub, List.range_zero, List.foldl_nil, if_true]
  exact ⟨rfl, rfl⟩

end

/-- The spins that the second tally buffer of an acre takes in a sample (R164). -/
def State.sampleSpins (s : State) (c n : Nat) (lanes : List Nat) : Sparse (BitVec 1024) :=
  ((s.enginesOf c).filter fun e => e / 136 == n).foldl (fun m e => lanes.foldl (fun m k =>
    sput 0 m (4 * (s.engine e).pos + k) (s.lane (4 * e + k)).snap) m) []

/-- A sample taken into the second tally buffer, once the one before it has ended (R164). -/
def State.sampled (s : State) (n : Nat) (lanes : List Nat) (buf : Sparse (BitVec 1024)) : State :=
  ((s.setAcre n { s.acre n with sample := buf, added := 0, sampled := lanes }).wrap F.acrStatSamplesN n lanes.length).setFld
    F.acrTallyStatusSampleBusy n 1

theorem exec_statisticsSample {a : AcreId} {s : State} {c : Nat} {l : Launch} {lanes : List Nat} {top : Nat}
    (hc : (s.acre a.ix).ctx = some c) (hl : s.launch c = some l)
    (hlanes : lanes = (List.range 4).filter fun k => (s.fld F.acrTallyCtrlSampleLanes a.ix).testBit k)
    (htop : top = if s.flag F.acrTallyCtrlCnt32 a.ix then 2 ^ 31 - 1 else 32767) :
    exec (.statisticsSample a) s = .next (if s.cyc ≤ 99 then
      if (s.upTo 68).movingOn c (17 * a.ix) && s.decides c && s.flag F.acrTallyCtrlStatEn a.ix && !s.flag F.acrTallyStatusStatFull a.ix &&
          l.tau % (2 ^ s.fld F.acrTallyCtrlSampleExp a.ix : Nat) == 0 then
        if top < s.fld F.acrStatSamplesN a.ix + lanes.length then (s.upTo 68).raise F.acrTallyStatusStatFull a.ix
        else ((s.upTo 68).sampleOn c a.ix (2 ^ 20)).sampled a.ix lanes (s.sampleSpins c a.ix lanes)
      else s else s) := by
  subst hlanes htop
  have samples : exec (.statisticsSample a) s = execStatisticsSample a s := rfl
  rw [samples, execStatisticsSample]
  dsimp only
  rw [hc]
  dsimp only
  rw [hl]
  rfl

section
variable {s : State} {n : Nat} {lanes : List Nat} {buf : Sparse (BitVec 1024)}

theorem State.fld_sampled (h : s.fld F.acrStatSamplesN n + lanes.length < 2 ^ 32) :
    (s.sampled n lanes buf).fld F.acrStatSamplesN n = s.fld F.acrStatSamplesN n + lanes.length := by
  rw [State.sampled, State.fld_setFld_ne _ (by decide), State.wrap_eq, State.fld_setFld_same _ _ _ _ (by decide)]
  exact Nat.mod_eq_of_lt h

theorem State.sampleBusy_sampled : (s.sampled n lanes buf).fld F.acrTallyStatusSampleBusy n = 1 :=
  State.fld_setFld_same _ _ _ _ (by decide)

theorem State.sampled_sameMemory {u : State} (h : SameMemory u s) : SameMemory u (s.sampled n lanes buf) := by
  have mem : (s.sampled n lanes buf).mem = s.mem := by
    rw [State.sampled, State.setFld_mem, State.wrap_eq, State.setFld_mem, State.setAcre_mem]
  have poison : (s.sampled n lanes buf).poison = s.poison := by
    rw [State.sampled, State.setFld_poison, State.wrap_eq, State.setFld_poison, State.setAcre_poison]
  exact ⟨mem.trans h.1, poison.trans h.2⟩

theorem State.acre_sampled : (s.sampled n lanes buf).acre n = { s.acre n with sample := buf, added := 0, sampled := lanes } :=
  sget_sput_same _ _ _ _

end

/-! ## Digests -/

section
variable (s : State) (c : Nat) (b : JBody) (u : Int) (cycle : Nat)

theorem State.journal_keeps : s.journal c b u cycle = { s with ctxs := (s.journal c b u cycle).ctxs } := by
  unfold State.journal
  split <;> rfl

theorem State.launch_journal : (s.journal c b u cycle).launch c = s.launch c := by
  unfold State.journal
  split
  · rw [State.launch, State.ctx_setCtx_same]
    rfl
  · rfl

theorem State.digests_journal : ((s.journal c b u cycle).ctx c).digests = (s.ctx c).digests := by
  unfold State.journal
  split
  · rw [State.ctx_setCtx_same]
  · rfl

theorem State.journal_of_fits (h : s.journalFits c b = true) :
    ((s.journal c b u cycle).ctx c).journal = (s.ctx c).journal ++ [⟨b, (s.ctx c).journalNext, u, cycle, s.tick⟩] := by
  rw [State.journal, if_pos h, State.ctx_setCtx_same]

theorem State.modLaunch_ctx (f : Launch → Launch) :
    ((s.modLaunch c f).ctx c).digests = (s.ctx c).digests ∧ ((s.modLaunch c f).ctx c).journal = (s.ctx c).journal := by
  unfold State.modLaunch
  split
  · rw [State.ctx_setCtx_same]
    exact ⟨rfl, rfl⟩
  · exact ⟨rfl, rfl⟩

end

section
variable {s : State} {c : Nat} {l : Launch}

theorem State.blockDigests_eq (hr : l.replay = none) (s : State) (c : Nat) : s.blockDigests c l = s.laneDigests c l := by
  have shown : s.shownDigest l = fun n => (s.lane n).digest := by
    funext n
    simp [State.shownDigest, Launch.inWindow, hr]
  rw [State.blockDigests, shown, State.laneDigests]

/-- The digest area with the block of a launch tick. -/
def State.digestArea (s : State) (c : Nat) (l : Launch) : List (Nat × List Byte) :=
  putDigest (s.ctx c).digests l.tau.toNat (digestBlock l.tau (s.blockDigests c l))

/-- The state with that block written. -/
def State.digestKept (s : State) (c : Nat) (l : Launch) : State :=
  (s.setCtx c { s.ctx c with digests := s.digestArea c l }).gddrPut c l (l.sched.digestArea + digestOffset (s.digestArea c l) l.tau.toNat)
    (digestBlock l.tau (s.blockDigests c l))

/-- The state with the DIGEST record of class E as well. -/
def State.digestRecorded (s : State) (c : Nat) (l : Launch) : State :=
  if l.sched.classT || (s.ctx c).digests.any (fun b => (b.1 : Int) == l.tau) || l.inWindow then s.digestKept c l
  else (s.digestKept c l).journal c (.digest (moduleDigest l.tau (s.laneDigests c l))) l.tau 1000

theorem State.writeDigest_eq (s : State) (c : Nat) (l : Launch) : ∃ f : Launch → Launch, (∀ m, m.replay = none → (f m).replay = none) ∧
    s.writeDigest c l = (s.digestRecorded c l).modLaunch c f :=
  ⟨_, fun _ none => congrArg (Option.map _) none, rfl⟩

theorem State.digestKept_spec (s : State) (c : Nat) (l : Launch) : (s.digestKept c l).cyc = s.cyc ∧ (s.digestKept c l).regs = s.regs ∧
    (s.digestKept c l).ctx c = { s.ctx c with digests := s.digestArea c l } := by
  unfold State.digestKept
  obtain ⟨m, e⟩ := State.gddrPut_onlyMem (s.setCtx c { s.ctx c with digests := s.digestArea c l }) c l
    (l.sched.digestArea + digestOffset (s.digestArea c l) l.tau.toNat) (digestBlock l.tau (s.blockDigests c l))
  rw [e]
  exact ⟨rfl, rfl, sget_sput_same _ _ _ _⟩

theorem State.digestRecorded_spec (hl : s.launch c = some l) (hr : l.replay = none) : (s.digestRecorded c l).cyc = s.cyc ∧
    (s.digestRecorded c l).regs = s.regs ∧ (s.digestRecorded c l).launch c = some l ∧
    ((s.digestRecorded c l).ctx c).digests = s.digestArea c l ∧
    ∀ b, b = JBody.digest (moduleDigest l.tau (s.laneDigests c l)) → l.sched.classT = false →
      (s.ctx c).digests.any (fun x => (x.1 : Int) == l.tau) = false → s.journalFits c b = true →
      ((s.digestRecorded c l).ctx c).journal = (s.ctx c).journal ++ [⟨b, (s.ctx c).journalNext, l.tau, 1000, s.tick⟩] := by
  obtain ⟨cyc, regs, ctx⟩ := s.digestKept_spec c l
  have launch : (s.digestKept c l).launch c = some l := by
    rw [State.launch, ctx]
    exact hl
  unfold State.digestRecorded
  split
  · next skips =>
    refine ⟨cyc, regs, launch, by rw [ctx], fun b hb class_ again => ?_⟩
    simp [class_, again, Launch.inWindow, hr] at skips
  · refine ⟨by rw [State.journal_keeps]; exact cyc, by rw [State.journal_keeps]; exact regs, (State.launch_journal _ _ _ _ _).trans launch,
      by rw [State.digests_journal, ctx], ?_⟩
    rintro b rfl - - fits
    have fits' : (s.digestKept c l).journalFits c (.digest (moduleDigest l.tau (s.laneDigests c l))) = true := by
      rw [State.journalFits, ctx]
      exact fits
    rw [State.journal_of_fits _ _ _ _ _ fits', ctx, State.tick, State.reg, regs]
    rfl

theorem State.writeDigest_spec (hl : s.launch c = some l) (hr : l.replay = none) : (s.writeDigest c l).cyc = s.cyc ∧
    (s.writeDigest c l).regs = s.regs ∧ (∃ l', (s.writeDigest c l).launch c = some l' ∧ l'.replay = none) ∧
    ((s.writeDigest c l).ctx c).digests = putDigest (s.ctx c).digests l.tau.toNat (digestBlock l.tau (s.laneDigests c l)) ∧
    ∀ b, b = JBody.digest (moduleDigest l.tau (s.laneDigests c l)) → l.sched.classT = false →
      (s.ctx c).digests.any (fun x => (x.1 : Int) == l.tau) = false → s.journalFits c b = true →
      ((s.writeDigest c l).ctx c).journal = (s.ctx c).journal ++ [⟨b, (s.ctx c).journalNext, l.tau, 1000, s.tick⟩] := by
  obtain ⟨cyc, regs, launch, digests, journal⟩ := State.digestRecorded_spec hl hr
  obtain ⟨f, hf, e⟩ := s.writeDigest_eq c l
  rw [State.digestArea, State.blockDigests_eq hr] at digests
  rw [e, (State.modLaunch_ctx _ _ _).1, (State.modLaunch_ctx _ _ _).2, State.modLaunch_keeps]
  exact ⟨cyc, regs, ⟨_, by rw [← State.modLaunch_keeps]; exact State.launch_modLaunch_same launch f, hf l hr⟩, digests, journal⟩

end

/-- A replay that stops at its first difference ends the launch after a digest tick (R285). -/
def State.stopReplay (t : State) (c : Nat) (v : Version) : State := match t.launch c with
  | some l => if l.replay.any fun r => r.stop && r.firstBad.isSome then t.endLaunch c l v.coeffs l.tau else t
  | none => t

theorem State.stopReplay_of_none {t : State} {c : Nat} {l : Launch} {v : Version} (hl : t.launch c = some l) (hr : l.replay = none) :
    t.stopReplay c v = t := by
  unfold State.stopReplay
  rw [hl]
  dsimp only
  rw [hr]
  rfl

theorem execDigestWrite_eq {s : State} {c : CtxId} {l : Launch} {v : Version} (hl : s.launch c.val = some l) (hv : s.versionOf c.val = some v)
    (early : s.cyc ≤ 1023) : execDigestWrite c s = .next (
      if (s.upTo 1000).moving c.val && l.digestTick && (((s.upTo 1000).enabledLanes c.val l).all fun p => ((s.upTo 1000).lane p.2).resolved) &&
        (!l.folded || l.frame == 74) then ((s.upTo 1000).writeDigest c.val l).stopReplay c.val v else s) := by
  have hl' : (s.upTo 1000).launch c.val = some l := hl
  have hv' : (s.upTo 1000).versionOf c.val = some v := hv
  unfold execDigestWrite State.within State.stopReplay
  cases done : ((s.upTo 1000).writeDigest c.val l).launch c.val <;> simp only [if_pos early, hl', hv', done]

theorem exec_digestWrite {s : State} {c : CtxId} {l : Launch} {v : Version} (hl : s.launch c.val = some l)
    (hv : s.versionOf c.val = some v) (hf : l.folded = false) (hr : l.replay = none) (hd : l.digestTick = true) (early : s.cyc ≤ 1023)
    (moves : (s.upTo 1000).moving c.val = true) (resolved : ∀ p ∈ s.enabledLanes c.val l, (s.lane p.2).resolved = true) :
    exec (.digestWrite c) s = .next ((s.upTo 1000).writeDigest c.val l) := by
  have writes : exec (.digestWrite c) s = execDigestWrite c s := rfl
  have all : (((s.upTo 1000).enabledLanes c.val l).all fun p => ((s.upTo 1000).lane p.2).resolved) = true := List.all_eq_true.mpr resolved
  obtain ⟨-, -, ⟨l', launch, replay⟩, -⟩ := State.writeDigest_spec (s := s.upTo 1000) hl hr
  rw [writes, execDigestWrite_eq hl hv early, if_pos (by rw [moves, hd, all, hf]; rfl), State.stopReplay_of_none launch replay]

/-- Settles O46: each of the four commands comes down to its one write of the tally unit or of the context, and the rest is unchanged. -/
theorem records : Obligations.Records := by
  intro c l s hl
  refine ⟨?audit, ?emit, ?sample, ?digest⟩
  case audit =>
    rintro _ rfl early moves decides whole
    have run := exec_audit hl
    rw [if_pos early, if_pos (by simp [moves, decides, whole]), State.copyAudits_eq] at run
    refine ⟨fun due fresh some => ?_, fun idle => ?_⟩
    · have due' : (s.upTo 68).auditTick c.val l.tau = true := due
      have some' : ((s.upTo 68).newAudits c.val l).isEmpty = false := List.isEmpty_eq_false_iff.mpr some
      rw [due', fresh, if_pos (by rfl), some', if_neg (by decide)] at run
      obtain ⟨mem, cyc, launch, busy⟩ := State.audited_spec (s := s.upTo 68) hl
      exact ⟨_, _, run, mem, cyc, launch, rfl, busy⟩
    · rw [if_neg (by rcases idle with h | h <;> simp [show (s.upTo 68).auditTick c.val l.tau = s.auditTick c.val l.tau from rfl, h])] at run
      exact run
  case emit =>
    intro a due ha hdue
    have run := exec_auditRecordEmit hl ha hdue rfl
    refine ⟨fun idle => ?_, fun moves decides some => ⟨fun complete => ?_, fun ⟨x, hx, lacks⟩ => ?_⟩⟩
    · rw [if_pos (by rcases idle with h | h | h <;> simp [h])] at run
      exact run
    · rw [if_neg (by simp [moves, decides, some]), if_neg (by simpa using fun x hx => Option.isSome_iff_ne_none.mp (complete x hx))] at run
      obtain ⟨cyc, launch, tally⟩ := emitted_spec hl (due := due) rfl
      split at run
      · rw [State.auditBusy_keeps] at run
        exact ⟨_, { l with audits := _ }, run, cyc, launch, rfl, rfl, tally⟩
      · exact ⟨_, { l with audits := _ }, run, cyc, launch, rfl, rfl, tally⟩
    · rw [if_neg (by simp [moves, decides, some]), if_pos (List.any_eq_true.mpr ⟨x, hx, by simp [lacks]⟩)] at run
      exact ⟨_, _, run, State.launch_modLaunch_same (s := s.upTo 1000) hl (·.hold .tally 1000), l.mem_hold _ _, l.hold_tau _ _,
        l.hold_audits _ _, State.modLaunch_keeps _ _ _⟩
  case sample =>
    intro a lanes top hc early moves decides enabled room tick hlanes htop
    have run := exec_statisticsSample hc hl hlanes htop
    rw [if_pos early, if_pos (by rw [moves, decides, enabled, room, tick]; rfl)] at run
    refine ⟨fun full => ?_, fun fits => ?_⟩
    · rw [if_pos full] at run
      exact ⟨_, run, ⟨rfl, rfl⟩, by simp [State.flag, State.fld_setFld_same], fun q j hq => State.reg_setFld_other _ _ _ hq⟩
    · rw [if_neg (by omega)] at run
      have count : ((s.upTo 68).sampleOn c.val a.ix (2 ^ 20)).fld F.acrStatSamplesN a.ix = s.fld F.acrStatSamplesN a.ix := by
        rw [State.fld, State.reg_sampleOn_stat]
        rfl
      have small : top < 2 ^ 32 := by
        rw [htop]
        split <;> decide
      refine ⟨_, run, (State.fld_sampled (by omega)).trans (by rw [count]), State.sampleBusy_sampled, ?_, ?_, fun ended => ?_⟩
      · rw [State.acre_sampled]
      · rw [State.acre_sampled]
      · exact State.sampled_sameMemory (State.sampleOn_sameMemory (s := s.upTo 68) (h := ended))
  case digest =>
    intro v hv early moves tick resolved whole fresh
    obtain ⟨cyc, regs, -, digests, journal⟩ := State.writeDigest_spec (s := s.upTo 1000) hl fresh
    exact ⟨_, exec_digestWrite hl hv whole fresh tick early moves resolved, cyc, regs, digests, journal⟩

end Sys2Proof.Machine
end

section
/-!
PROOF. O14: READ_BEST, CAPTURE_READ and MON_READ.
-/
namespace Sys2Proof.Machine

/-! ## A message that is due -/

theorem State.executing_regs (s : State) (n : Nat) (m : Msg) : ∃ r, s.executing n m = { s with regs := r } := ⟨_, rfl⟩

section
variable {s t u : State} {n op : Nat} {m : Msg} {body : Msg → State → Done} {r : Reply}

/-- A message of no image that clashes with no other runs its body, and nothing else is done to the state. -/
theorem State.execute_of_clear (clash : u.stagedClash n m = false) (part : u.partClash m = false) (h : m.image = none) :
    u.execute n m body = body m u := by
  have kept : ∀ t : State, t.notePart m = t := fun t => by rw [State.notePart, h]
  unfold State.execute
  rw [clash, part]
  simp only [Bool.or_self, Bool.false_eq_true, if_false, kept]
  cases body m u <;> rfl

theorem Due.execute (d : Due s n op m) (h : m.image = none) : (s.executing n m).execute n m body = body m (s.executing n m) := by
  obtain ⟨clash, part⟩ := d.clear
  obtain ⟨r, e⟩ := s.executing_regs n m
  rw [e]
  exact State.execute_of_clear clash part h

theorem Due.message (d : Due s n op m) (h : m.image = none) : s.message (s.chan n) n op body = match body m (s.executing n m) with
    | .answer r t => t.respond n m r
    | .wait t => t.setChan n { t.chan n with waits := true } := by
  obtain ⟨b, held, parsed⟩ := Option.map_eq_some_iff.mp d.held
  have run : (s.setFld F.mbxStatusLast n m.seq).execute n m body = body m (s.executing n m) := d.execute h
  have due : ¬(m.opcode ≠ op ∨ (s.chan n).waits = true) := by simp [d.op, d.fresh]
  unfold State.message
  cases done : body m (s.executing n m) <;> simp only [held, parsed, if_neg due, d.seq, run.trans done]

end

/-! ## An answer -/

theorem length_padTo (n : Nat) (v : List Byte) : (padTo n v).length = n := by
  simp only [padTo, List.length_append, List.length_take, List.length_replicate]
  omega

section
variable (s : State) (n : Nat)

/-- A slot written and its channel idle. -/
def State.placed (s : State) (n : Nat) (slot : List Byte) : State :=
  ((s.wrN (slotAt n 256) slot).setFld F.mbxStatusBusy n 0).setChan n
    { ((s.wrN (slotAt n 256) slot).setFld F.mbxStatusBusy n 0).chan n with msg := none, waits := false }

theorem State.post_eq (slot : List Byte) :
    s.post n slot = if ((s.placed n slot).chan n).resetAsked then (s.placed n slot).resetChan n else s.placed n slot := rfl

theorem State.chan_setChan_same (x : Chan) : (s.setChan n x).chan n = x := sget_sput_same _ _ _ _

theorem State.tick_setFld (f : Fld) (i v : Nat) (h : Reg.hubTick ≠ f.reg) : (s.setFld f i v).tick = s.tick := by
  rw [State.tick, State.reg_setFld_ne _ _ h, State.tick]

/-- What an answer leaves as it is: memory outside the slot, contexts and the tick. -/
structure AnswerWork (s t : State) (n : Nat) (slot : List Byte) : Prop where
  slot : t.rdN (slotAt n 256) slot.length = slot
  idle : (t.chan n).msg = none
  busy : t.fld F.mbxStatusBusy n = 0
  tick : t.tick = s.tick
  ctxs : t.ctxs = s.ctxs
  rest : ∀ a, a < slotAt n 256 → t.rd a = s.rd a

theorem State.placed_answerWork (slot : List Byte) : AnswerWork s (s.placed n slot) n slot := by
  unfold State.placed
  refine ⟨?_, ?_, ?_, ?_, ?_, fun a ha => ?_⟩
  · rw [State.setChan_get_rdN, State.setFld_get_rdN, State.rdN_wrN]
  · rw [State.chan_setChan_same]
  · rw [State.setChan_get_fld, State.fld_setFld_same _ _ _ _ (by decide)]
    rfl
  · rw [State.setChan_get_tick, State.tick_setFld _ _ _ _ (by decide), State.wrN_get_tick]
  · rw [State.setChan_ctxs, State.setFld_ctxs, State.wrN_ctxs]
  · rw [State.setChan_get_rd, State.setFld_get_rd, State.rd_wrN_out _ _ _ _ (.inl ha)]

theorem AnswerWork.resetChan {s t : State} {n : Nat} {slot : List Byte} (h : AnswerWork s t n slot) : AnswerWork s (t.resetChan n) n slot := by
  unfold State.resetChan
  refine ⟨?_, ?_, ?_, ?_, ?_, fun a ha => ?_⟩
  · rw [State.setChan_get_rdN, State.setFld_get_rdN, State.setFld_get_rdN, h.slot]
  · rw [State.chan_setChan_same]
    exact h.idle
  · rw [State.setChan_get_fld, State.fld_setFld_beside _ F.mbxStatusDropped F.mbxStatusBusy _ _ rfl (by decide) (by decide),
      State.fld_setFld_beside _ F.mbxStatusLast F.mbxStatusBusy _ _ rfl (by decide) (by decide), h.busy]
  · rw [State.setChan_get_tick, State.tick_setFld _ _ _ _ (by decide), State.tick_setFld _ _ _ _ (by decide), h.tick]
  · rw [State.setChan_ctxs, State.setFld_ctxs, State.setFld_ctxs, h.ctxs]
  · rw [State.setChan_get_rd, State.setFld_get_rd, State.setFld_get_rd, h.rest a ha]

theorem State.post_answerWork (slot : List Byte) : AnswerWork s (s.post n slot) n slot := by
  rw [State.post_eq]
  split
  · exact (s.placed_answerWork n slot).resetChan
  · exact s.placed_answerWork n slot

variable (m : Msg) (r : Reply)

/-- An answer, kept in the history of its channel and placed in its slot. -/
theorem State.respond_eq : ∃ x, s.respond n m r =
    (s.setChan n x).post n (responseBytes n m.opcode m.seq s.tick r.status r.status r.detail r.payload) := ⟨_, rfl⟩

theorem State.respond_answered : Answered (s.respond n m r) n m r ∧ (s.respond n m r).ctxs = s.ctxs ∧
    ∀ a, a < slotAt n 256 → (s.respond n m r).rd a = s.rd a := by
  obtain ⟨x, e⟩ := s.respond_eq n m r
  have work := (s.setChan n x).post_answerWork n (responseBytes n m.opcode m.seq s.tick r.status r.status r.detail r.payload)
  have len : (responseBytes n m.opcode m.seq s.tick r.status r.status r.detail r.payload).length = 256 := length_padTo _ _
  rw [← e] at work
  obtain ⟨slot, idle, busy, tick, ctxs, rest⟩ := work
  rw [len] at slot
  refine ⟨⟨?_, idle, busy⟩, ctxs.trans (State.setChan_ctxs _ _ _), fun a ha => (rest a ha).trans (State.setChan_get_rd _ _ _ _)⟩
  rw [slot, tick, State.setChan_get_tick]

end

/-! ## What stands in the staging window after an answer -/

theorem slotAt_eq (n off : Nat) : slotAt n off = 5 * 2 ^ 44 + n * 1024 + off := rfl

theorem stagingAt_eq (off : Nat) : stagingAt off = 4 * 2 ^ 44 + off := rfl

theorem State.length_rdN (s : State) (a n : Nat) : (s.rdN a n).length = n := by
  simp only [State.rdN, List.length_map, List.length_range]

/-- Bytes read, but for the first `k`, up to `l` of them. -/
theorem State.take_drop_rdN (s : State) (a n k l : Nat) : ((s.rdN a n).drop k).take l = s.rdN (a + k) (min l (n - k)) := by
  apply List.ext_getElem
  · simp only [List.length_take, List.length_drop, State.length_rdN]
  · intro i _ _
    simp only [State.rdN, List.getElem_take, List.getElem_drop, List.getElem_map, List.getElem_range, Nat.add_assoc]

section
variable (u : State) (n : Nat) (m : Msg) (r : Reply)

theorem State.rdN_respond (a k : Nat) (h : a + k ≤ slotAt n 256) : (u.respond n m r).rdN a k = u.rdN a k := by
  obtain ⟨-, -, rest⟩ := u.respond_answered n m r
  unfold State.rdN
  refine List.map_congr_left fun i hi => rest _ ?_
  have := List.mem_range.mp hi
  omega

/-- An answer after bytes have been staged: the contexts stay, and the bytes stand in the window. -/
theorem State.respond_staged (off : Nat) (v : List Byte) : Answered ((u.wrN (stagingAt off) v).respond n m r) n m r ∧
    ((u.wrN (stagingAt off) v).respond n m r).ctxs = u.ctxs ∧
    (off + v.length ≤ 2 ^ 26 → ((u.wrN (stagingAt off) v).respond n m r).rdN (stagingAt off) v.length = v) := by
  obtain ⟨answered, ctxs, -⟩ := (u.wrN (stagingAt off) v).respond_answered n m r
  refine ⟨answered, ctxs, fun room => ?_⟩
  rw [State.rdN_respond _ _ _ _ _ _ (by rw [stagingAt_eq, slotAt_eq]; omega), State.rdN_wrN]

end

/-! ## READ_BEST -/

/-- The replica read: the launch best, the one named, or any where there is none of that number. -/
def State.replicaRead (s : State) (asked : Nat) (bests : List (Int × Nat)) (lost : List Nat) : Nat × State :=
  if asked = 0xFFFF then (launchBest bests lost, s) else if asked < bests.length then (asked, s) else (s.draw.1 % max 1 bests.length, s.draw.2)

theorem State.replicaRead_free (s : State) (asked : Nat) (bests : List (Int × Nat)) (lost : List Nat) :
    ∃ k, (s.replicaRead asked bests lost).2 = { s with free := k } := by
  unfold State.replicaRead
  split
  · exact ⟨s.free, rfl⟩
  · split
    · exact ⟨s.free, rfl⟩
    · exact ⟨s.free + 1, rfl⟩

theorem length_bestImage_le (v : Coeffs) (r : Nat) (best : Int × Nat) (read : Int) (running : Bool) (audits : List (List Byte))
    (spins : Nat → BitVec 1024) : (bestImage v r best read running audits spins).length ≤ 0x40 + 128 * v.blocks := by
  have vector : ((List.range v.blocks).flatMap fun b => leBytes 128 (spins b).toNat).length = 128 * v.blocks := by
    simp [List.length_flatMap, leBytes_length, Nat.mul_comm]
  simp only [bestImage, List.length_append, leBytes_length, vector]
  cases auditOf audits r best.2 with
  | none =>
    have empty := leBytes_length 8 0
    dsimp only
    omega
  | some x =>
    have energy := List.length_take_le 8 (x.drop 32)
    dsimp only
    omega

section
variable {s u : State} {n : Channel} {m : Msg}

theorem exec_readBest (d : Due s n.val 0x0B m) : exec (.readBest n) s = .next (match (s.executing n.val m).readBest n.val m with
    | .answer r t => t.respond n.val m r
    | .wait t => t.setChan n.val { t.chan n.val with waits := true }) :=
  congrArg Host.Outcome.next (d.message (by simp [Msg.image, d.op]))

theorem State.wakeService_regs (s : State) (c : Nat) : ∃ r, s.wakeService c = { s with regs := r } := by
  have wakes : ∀ (l : Launch) (b : Nat), ∃ r, s.wakeFor l b = { s with regs := r } := by
    intro l b
    refine List.foldlRecOn (motive := fun u : State => ∃ r, u = { s with regs := r }) _ _ ⟨s.regs, rfl⟩ ?_
    rintro _ ⟨r, rfl⟩ a _
    unfold State.wakeAcre
    split
    · exact ⟨_, rfl⟩
    · exact ⟨r, rfl⟩
  unfold State.wakeService
  split
  · split
    · exact wakes _ _
    · exact ⟨s.regs, rfl⟩
  · exact ⟨s.regs, rfl⟩

/-- What READ_BEST reads depends on no register. -/
theorem State.bestOf_regs (s : State) (r : Sparse Word) (c : Nat) : ({ s with regs := r } : State).bestOf c = s.bestOf c := rfl

/-- READ_BEST of a launch that does not run is carried out at once, on a state that differs in registers. -/
theorem exec_readBest_now (d : Due s n.val 0x0B m) (idle : (s.ctx m.ctx).state ∉ [CtxState.running, .held]) :
    ∃ r, exec (.readBest n) s = .next ((({ s with regs := r } : State).readBestNow m).2.respond n.val m
      (({ s with regs := r } : State).readBestNow m).1) := by
  obtain ⟨r, e⟩ := s.executing_regs n.val m
  obtain ⟨r', e'⟩ := State.wakeService_regs { s with regs := r } m.ctx
  refine ⟨r', ?_⟩
  have rests : ¬((s.ctx m.ctx).state = .running ∨ (s.ctx m.ctx).state = .held) := by simpa using idle
  have rests' : ¬((({ s with regs := r } : State).ctx m.ctx).state = .running ∨ (({ s with regs := r } : State).ctx m.ctx).state = .held) := rests
  rw [exec_readBest d, State.readBest, e, if_neg rests', e']

theorem State.readBestNow_of_none (h : s.bestOf m.ctx = none) : s.readBestNow m = ({ status := stBusy, detail := m.ctx }, s) := by
  unfold State.readBestNow
  rw [h]
  rfl

section
variable {v : Coeffs} {bests : List (Int × Nat)} {lost : List Nat} {tau : Int} {audits : List (List Byte)}
  {spins : Nat → Nat → BitVec 1024} (h : s.bestOf m.ctx = some (v, bests, lost, tau, audits, spins))
include h

theorem State.readBestNow_of_small (small : m.stageLen < 0x40 + 128 * v.blocks) :
    s.readBestNow m = ({ status := stCapacity }, s) := by
  unfold State.readBestNow
  rw [h]
  exact if_pos small

theorem State.readBestNow_of_room (idle : (s.ctx m.ctx).state ∉ [CtxState.running, .held]) (room : 0x40 + 128 * v.blocks ≤ m.stageLen)
    {r : Nat} (hr : r = (s.replicaRead (m.p 0 2) bests lost).1) :
    s.readBestNow m = (⟨stOk, 0, leBytes 8 ((bests[r]?).getD (0, 0)).2 ++ leBytes 8 (unsign 64 ((bests[r]?).getD (0, 0)).1)⟩,
      (s.replicaRead (m.p 0 2) bests lost).2.wrN (stagingAt m.stageOff)
        (bestImage v r ((bests[r]?).getD (0, 0)) tau false audits (spins r))) := by
  have rests : ((s.ctx m.ctx).state == .running || (s.ctx m.ctx).state == .held) = false := by simpa using idle
  subst hr
  unfold State.readBestNow
  rw [h, rests]
  exact if_neg (by omega)

end

end

/-! ## CAPTURE_READ and MON_READ -/

section
variable {s u : State} {n : Channel} {m : Msg}

theorem exec_captureRead (d : Due s n.val 0x12 m) : exec (.captureRead n) s = .next
    (((s.executing n.val m).captureRead m).2.respond n.val m ((s.executing n.val m).captureRead m).1) :=
  congrArg Host.Outcome.next (d.message (by simp [Msg.image, d.op]))

theorem exec_monRead (d : Due s n.val 0x14 m) : exec (.monRead n) s = .next
    (((s.executing n.val m).monRead m).2.respond n.val m ((s.executing n.val m).monRead m).1) :=
  congrArg Host.Outcome.next (d.message (by simp [Msg.image, d.op]))

/-- The capture buffer, read from an offset on. -/
theorem State.captureRead_buffer (h0 : m.p 0 1 = 0) (free : s.flag F.fltStatusCaptureBusy 0 = false) :
    ∃ u, OnlyCarts s u ∧ s.captureRead m =
      ({ status := stOk, payload := leBytes 8 (2 ^ 29) ++
          leBytes 4 (s.rdN (Space.capture.base + m.p 8 8) (min m.stageLen (2 ^ 29 - m.p 8 8))).length },
        u.wrN (stagingAt m.stageOff) (s.rdN (Space.capture.base + m.p 8 8) (min m.stageLen (2 ^ 29 - m.p 8 8)))) := by
  refine ⟨_, s.cart_onlyCarts none chService (cartPackets m.stageLen) (.north (m.p 8 8 / 2 ^ 26 % 8))
    (.south (Spot.die (.north (m.p 8 8 / 2 ^ 26 % 8)))), ?_⟩
  rw [State.captureRead, if_pos h0, if_neg (by rw [free]; exact Bool.false_ne_true)]
  rfl

/-- An object, read from an offset on. -/
theorem State.captureRead_object {b : List Byte} (h0 : m.p 0 1 ≠ 0) (hb : s.objectOf (m.p 0 1) (m.p 4 1 % 4) m.ctx = some b) :
    ∃ u, OnlyCarts s u ∧ s.captureRead m =
      ({ status := stOk, payload := leBytes 8 b.length ++ leBytes 4 ((b.drop (m.p 8 8)).take m.stageLen).length },
        u.wrN (stagingAt m.stageOff) ((b.drop (m.p 8 8)).take m.stageLen)) := by
  refine ⟨_, s.cart_onlyCarts none chService (cartPackets (min m.stageLen (b.length - m.p 8 8)))
    (.north (((s.ctx m.ctx).segs.headD 0) / 256 % 8)) (.south (Spot.die (.north (((s.ctx m.ctx).segs.headD 0) / 256 % 8)))), ?_⟩
  rw [State.captureRead, if_neg h0, hb]
  rfl

/-- The bytes that a CAPTURE_READ takes, of the buffer or of an object, stand in the window when it is answered. -/
theorem exec_captureRead_some (d : Due s n.val 0x12 m) {obj part : List Byte}
    (source : m.p 0 1 = 0 ∧ s.flag F.fltStatusCaptureBusy 0 = false ∧ m.p 8 8 ≤ 2 ^ 29 ∧ obj = s.rdN Space.capture.base (2 ^ 29) ∨
      m.p 0 1 ≠ 0 ∧ s.objectOf (m.p 0 1) (m.p 4 1 % 4) m.ctx = some obj) (hpart : part = (obj.drop (m.p 8 8)).take m.stageLen) :
    ∃ u : State, u.ctxs = s.ctxs ∧ exec (.captureRead n) s = .next ((u.wrN (stagingAt m.stageOff) part).respond n.val m
      { status := stOk, payload := leBytes 8 obj.length ++ leBytes 4 part.length }) := by
  have ctxs : (s.executing n.val m).ctxs = s.ctxs := State.setFld_ctxs _ _ _ _
  have run := exec_captureRead d
  rcases source with ⟨h0, free, -, hobj⟩ | ⟨h0, hobj⟩
  · have free' : (s.executing n.val m).flag F.fltStatusCaptureBusy 0 = false := by
      rw [State.flag, State.executing, State.fld_setFld_ne _ (by decide)]
      exact free
    have bytes : (s.executing n.val m).rdN (Space.capture.base + m.p 8 8) (min m.stageLen (2 ^ 29 - m.p 8 8)) = part := by
      rw [hpart, hobj, State.take_drop_rdN, State.executing, State.setFld_get_rdN]
    have len : obj.length = 2 ^ 29 := by rw [hobj, State.length_rdN]
    obtain ⟨u, carts, body⟩ := State.captureRead_buffer h0 free'
    rw [body, bytes] at run
    rw [len]
    exact ⟨u, by rw [carts, ctxs], run⟩
  · have hobj' : (s.executing n.val m).objectOf (m.p 0 1) (m.p 4 1 % 4) m.ctx = some obj := by
      obtain ⟨r, e⟩ := s.executing_regs n.val m
      rw [e]
      exact hobj
    obtain ⟨u, carts, body⟩ := State.captureRead_object h0 hobj'
    rw [body, ← hpart] at run
    exact ⟨u, by rw [carts, ctxs], run⟩

theorem State.captureRead_of_none (h0 : m.p 0 1 ≠ 0) (hb : s.objectOf (m.p 0 1) (m.p 4 1 % 4) m.ctx = none) :
    s.captureRead m = ({ status := stNoSlot }, s) := by
  rw [State.captureRead, if_neg h0, hb]

/-- The bytes of a register page that a MON_READ takes. -/
def State.monBytes (s : State) (m : Msg) (rows : List RegRow) (unit : Nat) : List Byte :=
  s.pageBytes rows unit (m.p 0 4 % 2 ^ 12) (min (m.p 4 2) (if m.stage then m.stageLen else 224))

theorem State.monRead_page {rows : List RegRow} {unit : Nat} (h : s.monPage m.ctx (m.p 0 4) = some (rows, unit)) :
    ∃ u, OnlyCarts s u ∧ s.monRead m = if m.stage then ({ status := stOk }, u.wrN (stagingAt m.stageOff) (s.monBytes m rows unit))
      else ({ status := stOk, payload := s.monBytes m rows unit }, u) := by
  refine ⟨_, s.cart_onlyCarts none chService (cartPackets (s.monBytes m rows unit).length)
    (stookSpot (if bits (m.p 0 4) 16 4 = 0xA then 17 * unit else if bits (m.p 0 4) 16 4 < 8 then unit / 8 else unit)) (.south (Spot.die (stookSpot
      (if bits (m.p 0 4) 16 4 = 0xA then 17 * unit else if bits (m.p 0 4) 16 4 < 8 then unit / 8 else unit)))), ?_⟩
  have page : bits (m.p 0 4) 0 12 = m.p 0 4 % 2 ^ 12 := by rw [bits, Nat.pow_zero, Nat.div_one]
  rw [State.monRead, h, State.monBytes, ← page]
  rfl

theorem State.monRead_of_none (h : s.monPage m.ctx (m.p 0 4) = none) : s.monRead m = ({ status := stNoSlot }, s) := by
  rw [State.monRead, h]

end

/-- Settles O14: each of the three reads stages its bytes and answers, and touches no context. -/
theorem reads : Obligations.Reads := by
  refine ⟨fun n m s d => ⟨fun runs => ?wait, fun idle empty => ?empty, fun v bests lost tau audits spins idle best => ?best⟩,
    fun n m s => ⟨fun d => ⟨fun obj part source hpart room => ?capture, fun h0 absent => ?absent⟩,
      fun d => ⟨fun rows unit b page hb => ?page, fun noPage => ?noPage⟩⟩⟩
  case wait =>
    obtain ⟨r, e⟩ := s.executing_regs n.val m
    have runs' : (s.ctx m.ctx).state = .running ∨ (s.ctx m.ctx).state = .held := by simpa using runs
    have waits : (s.executing n.val m).readBest n.val m = .wait ((s.executing n.val m).setChan n.val
        { (s.executing n.val m).chan n.val with due := (s.executing n.val m).tickAfter 2 }) := by
      rw [State.readBest, if_pos (by rw [e]; exact runs')]
    have run := exec_readBest d
    rw [waits] at run
    have later : (s.executing n.val m).tickAfter 2 = s.tickAfter 2 := by
      rw [State.tickAfter, State.now, State.executing, State.tick_setFld _ _ _ _ (by decide), State.setFld_cyc]
      rfl
    refine ⟨_, run, ?_, ?_, ?_, ?_⟩
    · rw [State.chan_setChan_same]
    · rw [State.chan_setChan_same, State.chan_setChan_same, later]
    · rw [State.setChan_mem, State.setChan_mem, e]
    · rw [State.setChan_ctxs, State.setChan_ctxs, e]
  case empty =>
    obtain ⟨r, run⟩ := exec_readBest_now d idle
    rw [State.readBestNow_of_none (s := { s with regs := r }) empty] at run
    obtain ⟨answered, ctxs, -⟩ := State.respond_answered { s with regs := r } n.val m { status := stBusy, detail := m.ctx }
    exact ⟨_, run, answered, ctxs⟩
  case best =>
    obtain ⟨r, run⟩ := exec_readBest_now d idle
    refine ⟨fun small => ?_, fun room => ?_⟩
    · rw [State.readBestNow_of_small (s := { s with regs := r }) best small] at run
      obtain ⟨answered, ctxs, -⟩ := State.respond_answered { s with regs := r } n.val m { status := stCapacity }
      exact ⟨_, run, answered, ctxs⟩
    · rw [State.readBestNow_of_room (s := { s with regs := r }) best idle room rfl] at run
      obtain ⟨k, e⟩ := State.replicaRead_free { s with regs := r } (m.p 0 2) bests lost
      have staged := State.respond_staged (({ s with regs := r } : State).replicaRead (m.p 0 2) bests lost).2 n.val m
      obtain ⟨answered, ctxs, window⟩ := staged _ m.stageOff _
      refine ⟨_, _, run, ctxs.trans (by rw [e]), fun all => ?_, fun one inside => ?_, answered, ?_⟩
      · rw [State.replicaRead, if_pos all]
      · rw [State.replicaRead, if_neg one, if_pos inside]
      · rintro fits img rfl
        exact window ((Nat.add_le_add_left (length_bestImage_le v _ _ _ _ _ _) _).trans (by omega))
  case capture =>
    obtain ⟨u, hu, run⟩ := exec_captureRead_some d source hpart
    obtain ⟨answered, ctxs, window⟩ := u.respond_staged n.val m
      { status := stOk, payload := leBytes 8 obj.length ++ leBytes 4 part.length } m.stageOff part
    have short : part.length ≤ m.stageLen := hpart ▸ List.length_take_le _ _
    exact ⟨_, run, answered, window (by omega), ctxs.trans hu⟩
  case absent =>
    obtain ⟨r, e⟩ := s.executing_regs n.val m
    have run := exec_captureRead d
    rw [e, State.captureRead_of_none (s := { s with regs := r }) h0 absent] at run
    obtain ⟨answered, ctxs, -⟩ := State.respond_answered { s with regs := r } n.val m { status := stNoSlot }
    exact ⟨_, run, answered, ctxs⟩
  case page =>
    have page' : (s.executing n.val m).monPage m.ctx (m.p 0 4) = some (rows, unit) := by
      obtain ⟨r, e⟩ := s.executing_regs n.val m
      rw [e]
      exact page
    have bytes : (s.executing n.val m).monBytes m rows unit = b := hb.symm
    have run := exec_monRead d
    obtain ⟨u, carts, body⟩ := State.monRead_page page'
    have hu : u.ctxs = s.ctxs := by rw [carts, State.executing, State.setFld_ctxs]
    rw [body, bytes] at run
    cases stage : m.stage with
    | true =>
      rw [stage, if_pos rfl] at run
      obtain ⟨answered, ctxs, window⟩ := u.respond_staged n.val m { status := stOk } m.stageOff b
      have short : b.length ≤ m.stageLen := by
        rw [hb, stage, State.pageBytes, List.length_map, List.length_range, if_pos rfl]
        exact Nat.min_le_right _ _
      exact ⟨_, run, ctxs.trans hu, nofun, fun _ => ⟨answered, fun room => window (by omega)⟩⟩
    | false =>
      rw [stage, if_neg Bool.false_ne_true] at run
      obtain ⟨answered, ctxs, -⟩ := u.respond_answered n.val m { status := stOk, payload := b }
      exact ⟨_, run, ctxs.trans hu, fun _ => answered, nofun⟩
  case noPage =>
    obtain ⟨r, e⟩ := s.executing_regs n.val m
    have run := exec_monRead d
    rw [e, State.monRead_of_none (s := { s with regs := r }) noPage] at run
    obtain ⟨answered, ctxs, -⟩ := State.respond_answered { s with regs := r } n.val m { status := stNoSlot }
    exact ⟨_, run, answered, ctxs⟩

end Sys2Proof.Machine
end

section
/-!
PROOF. O47: what the steps of a tick boundary leave as they are.
-/
namespace Sys2Proof.Machine

/-! ## What TICK_BOUNDARY sets stays -/

/-- What TICK_BOUNDARY sets and nothing that it does afterwards touches. -/
def State.beat (s : State) : List Instr × Nat × Option (BitVec 96) × Nat × Nat × Word :=
  (s.pending, s.cyc, s.arrived, s.fallow, s.entAsked, s.reg .hubTick 0)

section
variable (s : State)

@[simp] theorem State.beat_setReg (r : Reg) (i : Nat) (v : Word) (h : r ≠ .hubTick) : (s.setReg r i v).beat = s.beat := by
  unfold State.beat
  rw [State.reg_setReg_ne _ _ h.symm]
  rfl

@[simp] theorem State.beat_setFld (f : Fld) (i v : Nat) (h : f.reg ≠ .hubTick) : (s.setFld f i v).beat = s.beat :=
  s.beat_setReg _ _ _ h

-- The proofs are `id rfl`, not `rfl`, so that `simp` leaves a proof term: as definitional steps the kernel would compare whole states.
@[simp] theorem State.beat_wrN (a : Nat) (v : List Byte) : (s.wrN a v).beat = s.beat := id rfl
@[simp] theorem State.beat_tag (a n : Nat) (p : Bool) : (s.tag a n p).beat = s.beat := id rfl
@[simp] theorem State.beat_setEngine (n : Nat) (x : Engine) : (s.setEngine n x).beat = s.beat := id rfl
@[simp] theorem State.beat_setLane (n : Nat) (x : LaneState) : (s.setLane n x).beat = s.beat := id rfl
@[simp] theorem State.beat_setStook (n : Nat) (x : Stook) : (s.setStook n x).beat = s.beat := id rfl
@[simp] theorem State.beat_setCore (n : Nat) (x : CoreState) : (s.setCore n x).beat = s.beat := id rfl
@[simp] theorem State.beat_setGen (n : Nat) (x : Gen) : (s.setGen n x).beat = s.beat := id rfl
@[simp] theorem State.beat_setAcre (n : Nat) (x : Acre) : (s.setAcre n x).beat = s.beat := id rfl
@[simp] theorem State.beat_setCtx (n : Nat) (x : Ctx) : (s.setCtx n x).beat = s.beat := id rfl
@[simp] theorem State.beat_setGraph (n : Nat) (x : Option Graph) : (s.setGraph n x).beat = s.beat := id rfl
@[simp] theorem State.beat_setStream (n : Nat) (x : Stream) : (s.setStream n x).beat = s.beat := id rfl
@[simp] theorem State.beat_setChan (n : Nat) (x : Chan) : (s.setChan n x).beat = s.beat := id rfl
@[simp] theorem State.beat_modGroup (f : Group → Group) : (s.modGroup f).beat = s.beat := id rfl
@[simp] theorem State.beat_setOut (n : Nat) (x : CartOut) : (s.setOut n x).beat = s.beat := id rfl
@[simp] theorem State.beat_reportAt (code die acre stook unit index row : Nat) (c : Option Nat) :
    (s.reportAt code die acre stook unit index row c).beat = s.beat := id rfl

@[simp] theorem State.beat_ite (p : Prop) [Decidable p] (t : State) : (if p then s else t).beat = if p then s.beat else t.beat :=
  apply_ite State.beat _ _ _

@[simp] theorem State.beat_foldl {α : Type} {f : State → α → State} (l : List α) (h : ∀ u x, (f u x).beat = u.beat) :
    (l.foldl f s).beat = s.beat :=
  List.foldlRecOn (motive := fun u : State => u.beat = s.beat) l f rfl fun u hu x _ => (h u x).trans hu

@[simp] theorem State.beat_each {f : State → Nat → State} (l : List Nat) (h : ∀ u x, (f u x).beat = u.beat) : (s.each l f).beat = s.beat :=
  s.beat_foldl l h

end

section
variable (s : State)

@[simp] theorem State.beat_resetChan (n : Nat) : (s.resetChan n).beat = s.beat := by simp [State.resetChan]

@[simp] theorem State.beat_post (n : Nat) (slot : List Byte) : (s.post n slot).beat = s.beat := by
  unfold State.post
  dsimp only
  split <;> simp

@[simp] theorem State.beat_respond (n : Nat) (m : Msg) (r : Reply) : (s.respond n m r).beat = s.beat := by simp [State.respond]

@[simp] theorem State.beat_endWait (n : Nat) (r : Reply) : (s.endWait n r).beat = s.beat := by
  unfold State.endWait
  split <;> simp

@[simp] theorem State.beat_failWaiters (c : Nat) : (s.failWaiters c).beat = s.beat := by simp [State.failWaiters]
@[simp] theorem State.beat_countLeave (a : Nat) : (s.countLeave a).beat = s.beat := by simp [State.countLeave]
@[simp] theorem State.beat_dropGrants (a unit : Nat) : (s.dropGrants a unit).beat = s.beat := by simp [State.dropGrants]
@[simp] theorem State.beat_dropSlots (c : Nat) : (s.dropSlots c).beat = s.beat := rfl

theorem State.beat_bump (f : Fld) (i n : Nat) (h : f.reg ≠ .hubTick) : (s.bump f i n).beat = s.beat := s.beat_setFld _ _ _ h

@[simp] theorem State.beat_handBank (i f t : Nat) : (s.handBank i f t).2.beat = s.beat := by
  unfold State.handBank
  split <;> simp

@[simp] theorem State.beat_releaseUnits (c : Nat) : (s.releaseUnits c).beat = s.beat := by simp [State.releaseUnits]
@[simp] theorem State.beat_acted (c : Nat) : (s.acted c).beat = s.beat := rfl
@[simp] theorem State.beat_countRes (gone : List Nat) : (s.countRes gone).beat = s.beat := by simp [State.countRes]
@[simp] theorem State.beat_countGran : s.countGran.beat = s.beat := by simp [State.countGran]

@[simp] theorem State.beat_release (c : Nat) : (s.release c).beat = s.beat := by
  unfold State.release
  refine (State.beat_acted _ _).trans ((State.beat_countRes _ _).trans ((State.beat_countGran _).trans ?_))
  refine (State.beat_each _ _ fun u x => ?_).trans ?_
  · simp
  refine (State.beat_each _ _ fun u x => ?_).trans ?_
  · simp
  simp

@[simp] theorem State.beat_countWithdrawn (n k : Nat) : (s.countWithdrawn n k).beat = s.beat := by simp [State.countWithdrawn]
@[simp] theorem State.beat_withdraw (n : Nat) (p : Proposal → Bool) : (s.withdraw n p).beat = s.beat := by simp [State.withdraw]
@[simp] theorem State.beat_withdrawAll (c : Nat) : (s.withdrawAll c).beat = s.beat := by simp [State.withdrawAll]

@[simp] theorem State.beat_toSaved (c : Nat) (l : Launch) (w : Saved) (segs : List Nat) : (s.toSaved c l w segs).beat = s.beat := by
  simp [State.toSaved]

@[simp] theorem State.beat_markSegs (d : Nat) (l : List Nat) (mirror : Nat) : (s.markSegs d l mirror).beat = s.beat := by
  simp [State.markSegs]

theorem State.beat_allocKeep {s : State} {n : Nat} {r : List Nat × State} (e : s.allocKeep n = some r) : r.2.beat = s.beat := by
  unfold State.allocKeep at e
  obtain ⟨d, -, rfl⟩ := Option.map_eq_some_iff.mp e
  simp

theorem State.beat_evict {s t : State} {l : List Nat} (e : s.evict l = some t) : t.beat = s.beat := by
  unfold State.evict at e
  refine List.foldlRecOn l _ (motive := fun o => ∀ t, o = some t → t.beat = s.beat) ?start ?next t e
  case start =>
    rintro _ ⟨⟩
    rfl
  case next =>
    intro o ho c _ t ht
    obtain ⟨u, rfl, hu⟩ := Option.bind_eq_some_iff.mp ht
    have kept := ho u rfl
    split at hu
    · cases hu
      exact kept
    · obtain ⟨r, hr, rfl⟩ := Option.map_eq_some_iff.mp hu
      exact (State.beat_toSaved ..).trans ((State.beat_failWaiters ..).trans ((State.beat_release ..).trans
        ((State.beat_withdrawAll ..).trans ((State.beat_allocKeep hr).trans kept))))

@[simp] theorem State.beat_bind (x c : Nat) : (s.bind x c).beat = s.beat := by simp [State.bind]
@[simp] theorem State.beat_freeObject (l : List Nat) : (s.freeObject l).beat = s.beat := by simp [State.freeObject]
@[simp] theorem State.beat_dropObject (c : Nat) : (s.dropObject c).beat = s.beat := by simp [State.dropObject]

@[simp] theorem State.beat_release32 (c tick : Nat) : (s.release32 c tick).beat = s.beat := by
  unfold State.release32
  rfl

@[simp] theorem State.beat_journal (c : Nat) (b : JBody) (tau : Int) (cycle : Nat) : (s.journal c b tau cycle).beat = s.beat := by
  simp [State.journal]

@[simp] theorem State.beat_hostMark (c opcode seq : Nat) : (s.hostMark c opcode seq).beat = s.beat := by simp [State.hostMark]
@[simp] theorem State.beat_wakeAcre (a : Nat) : (s.wakeAcre a).beat = s.beat := by simp [State.wakeAcre]
@[simp] theorem State.beat_wakeFor (l : Launch) (blocks : Nat) : (s.wakeFor l blocks).beat = s.beat := by simp [State.wakeFor]
@[simp] theorem State.beat_giveBank (c i : Nat) : (s.giveBank c i).beat = s.beat := by simp [State.giveBank]

@[simp] theorem State.beat_bookSlots (c : Nat) (l : Launch) : (s.bookSlots c l).beat = s.beat := by
  unfold State.bookSlots
  split
  · simp
  · refine State.beat_foldl _ _ fun u x => ?_
    split
    · rfl
    · simp

@[simp] theorem State.beat_store (a : Nat) (v : List Byte) (p : Bool) : (s.store a v p).beat = s.beat := by simp [State.store]

@[simp] theorem State.beat_loadLadder (l : Launch) (v : Coeffs) (e idx : Nat) : (s.loadLadder l v e idx).beat = s.beat := by
  simp [State.loadLadder]

@[simp] theorem State.beat_putCode (e plane i j : Nat) (c : BitVec 4) : (s.putCode e plane i j c).beat = s.beat := by simp [State.putCode]
@[simp] theorem State.beat_blank (a n : Nat) : (s.blank a n).beat = s.beat := rfl
@[simp] theorem State.beat_loadStore (v : Coeffs) (e b : Nat) : (s.loadStore v e b).beat = s.beat := by simp [State.loadStore]

@[simp] theorem State.beat_loadEngine (c : Nat) (l : Launch) (v : Coeffs) (e idx : Nat) : (s.loadEngine c l v e idx).beat = s.beat := by
  simp [State.loadEngine]

@[simp] theorem State.beat_loadTile (k : Nat) : (s.loadTile k).beat = s.beat := by simp [State.loadTile]

@[simp] theorem State.beat_loadCore (c : Nat) (w : Sched) (g acre st k core : Nat) : (s.loadCore c w g acre st k core).beat = s.beat := by
  simp [State.loadCore]

@[simp] theorem State.beat_loadGen (c : Nat) (l : Launch) (d : GenDecl) : (s.loadGen c l d).beat = s.beat := by
  unfold State.loadGen
  split <;> simp

@[simp] theorem State.beat_loadAcre (c : Nat) (l : Launch) (g a n : Nat) : (s.loadAcre c l g a n).beat = s.beat := by simp [State.loadAcre]

@[simp] theorem State.beat_openTiles (c e : Nat) (l : Launch) (turn : Int) : (s.openTiles c e l turn).beat = s.beat := by
  simp [State.openTiles]

@[simp] theorem State.beat_emptyTiles (c : Nat) (l : Launch) : (s.emptyTiles c l).beat = s.beat := by simp [State.emptyTiles]

@[simp] theorem State.beat_mapSeg (c d g seg keep mirror : Nat) : (s.mapSeg c d g seg keep mirror).beat = s.beat := by
  unfold State.mapSeg
  split
  · simp
  · split <;> simp

@[simp] theorem State.beat_mapGddr (c : Nat) (l : Launch) : (s.mapGddr c l).beat = s.beat := by
  unfold State.mapGddr
  refine State.beat_foldl _ _ fun u x => ?_
  split <;> simp

@[simp] theorem State.beat_mapGran (c : Nat) (l : Launch) : (s.mapGran c l).beat = s.beat := by
  unfold State.mapGran
  refine State.beat_foldl _ _ fun u x => ?_
  split
  · simp
  · dsimp only
    split
    · simp
    · split <;> simp

@[simp] theorem State.beat_loadUnits (c : Nat) (l : Launch) (v : Coeffs) : (s.loadUnits c l v).beat = s.beat := by
  unfold State.loadUnits
  dsimp only
  refine (State.beat_emptyTiles _ _ _).trans ?_
  refine (State.beat_countRes _ _).trans ?_
  refine (State.beat_countGran _).trans ?_
  refine (State.beat_mapGddr _ _ _).trans ?_
  refine (State.beat_mapGran _ _ _).trans ?_
  refine (State.beat_foldl _ _ fun u x => ?_).trans ?_
  · simp
  refine (State.beat_foldl _ _ fun u x => ?_).trans ?_
  · simp
  refine (State.beat_foldl _ _ fun u x => ?_).trans ?_
  · split <;> simp
  refine (State.beat_foldl _ _ fun u x => ?_).trans ?_
  · split <;> simp
  refine (State.beat_foldl _ _ fun u x => ?_).trans ?_
  · split <;> simp
  refine (State.beat_bookSlots _ _ _).trans ?_
  refine (State.beat_foldl _ _ fun u x => ?_).trans ?_
  · split <;> simp
  simp

@[simp] theorem State.beat_showLanes (e : Nat) : (s.showLanes e).beat = s.beat := by simp [State.showLanes]

/-- A write that takes effect changes settable bits alone, and the tick counter has none. -/
@[simp] theorem State.beat_settle (s : State) (r : Reg) (i : Nat) (v : Word) : (s.settle r i v).beat = s.beat := by
  have set : (s.setReg r i ((s.reg r i &&& ~~~r.settable) ||| (v &&& r.settable))).beat = s.beat := by
    by_cases h : r = .hubTick
    · subst h
      have kept : (s.setReg .hubTick i ((s.reg .hubTick i &&& ~~~Reg.hubTick.settable) ||| (v &&& Reg.hubTick.settable))).reg .hubTick 0 =
          s.reg .hubTick 0 := by
        by_cases hi : i = 0
        · subst hi
          rw [State.reg_setReg_same, show Reg.hubTick.settable = 0#64 from by decide, BitVec.and_zero, BitVec.or_zero]
          exact BitVec.and_allOnes
        · exact s.reg_setReg_other _ fun e => hi (Reg.key_inj e).2.symm
      unfold State.beat
      rw [kept]
      rfl
    · exact s.beat_setReg _ _ _ h
  unfold State.settle
  dsimp only
  split
  · rw [State.beat_showLanes, set]
  · exact set

@[simp] theorem State.beat_cfgWrite (e : Nat) (w : CfgWrite) : (s.cfgWrite e w).beat = s.beat := by
  unfold State.cfgWrite
  dsimp only
  split <;> simp

@[simp] theorem State.beat_rebook (l : Launch) (tau : Int) : (s.rebook l tau).beat = s.beat := by
  unfold State.rebook
  refine State.beat_foldl _ _ fun u x => ?_
  split <;> simp

@[simp] theorem State.beat_restoreLane (n : Nat) (w : LaneSave) (f : Sparse (BitVec 20)) : (s.restoreLane n w f).beat = s.beat := by
  unfold State.restoreLane
  refine (State.beat_setFld _ _ _ _ (by decide)).trans ((State.beat_setFld _ _ _ _ (by decide)).trans ?_)
  exact (State.beat_setFld _ _ _ _ (by decide)).trans ((State.beat_setFld _ _ _ _ (by decide)).trans (State.beat_setLane _ _ _))

@[simp] theorem State.beat_restoreLanes (l : Launch) (v : Coeffs) (w : Saved) : (s.restoreLanes l v w).beat = s.beat := by
  unfold State.restoreLanes
  refine State.beat_foldl _ _ fun u x => ?_
  split
  · refine State.beat_each _ _ fun u x => ?_
    split <;> simp
  · simp

@[simp] theorem State.beat_restoreStook (c k : Nat) (w : StookSave) : (s.restoreStook c k w).beat = s.beat := by simp [State.restoreStook]
@[simp] theorem State.beat_putBack (a n : Nat) (m : MemSave) : (s.putBack a n m).beat = s.beat := by simp [State.putBack]

@[simp] theorem State.beat_restoreUnits (c : Nat) (l : Launch) (blocks : Nat) (w : Saved) :
    (s.restoreUnits c l blocks w).beat = s.beat := by
  unfold State.restoreUnits
  dsimp only
  refine (State.beat_foldl _ _ fun u x => ?_).trans ?_
  · split <;> simp
  refine (State.beat_foldl _ _ fun u x => ?_).trans ?_
  · split <;> simp
  refine (State.beat_foldl _ _ fun u x => ?_).trans ?_
  · split
    · split <;> simp
    · simp
  split
  · refine (State.beat_setReg _ _ _ _ (by decide)).trans ?_
    refine (State.beat_foldl _ _ fun u x => ?_).trans ?_
    · split <;> simp
    refine (State.beat_foldl _ _ fun u x => ?_).trans ?_
    · split
      · refine (State.beat_each _ _ fun u x => ?_).trans ?_
        · simp
        split <;> simp
      · split <;> simp
    refine State.beat_foldl _ _ fun u x => ?_
    split <;> simp
  · refine (State.beat_foldl _ _ fun u x => ?_).trans ?_
    · split <;> simp
    refine (State.beat_foldl _ _ fun u x => ?_).trans ?_
    · split
      · refine (State.beat_each _ _ fun u x => ?_).trans ?_
        · simp
        split <;> simp
      · split <;> simp
    refine State.beat_foldl _ _ fun u x => ?_
    split <;> simp

@[simp] theorem State.beat_loadSaved (c : Nat) (l : Launch) (v : Coeffs) (w : Saved) : (s.loadSaved c l v w).beat = s.beat := by
  simp [State.loadSaved]

@[simp] theorem State.beat_sweepOnce (n : Nat) : (s.sweepOnce n).beat = s.beat := by
  unfold State.sweepOnce
  split <;> simp

@[simp] theorem State.beat_sweep (n : Nat) : (s.sweep n).beat = s.beat := by
  unfold State.sweep
  split <;> simp

@[simp] theorem State.beat_sweepAll : s.sweepAll.beat = s.beat := by simp [State.sweepAll]

@[simp] theorem State.beat_resumeLoad (c stream : Nat) (m : Msg) (w : Saved) (graph : Nat) (v : Version) :
    (s.resumeLoad c stream m w graph v).2.beat = s.beat := by
  unfold State.resumeLoad
  split
  · rfl
  · split
    · rfl
    · split
      · rfl
      · split
        · rfl
        · split
          · rfl
          · split
            · rfl
            · next e => exact Eq.trans (by simp) (State.beat_evict e)

@[simp] theorem State.beat_logFault (code action : Nat) (outside : Bool) (die acre stook unit index : Nat) (c : Option Nat)
    (us : Nat) (cap : Bool) : (s.logFault code action outside die acre stook unit index c us cap).beat = s.beat := by
  unfold State.logFault
  refine (State.beat_setFld _ _ _ _ (by decide)).trans ((State.beat_setFld _ _ _ _ (by decide)).trans ((State.beat_wrN _ _ _).trans ?_))
  split
  · rfl
  · exact State.beat_bump _ _ _ _ (by decide)

@[simp] theorem State.beat_showGroup (rank members state : Nat) : (s.showGroup rank members state).beat = s.beat := by
  simp [State.showGroup]

@[simp] theorem State.beat_noGroup : s.noGroup.beat = s.beat := by
  unfold State.noGroup
  refine (State.beat_setReg _ _ _ _ (by decide)).trans ?_
  refine (State.beat_setReg _ _ _ _ (by decide)).trans ?_
  exact State.beat_showGroup _ _ _ _

@[simp] theorem State.beat_endJoin (g : Group) (excess : List (Nat × Nat)) (r : Reply) : (s.endJoin g excess r).beat = s.beat := by
  unfold State.endJoin
  dsimp only
  split
  · rfl
  · refine (State.beat_endWait _ _ _).trans ?_
    split
    · split
      · exact State.beat_wrN _ _ _
      · rfl
    · rfl

@[simp] theorem State.beat_refuseJoin (r code : Nat) : (s.refuseJoin r code).beat = s.beat := by
  unfold State.refuseJoin
  split <;> simp

@[simp] theorem State.beat_sendItem (p kind body : Nat) : (s.sendItem p kind body).beat = s.beat := by
  unfold State.sendItem
  split
  · rfl
  · simp

@[simp] theorem State.beat_flood (g : Group) (except : Option Nat) (kind body : Nat) : (s.flood g except kind body).beat = s.beat := by
  simp [State.flood]

@[simp] theorem State.beat_groupDown : s.groupDown.beat = s.beat := by simp [State.groupDown]

@[simp] theorem State.beat_openScratch (c : Nat) : (s.openScratch c).beat = s.beat := by
  unfold State.openScratch
  dsimp only
  refine (State.beat_foldl _ _ fun u x => ?_).trans ?_
  · simp
  rfl

@[simp] theorem State.beat_restoreChains (c : Nat) (l : Launch) (w : Saved) : (s.restoreChains c l w).beat = s.beat := by
  unfold State.restoreChains
  dsimp only
  refine (State.beat_foldl _ _ fun u x => ?_).trans ?_
  · split <;> simp
  refine (State.beat_foldl _ _ fun u x => ?_).trans ?_
  · split <;> simp
  refine State.beat_foldl _ _ fun u x => ?_
  split <;> simp

@[simp] theorem State.beat_restoreSaved (c : Nat) (l : Launch) (w : Saved) : (s.restoreSaved c l w).beat = s.beat := by
  unfold State.restoreSaved
  dsimp only
  split <;> simp

@[simp] theorem State.beat_offer (k addr : Nat) (due : Int) (source : Option (Nat × Nat × Nat)) :
    (s.offer k addr due source).beat = s.beat := by
  simp [State.offer]

@[simp] theorem State.beat_loadLane (l : Launch) (v : Coeffs) (e idx k : Nat) : (s.loadLane l v e idx k).beat = s.beat := by
  simp [State.loadLane]

@[simp] theorem State.beat_loadLanes (l : Launch) (v : Coeffs) : (s.loadLanes l v).beat = s.beat := by
  unfold State.loadLanes
  dsimp only
  refine (State.beat_foldl _ _ fun u x => ?_).trans ?_
  · split <;> simp
  refine State.beat_foldl _ _ fun u x => ?_
  split <;> simp

@[simp] theorem State.beat_modLaunch (c : Nat) (f : Launch → Launch) : (s.modLaunch c f).beat = s.beat := by
  unfold State.modLaunch
  split <;> simp

@[simp] theorem State.beat_restartLaunch (c : Nat) (l : Launch) : (s.restartLaunch c l).beat = s.beat := by
  unfold State.restartLaunch
  split
  · simp
  · dsimp only
    split <;> simp

@[simp] theorem State.beat_done (x seq status : Nat) : (s.done x seq status).beat = s.beat := by simp [State.done]

@[simp] theorem State.beat_endLaunchStream (l : Launch) (status : Nat) : (s.endLaunchStream l status).beat = s.beat := by
  simp [State.endLaunchStream]

theorem State.beat_wrap (f : Fld) (i n : Nat) (h : f.reg ≠ .hubTick) : (s.wrap f i n).beat = s.beat := s.beat_setFld _ _ _ h

theorem State.beat_wrNat (a n v : Nat) : (s.wrNat a n v).beat = s.beat := by simp [State.wrNat]

@[simp] theorem State.beat_closeRecovery (c at_ : Nat) : (s.closeRecovery c at_).beat = s.beat := by
  unfold State.closeRecovery
  split <;> simp

@[simp] theorem State.beat_groupFault : s.groupFault.beat = s.beat := by
  unfold State.groupFault
  dsimp only
  refine (State.beat_each _ _ fun u x => ?_).trans ?_
  · split <;> simp
  simp

theorem State.beat_saveNow {s : State} {c : Nat} {r : Saved × State} (e : s.saveNow c = some r) : r.2.beat = s.beat := by
  obtain ⟨l, -, e⟩ := Option.bind_eq_some_iff.mp e
  obtain ⟨q, hq, rfl⟩ := Option.map_eq_some_iff.mp e
  exact (State.beat_toSaved ..).trans ((State.beat_release ..).trans ((State.beat_withdrawAll ..).trans (State.beat_allocKeep hq)))

@[simp] theorem State.beat_saveDone (c : Nat) : (s.saveDone c).2.beat = s.beat := by
  unfold State.saveDone
  split
  · rfl
  · next e => exact State.beat_saveNow e

@[simp] theorem State.beat_rewatch (x : Nat) : (s.rewatch x).beat = s.beat := by simp [State.rewatch]
@[simp] theorem State.beat_rewatchAll (c : Nat) : (s.rewatchAll c).beat = s.beat := by simp [State.rewatchAll]

@[simp] theorem State.beat_recoverFrom (c : Nat) (l : Launch) (g : Option PoolRec) (cause entry : Nat) (place : optParam (Option (Nat × Nat)) none) :
    (s.recoverFrom c l g cause entry place).beat = s.beat := by
  unfold State.recoverFrom
  dsimp only
  refine (State.beat_setFld _ _ _ _ (by decide)).trans ?_
  refine (State.beat_rewatchAll _ _).trans ?_
  refine (State.beat_wrNat _ _ _ _).trans ?_
  refine (State.beat_modLaunch _ _ _).trans ?_
  refine (State.beat_journal _ _ _ _ _).trans ?_
  split <;> simp

@[simp] theorem State.beat_releaseActs (m : Option Meeting) (start ckpt : Nat) : (s.releaseActs m start ckpt).beat = s.beat := by
  unfold State.releaseActs
  dsimp only
  split
  · split
    · split <;> simp
    · split <;> simp
    · refine State.beat_each _ _ fun u x => ?_
      split <;> simp
    · simp
  · refine (State.beat_each _ _ fun u x => ?_).trans ?_
    · split <;> simp
    split
    · split <;> simp
    · split <;> simp
    · refine State.beat_each _ _ fun u x => ?_
      split <;> simp
    · simp

@[simp] theorem State.beat_takeRelease (start cycle : Nat) (trim : Bool) (ckpt : Nat) :
    (s.takeRelease start cycle trim ckpt).beat = s.beat := by
  unfold State.takeRelease
  split <;> simp

@[simp] theorem State.beat_sendRelease (g : Group) (cycle : Nat) (trim : Bool) (ckpt : Nat) :
    (s.sendRelease g cycle trim ckpt).beat = s.beat := by
  simp [State.sendRelease]

@[simp] theorem State.beat_rootReleases (g : Group) (m : Meeting) (ckpt : Nat) : (s.rootReleases g m ckpt).beat = s.beat := by
  unfold State.rootReleases
  dsimp only
  split <;> simp

@[simp] theorem State.beat_tryArrive : s.tryArrive.beat = s.beat := by
  unfold State.tryArrive
  split
  · simp
  · split
    · simp
    · split
      · simp
      · dsimp only
        split <;> simp

@[simp] theorem State.beat_meetAt (m : Meeting) : (s.meetAt m).beat = s.beat := by simp [State.meetAt]

@[simp] theorem State.beat_loadSequence (c : Nat) : (s.loadSequence c).beat = s.beat := by
  unfold State.loadSequence
  dsimp only
  split
  · simp
  · split
    · split
      · split
        · simp
        · split <;> simp
      · split
        · simp
        · split <;> simp
    · split
      · simp
      · split <;> simp

@[simp] theorem State.beat_askDrain (c : Nat) (f : DrainFor) (ch : Option Nat) : (s.askDrain c f ch).beat = s.beat := by
  simp [State.askDrain]

@[simp] theorem State.beat_beginSequence : s.beginSequence.beat = s.beat := by
  unfold State.beginSequence
  dsimp only
  split
  · simp
  · refine (State.beat_each _ _ fun u x => ?_).trans ?_
    · split <;> simp
    simp

@[simp] theorem State.beat_addStall (x : Stall) : (s.addStall x).beat = s.beat := by simp [State.addStall]

@[simp] theorem State.beat_raiseStall (tau : Int) (late : Bool) (cause : Nat) : (s.raiseStall tau late cause).beat = s.beat := by
  unfold State.raiseStall
  split <;> simp

@[simp] theorem State.beat_sequenceDue : s.sequenceDue.beat = s.beat := by
  unfold State.sequenceDue
  split
  · simp
  · split <;> simp

@[simp] theorem State.beat_sendAlignment (g : Group) : (s.sendAlignment g).beat = s.beat := by simp [State.sendAlignment]

@[simp] theorem State.beat_groupBoundary : s.groupBoundary.beat = s.beat := by
  unfold State.groupBoundary
  split <;> simp

@[simp] theorem State.beat_compareTicks : s.compareTicks.beat = s.beat := by simp [State.compareTicks]
@[simp] theorem State.beat_clearOuts : s.clearOuts.beat = s.beat := by simp [State.clearOuts]
@[simp] theorem State.beat_sampleInto (i : Nat) (v : Int) : (s.sampleInto i v).beat = s.beat := by simp [State.sampleInto]

@[simp] theorem State.beat_samplePoints : s.samplePoints.beat = s.beat := by
  unfold State.samplePoints
  split
  · simp
  · refine State.beat_each _ _ fun u x => ?_
    split
    · simp
    · dsimp only
      split
      · simp
      · split <;> simp

@[simp] theorem State.beat_cartTo (t : Nat) : (s.cartTo t).beat = s.beat := by
  rw [s.cartTo_onlyCarts t]
  rfl

@[simp] theorem State.beat_showAwake : s.showAwake.beat = s.beat := by simp [State.showAwake]
@[simp] theorem State.beat_sleepTick : s.sleepTick.beat = s.beat := by simp [State.sleepTick]
@[simp] theorem State.beat_wakeTick : s.wakeTick.beat = s.beat := by simp [State.wakeTick]
@[simp] theorem State.beat_withdrawGroup (e : Nat) : (s.withdrawGroup e).beat = s.beat := by simp [State.withdrawGroup]

@[simp] theorem State.beat_startDrain (c : Nat) (f : DrainFor) (ch : Option Nat) : (s.startDrain c f ch).beat = s.beat := by
  simp [State.startDrain]

@[simp] theorem State.beat_chooseDrain (c : Nat) : (s.chooseDrain c).beat = s.beat := by
  unfold State.chooseDrain
  split
  · rfl
  · split
    · split <;> simp
    · rfl
    · split
      · simp
      · split
        · split <;> simp
        · rfl

@[simp] theorem State.beat_settleRecovery (c : Nat) (l : Launch) : (s.settleRecovery c l).beat = s.beat := by
  unfold State.settleRecovery
  split <;> simp

@[simp] theorem State.beat_gddrPut (c : Nat) (l : Launch) (addr : Nat) (data : List Byte) : (s.gddrPut c l addr data).beat = s.beat := by
  unfold State.gddrPut
  refine State.beat_foldl _ _ fun u x => ?_
  dsimp only
  split
  · refine (State.beat_wrN _ _ _).trans ?_
    split <;> simp
  · split <;> simp

@[simp] theorem State.beat_coefReported (c : Nat) (l : Launch) (apply : Int) (report : List Byte) :
    (s.coefReported c l apply report).beat = s.beat := by
  unfold State.coefReported
  dsimp only
  split <;> simp

@[simp] theorem State.beat_settlePatch (c : Nat) (l : Launch) : (s.settlePatch c l).beat = s.beat := by
  unfold State.settlePatch
  split <;> simp

@[simp] theorem State.beat_eccSeen (stook addr : Nat) (p : Bool) : (s.eccSeen stook addr p).beat = s.beat := by simp [State.eccSeen]
@[simp] theorem State.beat_deny (stook bank : Nat) : (s.deny stook bank).beat = s.beat := by simp [State.deny]

@[simp] theorem State.beat_bankAtomic (stook addr n : Nat) (who : Who) (f : Nat → Nat) (mix p : Bool) :
    (s.bankAtomic stook addr n who f mix p).2.beat = s.beat := by
  unfold State.bankAtomic
  split <;> simp

@[simp] theorem State.beat_sampleAdd (c a k lane : Nat) (entry : Word) : (s.sampleAdd c a k lane entry).beat = s.beat := by
  simp [State.sampleAdd]

@[simp] theorem State.beat_sampleOn (c a n : Nat) : (s.sampleOn c a n).beat = s.beat := by simp [State.sampleOn]
@[simp] theorem State.beat_sampleTick (c n : Nat) : (s.sampleTick c n).beat = s.beat := by simp [State.sampleTick]

@[simp] theorem State.beat_advanceLogical (c : Nat) (l : Launch) : (s.advanceLogical c l).2.beat = s.beat := by
  unfold State.advanceLogical
  dsimp only
  split
  · split
    · simp
    · split
      · simp
      · split
        · split
          · simp
          · split <;> simp
        · simp
  · simp
  · simp

@[simp] theorem State.beat_combined (b : Ballot) (ready : Bool) : (s.combined b ready).beat = s.beat := by simp [State.combined]

@[simp] theorem State.beat_tryVote (b : Ballot) : (s.tryVote b).beat = s.beat := by
  unfold State.tryVote
  split
  · dsimp only
    split
    · simp
    · split <;> simp
  · simp

@[simp] theorem State.beat_castVotes (c : Nat) : (s.castVotes c).beat = s.beat := by simp [State.castVotes]
@[simp] theorem State.beat_stallVotes (c : Nat) (l : Launch) : (s.stallVotes c l).beat = s.beat := by simp [State.stallVotes]
@[simp] theorem State.beat_quiet (c : Nat) (key : Bool) : (s.quiet c key).beat = s.beat := by simp [State.quiet]
@[simp] theorem State.beat_countHold (c : Nat) : (s.countHold c).beat = s.beat := by simp [State.countHold]

@[simp] theorem State.beat_meetStall (c : Nat) : (s.meetStall c).beat = s.beat := by
  unfold State.meetStall
  split
  · split <;> simp
  · simp

@[simp] theorem State.beat_frameBoundary (c : Nat) (l : Launch) (group : Bool) : (s.frameBoundary c l group).beat = s.beat := by
  unfold State.frameBoundary
  dsimp only
  split
  · split <;> simp
  · split
    · split <;> simp
    · split <;> simp

@[simp] theorem State.beat_takeStaged (p : Staged → Bool) : (s.takeStaged p).beat = s.beat := by
  unfold State.takeStaged
  dsimp only
  refine (State.beat_foldl _ _ fun u x => ?_).trans ?_
  · simp
  rfl

@[simp] theorem State.beat_stepKeys (c : Nat) (l : Launch) : (s.stepKeys c l).beat = s.beat := by simp [State.stepKeys]
@[simp] theorem State.beat_flushOverlay (e : Nat) : (s.flushOverlay e).beat = s.beat := by simp [State.flushOverlay]
@[simp] theorem State.beat_beginLane (n : Nat) (tau : Int) : (s.beginLane n tau).beat = s.beat := by simp [State.beginLane]

@[simp] theorem State.beat_beginEngine (c e : Nat) (l : Launch) (fresh : Bool) : (s.beginEngine c e l fresh).beat = s.beat := by
  simp [State.beginEngine]

@[simp] theorem State.beat_beginOn (c : Nat) (fresh : Bool) (engines : List Nat) : (s.beginOn c fresh engines).beat = s.beat := by
  unfold State.beginOn
  dsimp only
  split <;> simp

@[simp] theorem State.beat_beginTick (c : Nat) (fresh : Bool) : (s.beginTick c fresh).beat = s.beat := by simp [State.beginTick]

@[simp] theorem State.beat_enterTick (c : Nat) (group fresh : Bool) : (s.enterTick c group fresh).beat = s.beat := by
  unfold State.enterTick
  split <;> simp

@[simp] theorem State.beat_retryTick (c : Nat) (group : Bool) : (s.retryTick c group).beat = s.beat := by simp [State.retryTick]

@[simp] theorem State.beat_launchBoundary (c : Nat) (group : Bool) : (s.launchBoundary c group).beat = s.beat := by
  unfold State.launchBoundary
  split
  · simp
  · split
    · simp
    · split <;> simp

@[simp] theorem State.beat_watchdogTick : s.watchdogTick.beat = s.beat := by simp [State.watchdogTick]
@[simp] theorem State.beat_draw : s.draw.2.beat = s.beat := id rfl

@[simp] theorem State.beat_readBestNow (m : Msg) : (s.readBestNow m).2.beat = s.beat := by
  unfold State.readBestNow
  split
  · simp
  · dsimp only
    split
    · simp
    · split
      · simp
      · split <;> simp

@[simp] theorem State.beat_answerBest (n : Nat) : (s.answerBest n).beat = s.beat := by
  unfold State.answerBest
  split <;> simp

@[simp] theorem State.beat_serveBests : s.serveBests.beat = s.beat := by simp [State.serveBests]
@[simp] theorem State.beat_syncEnt : s.syncEnt.beat = s.beat := by simp [State.syncEnt]

@[simp] theorem State.beat_setSource (b : Nat) (v : Source) : (s.setSource b v).beat = s.beat := by
  unfold State.setSource
  exact State.beat_syncEnt _

@[simp] theorem State.beat_dropKeys : s.dropKeys.beat = s.beat := by simp [State.dropKeys]

theorem State.beat_block {s : State} {b : Nat} {r : BitVec 128 × State} (e : s.block b = some r) : r.2.beat = s.beat := by
  unfold State.block at e
  dsimp only at e
  split at e
  · cases e
  · split at e
    · cases e
    · cases e
      dsimp only
      split <;> simp

@[simp] theorem State.beat_blocks (n : Nat) (l : List Byte) : (s.blocks n l).2.beat = s.beat := by
  induction n generalizing s l with
  | zero => rfl
  | succ n ih =>
    unfold State.blocks
    split
    · rfl
    · next e => exact (ih _ _).trans (State.beat_block e)

@[simp] theorem State.beat_serveReads : s.serveReads.beat = s.beat := by
  unfold State.serveReads
  refine State.beat_foldl _ _ fun u x => ?_
  split
  · simp
  · dsimp only
    split
    · refine (State.beat_endWait _ _ _).trans ?_
      exact State.beat_blocks _ _ _
    · exact State.beat_blocks _ _ _

@[simp] theorem State.beat_drawKeys (late : Nat) : (s.drawKeys late).beat = s.beat := by
  unfold State.drawKeys
  split
  · refine (State.beat_each _ _ fun u a => ?_).trans rfl
    split
    · next e => exact State.beat_block e
    · rfl
  · rfl

end

/-! ## What the work of the units leaves alone -/

/-- What the work of the units at a boundary leaves alone: contexts, channels and the group. -/
def State.host (s : State) : Sparse Ctx × Sparse Chan × Option Group := (s.ctxs, s.chans, s.group)

section
variable (s : State)

@[simp] theorem State.host_setReg (r : Reg) (i : Nat) (v : Word) : (s.setReg r i v).host = s.host := id rfl
@[simp] theorem State.host_setFld (f : Fld) (i v : Nat) : (s.setFld f i v).host = s.host := id rfl
@[simp] theorem State.host_wrN (a : Nat) (v : List Byte) : (s.wrN a v).host = s.host := id rfl
@[simp] theorem State.host_tag (a n : Nat) (p : Bool) : (s.tag a n p).host = s.host := id rfl
@[simp] theorem State.host_setEngine (n : Nat) (x : Engine) : (s.setEngine n x).host = s.host := id rfl
@[simp] theorem State.host_setLane (n : Nat) (x : LaneState) : (s.setLane n x).host = s.host := id rfl
@[simp] theorem State.host_setGen (n : Nat) (x : Gen) : (s.setGen n x).host = s.host := id rfl
@[simp] theorem State.host_setAcre (n : Nat) (x : Acre) : (s.setAcre n x).host = s.host := id rfl
@[simp] theorem State.host_setStream (n : Nat) (x : Stream) : (s.setStream n x).host = s.host := id rfl
@[simp] theorem State.host_setOut (n : Nat) (x : CartOut) : (s.setOut n x).host = s.host := id rfl
@[simp] theorem State.host_reportAt (code die acre stook unit index row : Nat) (c : Option Nat) :
    (s.reportAt code die acre stook unit index row c).host = s.host := id rfl

@[simp] theorem State.host_ite (p : Prop) [Decidable p] (t : State) : (if p then s else t).host = if p then s.host else t.host :=
  apply_ite State.host _ _ _

@[simp] theorem State.host_foldl {α : Type} {f : State → α → State} (l : List α) (h : ∀ u x, (f u x).host = u.host) :
    (l.foldl f s).host = s.host :=
  List.foldlRecOn (motive := fun u : State => u.host = s.host) l f rfl fun u hu x _ => (h u x).trans hu

@[simp] theorem State.host_each {f : State → Nat → State} (l : List Nat) (h : ∀ u x, (f u x).host = u.host) : (s.each l f).host = s.host :=
  s.host_foldl l h

end

section
variable (s : State)

@[simp] theorem State.host_sampleInto (i : Nat) (v : Int) : (s.sampleInto i v).host = s.host := by simp [State.sampleInto]

@[simp] theorem State.host_samplePoints : s.samplePoints.host = s.host := by
  unfold State.samplePoints
  split
  · simp
  · refine State.host_each _ _ fun u x => ?_
    split
    · simp
    · dsimp only
      split
      · simp
      · split <;> simp

@[simp] theorem State.host_clearOuts : s.clearOuts.host = s.host := by simp [State.clearOuts]

theorem State.host_wrap (f : Fld) (i n : Nat) : (s.wrap f i n).host = s.host := by simp [State.wrap]

@[simp] theorem State.host_compareTicks : s.compareTicks.host = s.host := by simp [State.compareTicks]
@[simp] theorem State.host_wakeTick : s.wakeTick.host = s.host := by simp [State.wakeTick]
@[simp] theorem State.host_showAwake : s.showAwake.host = s.host := by simp [State.showAwake]
@[simp] theorem State.host_sleepTick : s.sleepTick.host = s.host := by simp [State.sleepTick]
@[simp] theorem State.host_countWithdrawn (n k : Nat) : (s.countWithdrawn n k).host = s.host := by simp [State.countWithdrawn]
@[simp] theorem State.host_withdraw (n : Nat) (p : Proposal → Bool) : (s.withdraw n p).host = s.host := by simp [State.withdraw]
@[simp] theorem State.host_withdrawGroup (e : Nat) : (s.withdrawGroup e).host = s.host := by simp [State.withdrawGroup]
@[simp] theorem State.host_eccSeen (stook addr : Nat) (p : Bool) : (s.eccSeen stook addr p).host = s.host := by simp [State.eccSeen]
@[simp] theorem State.host_store (a : Nat) (v : List Byte) (p : Bool) : (s.store a v p).host = s.host := by simp [State.store]
@[simp] theorem State.host_deny (stook bank : Nat) : (s.deny stook bank).host = s.host := by simp [State.deny]

@[simp] theorem State.host_bankAtomic (stook addr n : Nat) (who : Who) (f : Nat → Nat) (mix p : Bool) :
    (s.bankAtomic stook addr n who f mix p).2.host = s.host := by
  unfold State.bankAtomic
  split <;> simp

@[simp] theorem State.host_sampleAdd (c a k lane : Nat) (entry : Word) : (s.sampleAdd c a k lane entry).host = s.host := by
  simp [State.sampleAdd]

@[simp] theorem State.host_sampleOn (c a n : Nat) : (s.sampleOn c a n).host = s.host := by simp [State.sampleOn]
@[simp] theorem State.host_sampleTick (c n : Nat) : (s.sampleTick c n).host = s.host := by simp [State.sampleTick]
@[simp] theorem State.host_quiet (c : Nat) (key : Bool) : (s.quiet c key).host = s.host := by simp [State.quiet]
@[simp] theorem State.host_showLanes (e : Nat) : (s.showLanes e).host = s.host := by simp [State.showLanes]
@[simp] theorem State.host_settle (r : Reg) (i : Nat) (v : Word) : (s.settle r i v).host = s.host := by simp [State.settle]

@[simp] theorem State.host_takeStaged (p : Staged → Bool) : (s.takeStaged p).host = s.host := by
  unfold State.takeStaged
  dsimp only
  refine (State.host_foldl _ _ fun u x => ?_).trans ?_
  · simp
  rfl

@[simp] theorem State.host_stepKeys (c : Nat) (l : Launch) : (s.stepKeys c l).host = s.host := by simp [State.stepKeys]
@[simp] theorem State.host_withdrawAll (c : Nat) : (s.withdrawAll c).host = s.host := by simp [State.withdrawAll]
@[simp] theorem State.host_putCode (e plane i j : Nat) (c : BitVec 4) : (s.putCode e plane i j c).host = s.host := by simp [State.putCode]
@[simp] theorem State.host_flushOverlay (e : Nat) : (s.flushOverlay e).host = s.host := by simp [State.flushOverlay]

@[simp] theorem State.host_cfgWrite (e : Nat) (w : CfgWrite) : (s.cfgWrite e w).host = s.host := by
  unfold State.cfgWrite
  dsimp only
  split <;> simp

@[simp] theorem State.host_openTiles (c e : Nat) (l : Launch) (turn : Int) : (s.openTiles c e l turn).host = s.host := by
  simp [State.openTiles]

@[simp] theorem State.host_beginLane (n : Nat) (tau : Int) : (s.beginLane n tau).host = s.host := by simp [State.beginLane]

@[simp] theorem State.host_beginEngine (c e : Nat) (l : Launch) (fresh : Bool) : (s.beginEngine c e l fresh).host = s.host := by
  simp [State.beginEngine]

@[simp] theorem State.host_syncEnt : s.syncEnt.host = s.host := by simp [State.syncEnt]

@[simp] theorem State.host_setSource (b : Nat) (v : Source) : (s.setSource b v).host = s.host := by
  unfold State.setSource
  exact State.host_syncEnt _

@[simp] theorem State.host_dropKeys : s.dropKeys.host = s.host := by simp [State.dropKeys]

theorem State.host_block {s : State} {b : Nat} {r : BitVec 128 × State} (e : s.block b = some r) : r.2.host = s.host := by
  unfold State.block at e
  dsimp only at e
  split at e
  · cases e
  · split at e
    · cases e
    · cases e
      dsimp only
      split <;> simp

@[simp] theorem State.host_blocks (n : Nat) (l : List Byte) : (s.blocks n l).2.host = s.host := by
  induction n generalizing s l with
  | zero => rfl
  | succ n ih =>
    unfold State.blocks
    split
    · rfl
    · next e => exact (ih _ _).trans (State.host_block e)

@[simp] theorem State.host_drawKeys (late : Nat) : (s.drawKeys late).host = s.host := by
  unfold State.drawKeys
  split
  · refine (State.host_each _ _ fun u a => ?_).trans rfl
    split
    · next e => exact State.host_block e
    · rfl
  · rfl

@[simp] theorem State.host_watchdogTick : s.watchdogTick.host = s.host := by simp [State.watchdogTick]

end

end Sys2Proof.Machine
end

section
/-!
PROOF. O47: the tick boundary, the tick word and the idle step.
-/
namespace Sys2Proof.Machine

/-! ## The tick that begins -/

/-- The fallow mask of the tick that the next boundary begins (R137, R402, R461). -/
def State.nextFallow (s : State) : Nat :=
  if s.group.any fun g => g.trimAt == some ((s.groupTick + 1) % 2 ^ 64) then 255
  else match s.arrived with
    | some w => bits w.toNat 24 8
    | none => s.fld F.pwrStatusFallowNext 0

/-- The first step of a boundary: T advances and the new mask takes effect. -/
def State.turned (s : State) : State :=
  { (s.setReg .hubTick 0 (s.reg .hubTick 0 + 1)) with
    cyc := 0, arrived := none, fallow := s.nextFallow, entAsked := 0, stale := [], standbyTick := s.standbyTick + 1 }

/-- What a boundary does to the units as T advances, with the dies that are fallow and the stale rows. -/
def State.opened (s : State) (mask : Nat) (stale : List Nat) : State :=
  let s := s.each stale fun s d => s.setFld F.gddStatusStaleUsed d 0
  let s := s.each ((List.range 8).filter mask.testBit) fun s d => s.wrap F.pwrFallowTicks d 1
  let s := s.each (List.range 64) fun s a => s.setAcre a { s.acre a with key := (s.acre a).keyNext, keyNext := none, waitMax := 0 }
  let s := s.each (keysWhere s.engines fun e => e.accept != 0) fun s e => s.setEngine e { s.engine e with accept := 0 }
  let s : State := { s with sources := s.sources.map fun x => (x.1, { x.2 with inTick := 0 }) }
  if s.tick % 32 = 0 then s.each (List.range 32) fun s k => s.wrap F.grnEccScrubRow k 1 else s

section
variable (s : State)

theorem State.nextTick_eq : s.nextTick = s.turned.opened s.nextFallow (s.stale.map (·.1)).eraseDups := rfl

theorem State.beat_opened (mask : Nat) (stale : List Nat) : (s.opened mask stale).beat = s.beat := by
  unfold State.opened
  dsimp only
  have engines : ∀ u : State, ({ u with sources := u.sources.map fun x => (x.1, { x.2 with inTick := 0 }) } : State).beat = u.beat :=
    fun _ => rfl
  split
  · refine (State.beat_each _ _ fun u k => State.beat_wrap u F.grnEccScrubRow k 1 (by decide)).trans ((engines _).trans ?_)
    simp
  · refine (engines _).trans ?_
    simp

theorem State.host_opened (mask : Nat) (stale : List Nat) : (s.opened mask stale).host = s.host := by
  unfold State.opened
  dsimp only
  have engines : ∀ u : State, ({ u with sources := u.sources.map fun x => (x.1, { x.2 with inTick := 0 }) } : State).host = u.host :=
    fun _ => rfl
  split
  · refine (State.host_each _ _ fun u k => State.host_wrap u F.grnEccScrubRow k 1).trans ((engines _).trans ?_)
    simp
  · refine (engines _).trans ?_
    simp

theorem State.beat_turned : s.turned.beat = (s.pending, 0, none, s.nextFallow, 0, s.reg .hubTick 0 + 1) := by
  have tick : s.turned.reg .hubTick 0 = s.reg .hubTick 0 + 1 := State.reg_setReg_same _ _ _ _
  rw [State.beat, tick]
  rfl

theorem State.host_turned : s.turned.host = s.host := id rfl

/-- The last step before T advances: packets on their way, samples and the occupancy of the outputs. -/
def State.primed (s : State) : State := ((s.cartTo ((s.tick + 1) * 1024)).samplePoints).clearOuts

theorem State.beat_primed : s.primed.beat = s.beat := by
  simp [State.primed]

theorem State.host_cartTo (t : Nat) : (s.cartTo t).host = s.host := by
  rw [s.cartTo_onlyCarts t]
  rfl

theorem State.host_primed : s.primed.host = s.host := by
  simp [State.primed, State.host_cartTo]

theorem State.regs_clearOuts : s.clearOuts.regs = s.regs := by
  unfold State.clearOuts
  refine List.foldlRecOn (motive := fun u : State => u.regs = s.regs) (s.outs.map (·.1)) _ rfl ?_
  exact fun u hu o _ => hu

/-- Samples write the registers of the sampling points alone. -/
theorem State.reg_samplePoints {r : Reg} (h : r ∉ [Reg.monCur, .monMinmax, .monCount, .monHist]) (i : Nat) :
    s.samplePoints.reg r i = s.reg r i := by
  simp only [List.mem_cons, List.not_mem_nil, or_false, not_or] at h
  obtain ⟨cur, minmax, count, hist⟩ := h
  have into : ∀ (u : State) (k : Nat) (v : Int), (u.sampleInto k v).reg r i = u.reg r i := by
    intro u k v
    have low : ∀ (u : State) (p : Prop) [Decidable p] (x : Nat), (if p then u.setFld F.monMinmaxMin k x else u).reg r i = u.reg r i := by
      intro u p _ x
      split
      · exact State.reg_setFld_ne _ _ minmax
      · rfl
    have high : ∀ (u : State) (p : Prop) [Decidable p] (x : Nat), (if p then u.setFld F.monMinmaxMax k x else u).reg r i = u.reg r i := by
      intro u p _ x
      split
      · exact State.reg_setFld_ne _ _ minmax
      · rfl
    unfold State.sampleInto
    dsimp only
    rw [State.bump, State.reg_setFld_ne _ _ hist, State.bump, State.reg_setFld_ne _ _ count, high, low, State.reg_setFld_ne _ _ cur]
  unfold State.samplePoints
  split
  · rfl
  · refine List.foldlRecOn (motive := fun u : State => u.reg r i = s.reg r i) (List.range 512) _ rfl fun u hu k _ => ?_
    dsimp only
    split
    · exact hu
    · split
      · exact hu
      · split
        · exact (into _ _ _).trans hu
        · exact hu

theorem State.reg_primed {r : Reg} (h : r ∉ [Reg.monCur, .monMinmax, .monCount, .monHist]) (i : Nat) : s.primed.reg r i = s.reg r i := by
  have carts := s.cartTo_onlyCarts ((s.tick + 1) * 1024)
  have same : (s.cartTo ((s.tick + 1) * 1024)).reg r i = s.reg r i := by
    rw [carts]
    rfl
  unfold State.primed
  rw [State.reg, State.regs_clearOuts, ← State.reg, State.reg_samplePoints _ h, same]

theorem State.nextFallow_primed : s.primed.nextFallow = s.nextFallow := by
  have beat := s.beat_primed
  have host := s.host_primed
  simp only [State.beat, State.host, Prod.mk.injEq] at beat host
  obtain ⟨-, -, arrived, -, -, -⟩ := beat
  obtain ⟨-, -, group⟩ := host
  have tick : s.primed.groupTick = s.groupTick := by
    rw [State.groupTick, State.tick, s.reg_primed (by decide), s.reg_primed (by decide), State.groupTick, State.tick]
  unfold State.nextFallow
  rw [group, tick, arrived, State.fld, s.reg_primed (by decide), State.fld]

theorem State.beat_boundary : s.boundary.beat = (s.pending, 0, none, s.nextFallow, 0, s.reg .hubTick 0 + 1) := by
  have turned : s.primed.nextTick.beat = (s.pending, 0, none, s.nextFallow, 0, s.reg .hubTick 0 + 1) := by
    have pending : s.primed.pending = s.pending := congrArg Prod.fst s.beat_primed
    rw [State.nextTick_eq, State.beat_opened, State.beat_turned, pending, State.nextFallow_primed, s.reg_primed (by decide)]
  rw [← turned]
  simp [State.boundary, State.primed]

end

/-! ## A launch that runs alone -/

/-- A launch that runs on a module without a group whose channels are empty, under a fallow mask. -/
structure Solo (s : State) (c : Nat) (l : Launch) (mask : Nat) : Prop where
  launch : s.launch c = some l
  running : (s.ctx c).state = .running
  chans : s.chans = []
  group : s.group = none
  fallow : s.fallow = mask

namespace Solo
variable {s t : State} {c mask : Nat} {l : Launch}

theorem of_host {mask' : Nat} (h : Solo s c l mask) (host : t.host = s.host) (fallow : t.fallow = mask') : Solo t c l mask' := by
  simp only [State.host, Prod.mk.injEq] at host
  obtain ⟨ctxs, chans, group⟩ := host
  have ctx : t.ctx c = s.ctx c := by rw [State.ctx, ctxs, State.ctx]
  exact ⟨(congrArg Ctx.launch ctx).trans h.launch, (congrArg Ctx.state ctx).trans h.running, chans.trans h.chans, group.trans h.group, fallow⟩

theorem of_frames (h : Solo s c l mask) (host : t.host = s.host) (beat : t.beat = s.beat) : Solo t c l mask := by
  simp only [State.beat, Prod.mk.injEq] at beat
  obtain ⟨-, -, -, fallow, -, -⟩ := beat
  exact h.of_host host (fallow.trans h.fallow)

theorem modLaunch (h : Solo s c l mask) (f : Launch → Launch) : Solo (s.modLaunch c f) c (f l) mask := by
  have held : (s.ctx c).launch = some l := h.launch
  have same : (s.modLaunch c f).ctx c = { s.ctx c with launch := some (f l) } := by
    unfold State.modLaunch
    rw [held]
    exact sget_sput_same _ _ _ _
  rw [State.modLaunch_keeps] at same ⊢
  exact ⟨congrArg Ctx.launch same, (congrArg Ctx.state same).trans h.running, h.chans, h.group, h.fallow⟩

theorem chan (h : Solo s c l mask) (n : Nat) : s.chan n = {} := by
  rw [State.chan, h.chans]
  rfl

/-- A launch without a drain begins one at most for a checkpoint. -/
theorem chooseDrain (h : Solo s c l mask) (hd : l.drain = none) :
    ∃ m, Solo (s.chooseDrain c) c m mask ∧ m = { l with drain := m.drain, windowOnly := m.windowOnly } := by
  have nobody : s.waiters c [0x08, 0x09] = [] := by rw [State.waiters, h.chans]; rfl
  have draws : s.chooseDrain c = if s.ckptDue c l then s.startDrain c .ckpt none else s := by
    unfold State.chooseDrain
    simp only [h.launch, hd, nobody]
  rw [draws]
  split
  · have begun := h.modLaunch fun l => { l with drain := some (.ckpt, none, 2), windowOnly := true }
    refine ⟨_, begun.of_frames ?_ ?_, rfl⟩
    · unfold State.startDrain
      exact State.host_each _ _ fun u e => State.host_withdrawGroup _ _
    · unfold State.startDrain
      exact State.beat_each _ _ fun u e => State.beat_withdrawGroup _ _
  · exact ⟨l, h, rfl⟩

/-- A whole tick with decisions ends: the next launch tick. -/
theorem advanceLogical (h : Solo s c l mask) (hd : l.drain = none) (hw : l.windowOnly = false) (hp : l.patches = [])
    (hr : l.recover = none) : ∃ m, Solo (s.advanceLogical c l).2 c m mask ∧
      m = { l with tau := l.tau + 1, drain := m.drain, windowOnly := m.windowOnly } := by
  have sampled : Solo (s.sampleTick c (896 * 16)) c l mask := h.of_frames (State.host_sampleTick ..) (State.beat_sampleTick ..)
  have advances : (s.advanceLogical c l).2 =
      ((s.sampleTick c (896 * 16)).modLaunch c fun l => { l with tau := l.tau + 1 }).chooseDrain c := by
    unfold State.advanceLogical State.settlePatch State.settleRecovery
    simp only [hw, hp, hr, List.find?_nil]
  rw [advances]
  exact (sampled.modLaunch _).chooseDrain hd

section
variable (h : Solo s c l mask) (hs : l.stopped = none) (hp : l.patches = []) (hn : l.sched.fieldNoise = false)
include h

theorem stallAt (tau : Int) : s.stallAt c tau = none := by
  unfold State.stallAt
  rw [h.group]

theorem votesDue : s.votesDue c l = false := by
  unfold State.votesDue
  rw [h.group]
  exact Bool.and_false _

theorem stallVotes : s.stallVotes c l = s := by
  unfold State.stallVotes
  dsimp only
  rw [h.votesDue, if_neg Bool.false_ne_true, h.votesDue, Bool.false_and, if_neg Bool.false_ne_true]

include hs hp in
theorem zeroHolds : s.zeroHolds c l false = if l.homes.any fun d => mask.testBit d then [.fallow] else [] := by
  have items : s.itemsMissing l = false := by simp [State.itemsMissing, hp]
  have stall : (false || s.stallAt c l.tau == some 0) = false := by rw [h.stallAt]; rfl
  unfold State.zeroHolds State.fallowFor
  rw [items, stall, hs, h.fallow]
  simp

theorem castVotes : s.castVotes c = s := by
  have still : ∀ b, s.tryVote b = s := fun b => by
    unfold State.tryVote
    rw [h.group]
  unfold State.castVotes
  split
  · exact List.foldlRecOn (motive := fun u : State => u = s) (s.openBallots c (s.tau c)) _ rfl fun u hu b _ => hu ▸ still b
  · rfl

/-- A tick that begins is held no longer. -/
theorem beginOn (fresh : Bool) (engines : List Nat) : ∃ m, Solo (s.beginOn c fresh engines) c m mask ∧ m.tau = l.tau ∧ m.phase = .none ∧
    m.holds = [] := by
  have begun := h.modLaunch fun m => { m with
    phase := .none, holds := [], vote := none, resumeAt := none, void := false, again := none
    keys := if m.sched.fieldNoise then s.acreKeys else [] }
  refine ⟨_, begun.of_frames ?host ?beat, rfl, rfl, rfl⟩
  case host =>
    unfold State.beginOn
    dsimp only
    rw [begun.launch]
    dsimp only
    refine (State.host_each _ _ fun u e => State.host_beginEngine ..).trans ?_
    split <;> simp
  case beat =>
    unfold State.beginOn
    dsimp only
    rw [begun.launch]
    dsimp only
    refine (State.beat_each _ _ fun u e => State.beat_beginEngine ..).trans ?_
    split <;> simp

theorem beginTick (fresh : Bool) : ∃ m, Solo (s.beginTick c fresh) c m mask ∧ m.tau = l.tau ∧ m.phase = .none ∧ m.holds = [] := by
  obtain ⟨m, begun, tau, phase, holds⟩ := (h.modLaunch fun l => { l with turn := l.turn + 1 }).beginOn fresh
    ((s.modLaunch c fun l => { l with turn := l.turn + 1 }).enginesOf c)
  refine ⟨m, ?_, tau, phase, holds⟩
  unfold State.beginTick
  dsimp only
  rw [begun.castVotes]
  exact begun

include hs hp hn

/-- A launch whose die is to be fallow holds the whole tick (R461). -/
theorem enterTick_fallow (fresh : Bool) (hf : (l.homes.any fun d => mask.testBit d) = true) :
    Solo (s.enterTick c false fresh) c { l with phase := .whole, holdAt := 0, holds := [.fallow] } mask := by
  have key : s.keyMissing c l = false := by simp [State.keyMissing, hn]
  have holds : s.zeroHolds c l false = [.fallow] := by rw [h.zeroHolds hs hp, if_pos hf]
  have enters : s.enterTick c false fresh =
      (s.modLaunch c fun l => { l with phase := .whole, holdAt := 0, holds := [.fallow] }).quiet c false := by
    unfold State.enterTick
    simp only [h.launch, h.votesDue, h.stallVotes, holds, key, Bool.and_false, Bool.or_false, List.isEmpty_cons, Bool.not_false, if_true,
      Bool.false_eq_true, if_false, List.append_nil]
    rfl
  rw [enters]
  exact (h.modLaunch _).of_frames (State.host_quiet ..) (State.beat_quiet ..)

theorem enterTick_open (fresh : Bool) (hf : (l.homes.any fun d => mask.testBit d) = false) :
    ∃ m, Solo (s.enterTick c false fresh) c m mask ∧ m.tau = l.tau ∧ m.phase = .none ∧ m.holds = [] := by
  have key : s.keyMissing c l = false := by simp [State.keyMissing, hn]
  have holds : s.zeroHolds c l false = [] := by rw [h.zeroHolds hs hp, if_neg (by rw [hf]; exact Bool.false_ne_true)]
  have runs : ((s.ctx c).state == .held) = false := by rw [h.running]; rfl
  obtain ⟨m, begun, tau, phase, held⟩ := h.beginTick fresh
  have enters : s.enterTick c false fresh = s.beginTick c fresh := by
    unfold State.enterTick
    simp only [h.launch, h.votesDue, h.stallVotes, holds, key, runs, Bool.and_false, Bool.or_false, List.isEmpty_nil, Bool.not_true,
      Bool.false_eq_true, if_false, Bool.false_and, begun.stallAt]
    exact if_neg nofun
  rw [enters]
  exact ⟨m, begun, tau, phase, held⟩

end

/-- The tick after a boundary, of a launch that is held for no cause of its own. -/
theorem launchBoundary (h : Solo s c l mask) (hph : l.phase = .none) (hra : l.resumeAt = none) (hf : l.folded = false)
    (hw : l.windowOnly = false) (hd : l.drain = none) (hr : l.recover = none) (hs : l.stopped = none) (hp : l.patches = [])
    (hn : l.sched.fieldNoise = false) : ∃ l', Solo (s.launchBoundary c false) c l' mask ∧ l'.tau = l.tau + 1 ∧
      ((l.homes.any fun d => mask.testBit d) = true → l'.phase = .whole ∧ l'.holdAt = 0 ∧ l'.holds = [.fallow]) ∧
      ((l.homes.any fun d => mask.testBit d) = false → l'.phase = .none ∧ l'.holds = []) := by
  have state : ((s.ctx c).state == .running || (s.ctx c).state == .held) = true := by rw [h.running]; rfl
  have steps : s.launchBoundary c false = ((s.modLaunch c fun _ => l).advanceLogical c l).2.enterTick c false
      ((s.modLaunch c fun _ => l).advanceLogical c l).1 := by
    unfold State.launchBoundary
    simp only [h.launch, state, hra, hph, hf]
    rfl
  obtain ⟨m, next, hm⟩ := (h.modLaunch fun _ => l).advanceLogical hd hw hp hr
  have ms : m.stopped = none := by rw [hm]; exact hs
  have mp : m.patches = [] := by rw [hm]; exact hp
  have mn : m.sched.fieldNoise = false := by rw [hm]; exact hn
  have mt : m.tau = l.tau + 1 := by rw [hm]
  have mh : m.homes = l.homes := by rw [hm]; rfl
  rw [steps, ← mh]
  cases fallow : m.homes.any fun d => mask.testBit d with
  | true => exact ⟨_, next.enterTick_fallow ms mp mn _ fallow, mt, fun _ => ⟨rfl, rfl, rfl⟩, nofun⟩
  | false =>
    obtain ⟨l', opens, tau, phase, holds⟩ := next.enterTick_open ms mp mn ((s.modLaunch c fun _ => l).advanceLogical c l).1 fallow
    exact ⟨l', opens, tau.trans mt, nofun, fun _ => ⟨phase, holds⟩⟩

theorem endWait (h : Solo s c l mask) (n : Nat) (r : Reply) : s.endWait n r = s := by
  unfold State.endWait
  rw [h.chan]

/-- Reads of random blocks answer no one where no message waits. -/
theorem serveReads (h : Solo s c l mask) : Solo s.serveReads c l mask := by
  unfold State.serveReads
  refine List.foldlRecOn (motive := fun u : State => Solo u c l mask) s.entWaits _ h fun u hu w _ => ?_
  have drawn : Solo (u.blocks w.2.1 w.2.2).2 c l mask := hu.of_frames (State.host_blocks ..) (State.beat_blocks ..)
  have served : ∀ e, Solo { (u.blocks w.2.1 w.2.2).2 with entWaits := e } c l mask := fun e => drawn.of_frames rfl rfl
  split
  · exact hu
  · dsimp only
    split
    · rw [(served _).endWait]
      exact served _
    · exact served _

theorem serveBests (h : Solo s c l mask) : s.serveBests = s := by
  unfold State.serveBests
  rw [h.chans]
  rfl

end Solo

theorem State.ctxs_of_host {s t : State} (h : t.host = s.host) : t.ctxs = s.ctxs := by
  simp only [State.host, Prod.mk.injEq] at h
  exact h.1

/-- The end of a boundary, after its launches: staged writes, keys, answers and watchdogs. -/
def State.closed (s : State) (p : Staged → Bool) : State := ((s.takeStaged p).drawKeys.serveReads).serveBests.watchdogTick

/-- A boundary once T has advanced and the group has had its turn: acres wake and sleep, and launches enter their ticks. -/
def State.entered (b : State) (p : Staged → Bool) : State :=
  let a := (b.modGroup fun g => { g with alignDue := false }).wakeTick.sleepTick
  (a.each (a.ctxs.map (·.1)) fun s c => s.launchBoundary c b.groupHolds).closed p

theorem State.boundary_eq (s : State) : ∃ p, s.boundary = s.primed.nextTick.compareTicks.groupBoundary.entered p := by
  unfold State.boundary State.primed
  exact ⟨_, rfl⟩

namespace Solo
variable {s : State} {c mask : Nat} {l : Launch}

theorem closed (h : Solo s c l mask) (p : Staged → Bool) : Solo (s.closed p) c l mask := by
  have staged := h.of_frames (State.host_takeStaged s p) (State.beat_takeStaged ..)
  have keyed := staged.of_frames (State.host_drawKeys ..) (State.beat_drawKeys _ 0)
  unfold State.closed
  rw [keyed.serveReads.serveBests]
  exact keyed.serveReads.of_frames (State.host_watchdogTick _) (State.beat_watchdogTick _)

/-- A launch that is alone enters its tick, and nothing after that touches it. -/
theorem entered (h : Solo s c l mask) (only : s.ctxs.map (·.1) = [c]) (p : Staged → Bool) :
    ∃ a, Solo a c l mask ∧ s.entered p = (a.launchBoundary c false).closed p := by
  have alone : s.groupHolds = false := by
    rw [State.groupHolds, h.group]
  have aligned : (s.modGroup fun g => { g with alignDue := false }).host = s.host := by
    rw [State.host, State.host, State.modGroup, h.group]
    rfl
  have host : (s.modGroup fun g => { g with alignDue := false }).wakeTick.sleepTick.host = s.host := by
    rw [State.host_sleepTick, State.host_wakeTick, aligned]
  have ctxs : (s.modGroup fun g => { g with alignDue := false }).wakeTick.sleepTick.ctxs = s.ctxs := State.ctxs_of_host host
  refine ⟨_, h.of_frames host (by simp), ?_⟩
  unfold State.entered
  dsimp only
  rw [ctxs, only, alone]
  rfl

/-- T advances over a launch that is alone, and its module takes the next fallow mask. -/
theorem begun (h : Solo s c l mask) : Solo s.primed.nextTick.compareTicks.groupBoundary c l s.nextFallow ∧
    s.primed.nextTick.compareTicks.groupBoundary.ctxs = s.ctxs := by
  have host : s.primed.nextTick.compareTicks.host = s.host := by
    rw [State.host_compareTicks, State.nextTick_eq, State.host_opened, State.host_turned, State.host_primed]
  have beat : s.primed.nextTick.compareTicks.beat = (s.primed.pending, 0, none, s.nextFallow, 0, s.primed.reg .hubTick 0 + 1) := by
    rw [State.beat_compareTicks, State.nextTick_eq, State.beat_opened, State.beat_turned, State.nextFallow_primed]
  have next : Solo s.primed.nextTick.compareTicks c l s.nextFallow := h.of_host host (congrArg (·.2.2.2.1) beat)
  have still : s.primed.nextTick.compareTicks.groupBoundary = s.primed.nextTick.compareTicks := by
    unfold State.groupBoundary
    rw [next.group]
  rw [still]
  exact ⟨next, State.ctxs_of_host host⟩

end Solo

/-- Settles O47: all that a boundary does after T has advanced keeps what it set, and a launch that is alone enters its next tick. -/
theorem boundary : Obligations.Boundary := by
  refine ⟨fun s empty => ?idle, fun s mask hmask => ?_⟩
  case idle =>
    unfold step
    split
    · rfl
    · next e => cases empty.symm.trans e
  have mask_eq : mask = s.nextFallow := by
    rw [hmask]
    unfold State.nextFallow
    cases s.arrived <;> rfl
  have powered : s.powered = true → Completes .tickBoundary s s.boundary := fun on => congrArg Host.Outcome.next (if_pos on)
  refine ⟨fun off => ?off, fun on => ?on, fun w late => ?late, fun w early => ?early, ?alone⟩
  case off => exact congrArg Host.Outcome.next (if_neg (by rw [off]; exact Bool.false_ne_true))
  case on =>
    have beat := s.beat_boundary
    simp only [State.beat, Prod.mk.injEq] at beat
    obtain ⟨pending, cyc, arrived, fallow, asked, tick⟩ := beat
    exact ⟨_, powered on, tick, cyc, arrived, fallow.trans mask_eq.symm, asked, pending⟩
  case late => exact congrArg Host.Outcome.next (if_neg (by omega))
  case early => exact congrArg Host.Outcome.next (if_pos early)
  case alone =>
    intro c x l on ctxs _ running launch hph hra hf hw hd hr hst hp hn chans group
    have solo : Solo s c l s.fallow := by
      have ctx : s.ctx c = x := by
        rw [State.ctx, ctxs]
        exact if_pos rfl
      exact ⟨by rw [State.launch, ctx, launch], by rw [ctx, running], chans, group, rfl⟩
    obtain ⟨next, same⟩ := solo.begun
    obtain ⟨p, e⟩ := s.boundary_eq
    obtain ⟨a, awake, e'⟩ := next.entered (by rw [same, ctxs]; rfl) p
    obtain ⟨l', after, tau, held, opens⟩ := awake.launchBoundary hph hra hf hw hd hr hst hp hn
    rw [mask_eq]
    exact ⟨_, l', powered on, by rw [e, e']; exact (after.closed p).launch, tau, held, opens⟩

end Sys2Proof.Machine
end

section
/-!
PROOF. O32: the requests of a crib bank (R205, R206, R208, R212, R215), and those across a row or off their alignment (R10, R11).
-/
namespace Sys2Proof.Machine

/-! ## A request that breaks its form -/

section
variable (s : State)

/-- An unpredictable result leaves the result of a bank read that is on its way. -/
theorem State.latch_anything (c : Nat) : (s.anything c).latch = s.latch := by
  unfold State.anything
  refine List.foldlRecOn (motive := fun u : State => u.latch = s.latch) (s.coresOf c) _ ?_ fun u hu _ _ => (u.setCore_latch _ _).trans hu
  refine List.foldlRecOn (motive := fun u : State => u.latch = s.latch) (s.enginesOf c) _ ?_ fun u hu e _ => ?lanes
  · refine List.foldlRecOn (motive := fun u : State => u.latch = s.latch) (Config.anyBytes _) _ rfl fun u hu x _ => ?_
    split
    · rw [State.store_keeps]
      exact hu
    · exact hu
  case lanes =>
    refine List.foldlRecOn (motive := fun u : State => u.latch = s.latch) (List.range 4) _ hu fun u hu j _ => ?_
    exact ((State.setFld_latch _ _ _ _).trans (u.setLane_latch _ _)).trans hu

/-- The same with another result of a bank read on its way, and values drawn. -/
theorem State.erred_anything_latch (c f : Nat) (x : List Byte × Bool) : Erred s (State.anything { s with free := f, latch := x } c) c :=
  have h := State.erred_anything { s with free := f, latch := x } c
  ⟨h.bytes, h.lanes, h.cores, h.regs, h.rest⟩

variable (q : BankReq) (k addr n : Nat) (u : State)

/-- A read or an atomic that breaks its form answers with bytes that nothing fixes, and strays (R10, R11). -/
theorem State.request_of_malformed : ∃ t, s.request q k addr n false u = .next t ∧ t.latch.1.length = n ∧ Strays s t (s.reqCtx q k addr) := by
  have len : (s.openBytes n).1.length = n := leBytes_length _ _
  unfold State.request State.formed
  cases s.reqCtx q k addr with
  | none => exact ⟨_, rfl, len, rfl⟩
  | some c => exact ⟨_, rfl, (congrArg (·.1.length) (State.latch_anything _ c)).trans len, s.erred_anything_latch c _ _⟩

/-- A write that breaks its form strays. -/
theorem State.formed_of_malformed (c : Option Nat) : ∃ t, s.formed c false u = .next t ∧ Strays s t c := by
  cases c with
  | none => exact ⟨_, rfl, rfl⟩
  | some c => exact ⟨_, rfl, s.erred_anything c⟩

end

theorem inRow_eq_true {addr n : Nat} (h1 : 1 ≤ n) (h2 : addr % 512 + n ≤ 512) : inRow addr n = true := by
  simp [inRow, h1, h2]

theorem inRow_eq_false {addr n : Nat} (h : n = 0 ∨ 512 < addr % 512 + n) : inRow addr n = false := by
  simp only [inRow, Bool.and_eq_false_iff, decide_eq_false_iff_not]
  omega

/-! ## Reads, writes and atomics of a bank -/

section
variable (s : State) (k addr : Nat)

theorem State.deny_sameMemory (bank : Nat) : SameMemory s (s.deny k bank) := ⟨rfl, rfl⟩

theorem State.deny_denied (bank : Nat) : (s.deny k bank).flag F.stkBankStatusDenied (bankIx k bank) = true := by
  rw [State.deny, State.raise_eq, State.flag, State.fld_setFld_same _ _ _ _ (by decide)]
  rfl

theorem State.eccSeen_keeps (p : Bool) : s.eccSeen k addr p = { s with regs := (s.eccSeen k addr p).regs } := by
  cases p <;> rfl

theorem State.rd_eccSeen (p : Bool) (a : Nat) : (s.eccSeen k addr p).rd a = s.rd a := by
  rw [State.eccSeen_keeps]
  rfl

theorem State.rdN_eccSeen (p : Bool) (a n : Nat) : (s.eccSeen k addr p).rdN a n = s.rdN a n := by
  simp only [State.rdN, State.rd_eccSeen]

theorem State.regs_store (a : Nat) (v : List Byte) (p : Bool) : (s.store a v p).regs = s.regs := by
  rw [State.store_keeps]

theorem State.length_masked (a : Nat) (v : List (Option Byte)) : (s.masked a v).length = v.length := by
  simp [State.masked]

theorem State.getElem_masked (a : Nat) (v : List (Option Byte)) (j : Nat) (h : j < (s.masked a v).length) (h' : j < v.length) :
    (s.masked a v)[j] = v[j].getD (s.rd (a + j)) := by
  simp [State.masked, h']

variable {s k addr} {who : Who}

section
variable (pass : s.bankPass k addr who = true)
include pass

/-- A read that passes has the bytes and their poison, and changes no memory (R204, R205). -/
theorem State.bankRead_of_pass (n : Nat) : (s.bankRead k addr n who).1 = (s.rdN (cribAt k addr) n, s.poisoned (cribAt k addr) n) ∧
    SameMemory s (s.bankRead k addr n who).2 := by
  rw [State.bankRead, if_pos pass]
  refine ⟨rfl, ?_⟩
  dsimp only
  rw [State.eccSeen_keeps]
  exact ⟨rfl, rfl⟩

/-- A write that passes puts the bytes of its mask and no others (R205). -/
theorem State.bankWrite_of_pass (v : List (Option Byte)) (p : Bool) : ∃ t, s.bankWrite k addr who v p = t ∧ t.regs = s.regs ∧
    SameBytes s t (cribAt k addr) v.length ∧
    ∀ j, (h : j < v.length) → t.rd (cribAt k addr + j) = (v[j]).getD (s.rd (cribAt k addr + j)) := by
  have len := s.length_masked (cribAt k addr) v
  refine ⟨_, if_pos pass, s.regs_store _ _ _, fun b hb => s.rd_store_out _ _ _ b (by rwa [len]), fun j hj => ?_⟩
  rw [s.rd_store_in _ _ _ j (by rwa [len]), s.getElem_masked _ _ _ _ hj]

/-- An atomic that passes returns the old word with its poison and writes the new one (R206). -/
theorem State.bankAtomic_of_pass (n : Nat) (f : Nat → Nat) (mix p : Bool) :
    (s.bankAtomic k addr n who f mix p).1 = (s.rdN (cribAt k addr) n, s.poisoned (cribAt k addr) n) ∧
    Wrote s (s.bankAtomic k addr n who f mix p).2 (cribAt k addr) (leBytes n (f (s.rdNat (cribAt k addr) n))) := by
  have word : s.rdNat (cribAt k addr) n = leNat (s.cribBytes k addr n).1 := rfl
  have bytes : s.cribBytes k addr n = (s.rdN (cribAt k addr) n, s.poisoned (cribAt k addr) n) := rfl
  rw [State.bankAtomic, if_pos pass, word, ← bytes]
  refine ⟨rfl, ?_, fun b hb => ?_⟩
  · exact (State.rdN_eccSeen _ _ _ _ _ _).trans (s.rdN_store _ _ _)
  · exact (State.rd_eccSeen _ _ _ _ b).trans (s.rd_store_out _ _ _ b hb)

end

section
variable (denied : s.bankPass k addr who = false)
include denied

theorem State.bankRead_of_denied (n : Nat) : s.bankRead k addr n who = ((List.replicate n 0, true), s.deny k (bankOf addr)) :=
  if_neg (by rw [denied]; exact Bool.false_ne_true)

theorem State.bankWrite_of_denied (v : List (Option Byte)) (p : Bool) : s.bankWrite k addr who v p = s.deny k (bankOf addr) :=
  if_neg (by rw [denied]; exact Bool.false_ne_true)

theorem State.bankAtomic_of_denied (n : Nat) (f : Nat → Nat) (mix p : Bool) :
    s.bankAtomic k addr n who f mix p = ((List.replicate n 0, true), s.deny k (bankOf addr)) :=
  if_neg (by rw [denied]; exact Bool.false_ne_true)

end

end

/-! ## The commands -/

section
variable {q : BankReq} {st : StookId} {addr : CribAddr} {s : State}

theorem exec_cribRead_inRow {len : Nat} (h : inRow addr.toNat len = true) : exec (.cribRead q st addr len) s =
    .next (if s.served q st.ix addr.toNat then State.latched (s.bankRead st.ix addr.toNat len q.who) else s) := if_pos h

theorem exec_cribWrite_inRow {data : List (Option Byte)} (h : inRow addr.toNat data.length = true) : exec (.cribWrite q st addr data) s =
    .next (if s.served q st.ix addr.toNat then s.bankWrite st.ix addr.toNat q.who data false else s) :=
  congrArg Host.Outcome.next (if_pos h)

theorem State.atomic_aligned {k a n : Nat} {f : Nat → Nat} {mix : Bool} (h : a % n = 0) : s.atomic q k a n f mix =
    .next (if s.served q k a then State.latched (s.bankAtomic k a n q.who f mix false) else s) := if_pos (decide_eq_true h)

theorem State.atomic_misaligned {k a n : Nat} {f : Nat → Nat} {mix : Bool} (h : a % n ≠ 0) :
    ∃ t, s.atomic q k a n f mix = .next t ∧ t.latch.1.length = n ∧ Strays s t (s.reqCtx q k a) := by
  unfold State.atomic
  rw [decide_eq_false h]
  exact s.request_of_malformed _ _ _ _ _

/-- The four atomics on a word of a crib: constructor by operand, width, and the new word from the old one and the operand (R206). -/
def portAtomics (q : BankReq) (st : StookId) (addr : CribAddr) : List ((Nat → Instr) × Nat × (Nat → Nat → Nat)) :=
  [(fun v => .add16 q st addr (BitVec.ofNat 16 v), 2, fun old v => (old + v) % 2 ^ 16),
   (fun v => .add32 q st addr (BitVec.ofNat 32 v), 4, fun old v => (old + v) % 2 ^ 32),
   (fun v => .swap32 q st addr (BitVec.ofNat 32 v), 4, fun _ v => v), (fun v => .swap64 q st addr (BitVec.ofNat 64 v), 8, fun _ v => v)]

theorem exec_portAtomic {x : (Nat → Instr) × Nat × (Nat → Nat → Nat)} (hx : x ∈ portAtomics q st addr) {v : Nat} (hv : v < 2 ^ (8 * x.2.1)) :
    ∃ mix, exec (x.1 v) s = s.atomic q st.ix addr.toNat x.2.1 (fun old => x.2.2 old v) mix := by
  have fits : ∀ w, v < 2 ^ w → (BitVec.ofNat w v).toNat = v := fun w h => by rw [BitVec.toNat_ofNat, Nat.mod_eq_of_lt h]
  simp only [portAtomics, List.mem_cons, List.not_mem_nil, or_false] at hx
  obtain rfl | rfl | rfl | rfl := hx
  · exact ⟨true, congrArg (fun w => s.atomic q st.ix addr.toNat 2 (fun old => (old + w) % 2 ^ 16) true) (fits 16 hv)⟩
  · exact ⟨true, congrArg (fun w => s.atomic q st.ix addr.toNat 4 (fun old => (old + w) % 2 ^ 32) true) (fits 32 hv)⟩
  · exact ⟨false, congrArg (fun w => s.atomic q st.ix addr.toNat 4 (fun _ => w) false) (fits 32 hv)⟩
  · exact ⟨false, congrArg (fun w => s.atomic q st.ix addr.toNat 8 (fun _ => w) false) (fits 64 hv)⟩

end

/-- Settles O32: a request that keeps its form is the bank's operation where it is served and nothing where it is not, and one that breaks its
form strays. -/
theorem cribPorts : Obligations.CribPorts := by
  refine ⟨fun q st addr s => ⟨fun len h1 h2 => ?reads, fun len h => ?readStrays, fun data h1 h2 => ?writes, fun data h => ?writeStrays⟩,
    fun q st addr s x hx v hv => ?atomics⟩
  case reads =>
    have run := exec_cribRead_inRow (q := q) (st := st) (s := s) (inRow_eq_true h1 h2)
    refine ⟨fun waits => ?_, fun served pass => ?_, fun served denied => ?_⟩
    · rw [Completes, run, waits]
      rfl
    · obtain ⟨latch, mem⟩ := State.bankRead_of_pass pass len
      exact ⟨_, run.trans (congrArg _ (if_pos served)), mem, latch⟩
    · refine ⟨_, run.trans (congrArg _ (if_pos served)), ?_⟩
      rw [State.bankRead_of_denied denied]
      exact ⟨s.deny_sameMemory st.ix (bankOf addr.toNat), rfl, s.deny_denied _ _⟩
  case readStrays =>
    obtain ⟨t, run, rest⟩ := s.request_of_malformed q st.ix addr.toNat len
      (if s.served q st.ix addr.toNat then State.latched (s.bankRead st.ix addr.toNat len q.who) else s)
    exact ⟨t, (congrArg (s.request q _ _ _ · _) (inRow_eq_false h)).trans run, rest⟩
  case writes =>
    have run := exec_cribWrite_inRow (q := q) (st := st) (s := s) (inRow_eq_true h1 h2)
    refine ⟨fun waits => ?_, fun served pass => ?_, fun served denied => ?_⟩
    · rw [Completes, run, waits]
      rfl
    · obtain ⟨t, rfl, wrote⟩ := State.bankWrite_of_pass pass data false
      exact ⟨_, run.trans (congrArg _ (if_pos served)), wrote⟩
    · refine ⟨_, run.trans (congrArg _ (if_pos served)), ?_⟩
      rw [State.bankWrite_of_denied denied]
      exact ⟨s.deny_sameMemory _ _, s.deny_denied _ _⟩
  case writeStrays =>
    obtain ⟨t, run, strays⟩ := s.formed_of_malformed
      (if s.served q st.ix addr.toNat then s.bankWrite st.ix addr.toNat q.who data false else s) (s.reqCtx q st.ix addr.toNat)
    have across := inRow_eq_false (h.imp_left fun e => e ▸ List.length_nil)
    exact ⟨t, (congrArg (s.formed _ · _) across).trans run, strays⟩
  case atomics =>
    obtain ⟨mix, exec_eq⟩ := exec_portAtomic (s := s) hx hv
    refine ⟨fun aligned waits => ?_, fun aligned served pass => ?_, fun aligned served denied => ?_, fun odd => ?_⟩
    · rw [Completes, exec_eq, State.atomic_aligned aligned, waits]
      rfl
    · obtain ⟨latch, wrote⟩ := State.bankAtomic_of_pass pass x.2.1 (fun old => x.2.2 old v) mix false
      exact ⟨_, (exec_eq.trans (State.atomic_aligned aligned)).trans (congrArg _ (if_pos served)), latch, wrote⟩
    · refine ⟨_, (exec_eq.trans (State.atomic_aligned aligned)).trans (congrArg _ (if_pos served)), ?_⟩
      rw [State.bankAtomic_of_denied denied]
      exact ⟨s.deny_sameMemory st.ix (bankOf addr.toNat), rfl, s.deny_denied _ _⟩
    · obtain ⟨t, run, rest⟩ := State.atomic_misaligned (s := s) (q := q) (k := st.ix) (f := fun old => x.2.2 old v) (mix := mix) odd
      exact ⟨t, exec_eq.trans run, rest⟩

end Sys2Proof.Machine
end

section
/-!
PROOF. O34: the release of a queue bank, and the cores of a stook that go on with their queue (R223, R225).
-/
namespace Sys2Proof.Machine

/-! ## A bank released -/

theorem queueState_cases (b : Nat) : queueState b = F.stkQueueStatusStateA ∨ queueState b = F.stkQueueStatusStateB := by
  unfold queueState
  split
  · exact .inl rfl
  · exact .inr rfl

theorem queueState_reg (b : Nat) : (queueState b).reg = .stkQueueStatus := by
  obtain e | e := queueState_cases b <;> rw [e]

/-- A command's effect at a wall cycle whose tick has come, with the clock moved up to it. -/
theorem State.fromWall_of_reached {s : State} {d : Nat} (h : d / 1024 ≤ s.tick) (f : State → State) : ∃ u, s.fromWall d f = f u ∧
    u = { s with cyc := if d / 1024 = s.tick then max s.cyc (d % 1024) else s.cyc } := by
  refine ⟨_, if_neg (by omega), ?_⟩
  split <;> rfl

section
variable (s : State) (i b : Nat)

/-- A bank of a queue FILLING again, with RD_IDX cleared unless the other bank drains. -/
def State.refill : State :=
  if (s.setFld (queueState b) i qFilling).fld (queueState (1 - b)) i = qDraining then s.setFld (queueState b) i qFilling
  else (s.setFld (queueState b) i qFilling).setFld F.stkQueueStatusRdIdx i 0

theorem State.refill_keeps : s.refill i b = { s with regs := (s.refill i b).regs } := by
  unfold State.refill
  split <;> rfl

theorem State.refill_sameRegsBut : SameRegsBut s (s.refill i b) .stkQueueStatus i := by
  intro q j hq
  have filling : (s.setFld (queueState b) i qFilling).reg q j = s.reg q j := s.reg_setFld_other _ _ (by rwa [queueState_reg])
  unfold State.refill
  split
  · exact filling
  · exact (State.reg_setFld_other _ _ _ hq).trans filling

theorem State.fld_refill : (s.refill i b).fld (queueState b) i = qFilling := by
  have filling : (s.setFld (queueState b) i qFilling).fld (queueState b) i = qFilling := by
    obtain e | e := queueState_cases b <;> rw [e, State.fld_setFld_same _ _ _ _ (by decide)] <;> rfl
  unfold State.refill
  split
  · exact filling
  · refine (State.fld_setFld_beside _ _ _ _ _ (queueState_reg b) (by decide) (.inl ?_)).trans filling
    obtain e | e := queueState_cases b <;> rw [e] <;> decide

end

theorem exec_queueBankRelease (st : StookId) (q : Fin 32) (b : Fin 2) (s : State) : exec (.queueBankRelease st q b) s =
    .next (if s.fld (queueState b.val) (queueIx st.ix q.val) = qDraining ∧ s.queueWords st.ix q.val b.val = 0 then
      s.fromWall (sget 0 (s.stook st.ix).drained (2 * q.val + b.val) + 2) (·.refill (queueIx st.ix q.val) b.val) else s) := rfl

/-! ## Cores that go on -/

/-- Of the cores in the list, those of `s` that wait for `w` go on in `t` as `x` says, and nothing but cores and their status differs. -/
structure Resumed (s t : State) (w : Wait) (x : CoreState → CoreState) (l : List Nat) : Prop where
  cores : ∀ n, t.core n = if n ∈ l ∧ (s.core n).wait = w then x (s.core n) else s.core n
  state : ∀ n ∈ l, (s.core n).wait = w → t.fld F.stkCoreStatusState n = 1
  regs : ∀ q j, q ≠ .stkCoreStatus → t.reg q j = s.reg q j
  rest : t = { s with regs := t.regs, cores := t.cores }

theorem State.core_setCore (s : State) (n m : Nat) (v : CoreState) : (s.setCore n v).core m = if m = n then v else s.core m :=
  sget_sput _ _ _ _ _

theorem State.core_wake (s : State) (n m : Nat) : (s.wake n).core m = if m = n then { s.core n with wait := .none } else s.core m := by
  rw [State.wake, State.setFld_get_core, State.core_setCore]

theorem State.fld_wake_same (s : State) (n : Nat) : (s.wake n).fld F.stkCoreStatusState n = 1 := by
  rw [State.wake, State.fld_setFld_same _ _ _ _ (by decide)]
  rfl

theorem State.fld_wake_other (s : State) {n m : Nat} (h : m ≠ n) : (s.wake n).fld F.stkCoreStatusState m = s.fld F.stkCoreStatusState m := by
  rw [State.wake, State.fld_setFld_other _ _ _ _ fun e => h (Reg.key_inj e).2, State.setCore_get_fld]

section
variable {s u : State} {w : Wait} {x : CoreState → CoreState} {l : List Nat} {n : Nat}

theorem Resumed.nil (s : State) (w : Wait) (x : CoreState → CoreState) : Resumed s s w x [] :=
  ⟨fun _ => by simp, fun _ h => absurd h List.not_mem_nil, fun _ _ _ => rfl, rfl⟩

theorem Resumed.core_of_notMem (h : Resumed s u w x l) (hn : n ∉ l) : u.core n = s.core n := by
  rw [h.cores, if_neg fun g => hn g.1]

theorem Resumed.fld (h : Resumed s u w x l) {f : Fld} (hf : f.reg ≠ .stkCoreStatus) (i : Nat) : u.fld f i = s.fld f i := by
  unfold State.fld
  rw [h.regs _ _ hf]

/-- Time does not go on. -/
theorem Resumed.times (h : Resumed s u w x l) : (∀ c, u.logical c = s.logical c) ∧ u.now = s.now := by
  have tick : u.tick = s.tick := congrArg BitVec.toNat (h.regs .hubTick 0 (by decide))
  have cyc : u.cyc = s.cyc := by rw [h.rest]
  refine ⟨fun c => ?_, by rw [State.now, tick, cyc, State.now]⟩
  rw [h.rest]
  rfl

/-- A core that does not wait for it stays as it is. -/
theorem Resumed.skip (h : Resumed s u w x l) (hw : (s.core n).wait ≠ w) : Resumed s u w x (l ++ [n]) := by
  have waits : ∀ m, m ∈ l ++ [n] ∧ (s.core m).wait = w ↔ m ∈ l ∧ (s.core m).wait = w := by
    intro m
    simp only [List.mem_append, List.mem_singleton]
    refine ⟨fun ⟨hm, e⟩ => ⟨hm.resolve_right ?_, e⟩, fun ⟨hm, e⟩ => ⟨.inl hm, e⟩⟩
    rintro rfl
    exact hw e
  refine ⟨fun m => ?_, fun m hm e => h.state m ((waits m).mp ⟨hm, e⟩).1 e, h.regs, h.rest⟩
  rw [h.cores, if_congr (waits m) rfl rfl]

/-- A core that waits for it goes on, as it stands in `p`. -/
theorem Resumed.wake (h : Resumed s u w x l) {p : State} (hp : p = { u with cores := p.cores }) (others : ∀ m, m ≠ n → p.core m = u.core m)
    (hw : (s.core n).wait = w) (hx : { p.core n with wait := .none } = x (s.core n)) : Resumed s (p.wake n) w x (l ++ [n]) where
  cores m := by
    rw [State.core_wake]
    by_cases hm : m = n
    · subst hm
      rw [if_pos rfl, if_pos ⟨by simp, hw⟩, hx]
    · rw [if_neg hm, others m hm, h.cores]
      simp only [List.mem_append, List.mem_singleton, hm, or_false]
  state m hm e := by
    by_cases hn : m = n
    · subst hn
      exact p.fld_wake_same m
    · rw [p.fld_wake_other hn, hp]
      exact h.state m ((List.mem_append.mp hm).resolve_right fun g => hn (List.mem_singleton.mp g)) e
  regs q j hq := by
    have status : (p.wake n).reg q j = p.reg q j := State.reg_setFld_ne _ _ hq
    rw [status, hp]
    exact h.regs q j hq
  rest := by
    have waked : p.wake n = { p with regs := (p.wake n).regs, cores := (p.wake n).cores } := rfl
    generalize p.wake n = t at waked ⊢
    rw [hp, h.rest] at waked
    exact waked

/-- The cores of a list, taken one after another. -/
theorem Resumed.each {f : State → Nat → State} (step : ∀ u l n, Resumed s u w x l → n ∉ l → Resumed s (f u n) w x (l ++ [n]))
    (is : List Nat) : ∀ u l, Resumed s u w x l → (l ++ is).Nodup → Resumed s (u.each is f) w x (l ++ is) := by
  induction is with
  | nil => exact fun u l h _ => by rwa [List.append_nil]
  | cons n is ih =>
    intro u l h nodup
    have fresh : n ∉ l := fun hn => List.disjoint_of_nodup_append nodup hn List.mem_cons_self
    rw [List.append_cons] at nodup ⊢
    exact ih _ _ (step u l n h fresh) nodup

end

/-! ## Consumers and producers of a queue -/

/-- The cores of a stook, by number. -/
def stookCores (k : Nat) : List Nat := (List.range 4).map (4 * k + ·)

theorem stookCores_nodup (k : Nat) : (stookCores k).Nodup := List.nodup_range.map fun _ _ h => Nat.add_left_cancel h

theorem mem_stookCores (k : Nat) (n : Fin 4) : 4 * k + n.val ∈ stookCores k := List.mem_map_of_mem (List.mem_range.mpr n.isLt)

section
variable (s : State) (k q : Nat)

/-- A core whose QRD goes on: its word is delivered 2 cycles after the bank became READY (R225). -/
def State.reads (x : CoreState) : CoreState :=
  { x with wait := .none, wordAt := some (s.logical (x.ctx.getD 0) +
    ((sget 0 (s.stook k).closedAt (2 * q + s.fld F.stkQueueStatusRdBank (queueIx k q)) : Nat) : Int) + 2 - s.now) }

theorem State.resumeRead_resumed : Resumed (s.setFld F.stkQueueStatusConsStall (queueIx k q) 0) (s.resumeRead k q) (.queueRead q) (s.reads k q)
    (stookCores k) := by
  refine Resumed.each (fun u l n h hn => ?_) (stookCores k) _ [] (.nil _ _ _) (stookCores_nodup k)
  have core : u.core n = s.core n := h.core_of_notMem hn
  obtain ⟨logical, now⟩ := h.times
  have logical' : ∀ c, u.logical c = s.logical c := logical
  have now' : u.now = s.now := now.trans (by rw [State.now, State.tick_setFld _ _ _ _ (by decide)]; rfl)
  dsimp only
  split
  · next waits =>
    refine h.wake rfl (fun m hm => (State.core_setCore _ _ _ _).trans (if_neg hm)) (core ▸ waits) ?_
    rw [State.core_setCore, if_pos rfl, logical', now', core]
    rfl
  · next waits => exact h.skip (core ▸ waits)

/-- The producers of a queue that wait for a bank to fill go on. -/
def State.resumeWrite : State :=
  (s.setFld F.stkQueueStatusProdStall (queueIx k q) 0).each (stookCores k) fun s n => if (s.core n).wait = .queueWrite q then s.wake n else s

theorem State.resumeWrite_resumed : Resumed (s.setFld F.stkQueueStatusProdStall (queueIx k q) 0) (s.resumeWrite k q) (.queueWrite q)
    ({ · with wait := .none }) (stookCores k) := by
  refine Resumed.each (fun u l n h hn => ?_) (stookCores k) _ [] (.nil _ _ _) (stookCores_nodup k)
  have core : u.core n = s.core n := h.core_of_notMem hn
  split
  · next waits => exact h.wake rfl (fun _ _ => rfl) (core ▸ waits) (by rw [core]; rfl)
  · next waits => exact h.skip (core ▸ waits)

end

/-- A stall cleared before the cores of a stook go on: it stays cleared, memory stays, and of each core what becomes of it. -/
theorem Resumed.of_stall {s t : State} {f : Fld} {i k : Nat} {w : Wait} {x : CoreState → CoreState}
    (h : Resumed (s.setFld f i 0) t w x (stookCores k)) (hf : f.reg ≠ .stkCoreStatus) (room : f.lo + f.w ≤ 64) :
    t.flag f i = false ∧ SameMemory s t ∧ ∀ n : Fin 4,
      ((s.core (4 * k + n.val)).wait ≠ w → t.core (4 * k + n.val) = s.core (4 * k + n.val)) ∧
      ((s.core (4 * k + n.val)).wait = w → t.core (4 * k + n.val) = x (s.core (4 * k + n.val)) ∧
        t.fld F.stkCoreStatusState (4 * k + n.val) = 1) := by
  refine ⟨?_, by rw [h.rest]; exact ⟨rfl, rfl⟩, fun n => ⟨fun hw => ?_, fun hw => ⟨?_, h.state _ (mem_stookCores k n) hw⟩⟩⟩
  · rw [State.flag, h.fld hf, State.fld_setFld_same _ _ _ _ room]
    simp
  · exact (h.cores _).trans (if_neg fun g => hw g.2)
  · exact (h.cores _).trans (if_pos ⟨mem_stookCores k n, hw⟩)

theorem exec_queueConsumerResume (st : StookId) (q : Fin 32) (s : State) : exec (.queueConsumerResume st q) s =
    .next (if s.flag F.stkQueueStatusConsStall (queueIx st.ix q.val) && s.queueHas st.ix q.val then s.resumeRead st.ix q.val else s) := rfl

theorem exec_queueProducerResume (st : StookId) (q : Fin 32) (s : State) : exec (.queueProducerResume st q) s =
    .next (if s.flag F.stkQueueStatusProdStall (queueIx st.ix q.val) && s.queueTakes st.ix q.val then s.resumeWrite st.ix q.val else s) := rfl

/-- Settles O34: a drained bank fills again, and a resumption wakes the cores of its stook that wait for the queue, one by one. -/
theorem queueSteps : Obligations.QueueSteps := by
  intro st q b i s hi
  subst hi
  refine ⟨fun full => ?full, fun d draining empty hd => ⟨fun early => ?early, fun reached => ?release⟩, fun goes => ?consumerWaits,
    fun goes => ?consumer, fun goes => ?producerWaits, fun goes => ?producer⟩
  case full => exact (exec_queueBankRelease st q b s).trans (congrArg _ (if_neg fun g => full.elim (· g.1) (· g.2)))
  case early =>
    subst hd
    exact (exec_queueBankRelease st q b s).trans (congrArg _ ((if_pos ⟨draining, empty⟩).trans (if_pos early)))
  case release =>
    subst hd
    obtain ⟨u, wall, hu⟩ := State.fromWall_of_reached reached (·.refill (queueIx st.ix q.val) b.val)
    have run := (exec_queueBankRelease st q b s).trans (congrArg _ ((if_pos ⟨draining, empty⟩).trans wall))
    have regs := u.refill_sameRegsBut (queueIx st.ix q.val) b.val
    have filling := u.fld_refill (queueIx st.ix q.val) b.val
    have keeps := u.refill_keeps (queueIx st.ix q.val) b.val
    generalize u.refill (queueIx st.ix q.val) b.val = t at run regs filling keeps
    rw [hu] at keeps
    refine ⟨t, run, filling, ?_, ?_, ?_, fun r j hr => (regs r j hr).trans (by rw [hu]; rfl)⟩
    · rw [keeps]
      exact empty
    · rw [keeps]
    · rw [keeps]
      exact ⟨rfl, rfl⟩
  case consumerWaits => exact (exec_queueConsumerResume st q s).trans (congrArg _ (if_neg (by rw [goes]; exact Bool.false_ne_true)))
  case consumer =>
    obtain ⟨stall, mem, cores⟩ := (s.resumeRead_resumed st.ix q.val).of_stall (by decide) (by decide)
    refine ⟨_, (exec_queueConsumerResume st q s).trans (congrArg _ (if_pos goes)), stall, mem, fun n => ?_⟩
    obtain ⟨stays, resumes⟩ := cores n
    refine ⟨stays, fun c waits ctx => ?_⟩
    obtain ⟨core, state⟩ := resumes waits
    rw [core]
    refine ⟨rfl, state, ?_⟩
    rw [State.reads, ctx]
    rfl
  case producerWaits => exact (exec_queueProducerResume st q s).trans (congrArg _ (if_neg (by rw [goes]; exact Bool.false_ne_true)))
  case producer =>
    obtain ⟨stall, mem, cores⟩ := (s.resumeWrite_resumed st.ix q.val).of_stall (by decide) (by decide)
    refine ⟨_, (exec_queueProducerResume st q s).trans (congrArg _ (if_pos goes)), stall, mem, fun n => ?_⟩
    obtain ⟨stays, resumes⟩ := cores n
    refine ⟨stays, fun waits => ?_⟩
    obtain ⟨core, state⟩ := resumes waits
    rw [core]
    exact ⟨rfl, state⟩

end Sys2Proof.Machine
end

section
/-!
PROOF. O15: STREAM_SUBMIT, FENCE_SIGNAL and FENCE_WAIT (R361–R364, R368).
-/
namespace Sys2Proof.Machine

/-! ## What the mailbox itself does to the state -/

/-- What taking a message and answering it changes beside its effect: MBX_STATUS, channels and memory. -/
structure MailWork (s t : State) : Prop where
  regs : ∀ q j, q ≠ .mbxStatus → t.reg q j = s.reg q j
  rest : t = { s with regs := t.regs, mem := t.mem, chans := t.chans }

section
variable {s t u : State}

theorem MailWork.refl (s : State) : MailWork s s := ⟨fun _ _ _ => rfl, rfl⟩

theorem MailWork.trans (h : MailWork s t) (g : MailWork t u) : MailWork s u where
  regs q j hq := (g.regs q j hq).trans (h.regs q j hq)
  rest := by
    have e := g.rest
    rw [h.rest] at e
    exact e

theorem MailWork.setFld (h : MailWork s t) {f : Fld} (hf : f.reg = .mbxStatus) (i v : Nat) : MailWork s (t.setFld f i v) :=
  h.trans ⟨fun _ _ hq => t.reg_setFld_ne _ (hf ▸ hq), rfl⟩

theorem MailWork.setChan (h : MailWork s t) (n : Nat) (x : Chan) : MailWork s (t.setChan n x) := h.trans ⟨fun _ _ _ => rfl, rfl⟩

theorem MailWork.wrN (h : MailWork s t) (a : Nat) (v : List Byte) : MailWork s (t.wrN a v) := h.trans ⟨fun _ _ _ => rfl, rfl⟩

theorem MailWork.fld (h : MailWork s t) {f : Fld} (hf : f.reg ≠ .mbxStatus) (i : Nat) : t.fld f i = s.fld f i := by
  unfold State.fld
  rw [h.regs _ _ hf]

theorem MailWork.streams (h : MailWork s t) : t.streams = s.streams := by rw [h.rest]

theorem MailWork.stooks (h : MailWork s t) : t.stooks = s.stooks := by rw [h.rest]

theorem MailWork.ctxs (h : MailWork s t) : t.ctxs = s.ctxs := by rw [h.rest]

theorem MailWork.stream (h : MailWork s t) (x : Nat) : t.stream x = s.stream x := by
  rw [State.stream, h.streams, State.stream]

theorem MailWork.stook (h : MailWork s t) (k : Nat) : t.stook k = s.stook k := by
  rw [State.stook, h.stooks, State.stook]

theorem MailWork.launch (h : MailWork s t) (c : Nat) : t.launch c = s.launch c := by
  rw [State.launch, State.ctx, h.ctxs, State.launch, State.ctx]

theorem MailWork.logical (h : MailWork s t) (c : Nat) : t.logical c = s.logical c := by
  rw [h.rest]
  rfl

theorem State.executing_mailWork (s : State) (n : Nat) (m : Msg) : MailWork s (s.executing n m) := (MailWork.refl s).setFld rfl _ _

theorem State.post_mailWork (s : State) (n : Nat) (slot : List Byte) : MailWork s (s.post n slot) := by
  have placed : MailWork s (s.placed n slot) := (((MailWork.refl s).wrN _ _).setFld rfl _ _).setChan _ _
  rw [State.post_eq]
  split
  · exact ((placed.setFld rfl _ _).setFld rfl _ _).setChan _ _
  · exact placed

theorem State.respond_mailWork (s : State) (n : Nat) (m : Msg) (r : Reply) : MailWork s (s.respond n m r) := by
  obtain ⟨x, e⟩ := s.respond_eq n m r
  rw [e]
  exact ((MailWork.refl s).setChan _ _).trans (State.post_mailWork _ _ _)

end

/-! ## The three messages -/

section
variable {s : State} {n : Channel} {m : Msg}

theorem exec_streamSubmit (d : Due s n.val 0x0C m) : exec (.streamSubmit n) s = .next
    (((s.executing n.val m).submitMsg m).2.respond n.val m ((s.executing n.val m).submitMsg m).1) :=
  congrArg Host.Outcome.next (d.message (by simp [Msg.image, d.op]))

theorem exec_fenceSignal (d : Due s n.val 0x0D m) : exec (.fenceSignal n) s = .next
    (((s.executing n.val m).fenceSignal m).2.respond n.val m ((s.executing n.val m).fenceSignal m).1) :=
  congrArg Host.Outcome.next (d.message (by simp [Msg.image, d.op]))

theorem exec_fenceWait (d : Due s n.val 0x0E m) : exec (.fenceWait n) s = .next
    (((s.executing n.val m).fenceWait m).2.respond n.val m ((s.executing n.val m).fenceWait m).1) :=
  congrArg Host.Outcome.next (d.message (by simp [Msg.image, d.op]))

/-- A command that comes to an answer in a state answers so, and goes on from that state but for the mailbox. -/
theorem completes_respond {c : Instr} {x : Reply × State} {r : Reply} {u : State} (run : exec c s = .next (x.2.respond n.val m x.1))
    (effect : x = (r, u)) : ∃ t, Completes c s t ∧ Answered t n.val m r ∧ MailWork u t ∧
      ∀ a k, a + k ≤ slotAt n.val 256 → t.rdN a k = u.rdN a k := by
  subst effect
  obtain ⟨answered, -, -⟩ := u.respond_answered n.val m r
  exact ⟨_, run, answered, u.respond_mailWork _ _ _, u.rdN_respond _ _ _⟩

end

/-! ## A chain entry placed (R362) -/

theorem State.stream_setStream (s : State) (x y : Nat) (v : Stream) : (s.setStream x v).stream y = if y = x then v else s.stream y :=
  sget_sput _ _ _ _ _

theorem State.stream_setStream_same (s : State) (x : Nat) (v : Stream) : (s.setStream x v).stream x = v := sget_sput_same _ _ _ _

/-- Nothing but streams and registers differs, and stream `x` has its context and what waits in it. -/
structure Tended (s t : State) (x : Nat) : Prop where
  ctx : (t.stream x).ctx = (s.stream x).ctx
  waiting : (t.stream x).waiting = (s.stream x).waiting
  rest : t = { s with streams := t.streams, regs := t.regs }

section
variable {s t u : State} {x : Nat}

theorem Tended.refl (s : State) (x : Nat) : Tended s s x := ⟨rfl, rfl, rfl⟩

theorem Tended.trans (h : Tended s t x) (g : Tended t u x) : Tended s u x where
  ctx := g.ctx.trans h.ctx
  waiting := g.waiting.trans h.waiting
  rest := by
    have e := g.rest
    rw [h.rest] at e
    exact e

theorem Tended.setReg (h : Tended s t x) (r : Reg) (i : Nat) (v : Word) : Tended s (t.setReg r i v) x := h.trans ⟨rfl, rfl, rfl⟩

theorem Tended.setStream (h : Tended s t x) {v : Stream} (ctx : v.ctx = (t.stream x).ctx) (waiting : v.waiting = (t.stream x).waiting) :
    Tended s (t.setStream x v) x :=
  h.trans ⟨by rw [State.stream_setStream_same, ctx], by rw [State.stream_setStream_same, waiting], rfl⟩

theorem Tended.ite (h : Tended s t x) (g : Tended s u x) (p : Prop) [Decidable p] : Tended s (if p then t else u) x := by
  split <;> assumption

end

section
variable (s : State) (c k : Nat) (a : Submit) (data : List Byte)

/-- The stream of a submission restarted and its watchdog limit taken, where it asks so. -/
def State.renewed : State :=
  let s := if a.restart then (s.setReg .doneWord a.stream 0).setStream a.stream { s.stream a.stream with writes := none } else s
  if a.ms ≠ 0 then s.setStream a.stream { s.stream a.stream with limit := a.ms } else s

/-- The input of a submission, where it brings one (R268). -/
def State.inputTaken : State :=
  if a.input then (s.journal c (.input data) a.apply 0).modLaunch c fun l => { l with inputs := l.inputs ++ [{ apply := a.apply, data := data }] }
  else s

/-- The chain entry of a submission in its crib, handed to the chain unit and waiting in its stream. -/
def State.entryLaid : State :=
  let s := (s.store (cribAt k a.addr) a.bytes false).offer k a.addr (s.logical c + handoff k k)
  s.setStream a.stream { s.stream a.stream with waiting := (s.stream a.stream).waiting ++ [.chain k a.addr (parseEntry a.bytes).seq] }

/-- The watchdog of a stream runs. -/
def State.watched (x : Nat) : State := if (s.stream x).deadline.isNone then s.rewatch x else s

theorem State.placeEntry_eq :
    s.placeEntry c k a data = ((((s.bind a.stream c).renewed a).inputTaken c a data).entryLaid c k a).watched a.stream := rfl

theorem State.renewed_tended : Tended s (s.renewed a) a.stream := by
  have restarted : Tended s (if a.restart then (s.setReg .doneWord a.stream 0).setStream a.stream { s.stream a.stream with writes := none } else s)
      a.stream := by
    refine .ite (.setStream (.setReg (.refl s _) _ _ _) ?_ ?_) (.refl s _) _ <;> rfl
  unfold State.renewed
  refine .ite (restarted.setStream ?_ ?_) restarted _ <;> rfl

theorem State.watched_tended (x : Nat) : Tended s (s.watched x) x := by
  unfold State.watched State.rewatch
  refine .ite (.setStream (.refl s x) ?_ ?_) (.refl s x) _ <;> rfl

theorem State.inputTaken_keeps : s.inputTaken c a data = { s with ctxs := (s.inputTaken c a data).ctxs } := by
  unfold State.inputTaken
  split
  · rw [State.modLaunch_keeps, State.journal_keeps]
  · rfl

theorem State.launch_inputTaken {l : Launch} (h : s.launch c = some l) : (s.inputTaken c a data).launch c =
    some { l with inputs := l.inputs ++ if a.input then [{ apply := a.apply, data := data }] else [] } := by
  unfold State.inputTaken
  split
  · exact State.launch_modLaunch_same ((s.launch_journal c _ _ _).trans h) _
  · rw [h, List.append_nil]

/-- An input taken leaves the logical time of its launch. -/
theorem State.logical_inputTaken {l : Launch} (h : s.launch c = some l) : (s.inputTaken c a data).logical c = s.logical c := by
  have cyc : (s.inputTaken c a data).cyc = s.cyc := by rw [State.inputTaken_keeps]
  unfold State.logical State.tau
  rw [State.launch_inputTaken s c a data h, h, cyc]

theorem State.entryLaid_spec (h : a.bytes.length = 64) : ((s.entryLaid c k a).stream a.stream).ctx = (s.stream a.stream).ctx ∧
    ((s.entryLaid c k a).stream a.stream).waiting = (s.stream a.stream).waiting ++ [.chain k a.addr (parseEntry a.bytes).seq] ∧
    (s.entryLaid c k a).rdN (cribAt k a.addr) 64 = a.bytes ∧
    ((s.entryLaid c k a).stook k).offered = (s.stook k).offered ++ [{ addr := a.addr, arrived := s.logical c + 8, source := none }] ∧
    (s.entryLaid c k a).ctxs = s.ctxs := by
  have stored := s.rdN_store (cribAt k a.addr) a.bytes false
  have keeps := s.store_keeps (cribAt k a.addr) a.bytes false
  rw [h] at stored
  unfold State.entryLaid
  generalize s.store (cribAt k a.addr) a.bytes false = u at stored keeps
  have time : handoff k k = 8 := if_pos rfl
  have stooks : u.stook k = s.stook k := by rw [keeps]; rfl
  have streams : (u.offer k a.addr (s.logical c + handoff k k)).stream a.stream = s.stream a.stream := by rw [keeps]; rfl
  have ctxs : u.ctxs = s.ctxs := by rw [keeps]
  dsimp only
  rw [State.stream_setStream_same, streams]
  refine ⟨rfl, rfl, stored, ?_, ctxs⟩
  rw [State.setStream_get_stook, State.offer, ← stooks, time]
  exact congrArg Stook.offered (sget_sput_same _ _ _ _)

/-- What a submission leaves: its stream bound and waiting, its entry in the crib and on its way, its input taken (R362–R364). -/
theorem State.placeEntry_spec {l : Launch} (hl : s.launch c = some l) (h : a.bytes.length = 64) :
    ((s.placeEntry c k a data).stream a.stream).ctx = some c ∧
    ((s.placeEntry c k a data).stream a.stream).waiting = (s.stream a.stream).waiting ++ [.chain k a.addr (parseEntry a.bytes).seq] ∧
    (s.placeEntry c k a data).rdN (cribAt k a.addr) 64 = a.bytes ∧
    ((s.placeEntry c k a data).stook k).offered = (s.stook k).offered ++ [{ addr := a.addr, arrived := s.logical c + 8, source := none }] ∧
    (s.placeEntry c k a data).launch c =
      some { l with inputs := l.inputs ++ if a.input then [{ apply := a.apply, data := data }] else [] } := by
  rw [State.placeEntry_eq]
  have bound : (s.bind a.stream c).stream a.stream = { s.stream a.stream with ctx := some c } := s.stream_setStream_same _ _
  have renew := (s.bind a.stream c).renewed_tended a
  generalize (s.bind a.stream c).renewed a = v at renew
  have launch : v.launch c = some l := by rw [renew.rest]; exact hl
  have logical : v.logical c = s.logical c := by rw [renew.rest]; rfl
  have stook : v.stook k = s.stook k := by rw [renew.rest]; rfl
  have keeps := v.inputTaken_keeps c a data
  have taken := v.launch_inputTaken c a data launch
  have time := (v.logical_inputTaken c a data launch).trans logical
  generalize v.inputTaken c a data = w at keeps taken time
  have stream : w.stream a.stream = v.stream a.stream := by rw [keeps]; rfl
  have stook' : w.stook k = s.stook k := by rw [keeps]; exact stook
  obtain ⟨ctx, waiting, bytes, offered, ctxs⟩ := w.entryLaid_spec c k a h
  have watch := (w.entryLaid c k a).watched_tended a.stream
  generalize w.entryLaid c k a = y at *
  refine ⟨?_, ?_, ?_, ?_, ?_⟩
  · rw [watch.ctx, ctx, stream, renew.ctx, bound]
  · rw [watch.waiting, waiting, stream, renew.waiting, bound]
  · rw [watch.rest]
    exact bytes
  · rw [watch.rest, ← time, ← stook']
    exact offered
  · rw [watch.rest, ← taken]
    exact congrArg (fun m => (sget {} m c).launch) ctxs

end

theorem State.deny_keeps (s : State) (k bank : Nat) : s.deny k bank = { s with regs := (s.deny k bank).regs } := rfl

section
variable {s : State} {m : Msg} {data : List Byte} (hd : data = if m.submit.input then s.stagedOf m else [])
include hd

theorem State.submitMsg_of_error {e : Reply} (h : s.submitCheck m.ctx m.submit data = .error e) : s.submitMsg m = (e, s) := by
  unfold State.submitMsg
  dsimp only
  rw [← hd, h]

theorem State.submitMsg_of_denied {k : Nat} (h : s.submitCheck m.ctx m.submit data = .ok k)
    (other : s.ownerWord k (bankOf m.submit.addr) ≠ 0x4000 + m.ctx) :
    s.submitMsg m = ({ status := stNotOwner, detail := m.submit.stream }, s.deny k (bankOf m.submit.addr)) := by
  unfold State.submitMsg
  dsimp only
  rw [← hd, h]
  exact if_pos other

theorem State.submitMsg_of_owned {k : Nat} (h : s.submitCheck m.ctx m.submit data = .ok k)
    (own : s.ownerWord k (bankOf m.submit.addr) = 0x4000 + m.ctx) :
    s.submitMsg m = ({ status := stOk, payload := leBytes 4 (parseEntry m.submit.bytes).seq }, s.placeEntry m.ctx k m.submit data) := by
  unfold State.submitMsg
  dsimp only
  rw [← hd, h]
  exact if_neg (not_not_intro own)

end

/-! ## Fences (R363, R368) -/

theorem State.fenceSignal_eq (s : State) (m : Msg) : s.fenceSignal m =
    ({ status := stOk, payload := leBytes 8 (s.reg .fncValue (m.p 0 4 % 2 ^ 14) + BitVec.ofNat 64 (m.p 8 8)).toNat },
      s.setReg .fncValue (m.p 0 4 % 2 ^ 14) (s.reg .fncValue (m.p 0 4 % 2 ^ 14) + BitVec.ofNat 64 (m.p 8 8))) := by
  unfold State.fenceSignal State.fence
  dsimp only
  rw [State.reg_setReg_same]

section
variable (s : State) (m : Msg)

/-- The stream that a FENCE_WAIT names. -/
def Msg.waitStream : Nat := bits (m.p 0 4) 16 12

theorem State.fenceWait_of_taken (h : s.streamFree m.waitStream m.ctx = false) :
    s.fenceWait m = ({ status := stNotOwner, detail := m.waitStream }, s) := if_pos (by simpa [Msg.waitStream] using h)

theorem State.fenceWait_of_classE (h : s.streamFree m.waitStream m.ctx = true) (e : s.classE m.ctx = true) :
    s.fenceWait m = ({ status := stLevel, detail := m.waitStream }, s) :=
  (if_neg (by simpa [Msg.waitStream] using h)).trans (if_pos e)

/-- A wait point placed: its stream is bound and ends with it, and no other stream changes. -/
theorem State.fenceWait_of_placed (h : s.streamFree m.waitStream m.ctx = true) (e : s.classE m.ctx = false) :
    ∃ u, s.fenceWait m = ({ status := stOk }, u) ∧ (u.stream m.waitStream).ctx = some m.ctx ∧
      (u.stream m.waitStream).waiting = (s.stream m.waitStream).waiting ++ [.fence (m.p 0 4 % 2 ^ 14) (BitVec.ofNat 64 (m.p 8 8))] ∧
      ∀ y, y ≠ m.waitStream → u.stream y = s.stream y := by
  have bound : (s.bind m.waitStream m.ctx).stream m.waitStream = { s.stream m.waitStream with ctx := some m.ctx } := s.stream_setStream_same _ _
  refine ⟨_, (if_neg (by simpa [Msg.waitStream] using h)).trans (if_neg (by rw [e]; exact Bool.false_ne_true)), ?_, ?_, fun y hy => ?_⟩
  · exact (congrArg Stream.ctx (State.stream_setStream_same _ _ _)).trans (congrArg Stream.ctx bound)
  · exact (congrArg Stream.waiting (State.stream_setStream_same _ _ _)).trans (congrArg (·.waiting ++ _) bound)
  · rw [State.stream_setStream]
    exact (if_neg hy).trans ((s.stream_setStream _ _ _).trans (if_neg hy))

end

/-- The cribs lie below the slots of the mailbox. -/
theorem cribAt_below_slotAt {k addr len : Nat} (hk : k < 1088) (ha : addr < 2 ^ 23) (hl : len ≤ 2 ^ 23) (n : Nat) :
    cribAt k addr + len ≤ slotAt n 256 := by
  have crib : cribAt k addr = 0 * 2 ^ 44 + k * 2 ^ 23 + addr := rfl
  rw [crib, slotAt_eq]
  omega

section
variable {s : State} {n : Channel} {m : Msg}

theorem State.stagedOf_executing (s : State) (n : Nat) (m : Msg) : (s.executing n m).stagedOf m = s.stagedOf m := State.setFld_get_rdN _ _ _ _ _ _

section
variable (d : Due s n.val 0x0C m) {data : List Byte} (hd : data = if m.submit.input then s.stagedOf m else [])
include d hd

/-- A submission that a check refuses is answered so, and nothing is placed. -/
theorem streamSubmit_refused {e : Reply} (h : (s.executing n.val m).submitCheck m.ctx m.submit data = .error e) :
    ∃ t, Completes (.streamSubmit n) s t ∧ Answered t n.val m e ∧ t.streams = s.streams ∧ t.stooks = s.stooks ∧ t.ctxs = s.ctxs := by
  rw [← s.stagedOf_executing n.val m] at hd
  obtain ⟨t, done, answered, mail, -⟩ := completes_respond (exec_streamSubmit d) (State.submitMsg_of_error hd h)
  have all := (s.executing_mailWork n.val m).trans mail
  exact ⟨t, done, answered, all.streams, all.stooks, all.ctxs⟩

variable {k : Nat} (passed : (s.executing n.val m).submitCheck m.ctx m.submit data = .ok k)
include passed

/-- A submission into a bank of another owner is answered NOT_OWNER, and nothing is placed (R215). -/
theorem streamSubmit_denied (other : s.ownerWord k (bankOf m.submit.addr) ≠ 0x4000 + m.ctx) : ∃ t, Completes (.streamSubmit n) s t ∧
    Answered t n.val m { status := stNotOwner, detail := m.submit.stream } ∧
    t.flag F.stkBankStatusDenied (bankIx k (bankOf m.submit.addr)) = true ∧ t.streams = s.streams ∧ t.stooks = s.stooks ∧ t.ctxs = s.ctxs := by
  rw [← s.stagedOf_executing n.val m] at hd
  have taken := s.executing_mailWork n.val m
  have owner : (s.executing n.val m).ownerWord k (bankOf m.submit.addr) = s.ownerWord k (bankOf m.submit.addr) := taken.fld (by decide) _
  obtain ⟨t, done, answered, mail, -⟩ := completes_respond (exec_streamSubmit d)
    (State.submitMsg_of_denied hd passed fun e => other (owner.symm.trans e))
  have kept := State.deny_keeps (s.executing n.val m) k (bankOf m.submit.addr)
  refine ⟨t, done, answered, ?_, ?_, ?_, ?_⟩
  · rw [State.flag, mail.fld (by decide)]
    exact State.deny_denied _ _ _
  · rw [mail.streams, kept, taken.streams]
  · rw [mail.stooks, kept, taken.stooks]
  · rw [mail.ctxs, kept, taken.ctxs]

/-- A submission that passes its checks, into a bank of its context, is placed. -/
theorem streamSubmit_placed (own : s.ownerWord k (bankOf m.submit.addr) = 0x4000 + m.ctx) (hk : k < 1088) {l : Launch}
    (launch : s.launch m.ctx = some l) : ∃ t, Completes (.streamSubmit n) s t ∧
    Answered t n.val m { status := stOk, payload := leBytes 4 (parseEntry m.submit.bytes).seq } ∧
    (t.stream m.submit.stream).ctx = some m.ctx ∧ t.rdN (cribAt k m.submit.addr) 64 = m.submit.bytes ∧
    (t.stook k).offered = (s.stook k).offered ++ [{ addr := m.submit.addr, arrived := s.logical m.ctx + 8, source := none }] ∧
    (t.stream m.submit.stream).waiting =
      (s.stream m.submit.stream).waiting ++ [.chain k m.submit.addr (parseEntry m.submit.bytes).seq] ∧
    t.launch m.ctx = some { l with inputs := l.inputs ++ if m.submit.input then [{ apply := m.submit.apply, data := data }] else [] } := by
  rw [← s.stagedOf_executing n.val m] at hd
  have taken := s.executing_mailWork n.val m
  have owner : (s.executing n.val m).ownerWord k (bankOf m.submit.addr) = s.ownerWord k (bankOf m.submit.addr) := taken.fld (by decide) _
  obtain ⟨t, done, answered, mail, rdN⟩ := completes_respond (exec_streamSubmit d) (State.submitMsg_of_owned hd passed (owner.trans own))
  have size : m.submit.bytes.length = 64 := length_padTo 64 _
  have place : m.submit.addr < 2 ^ 23 := Nat.mod_lt _ (by decide)
  obtain ⟨ctx, waiting, bytes, offered, launched⟩ :=
    State.placeEntry_spec _ m.ctx k m.submit data ((taken.launch _).trans launch) size
  refine ⟨t, done, answered, ?_, ?_, ?_, ?_, (mail.launch _).trans launched⟩
  · rw [mail.stream, ctx]
  · rw [rdN _ _ (cribAt_below_slotAt hk place (by decide) _)]
    exact bytes
  · rw [mail.stook, offered, taken.stook, taken.logical]
  · rw [mail.stream, waiting, taken.stream]

end

/-- FENCE_SIGNAL adds to its fence counter alone and answers the new value (R368). -/
theorem fenceSignal_adds (d : Due s n.val 0x0D m) {v : Word} (hv : v = s.reg .fncValue (m.p 0 4 % 2 ^ 14) + BitVec.ofNat 64 (m.p 8 8)) :
    ∃ t, Completes (.fenceSignal n) s t ∧ Answered t n.val m { status := stOk, payload := leBytes 8 v.toNat } ∧
      t.reg .fncValue (m.p 0 4 % 2 ^ 14) = v ∧ (∀ g, g ≠ m.p 0 4 % 2 ^ 14 → t.reg .fncValue g = s.reg .fncValue g) ∧ t.ctxs = s.ctxs ∧
      t.streams = s.streams := by
  have taken := s.executing_mailWork n.val m
  have signal : (s.executing n.val m).fenceSignal m =
      ({ status := stOk, payload := leBytes 8 v.toNat }, (s.executing n.val m).setReg .fncValue (m.p 0 4 % 2 ^ 14) v) := by
    rw [State.fenceSignal_eq, taken.regs _ _ (by decide), hv]
  obtain ⟨t, done, answered, mail, -⟩ := completes_respond (exec_fenceSignal d) signal
  generalize s.executing n.val m = u at taken mail
  refine ⟨t, done, answered, ?_, fun g hg => ?_, ?_, ?_⟩
  · rw [mail.regs _ _ (by decide), State.reg_setReg_same]
  · rw [mail.regs _ _ (by decide), State.reg_setReg_copy _ _ hg, taken.regs _ _ (by decide)]
  · rw [mail.ctxs, State.setReg_ctxs, taken.ctxs]
  · rw [mail.streams, State.setReg_streams, taken.streams]

section
variable (d : Due s n.val 0x0E m)

theorem streamFree_executing : (s.executing n.val m).streamFree m.waitStream m.ctx = s.streamFree m.waitStream m.ctx := by
  unfold State.streamFree
  rw [(s.executing_mailWork n.val m).stream]

theorem classE_executing : (s.executing n.val m).classE m.ctx = s.classE m.ctx := by
  unfold State.classE
  rw [(s.executing_mailWork n.val m).launch]

include d

/-- A FENCE_WAIT that is refused is answered so, and no stream changes (R361, R363). -/
theorem fenceWait_refused {e : Reply} (h : (s.executing n.val m).fenceWait m = (e, s.executing n.val m)) :
    ∃ t, Completes (.fenceWait n) s t ∧ Answered t n.val m e ∧ t.streams = s.streams := by
  obtain ⟨t, done, answered, mail, -⟩ := completes_respond (exec_fenceWait d) h
  exact ⟨t, done, answered, mail.streams.trans (s.executing_mailWork n.val m).streams⟩

/-- A FENCE_WAIT that is not refused puts its wait point at the end of its stream (R362, R363). -/
theorem fenceWait_placed (free : s.streamFree m.waitStream m.ctx = true) (level : s.classE m.ctx = false) :
    ∃ t, Completes (.fenceWait n) s t ∧ Answered t n.val m { status := stOk } ∧ (t.stream m.waitStream).ctx = some m.ctx ∧
      (t.stream m.waitStream).waiting =
        (s.stream m.waitStream).waiting ++ [.fence (m.p 0 4 % 2 ^ 14) (BitVec.ofNat 64 (m.p 8 8))] ∧
      ∀ y, y ≠ m.waitStream → t.stream y = s.stream y := by
  have taken := s.executing_mailWork n.val m
  obtain ⟨u, effect, ctx, waiting, others⟩ :=
    State.fenceWait_of_placed (s.executing n.val m) m (streamFree_executing.trans free) (classE_executing.trans level)
  obtain ⟨t, done, answered, mail, -⟩ := completes_respond (exec_fenceWait d) effect
  refine ⟨t, done, answered, ?_, ?_, fun y hy => ?_⟩
  · rw [mail.stream, ctx]
  · rw [mail.stream, waiting, taken.stream]
  · rw [mail.stream, others y hy, taken.stream]

end

end

/-- Settles O15: each of the three messages answers, and does to streams, crib, chain unit and fences what its checks let it. -/
theorem streams : Obligations.Streams := by
  refine ⟨fun n m s u a data d hu ha hdata => ?submit, fun n m s => ⟨fun d f v hf hv => ?signal, fun d x hx => ?wait⟩⟩
  case submit =>
    subst hu ha
    refine ⟨fun e refused => streamSubmit_refused d hdata refused, fun k l passed hk launch => ⟨fun own => ?_, fun other => ?_⟩⟩
    · obtain ⟨t, done, answered, ctx, bytes, offered, waiting, launched⟩ := streamSubmit_placed d hdata passed own hk launch
      exact ⟨t, _, done, answered, ctx, bytes, offered, waiting, launched, rfl⟩
    · exact streamSubmit_denied d hdata passed other
  case signal =>
    subst hf
    exact fenceSignal_adds d hv
  case wait =>
    have named : x = m.waitStream := hx
    subst named
    refine ⟨fun free level => fenceWait_placed d free level, fun free level => ?_, fun taken => ?_⟩
    · exact fenceWait_refused d (State.fenceWait_of_classE _ m (streamFree_executing.trans free) (classE_executing.trans level))
    · exact fenceWait_refused d (State.fenceWait_of_taken _ m (streamFree_executing.trans taken))

end Sys2Proof.Machine
end

section
/-!
PROOF. O30 and O31: the words of the gleaner instructions (R245, R246). A word's fields read back what the encoder put there, and with them the
decoder takes the branch of the instruction's OP and its FN or SUB.
-/
namespace Sys2Proof

/-! ## The fields of a word -/

section
variable {op x y z fn : Nat}

theorem wordR_toNat (hop : op < 64) (hx : x < 32) (hy : y < 32) (hz : z < 32) (hfn : fn < 2048) :
    (wordR op x y z fn).toNat = op * 2 ^ 26 + x * 2 ^ 21 + y * 2 ^ 16 + z * 2 ^ 11 + fn := by
  rw [wordR, BitVec.toNat_ofNat]
  omega

variable (hop : op < 64) (hx : x < 32) (hy : y < 32) (hz : z < 32) (hfn : fn < 2048)
include hop hx hy hz hfn

@[simp] theorem bits_wordR_op : bits (wordR op x y z fn).toNat 26 6 = op := by
  rw [wordR_toNat hop hx hy hz hfn, bits]
  omega

@[simp] theorem bits_wordR_fn : bits (wordR op x y z fn).toNat 0 11 = fn := by
  rw [wordR_toNat hop hx hy hz hfn, bits]
  omega

@[simp] theorem gReg_wordR_rd : gReg (wordR op x y z fn).toNat 21 = Fin.ofNat 32 x := by
  rw [wordR_toNat hop hx hy hz hfn, gReg, bits]
  congr 1
  omega

@[simp] theorem gReg_wordR_ra : gReg (wordR op x y z fn).toNat 16 = Fin.ofNat 32 y := by
  rw [wordR_toNat hop hx hy hz hfn, gReg, bits]
  congr 1
  omega

@[simp] theorem gReg_wordR_rb : gReg (wordR op x y z fn).toNat 11 = Fin.ofNat 32 z := by
  rw [wordR_toNat hop hx hy hz hfn, gReg, bits]
  congr 1
  omega

end

section
variable {op x y : Nat} (imm : BitVec 16)

theorem wordI_toNat (hop : op < 64) (hx : x < 32) (hy : y < 32) :
    (wordI op x y imm).toNat = op * 2 ^ 26 + x * 2 ^ 21 + y * 2 ^ 16 + imm.toNat := by
  rw [wordI, BitVec.toNat_ofNat]
  omega

variable (hop : op < 64) (hx : x < 32) (hy : y < 32)
include hop hx hy

@[simp] theorem bits_wordI_op : bits (wordI op x y imm).toNat 26 6 = op := by
  rw [wordI_toNat imm hop hx hy, bits]
  omega

@[simp] theorem gReg_wordI_x : gReg (wordI op x y imm).toNat 21 = Fin.ofNat 32 x := by
  rw [wordI_toNat imm hop hx hy, gReg, bits]
  congr 1
  omega

@[simp] theorem gReg_wordI_y : gReg (wordI op x y imm).toNat 16 = Fin.ofNat 32 y := by
  rw [wordI_toNat imm hop hx hy, gReg, bits]
  congr 1
  omega

/-- The field HW of class U is the upper part of the second five-bit field. -/
@[simp] theorem bits_wordI_hw : bits (wordI op x y imm).toNat 19 2 = y / 8 := by
  rw [wordI_toNat imm hop hx hy, bits]
  omega

@[simp] theorem ofNat_bits_wordI_imm : BitVec.ofNat 16 (bits (wordI op x y imm).toNat 0 16) = imm := by
  apply BitVec.eq_of_toNat_eq
  rw [wordI_toNat imm hop hx hy, bits, BitVec.toNat_ofNat]
  omega

end

section
variable {op : Nat} (off : BitVec 26)

theorem wordJ_toNat (hop : op < 64) : (wordJ op off).toNat = op * 2 ^ 26 + off.toNat := by
  rw [wordJ, BitVec.toNat_ofNat]
  omega

variable (hop : op < 64)
include hop

@[simp] theorem bits_wordJ_op : bits (wordJ op off).toNat 26 6 = op := by
  rw [wordJ_toNat off hop, bits]
  omega

@[simp] theorem ofNat_bits_wordJ_off : BitVec.ofNat 26 (bits (wordJ op off).toNat 0 26) = off := by
  apply BitVec.eq_of_toNat_eq
  rw [wordJ_toNat off hop, bits, BitVec.toNat_ofNat]
  omega

end

/-! ## The decoder on the classes of words -/

section
variable {op x y z fn : Nat} (k : CoreId)

/-- A word of class R is decoded by its FN. -/
theorem gleanDecode_wordR (hop : op ∈ [0, 1, 28, 29, 30, 31, 40]) (hx : x < 32) (hy : y < 32) (hz : z < 32) (hfn : fn < 2048) :
    gleanDecode k (wordR op x y z fn) = decodeR k (wordR op x y z fn).toNat := by
  have bound : op < 64 := (by decide : ∀ n ∈ [0, 1, 28, 29, 30, 31, 40], n < 64) op hop
  have field := bits_wordR_op bound hx hy hz hfn
  fin_cases hop <;> simp only [gleanDecode, field]

/-- A word of class S is decoded by its SUB. -/
theorem gleanDecode_wordS (hx : x < 32) (hy : y < 32) (hz : z < 32) (hfn : fn < 2048) :
    gleanDecode k (wordR 48 x y z fn) = decodeS k (wordR 48 x y z fn).toNat := by
  simp only [gleanDecode, bits_wordR_op (by decide : 48 < 64) hx hy hz hfn]

end

/-- Settles O30, by the instruction: its class gives the branch of the decoder, and the fields of its word give back its operands. -/
theorem gleanRoundTrip : Obligations.GleanRoundTrip := by
  intro i k w h
  cases i
  all_goals simp only [gleanEncode, reduceCtorEq, Option.some.injEq, Prod.mk.injEq] at h
  all_goals obtain ⟨rfl, rfl⟩ := h
  -- Class U: the half-word number stands in the upper part of the second field.
  case movk k rd hw imm =>
    have hy : 8 * hw.val < 32 := by omega
    simp [gleanDecode, hy]
  -- Class S: a V instruction has its declared bit in SUB.
  case wall k d rd | frd k d rd ra | temp k d rd | lstat k d rd ra | mon k d rd ra | ent k d rd rb =>
    cases d <;> simp [gleanDecode_wordS, decodeS, subV]
  case halt | waitc | waitt | tick | cyc | core | qrd | qwr | qclose | qpkt | qtag | rrd | rwr | own | ownr | chain | fsig =>
    simp [gleanDecode_wordS, decodeS]
  -- Class R.
  case add | sub | and | or | xor | shl | shr | sar | slt | sltu | min | max | popc | clz | mul | mulh | mulhu | div | divu | rem | remu
      | jr | cadd16 | cadd32 | cswapw | cswapd =>
    simp [gleanDecode_wordR, decodeR]
  -- Classes I, M, B and J.
  all_goals simp [gleanDecode]

/-- Settles O31: each word is the encoding of the instruction it decodes to, and OP 0x2F is reserved. -/
theorem gleanWords : Obligations.GleanWords := by
  intro k
  have decodes := gleanRoundTrip
  exact ⟨decodes _ k _ rfl, decodes _ k _ rfl, decodes _ k _ rfl, decodes _ k _ rfl, decodes _ k _ rfl, decodes _ k _ rfl,
    decodes _ k _ rfl, decodes _ k _ rfl, decodes _ k _ rfl, decodes _ k _ rfl, rfl⟩

end Sys2Proof
end

section
/-!
PROOF. How a gleaner instruction issues, what a result in a general register reads back as, and what going on leaves (R239–R241).
-/
namespace Sys2Proof.Machine

theorem bits_lt (x lo n : Nat) : bits x lo n < 2 ^ n := Nat.mod_lt _ (Nat.two_pow_pos n)

/-! ## Poison bits of the general registers -/

theorem bits_one_eq_testBit (x j : Nat) : bits x j 1 = (x.testBit j).toNat := by
  rw [bits, Nat.pow_one, Nat.testBit_eq_decide_div_mod_eq]
  have := Nat.mod_two_eq_zero_or_one (x / 2 ^ j)
  obtain e | e := this <;> simp [e]

theorem testBit_putBits_bit (x k j : Nat) (b : Bool) :
    (putBits x k 1 (if b then 1 else 0)).testBit j = if j = k then b else x.testBit j := by
  have field : ∀ y, y.testBit j = decide (bits y j 1 = 1) := fun y => by rw [bits_one_eq_testBit]; cases y.testBit j <;> rfl
  rw [field, field]
  obtain below | rfl | above := Nat.lt_trichotomy j k
  · rw [bits_putBits_below _ _ _ _ _ _ below, if_neg (Nat.ne_of_lt below)]
  · rw [bits_putBits_same, if_pos rfl]
    cases b <;> rfl
  · rw [bits_putBits_above _ _ _ _ _ _ above, if_neg (Nat.ne_of_gt above)]

/-- A poison bit reads back what was put there, and the others keep theirs. -/
theorem getLsbD_setBit32 (v : BitVec 32) (k j : GReg) (b : Bool) : (setBit32 v k.val b).getLsbD j.val = if j = k then b else v.getLsbD j.val := by
  rw [setBit32, BitVec.getLsbD_ofNat, testBit_putBits_bit, decide_eq_true j.isLt, Bool.true_and]
  exact if_congr Fin.ext_iff.symm rfl rfl

/-! ## General registers -/

section
variable {s t u : State} {k : CoreId} {c lat : Nat} {rd : GReg} {v : Word} {p : Bool} {f : Fld} {i w : Nat} {x : CoreState}

theorem SameG.refl (s : State) (k : CoreId) : SameG s s k := fun _ => ⟨rfl, rfl⟩

theorem SameG.setFld (h : SameG s t k) : SameG s (t.setFld f i w) k := h
theorem SameG.setReg {r : Reg} (h : SameG s t k) : SameG s (t.setReg r i v) k := h

/-- A core changed but for its general registers. -/
theorem SameG.setCore (h : SameG s t k) (values : x.g = (t.core k.ix).g := by rfl) (tags : x.poison = (t.core k.ix).poison := by rfl) :
    SameG s (t.setCore k.ix x) k := by
  intro r
  rw [← (h r).1, ← (h r).2]
  simp only [State.g, State.gp, State.core_setCore, if_true, values, tags, and_self]

theorem SameG.next {pc cost : Nat} (h : SameG s t k) : SameG s (t.next k.ix c pc cost) k := h.setCore.setFld

theorem SameG.advance (h : SameG s t k) : SameG s (t.advance k.ix c) k := h.next

/-- The core behind an instruction has another first cycle of issue, and else is as it was. -/
theorem State.core_next (s : State) (n c pc cost : Nat) : (s.next n c pc cost).core n = { s.core n with free := s.logical c + cost } := by
  rw [State.next, State.setFld_get_core, State.core_setCore, if_pos rfl]

theorem State.setG_zero (n : Nat) : s.setG n c 0 v p lat = s := if_pos rfl

/-- A register other than g0 takes the value, the poison bit and the latency; the other registers keep theirs. -/
theorem State.core_setG (n : Nat) (hr : rd ≠ 0) :
    ((s.setG n c rd v p lat).core n).g = sput 0 (s.core n).g rd.val v ∧
    ((s.setG n c rd v p lat).core n).poison = setBit32 (s.core n).poison rd.val p ∧
    ((s.setG n c rd v p lat).core n).ready = sput 0 (s.core n).ready rd.val (s.logical c + lat) := by
  rw [State.setG, if_neg hr]
  simp only [State.core_setCore, if_true, and_self]

theorem State.g_setG (n : Nat) (r : GReg) (hr : rd ≠ 0) : (s.setG n c rd v p lat).g n r = if r = rd then v else s.g n r := by
  obtain ⟨values, -, -⟩ := s.core_setG (c := c) (v := v) (p := p) (lat := lat) n hr
  rw [State.g, values, sget_sput, State.g]
  by_cases h0 : r = 0
  · rw [if_pos h0, if_neg (h0 ▸ hr.symm), if_pos h0]
  · rw [if_neg h0, if_neg h0]
    exact if_congr Fin.ext_iff.symm rfl rfl

theorem State.gp_setG (n : Nat) (r : GReg) (hr : rd ≠ 0) : (s.setG n c rd v p lat).gp n r = if r = rd then p else s.gp n r := by
  obtain ⟨-, tags, -⟩ := s.core_setG (c := c) (v := v) (p := p) (lat := lat) n hr
  rw [State.gp, tags, getLsbD_setBit32, State.gp]
  by_cases h : r = rd
  · rw [if_pos h, if_pos h, h, bne_iff_ne.mpr hr, Bool.true_and]
  · rw [if_neg h, if_neg h]

theorem State.logical_setG (n : Nat) : (s.setG n c rd v p lat).logical c = s.logical c := by
  unfold State.setG
  split <;> rfl

/-- A result put into a register of a core whose registers were as before. -/
theorem Result.setG (h : SameG s u k) (now : u.logical c = s.logical c) : Result s (u.setG k.ix c rd v p lat) k c rd v p lat where
  value hr := by
    obtain ⟨-, -, ready⟩ := u.core_setG (c := c) (v := v) (p := p) (lat := lat) k.ix hr
    refine ⟨?_, ?_, ?_⟩
    · rw [State.g_setG _ _ hr, if_pos rfl]
    · rw [State.gp_setG _ _ hr, if_pos rfl]
    · rw [ready, sget_sput_same, now]
  zero := ⟨rfl, rfl⟩
  others r hr := by
    by_cases h0 : rd = 0
    · rw [h0, State.setG_zero]
      exact h r
    · rw [State.g_setG _ _ h0, if_neg hr, State.gp_setG _ _ h0, if_neg hr]
      exact h r

theorem Result.setFld (h : Result s t k c rd v p lat) : Result s (t.setFld f i w) k c rd v p lat := ⟨h.value, h.zero, h.others⟩

/-- A result stays when the core changes but for its general registers. -/
theorem Result.setCore (h : Result s t k c rd v p lat) (values : x.g = (t.core k.ix).g := by rfl)
    (tags : x.poison = (t.core k.ix).poison := by rfl) (ready : x.ready = (t.core k.ix).ready := by rfl) :
    Result s (t.setCore k.ix x) k c rd v p lat := by
  have same : SameG t (t.setCore k.ix x) k := (SameG.refl t k).setCore values tags
  refine ⟨fun hr => ?_, ⟨rfl, rfl⟩, fun r hr => ?_⟩
  · obtain ⟨value, tag, at_⟩ := h.value hr
    rw [(same rd).1, (same rd).2, State.core_setCore, if_pos rfl, ready]
    exact ⟨value, tag, at_⟩
  · rw [(same r).1, (same r).2]
    exact h.others r hr

theorem Result.advance (h : Result s t k c rd v p lat) : Result s (t.advance k.ix c) k c rd v p lat := h.setCore.setFld

end

/-! ## Reading a core beside its status register -/

section
variable (s : State) (f : Fld) (i v n : Nat)

@[simp] theorem State.g_setFld (r : GReg) : (s.setFld f i v).g n r = s.g n r := rfl
@[simp] theorem State.gp_setFld (r : GReg) : (s.setFld f i v).gp n r = s.gp n r := rfl
@[simp] theorem State.anyPoison_setFld (l : List GReg) : (s.setFld f i v).anyPoison n l = s.anyPoison n l := rfl
@[simp] theorem State.tau_setFld (c : Nat) : (s.setFld f i v).tau c = s.tau c := rfl
@[simp] theorem State.logical_setFld (c : Nat) : (s.setFld f i v).logical c = s.logical c := rfl

theorem State.pc_lt : s.pc n < 2 ^ 14 := bits_lt _ _ _

/-- A setting of PC reads back and leaves STATE alone. -/
theorem State.pc_setPc : (s.setFld F.stkCoreStatusPc i v).pc i = v % 2 ^ 14 := by
  rw [State.pc, State.fld_setFld_same _ _ _ _ (by decide)]

theorem State.state_setPc : (s.setFld F.stkCoreStatusPc i v).fld F.stkCoreStatusState i = s.fld F.stkCoreStatusState i :=
  s.fld_setFld_beside F.stkCoreStatusPc F.stkCoreStatusState i v rfl (by decide) (.inl (by decide))

/-- A setting of STATE leaves PC alone. -/
theorem State.pc_setState : (s.setFld F.stkCoreStatusState i v).pc i = s.pc i :=
  s.fld_setFld_beside F.stkCoreStatusState F.stkCoreStatusPc i v rfl (by decide) (.inr (by decide))

end

/-! ## Going on -/

/-- Nothing but a core and its status register has changed. -/
structure CoreOnly (s t : State) (k : CoreId) : Prop where
  rest : t = { s with regs := t.regs, cores := t.cores }
  regs : SameRegsBut s t .stkCoreStatus k.ix
  cores : ∀ n, n ≠ k.ix → t.core n = s.core n

section
variable {s t u : State} {k : CoreId} {c lat pc : Nat} {rd : GReg} {v : Word} {p : Bool} {x : CoreState}

theorem CoreOnly.refl (s : State) (k : CoreId) : CoreOnly s s k := ⟨rfl, fun _ _ _ => rfl, fun _ _ => rfl⟩

theorem CoreOnly.setCore (h : CoreOnly s t k) : CoreOnly s (t.setCore k.ix x) k where
  rest := congrArg (fun y : State => { y with cores := (t.setCore k.ix x).cores }) h.rest
  regs := h.regs
  cores n hn := ((t.core_setCore k.ix n x).trans (if_neg hn)).trans (h.cores n hn)

theorem CoreOnly.setG (h : CoreOnly s t k) : CoreOnly s (t.setG k.ix c rd v p lat) k := by
  unfold State.setG
  split
  · exact h
  · exact h.setCore

theorem CoreOnly.setStatus (h : CoreOnly s t k) {f : Fld} (hf : f.reg = .stkCoreStatus) (w : Nat) : CoreOnly s (t.setFld f k.ix w) k where
  rest := congrArg (fun y : State => { y with regs := (t.setFld f k.ix w).regs }) h.rest
  regs q j hq := (t.reg_setFld_other f w (hf ▸ hq)).trans (h.regs q j hq)
  cores := h.cores

theorem GoesOn.coreOnly (h : GoesOn s t k pc) : CoreOnly s t k := ⟨h.rest, h.regs, h.cores⟩

theorem CoreOnly.goesOn (h : CoreOnly s t k) (at_ : t.pc k.ix = pc % 2 ^ 14) (state : t.fld F.stkCoreStatusState k.ix = 1) :
    GoesOn s t k pc := ⟨at_, state, h.rest, h.regs, h.cores⟩

theorem GoesOn.setCore (h : GoesOn s t k pc) : GoesOn s (t.setCore k.ix x) k pc := h.coreOnly.setCore.goesOn h.pc h.state

theorem GoesOn.setG (h : GoesOn s t k pc) : GoesOn s (t.setG k.ix c rd v p lat) k pc := by
  unfold State.setG
  split
  · exact h
  · exact h.setCore

theorem GoesOn.next (h : GoesOn s t k pc) (pc' cost : Nat) : GoesOn s (t.next k.ix c pc' cost) k pc' :=
  (h.coreOnly.setCore.setStatus rfl pc').goesOn (State.pc_setPc _ _ _) ((State.state_setPc _ _ _).trans h.state)

/-- The core goes on behind an instruction. -/
theorem GoesOn.advance (h : GoesOn s t k (s.pc k.ix)) : GoesOn s (t.advance k.ix c) k (s.pc k.ix + 1) := by
  have pc : t.pc k.ix = s.pc k.ix := h.pc.trans (Nat.mod_eq_of_lt (s.pc_lt _))
  rw [State.advance, pc]
  exact h.next _ _

end

/-! ## Issue -/

/-- The state in which an instruction of a core does its work: STATE of the core reads RUN. -/
def State.issued (s : State) (n : Nat) : State := s.setFld F.stkCoreStatusState n 1

section
variable {s : State} {k : CoreId} {c : Nat} {srcs : List GReg} {divides : Bool} (f : Nat → State → State)

theorem State.upTo_cyc (s : State) : s.upTo s.cyc = s := by
  rw [State.upTo, Nat.max_self]

theorem State.pc_issued (s : State) (k : CoreId) : (s.issued k.ix).pc k.ix = s.pc k.ix := s.pc_setState _ _

theorem State.issued_goesOn (s : State) (k : CoreId) : GoesOn s (s.issued k.ix) k (s.pc k.ix) :=
  ((CoreOnly.refl s k).setStatus rfl 1).goesOn ((s.pc_issued k).trans (Nat.mod_eq_of_lt (s.pc_lt _)).symm) (by
    rw [State.fld_setFld_same _ _ _ _ (by decide)]
    rfl)

/-- An instruction that issues does its work in the present cycle (R241, R244, R260). -/
theorem Issues.issue (h : Issues s k c srcs divides) : s.issue k srcs divides f = f c (s.issued k.ix) := by
  have cyc : s.issueAt k.ix c srcs divides - s.tau c * 1024 = s.cyc := by rw [h.now, State.logical]; omega
  have inTick : ¬ (1024 : Int) ≤ (s.cyc : Int) := by have := h.inTick; omega
  have sound : (s.issued k.ix).poisoned (imemAt k.ix ((s.issued k.ix).pc k.ix)) 4 = false := by
    rw [s.pc_issued, State.issued, State.setFld_get_poisoned, h.sound]
  have word : (gleanDecode k (BitVec.ofNat 32 ((s.issued k.ix).rdNat (imemAt k.ix ((s.issued k.ix).pc k.ix)) 4))).isNone = false := by
    rw [s.pc_issued, State.issued, State.setFld_get_rdNat, ← Option.not_isSome, h.word, Bool.not_true]
  rw [State.issued] at sound word ⊢
  simp only [State.issue, h.serves, cyc, Int.toNat_natCast, s.upTo_cyc, h.runs, h.moves, inTick, sound, word, Bool.not_true, Bool.or_self, or_self,
    Bool.false_eq_true, if_false]

/-- One whose registers carry no poison where they must not (R259). -/
theorem Issues.issueClean {clean : List GReg} (h : Issues s k c srcs false) (hp : s.anyPoison k.ix clean = false) :
    s.issueClean k srcs clean f = f c (s.issued k.ix) := by
  rw [State.issueClean, h.issue, State.issued, State.anyPoison_setFld, hp, if_neg Bool.false_ne_true]

end

end Sys2Proof.Machine
end

section
/-!
PROOF. O20, O21 and O22: the arithmetic instructions of the gleaner cores and the readers of time and identity (R246–R248).
-/
namespace Sys2Proof.Machine

/-! ## An instruction with one result -/

section
variable {s : State} {k : CoreId} {c lat : Nat} {srcs : List GReg} {rd ra rb : GReg}

theorem State.logical_issued (s : State) (n c : Nat) : (s.issued n).logical c = s.logical c := s.logical_setFld _ _ _ c
theorem State.g_issued (s : State) (n : Nat) (r : GReg) : (s.issued n).g n r = s.g n r := s.g_setFld _ _ _ n r
theorem State.anyPoison_issued (s : State) (n : Nat) (l : List GReg) : (s.issued n).anyPoison n l = s.anyPoison n l := s.anyPoison_setFld _ _ _ n l
theorem State.tau_issued (s : State) (n c : Nat) : (s.issued n).tau c = s.tau c := s.tau_setFld _ _ _ c
theorem State.cyc_issued (s : State) (n : Nat) : (s.issued n).cyc = s.cyc := s.setFld_cyc _ _ _
theorem State.core_issued (s : State) (n m : Nat) : (s.issued n).core m = s.core m := s.setFld_get_core _ _ _ m
theorem State.sameG_issued (s : State) (k : CoreId) : SameG s (s.issued k.ix) k := (SameG.refl s k).setFld

theorem State.anyPoison_one (s : State) (n : Nat) (r : GReg) : s.anyPoison n [r] = s.gp n r := by simp [State.anyPoison]
theorem State.anyPoison_two (s : State) (n : Nat) (r q : GReg) : s.anyPoison n [r, q] = (s.gp n r || s.gp n q) := by simp [State.anyPoison]

/-- An instruction that puts one result and goes on leaves that result, and nothing else has changed. -/
theorem State.issued_result (s : State) (k : CoreId) (c lat : Nat) (rd : GReg) (v : Word) (p : Bool) :
    GoesOn s (((s.issued k.ix).setG k.ix c rd v p lat).advance k.ix c) k (s.pc k.ix + 1) ∧
    Result s (((s.issued k.ix).setG k.ix c rd v p lat).advance k.ix c) k c rd v p lat :=
  ⟨(s.issued_goesOn k).setG.advance, (Result.setG (s.sameG_issued k) (s.logical_issued _ c)).advance⟩

/-- What an instruction with one result leaves when it issues (R246, R259). -/
theorem Issues.result (h : Issues s k c srcs false) {i : Instr} {v : Nat → State → Word} {p : State → Bool}
    (run : exec i s = .next (s.issue k srcs false fun c s => (s.setG k.ix c rd (v c s) (p s) lat).advance k.ix c)) :
    ∃ t, Completes i s t ∧ GoesOn s t k (s.pc k.ix + 1) ∧ Result s t k c rd (v c (s.issued k.ix)) (p (s.issued k.ix)) lat := by
  rw [h.issue] at run
  exact ⟨_, run, s.issued_result k c lat rd _ _⟩

theorem Issues.alu1 (h : Issues s k c [ra] false) {i : Instr} {f : Word → Word} (run : exec i s = .next (s.alu1 k rd ra f)) :
    ∃ t, Completes i s t ∧ GoesOn s t k (s.pc k.ix + 1) ∧ Result s t k c rd (f (s.g k.ix ra)) (s.gp k.ix ra) 1 := by
  have left := h.result (v := fun _ s => f (s.g k.ix ra)) (p := fun s => s.anyPoison k.ix [ra]) run
  rwa [s.g_issued, s.anyPoison_issued, s.anyPoison_one] at left

theorem Issues.alu2 (h : Issues s k c [ra, rb] false) {i : Instr} {f : Word → Word → Word} (run : exec i s = .next (s.alu2 k rd ra rb lat f)) :
    ∃ t, Completes i s t ∧ GoesOn s t k (s.pc k.ix + 1) ∧
      Result s t k c rd (f (s.g k.ix ra) (s.g k.ix rb)) (s.gp k.ix ra || s.gp k.ix rb) lat := by
  have left := h.result (v := fun _ s => f (s.g k.ix ra) (s.g k.ix rb)) (p := fun s => s.anyPoison k.ix [ra, rb]) run
  rwa [s.g_issued, s.g_issued, s.anyPoison_issued, s.anyPoison_two] at left

/-- A divide holds the divider for its 34 cycles (R247). -/
theorem Issues.divide (h : Issues s k c [ra, rb] true) {i : Instr} {f : Word → Word → Word} (run : exec i s = .next (s.divide k rd ra rb f)) :
    ∃ t, Completes i s t ∧ GoesOn s t k (s.pc k.ix + 1) ∧
      Result s t k c rd (f (s.g k.ix ra) (s.g k.ix rb)) (s.gp k.ix ra || s.gp k.ix rb) 34 ∧
      ∀ srcs, s.logical c + 34 ≤ t.issueAt k.ix c srcs true := by
  rw [State.divide, h.issue] at run
  dsimp only at run
  rw [s.g_issued, s.g_issued, s.anyPoison_issued, s.anyPoison_two] at run
  refine ⟨_, run, ((s.issued_goesOn k).setG.setCore).advance,
    ((Result.setG (s.sameG_issued k) (s.logical_issued _ c)).setCore).advance, fun srcs => le_trans (le_of_eq ?_) (le_max_right _ _)⟩
  rw [State.advance, State.core_next, State.core_setCore, if_pos rfl, State.logical_setG, s.logical_issued]

end

/-! ## What the instructions compute -/

theorem wordOf_slt (a b : Word) : wordOf (a.slt b) = if a.toInt < b.toInt then 1 else 0 := by simp [wordOf, BitVec.slt]
theorem wordOf_ult (a b : Word) : wordOf (a.ult b) = if a.toNat < b.toNat then 1 else 0 := by simp [wordOf, BitVec.ult]
theorem ite_slt (a b x y : Word) : (if a.slt b then x else y) = if a.toInt < b.toInt then x else y := by simp [BitVec.slt]

theorem toInt_immS (v : BitVec 16) : (immS v).toInt = v.toInt := BitVec.toInt_signExtend_of_le (by decide)

/-- The leading zeros of a word end above its highest bit that is set. -/
theorem leadingZeros_spec (v : Word) : ∃ n, leadingZeros v = BitVec.ofNat 64 n ∧ n ≤ 64 ∧
    (∀ j, 64 - n ≤ j → j < 64 → v.getLsbD j = false) ∧ (n < 64 → v.getLsbD (63 - n) = true) := by
  refine ⟨_, rfl, ?_⟩
  split
  · next m found =>
    obtain ⟨isSet, i, hi, at_, clear⟩ := List.find?_eq_some_iff_getElem.mp found
    simp only [List.length_reverse, List.length_range, List.getElem_reverse, List.getElem_range] at hi at_ clear
    refine ⟨by omega, fun j above hj => ?_, fun _ => ?_⟩
    · have unset := clear (63 - j) (by omega)
      rw [show 64 - 1 - (63 - j) = j by omega] at unset
      simpa using unset
    · rwa [show 63 - (63 - m) = m by omega]
  · next none =>
    refine ⟨Nat.le_refl _, fun j _ hj => ?_, fun h => absurd h (Nat.lt_irrefl _)⟩
    simpa using List.find?_eq_none.mp none j (List.mem_reverse.mpr (List.mem_range.mpr hj))

/-- MOVK replaces one half-word and keeps the others. -/
theorem movk_spec (a : Word) (hw : Fin 4) (v : BitVec 16) :
    bits (BitVec.ofNat 64 (putBits a.toNat (16 * hw.val) 16 v.toNat)).toNat (16 * hw.val) 16 = v.toNat ∧
    ∀ j : Fin 4, j ≠ hw → bits (BitVec.ofNat 64 (putBits a.toNat (16 * hw.val) 16 v.toNat)).toNat (16 * j.val) 16 =
      bits a.toNat (16 * j.val) 16 := by
  rw [BitVec.toNat_ofNat, Nat.mod_eq_of_lt (putBits_lt _ _ _ _ 64 (by omega) a.isLt)]
  refine ⟨by rw [bits_putBits_same, Nat.mod_eq_of_lt v.isLt], fun j hj => ?_⟩
  obtain below | above := Nat.lt_or_gt_of_ne (Fin.val_ne_of_ne hj)
  · exact bits_putBits_below _ _ _ _ _ _ (by omega)
  · exact bits_putBits_above _ _ _ _ _ _ (by omega)

/-! ## The instructions -/

section
variable (k : CoreId) (rd ra rb : GReg) (s : State)

theorem exec_glean2 {x : (CoreId → GReg → GReg → GReg → Instr) × (Word → Word → Word) × Nat} (hx : x ∈ glean2) :
    exec (x.1 k rd ra rb) s = .next (s.alu2 k rd ra rb x.2.2 x.2.1) := by
  have computes : ∀ {f g : Word → Word → Word}, (∀ a b, f a b = g a b) →
      Host.Outcome.next (s.alu2 k rd ra rb 1 f) = (.next (s.alu2 k rd ra rb 1 g) : Out) := fun h => congrArg _ (congrArg _ (funext₂ h))
  simp only [glean2, List.mem_cons, List.not_mem_nil, or_false] at hx
  obtain rfl | rfl | rfl | rfl | rfl | rfl | rfl | rfl | rfl | rfl | rfl | rfl | rfl | rfl | rfl := hx
  exacts [rfl, rfl, rfl, rfl, rfl, rfl, rfl, rfl, computes wordOf_slt, computes wordOf_ult, computes fun a b => ite_slt a b a b,
    computes fun a b => ite_slt a b b a, rfl, rfl, rfl]

theorem exec_gleanDiv {x : (CoreId → GReg → GReg → GReg → Instr) × (Word → Word → Word)} (hx : x ∈ gleanDiv) :
    exec (x.1 k rd ra rb) s = .next (s.divide k rd ra rb x.2) := by
  simp only [gleanDiv, List.mem_cons, List.not_mem_nil, or_false] at hx
  obtain rfl | rfl | rfl | rfl := hx <;> rfl

theorem exec_gleanImm {x : (CoreId → GReg → GReg → BitVec 16 → Instr) × (Word → BitVec 16 → Word)} (hx : x ∈ gleanImm) (v : BitVec 16) :
    exec (x.1 k rd ra v) s = .next (s.alu1 k rd ra fun a => x.2 a v) := by
  have computes : ∀ {f g : Word → Word}, (∀ a, f a = g a) → Host.Outcome.next (s.alu1 k rd ra f) = (.next (s.alu1 k rd ra g) : Out) :=
    fun h => congrArg _ (congrArg _ (funext h))
  simp only [gleanImm, List.mem_cons, List.not_mem_nil, or_false] at hx
  obtain rfl | rfl | rfl | rfl | rfl | rfl | rfl | rfl | rfl := hx
  exacts [rfl, rfl, rfl, rfl, computes fun a => by rw [wordOf_slt, toInt_immS], computes fun a => wordOf_ult a _, rfl, rfl, rfl]

end

/-- Settles O20: each of the instructions is one result of two registers. -/
theorem gleanArithmetic : Obligations.GleanArithmetic :=
  fun _ hx k rd ra rb _ s h => h.alu2 (exec_glean2 k rd ra rb s hx)

/-- Settles O21: each divide is one result of two registers, and the divider is busy behind it. -/
theorem gleanDivides : Obligations.GleanDivides :=
  fun _ hx k rd ra rb _ s h => h.divide (exec_gleanDiv k rd ra rb s hx)

/-- Settles O22: each of the instructions is one result of one register or of none. -/
theorem gleanOneSource : Obligations.GleanOneSource := by
  intro k rd ra c s
  refine ⟨fun h => ⟨fun x hx v => h.alu1 (exec_gleanImm k rd ra s hx v), h.alu1 (f := popCount) rfl, ?clz⟩, fun h hw v => ?movk,
    fun h => ⟨?tick, ?cyc, ?core, ?qtag⟩⟩
  case clz =>
    obtain ⟨n, value, bound, clear, top⟩ := leadingZeros_spec (s.g k.ix ra)
    obtain ⟨t, done, goes, result⟩ := h.alu1 (rd := rd) (f := leadingZeros) (i := .clz k rd ra) rfl
    exact ⟨t, n, done, goes, value ▸ result, bound, clear, top⟩
  case movk =>
    obtain ⟨t, done, goes, result⟩ := h.alu1 (rd := rd) (i := .movk k rd hw v) rfl
    obtain ⟨put, kept⟩ := movk_spec (s.g k.ix rd) hw v
    exact ⟨t, _, done, goes, result, put, kept⟩
  case tick =>
    rw [← s.tau_issued k.ix c]
    exact h.result (v := fun c s => BitVec.ofInt 64 (s.tau c)) (p := fun _ => false) rfl
  case cyc =>
    rw [← s.cyc_issued k.ix]
    exact h.result (v := fun _ s => BitVec.ofNat 64 s.cyc) (p := fun _ => false) rfl
  case core =>
    rw [← s.core_issued k.ix k.ix]
    exact h.result (v := fun _ s => BitVec.ofNat 64 (s.core k.ix).ident) (p := fun _ => false) rfl
  case qtag =>
    rw [← s.core_issued k.ix k.ix]
    exact h.result (v := fun _ s => (s.core k.ix).tag.setWidth 64) (p := fun _ => false) rfl

end Sys2Proof.Machine
end

section
/-!
PROOF. The fault of a gleaner core stays readable when its launch goes: the core keeps STATE FAULT and its fault register (R260, R262).
-/
namespace Sys2Proof.Machine

/-- The fault register of a core that stands in FAULT; none of another core. -/
def State.faultShown (s : State) (n : Nat) : Option Word := if s.fld F.stkCoreStatusState n = 3 then some (s.reg .stkCoreFault n) else none

/-! ## Updates of the state -/

section
variable (s : State) (n : Nat)

@[simp] theorem State.faultShown_setReg (r : Reg) (i : Nat) (v : Word) (status : r ≠ .stkCoreStatus) (fault : r ≠ .stkCoreFault) :
    (s.setReg r i v).faultShown n = s.faultShown n := by
  unfold State.faultShown State.fld
  rw [State.reg_setReg_ne _ _ status.symm, State.reg_setReg_ne _ _ fault.symm]

@[simp] theorem State.faultShown_setFld (f : Fld) (i v : Nat) (status : f.reg ≠ .stkCoreStatus) (fault : f.reg ≠ .stkCoreFault) :
    (s.setFld f i v).faultShown n = s.faultShown n := s.faultShown_setReg _ _ _ _ status fault

-- As for `State.beat`, the proofs are `id rfl` so that `simp` leaves a proof term.
@[simp] theorem State.faultShown_wrN (a : Nat) (v : List Byte) : (s.wrN a v).faultShown n = s.faultShown n := id rfl
@[simp] theorem State.faultShown_setEngine (i : Nat) (x : Engine) : (s.setEngine i x).faultShown n = s.faultShown n := id rfl
@[simp] theorem State.faultShown_setLane (i : Nat) (x : LaneState) : (s.setLane i x).faultShown n = s.faultShown n := id rfl
@[simp] theorem State.faultShown_setCore (i : Nat) (x : CoreState) : (s.setCore i x).faultShown n = s.faultShown n := id rfl
@[simp] theorem State.faultShown_setGen (i : Nat) (x : Gen) : (s.setGen i x).faultShown n = s.faultShown n := id rfl
@[simp] theorem State.faultShown_setAcre (i : Nat) (x : Acre) : (s.setAcre i x).faultShown n = s.faultShown n := id rfl
@[simp] theorem State.faultShown_setCtx (i : Nat) (x : Ctx) : (s.setCtx i x).faultShown n = s.faultShown n := id rfl
@[simp] theorem State.faultShown_setStream (i : Nat) (x : Stream) : (s.setStream i x).faultShown n = s.faultShown n := id rfl
@[simp] theorem State.faultShown_setChan (i : Nat) (x : Chan) : (s.setChan i x).faultShown n = s.faultShown n := id rfl
@[simp] theorem State.faultShown_dropSlots (c : Nat) : (s.dropSlots c).faultShown n = s.faultShown n := id rfl
@[simp] theorem State.faultShown_acted (c : Nat) : (s.acted c).faultShown n = s.faultShown n := id rfl
@[simp] theorem State.faultShown_capNext (m : Sparse Nat) : { s with capNext := m }.faultShown n = s.faultShown n := id rfl
@[simp] theorem State.faultShown_draw : s.draw.2.faultShown n = s.faultShown n := id rfl
@[simp] theorem State.faultShown_reportAt (code die acre stook unit index row : Nat) (c : Option Nat) :
    (s.reportAt code die acre stook unit index row c).faultShown n = s.faultShown n := id rfl

@[simp] theorem State.faultShown_cart (c : Option Nat) (channel m : Nat) (a b : Spot) :
    (s.cart c channel m a b).faultShown n = s.faultShown n := by
  rw [s.cart_onlyCarts c channel m a b]
  rfl

@[simp] theorem State.faultShown_ite (p : Prop) [Decidable p] (t : State) :
    (if p then s else t).faultShown n = if p then s.faultShown n else t.faultShown n := apply_ite (State.faultShown · n) _ _ _

@[simp] theorem State.faultShown_foldl {α : Type} {f : State → α → State} (l : List α) (h : ∀ u x, (f u x).faultShown n = u.faultShown n) :
    (l.foldl f s).faultShown n = s.faultShown n :=
  List.foldlRecOn (motive := fun u : State => u.faultShown n = s.faultShown n) l f rfl fun u hu x _ => (h u x).trans hu

@[simp] theorem State.faultShown_each {f : State → Nat → State} (l : List Nat) (h : ∀ u x, (f u x).faultShown n = u.faultShown n) :
    (s.each l f).faultShown n = s.faultShown n := s.faultShown_foldl n l h

/-- A core given back keeps FAULT (R260): only a core in another state becomes IDLE. -/
theorem State.faultShown_giveBack (i : Nat) :
    (s.setFld F.stkCoreStatusState i (if s.fld F.stkCoreStatusState i = 3 then 3 else 0)).faultShown n = s.faultShown n := by
  have fault : ∀ v, (s.setFld F.stkCoreStatusState i v).reg .stkCoreFault n = s.reg .stkCoreFault n :=
    fun v => State.reg_setFld_ne _ _ (by decide)
  have here : ∀ v, (s.setFld F.stkCoreStatusState i v).fld F.stkCoreStatusState i = v % 2 ^ F.stkCoreStatusState.w :=
    fun v => State.fld_setFld_same _ _ _ _ (by decide)
  unfold State.faultShown
  rw [fault]
  by_cases hn : n = i
  · rw [hn, here]
    by_cases stopped : s.fld F.stkCoreStatusState i = 3
    · rw [if_pos stopped, if_pos stopped, if_pos (by decide)]
    · rw [if_neg stopped, if_neg stopped, if_neg (by decide)]
  · rw [State.fld_setFld_other _ _ _ _ fun e => hn (Reg.key_inj e).2]

@[simp] theorem State.faultShown_giveBack_setCore (i : Nat) (x : CoreState) :
    ((s.setCore i x).setFld F.stkCoreStatusState i (if s.fld F.stkCoreStatusState i = 3 then 3 else 0)).faultShown n = s.faultShown n :=
  (s.setCore i x).faultShown_giveBack n i

end

/-! ## The end of a launch -/

section
variable (s : State) (n : Nat)

@[simp] theorem State.faultShown_modLaunch (c : Nat) (f : Launch → Launch) : (s.modLaunch c f).faultShown n = s.faultShown n := by
  unfold State.modLaunch
  split <;> simp

@[simp] theorem State.faultShown_post (i : Nat) (slot : List Byte) : (s.post i slot).faultShown n = s.faultShown n := by
  unfold State.post
  dsimp only
  split <;> simp [State.resetChan]

@[simp] theorem State.faultShown_endWait (i : Nat) (r : Reply) : (s.endWait i r).faultShown n = s.faultShown n := by
  unfold State.endWait
  split <;> simp [State.respond]

@[simp] theorem State.faultShown_failWaiters (c : Nat) : (s.failWaiters c).faultShown n = s.faultShown n := by simp [State.failWaiters]

@[simp] theorem State.faultShown_dropGrants (a unit : Nat) : (s.dropGrants a unit).faultShown n = s.faultShown n := by
  simp [State.dropGrants, State.countLeave]

@[simp] theorem State.faultShown_handBank (i f t : Nat) : (s.handBank i f t).2.faultShown n = s.faultShown n := by
  unfold State.handBank
  split <;> simp [State.bump, State.raise]

@[simp] theorem State.faultShown_releaseUnits (c : Nat) : (s.releaseUnits c).faultShown n = s.faultShown n := by
  simp [State.releaseUnits]

@[simp] theorem State.faultShown_release (c : Nat) : (s.release c).faultShown n = s.faultShown n := by
  simp [State.release, State.countRes, State.countGran]

@[simp] theorem State.faultShown_closeRecovery (c at_ : Nat) : (s.closeRecovery c at_).faultShown n = s.faultShown n := by
  unfold State.closeRecovery
  split
  · rfl
  · simp [State.wrNat, State.wrap]

@[simp] theorem State.faultShown_faultCtx (c : Nat) : (s.faultCtx c).faultShown n = s.faultShown n := by
  unfold State.faultCtx
  split <;> simp [State.setState]

@[simp] theorem State.faultShown_done (x seq status : Nat) : (s.done x seq status).faultShown n = s.faultShown n := by simp [State.done]

@[simp] theorem State.faultShown_faultStream (c status : Nat) : (s.faultStream c status).faultShown n = s.faultShown n := by
  unfold State.faultStream
  split
  · split <;> simp [State.endLaunchStream, State.endStream]
  · simp

@[simp] theorem State.faultShown_captureRecord (die kind logSeq : Nat) (c : Option Nat) (stream seq entry : Nat) (startTau : Int)
    (startCyc : Nat) (sections : List Section) :
    (s.captureRecord die kind logSeq c stream seq entry startTau startCyc sections).faultShown n = s.faultShown n := by
  simp [State.captureRecord, State.serviceCart, State.bump]

@[simp] theorem State.faultShown_captureCore (k : CoreId) (c : Nat) : (s.captureCore k c).faultShown n = s.faultShown n := by
  unfold State.captureCore
  dsimp only
  split <;> simp

/-- What becomes of the launch leaves the fault of the core as it stopped. -/
theorem State.faultShown_coreFault (k : CoreId) (c cause : Nat) :
    (s.coreFault k c cause).faultShown n = (s.stopCore k.ix c cause).faultShown n := by
  unfold State.coreFault
  dsimp only
  split
  · simp
  · split
    · split <;> simp
    · split <;> simp

end

/-! ## A core that stops -/

section
variable {s t : State} {k : CoreId} {c cause : Nat}

theorem State.stopCore_faulted (s : State) (k : CoreId) (c : Nat) (hc : cause < 16) : Faulted s (s.stopCore k.ix c cause) k cause := by
  have status : ∀ (u : State) (f g : Fld) (v : Nat), f.reg = .stkCoreStatus → g.reg = .stkCoreFault →
      (u.setFld g k.ix v).fld f k.ix = u.fld f k.ix := fun u f g v hf hg => State.fld_setFld_other _ _ _ _ (by
    rw [hf, hg]
    exact fun e => absurd (Reg.key_inj e).1 (by decide))
  unfold State.stopCore
  dsimp only
  refine ⟨?state, ?valid, ?cause, ?fpc⟩
  case state =>
    rw [status _ _ _ _ rfl rfl, status _ _ _ _ rfl rfl, status _ _ _ _ rfl rfl, State.fld_setFld_same _ _ _ _ (by decide)]
    rfl
  case valid =>
    rw [State.fld_setFld_beside _ F.stkCoreFaultCause F.stkCoreFaultValid _ _ rfl (by decide) (.inr (by decide)),
      State.fld_setFld_same _ _ _ _ (by decide)]
    rfl
  case cause =>
    rw [State.fld_setFld_same _ _ _ _ (by decide)]
    exact Nat.mod_eq_of_lt hc
  case fpc =>
    rw [State.fld_setFld_beside _ F.stkCoreFaultCause F.stkCoreFaultFpc _ _ rfl (by decide) (.inr (by decide)),
      State.fld_setFld_beside _ F.stkCoreFaultValid F.stkCoreFaultFpc _ _ rfl (by decide) (.inr (by decide)),
      State.fld_setFld_same _ _ _ _ (by decide)]
    exact (Nat.mod_eq_of_lt (State.pc_lt _ _)).trans ((State.pc_setState _ _ _).trans (State.setCore_get_fld _ _ _ _ _))

theorem Faulted.of_shown {u : State} (h : Faulted s u k cause) (shown : t.faultShown k.ix = u.faultShown k.ix) : Faulted s t k cause := by
  unfold State.faultShown at shown
  rw [if_pos h.state] at shown
  obtain ⟨state, fault⟩ := Option.ite_none_right_eq_some.mp shown
  rw [Option.some.injEq] at fault
  have same : ∀ f : Fld, f.reg = .stkCoreFault → t.fld f k.ix = u.fld f k.ix := fun f hf => by rw [State.fld, hf, fault, State.fld, hf]
  exact ⟨state, (same _ rfl).trans h.valid, (same _ rfl).trans h.cause, (same _ rfl).trans h.fpc⟩

/-- A core that faults shows it, whatever becomes of its launch. -/
theorem State.coreFault_faulted (s : State) (k : CoreId) (c : Nat) (hc : cause < 16) : Faulted s (s.coreFault k c cause) k cause :=
  (s.stopCore_faulted k c hc).of_shown (s.faultShown_coreFault _ k c cause)

end

end Sys2Proof.Machine
end

section
/-!
PROOF. O28: what the gleaner instructions do that reach beyond their core: register pages, owner writes, chain entries and fences
(R216, R249–R251, R368).
-/
namespace Sys2Proof.Machine

/-! ## Behind an instruction -/

section
variable (s : State) (n c : Nat)

theorem State.pc_advance : (s.advance n c).pc n = (s.pc n + 1) % 2 ^ 14 := State.pc_setPc _ _ _

/-- Going on changes no register but the status of the core. -/
theorem State.reg_advance {q : Reg} {j : Nat} (h : q ≠ .stkCoreStatus) : (s.advance n c).reg q j = s.reg q j := State.reg_setFld_ne _ _ h

theorem State.staged_advance : (s.advance n c).staged = s.staged := State.setFld_staged _ _ _ _
theorem State.stook_advance (k : Nat) : (s.advance n c).stook k = s.stook k := State.setFld_get_stook _ _ _ _ _
theorem State.acre_advance (a : Nat) : (s.advance n c).acre a = s.acre a := State.setFld_get_acre _ _ _ _ _

theorem State.logical_setCore (x : CoreState) : (s.setCore n x).logical c = s.logical c := rfl
theorem State.pc_setCore (j : Nat) (x : CoreState) : (s.setCore j x).pc n = s.pc n := rfl
theorem State.pc_issueOwner (a slot : Nat) (k : Option CoreId) (stook bank : Nat) (f t : BitVec 16) :
    (s.issueOwner a slot k stook bank f t).pc n = s.pc n := rfl
theorem State.pc_offer (j addr : Nat) (due : Int) : (s.offer j addr due).pc n = s.pc n := rfl
theorem State.pc_stage (l : List Staged) : { s with staged := l }.pc n = s.pc n := rfl

/-- A core that is held waits where it is. -/
theorem State.state_holdCore (w : Wait) : (s.holdCore n w).fld F.stkCoreStatusState n = 2 := by
  rw [State.holdCore, State.fld_setFld_same _ _ _ _ (by decide)]
  rfl

theorem State.pc_holdCore (w : Wait) : (s.holdCore n w).pc n = s.pc n := State.pc_setState _ _ _
theorem State.acres_holdCore (w : Wait) : (s.holdCore n w).acres = s.acres := State.setFld_acres _ _ _ _
theorem State.stooks_holdCore (w : Wait) : (s.holdCore n w).stooks = s.stooks := State.setFld_stooks _ _ _ _

theorem State.acres_issued : (s.issued n).acres = s.acres := s.setFld_acres _ _ _
theorem State.stooks_issued : (s.issued n).stooks = s.stooks := s.setFld_stooks _ _ _
theorem State.acre_issued (a : Nat) : (s.issued n).acre a = s.acre a := s.setFld_get_acre _ _ _ a
theorem State.stook_issued (k : Nat) : (s.issued n).stook k = s.stook k := s.setFld_get_stook _ _ _ k
theorem State.staged_issued : (s.issued n).staged = s.staged := s.setFld_staged _ _ _
theorem State.reg_issued {q : Reg} {j : Nat} (h : q ≠ .stkCoreStatus) : (s.issued n).reg q j = s.reg q j := State.reg_setFld_ne _ _ h

end

/-! ## Writes of unit pages (R13, R108, R237) -/

section
variable (s : State) (r : Reg) (i : Nat) (v : Word)

/-- Whether a write waits hangs on RUN of the engine and on what the contexts do, on no other register. -/
theorem State.writeWaits_setReg {q : Reg} (h : q ≠ .shfCtrl) (j : Nat) (w : Word) : (s.setReg q j w).writeWaits r i = s.writeWaits r i := by
  unfold State.writeWaits
  dsimp only
  split
  · rw [State.flag, State.fld, State.reg_setReg_ne _ _ h.symm, State.flag, State.fld]
  all_goals rfl

-- `BitVec.and_allOnes` and `BitVec.and_zero` for the literal 0 of the register tables.
theorem and_not_zero (x : Word) : x &&& ~~~0 = x := BitVec.and_allOnes
theorem and_zero_word (x : Word) : x &&& 0 = 0 := BitVec.and_zero

/-- The state with the W1C bits cleared that a write of a unit page names: the first thing that `State.unitWrite` does (R13). -/
def State.cleared : State := if r.w1c = 0 then s else s.setReg r i (s.reg r i &&& ~~~(v &&& r.w1c))

theorem State.reg_cleared : (s.cleared r i v).reg r i = s.reg r i &&& ~~~(v &&& r.w1c) := by
  unfold State.cleared
  split
  · next none => rw [none, and_zero_word, and_not_zero]
  · rw [State.reg_setReg_same]

theorem State.reg_cleared_ne {q : Reg} (h : q ≠ r) (j : Nat) : (s.cleared r i v).reg q j = s.reg q j := by
  unfold State.cleared
  split
  · rfl
  · exact State.reg_setReg_ne _ _ h

theorem State.writeWaits_cleared : (s.cleared r i v).writeWaits r i = s.writeWaits r i := by
  unfold State.cleared
  split
  · rfl
  · next some => exact s.writeWaits_setReg r i (fun e => some (by rw [e]; rfl)) _ _

theorem State.cores_cleared : (s.cleared r i v).cores = s.cores := by
  unfold State.cleared
  split <;> rfl

theorem State.reg_settle : (s.settle r i v).reg r i = (s.reg r i &&& ~~~r.settable) ||| (v &&& r.settable) := by
  unfold State.settle
  dsimp only
  split
  · next ctrl =>
    rw [State.showLanes, State.reg_setFld_ne _ _ (by rw [ctrl]; decide), State.reg_setReg_same]
  · rw [State.reg_setReg_same]

theorem State.reg_settle_status {j : Nat} (h : r ≠ .stkCoreStatus) : (s.settle r i v).reg .stkCoreStatus j = s.reg .stkCoreStatus j := by
  unfold State.settle
  dsimp only
  split
  · rw [State.showLanes, State.reg_setFld_ne _ _ (by decide), State.reg_setReg_ne _ _ h.symm]
  · rw [State.reg_setReg_ne _ _ h.symm]

theorem State.cores_settle : (s.settle r i v).cores = s.cores := by
  unfold State.settle
  dsimp only
  split <;> rfl

variable {r i}

/-- A write of a register other than a core's fault: the W1C bits at once, and then the settable ones. -/
theorem State.unitWrite_cleared (h : r ≠ .stkCoreFault) : s.unitWrite r i v =
    if r.settable = 0 then s.cleared r i v
    else if r.ofGen && (s.cleared r i v).flag F.hrwGenCtrlEn (i / r.copies) then
      { s.cleared r i v with staged := (s.cleared r i v).staged ++ [⟨r, i, v, true⟩] }
    else if s.writeWaits r i then { s.cleared r i v with staged := (s.cleared r i v).staged ++ [⟨r, i, v, false⟩] }
    else (s.cleared r i v).settle r i v := by
  rw [← s.writeWaits_cleared r i v]
  simp only [State.unitWrite, h, false_and, if_false]
  rfl

/-- A write of RW bits alone that waits changes nothing now (R108, R237). -/
theorem State.unitWrite_waits (h : r ≠ .stkCoreFault) (settable : r.settable ≠ 0) (w1c : r.w1c = 0) (gen : r.ofGen = false)
    (waits : s.writeWaits r i = true) : s.unitWrite r i v = { s with staged := s.staged ++ [⟨r, i, v, false⟩] } := by
  have clear : s.cleared r i v = s := if_pos w1c
  rw [s.unitWrite_cleared v h, clear, if_neg settable, gen, Bool.false_and, if_neg Bool.false_ne_true, if_pos waits]

/-- A write that does not wait sets the settable bits and clears the W1C ones, and leaves cores and their status. -/
theorem State.unitWrite_now (h : r ≠ .stkCoreFault) (status : r ≠ .stkCoreStatus)
    (now : r.settable = 0 ∨ r.ofGen = false ∧ s.writeWaits r i = false) :
    (s.unitWrite r i v).reg r i = ((s.reg r i &&& ~~~(v &&& r.w1c) &&& ~~~r.settable) ||| (v &&& r.settable)) ∧
    (∀ j, (s.unitWrite r i v).reg .stkCoreStatus j = s.reg .stkCoreStatus j) ∧ (s.unitWrite r i v).cores = s.cores := by
  rw [s.unitWrite_cleared v h]
  split
  · next none =>
    rw [none, s.reg_cleared, s.cores_cleared]
    refine ⟨?_, fun j => s.reg_cleared_ne r i v status.symm j, rfl⟩
    rw [and_zero_word, and_not_zero]
    exact BitVec.or_zero.symm
  · next some =>
    obtain ⟨gen, waits⟩ := now.resolve_left some
    rw [gen, Bool.false_and, if_neg Bool.false_ne_true, waits, if_neg Bool.false_ne_true]
    refine ⟨by rw [State.reg_settle, s.reg_cleared], fun j => ?_, ((s.cleared r i v).cores_settle r i v).trans (s.cores_cleared r i v)⟩
    rw [State.reg_settle_status _ _ _ _ status, s.reg_cleared_ne r i v status.symm]

end

/-! ## The instructions -/

section
variable {s : State} {k : CoreId} {c : Nat} {rd ra rb : GReg}

/-- Page addresses above ACR_ are reserved (R249). -/
theorem pageOf_reserved (n : Nat) {p : Nat} (h : 11 ≤ p) : pageOf n p = none := by
  rw [pageOf, if_neg (by omega), if_neg (by omega), if_neg (by omega), if_neg (by omega)]

theorem SameG.setAcre {t : State} (h : SameG s t k) (a : Nat) (x : Acre) : SameG s (t.setAcre a x) k := h
theorem SameG.setStook {t : State} (h : SameG s t k) (j : Nat) (x : Stook) : SameG s (t.setStook j x) k := h
theorem SameG.stage {t : State} (h : SameG s t k) (l : List Staged) : SameG s { t with staged := l } k := h

/-- The general registers are those of the cores. -/
theorem SameG.of_cores {t u : State} (h : SameG s t k) (cores : u.cores = t.cores) : SameG s u k := by
  intro r
  rw [← (h r).1, ← (h r).2]
  unfold State.g State.gp State.core
  rw [cores]
  exact ⟨rfl, rfl⟩

section
variable (h : Issues s k c [ra] false) (hp : s.gp k.ix ra = false)
include h hp

/-- An instruction of one clean register. -/
theorem Issues.issueClean_one (f : Nat → State → State) : s.issueClean k [ra] [ra] f = f c (s.issued k.ix) :=
  h.issueClean f (by rw [s.anyPoison_one, hp])

theorem exec_rrd_page {rows : List RegRow} {unit : Nat}
    (page : pageOf k.st.ix ((s.g k.ix ra).toNat % 65536 / 4096) = some (rows, unit)) :
    exec (.rrd k rd ra) s = .next (((s.issued k.ix).setG k.ix c rd
      (((regAt rows unit ((s.g k.ix ra).toNat % 65536 % 4096)).map fun x => (s.issued k.ix).shown x.1 x.2).getD 0) false 8).advance k.ix c) := by
  have run : exec (.rrd k rd ra) s = execRrd k rd ra s := rfl
  rw [run, execRrd, h.issueClean_one hp]
  dsimp only
  rw [s.g_issued, page]
  dsimp only
  split
  · next x found => rw [found, Option.map_some, Option.getD_some]
  · next found => rw [found, Option.map_none, Option.getD_none]

theorem exec_rrd_reserved (page : 11 ≤ (s.g k.ix ra).toNat % 65536 / 4096) :
    exec (.rrd k rd ra) s = .next ((s.issued k.ix).coreFault k c causeAlign) := by
  have run : exec (.rrd k rd ra) s = execRrd k rd ra s := rfl
  rw [run, execRrd, h.issueClean_one hp]
  dsimp only
  rw [s.g_issued, pageOf_reserved _ page]

theorem exec_chain : exec (.chain k ra) s = .next (if 32 ≤ (s.stook k.st.ix).chain.length then (s.issued k.ix).holdCore k.ix .chain
    else ((s.issued k.ix).offer k.st.ix ((s.g k.ix ra).toNat % 2 ^ 23) (s.logical c + 8)).advance k.ix c) := by
  have run : exec (.chain k ra) s = execChain k ra s := rfl
  rw [run, execChain, h.issueClean_one hp]
  rw [s.g_issued, s.stook_issued, s.logical_issued]

theorem exec_fsig : exec (.fsig k ra) s = .next (((s.issued k.ix).fence ((s.g k.ix ra).toNat % 2 ^ 14) 1).advance k.ix c) := by
  have run : exec (.fsig k ra) s = execFsig k ra s := rfl
  rw [run, execFsig, h.issueClean_one hp]
  rw [s.g_issued]

end

section
variable (h : Issues s k c [ra, rb] false) (ha : s.gp k.ix ra = false) (hb : s.gp k.ix rb = false)
include h ha hb

/-- An instruction of two clean registers. -/
theorem Issues.issueClean_two (f : Nat → State → State) : s.issueClean k [ra, rb] [ra, rb] f = f c (s.issued k.ix) :=
  h.issueClean f (by rw [s.anyPoison_two, ha, hb, Bool.or_self])

section
variable {rows : List RegRow} {unit : Nat} (page : pageOf k.st.ix ((s.g k.ix ra).toNat % 65536 / 4096) = some (rows, unit))
include page

/-- A write to the ACR_ page, or to an offset without a register, has no effect. -/
theorem exec_rwr_none (none : (s.g k.ix ra).toNat % 65536 / 4096 = 10 ∨ regAt rows unit ((s.g k.ix ra).toNat % 65536 % 4096) = none) :
    exec (.rwr k ra rb) s = .next ((s.issued k.ix).advance k.ix c) := by
  have run : exec (.rwr k ra rb) s = execRwr k ra rb s := rfl
  rw [run, execRwr, h.issueClean_two ha hb]
  dsimp only
  rw [s.g_issued, page]
  dsimp only
  obtain acre | none := none
  · rw [if_pos acre]
  · rw [none, ite_self]

theorem exec_rwr_some {r : Reg} {i : Nat} (acre : (s.g k.ix ra).toNat % 65536 / 4096 ≠ 10)
    (found : regAt rows unit ((s.g k.ix ra).toNat % 65536 % 4096) = some (r, i)) :
    exec (.rwr k ra rb) s = .next (((s.issued k.ix).unitWrite r i (s.g k.ix rb)).advance k.ix c) := by
  have run : exec (.rwr k ra rb) s = execRwr k ra rb s := rfl
  rw [run, execRwr, h.issueClean_two ha hb]
  dsimp only
  rw [s.g_issued, s.g_issued, page]
  dsimp only
  rw [if_neg acre, found]

end

/-- OWN: the write joins those of the acre, or the core waits for a result to be taken (R216, R250). -/
theorem exec_own : exec (.own k ra rb) s = .next (if 4 ≤ (s.core k.ix).results.length then (s.issued k.ix).holdCore k.ix .owner
    else
      let t := (s.issued k.ix).issueOwner (k.st.ix / 17) ((s.core k.ix).ident / 64 % 16) (some k) (bits (s.g k.ix ra).toNat 4 4)
        (bits (s.g k.ix ra).toNat 0 4) (BitVec.ofNat 16 (bits (s.g k.ix rb).toNat 16 16)) (BitVec.ofNat 16 (bits (s.g k.ix rb).toNat 0 16))
      (t.setCore k.ix { t.core k.ix with owed := (s.core k.ix).owed + 1 }).advance k.ix c) := by
  have run : exec (.own k ra rb) s = execOwn k ra rb s := rfl
  rw [run, execOwn, h.issueClean_two ha hb]
  dsimp only
  rw [s.g_issued, s.g_issued, s.core_issued]

end

/-- OWNR takes the oldest result (R250). -/
theorem exec_ownr (h : Issues s k c [] false) : exec (.ownr k rd) s = .next
    ((((s.issued k.ix).setCore k.ix { (s.issued k.ix).core k.ix with results := ((s.issued k.ix).core k.ix).results.drop 1 }).setG k.ix c rd
      ((((s.issued k.ix).core k.ix).results.headD 0).setWidth 64) false 1).advance k.ix c) := by
  have run : exec (.ownr k rd) s = execOwnr k rd s := rfl
  rw [run, execOwnr, h.issue]

end

/-! ## What the instructions leave -/

theorem toNat_ofNat_bits (x lo n : Nat) : (BitVec.ofNat n (bits x lo n)).toNat = x / 2 ^ lo % 2 ^ n :=
  (BitVec.toNat_ofNat _ _).trans (Nat.mod_mod _ _)

section
variable {s t u : State} {k : CoreId} {c : Nat}

theorem State.results_setG (n c : Nat) (r : GReg) (v : Word) (p : Bool) (lat : Nat) :
    ((s.setG n c r v p lat).core n).results = (s.core n).results := by
  unfold State.setG
  split
  · rfl
  · rw [State.core_setCore, if_pos rfl]

/-- A core that issues and faults shows the index of that instruction. -/
theorem State.issued_faulted (s : State) (k : CoreId) (c : Nat) {cause : Nat} (hc : cause < 16) :
    Faulted s ((s.issued k.ix).coreFault k c cause) k cause := by
  obtain ⟨state, valid, cause, fpc⟩ := (s.issued k.ix).coreFault_faulted k c hc
  exact ⟨state, valid, cause, fpc.trans (s.pc_issued k)⟩

/-- A write of a unit page that waits is staged, and the core goes on. -/
theorem State.advance_waits (s : State) (k : CoreId) (c : Nat) {r : Reg} {i : Nat} {v : Word} (fault : r ≠ .stkCoreFault)
    (settable : r.settable ≠ 0) (w1c : r.w1c = 0) (gen : r.ofGen = false) (waits : s.writeWaits r i = true) :
    SameG s (((s.issued k.ix).unitWrite r i v).advance k.ix c) k ∧
    (((s.issued k.ix).unitWrite r i v).advance k.ix c).staged = s.staged ++ [⟨r, i, v, false⟩] ∧
    (((s.issued k.ix).unitWrite r i v).advance k.ix c).pc k.ix = (s.pc k.ix + 1) % 2 ^ 14 := by
  have waits' : (s.issued k.ix).writeWaits r i = true := (s.writeWaits_setReg r i (by decide) _ _).trans waits
  rw [State.unitWrite_waits _ _ fault settable w1c gen waits']
  refine ⟨((s.sameG_issued k).stage _).advance, ?_, ?_⟩
  · rw [State.staged_advance, s.staged_issued]
  · rw [State.pc_advance, State.pc_stage, s.pc_issued]

/-- A write of a unit page that does not wait is made, and the core goes on. -/
theorem State.advance_writes (s : State) (k : CoreId) (c : Nat) {r : Reg} {i : Nat} {v : Word} (status : r ≠ .stkCoreStatus)
    (fault : r ≠ .stkCoreFault) (now : r.settable = 0 ∨ r.ofGen = false ∧ s.writeWaits r i = false) :
    SameG s (((s.issued k.ix).unitWrite r i v).advance k.ix c) k ∧
    (((s.issued k.ix).unitWrite r i v).advance k.ix c).reg r i =
      ((s.reg r i &&& ~~~(v &&& r.w1c) &&& ~~~r.settable) ||| (v &&& r.settable)) ∧
    (((s.issued k.ix).unitWrite r i v).advance k.ix c).pc k.ix = (s.pc k.ix + 1) % 2 ^ 14 := by
  have now' : r.settable = 0 ∨ r.ofGen = false ∧ (s.issued k.ix).writeWaits r i = false :=
    now.imp_right (And.imp_right (s.writeWaits_setReg r i (by decide) _ _).trans)
  obtain ⟨value, core, cores⟩ := (s.issued k.ix).unitWrite_now v fault status now'
  refine ⟨((s.sameG_issued k).of_cores cores).advance, ?_, ?_⟩
  · rw [State.reg_advance _ _ _ status, value, s.reg_issued _ status]
  · rw [State.pc_advance, State.pc, State.fld, core]
    exact congrArg (fun p => (p + 1) % 2 ^ 14) (s.pc_issued k)

/-- An owner write joins those of its acre, and the core goes on (R216). -/
theorem State.advance_own (s : State) (k : CoreId) (c a slot stook bank : Nat) (f g : BitVec 16) (owed : Nat) :
    let u := (s.issued k.ix).issueOwner a slot (some k) stook bank f g
    let t := (u.setCore k.ix { u.core k.ix with owed := owed }).advance k.ix c
    SameG s t k ∧ t.pc k.ix = (s.pc k.ix + 1) % 2 ^ 14 ∧ (t.acre a).writes = (s.acre a).writes ++ [{
      core := some k, stook := stook, bank := bank, fromWord := f, toWord := g, slot := slot, tick := (s.issued k.ix).ownerTick a slot }] := by
  refine ⟨((s.sameG_issued k).setAcre _ _).setCore.advance, ?_, ?_⟩
  · rw [State.pc_advance, State.pc_setCore, State.pc_issueOwner, s.pc_issued]
  · rw [State.acre_advance, ← s.acre_issued k.ix a]
    exact congrArg Acre.writes (sget_sput_same _ _ _ _)

/-- A hand-off joins those on their way to the chain unit, and the core goes on (R251). -/
theorem State.advance_offer (s : State) (k : CoreId) (c j addr : Nat) (due : Int) :
    SameG s (((s.issued k.ix).offer j addr due).advance k.ix c) k ∧
    (((s.issued k.ix).offer j addr due).advance k.ix c).pc k.ix = (s.pc k.ix + 1) % 2 ^ 14 ∧
    ((((s.issued k.ix).offer j addr due).advance k.ix c).stook j).offered =
      (s.stook j).offered ++ [{ addr := addr, arrived := due, source := none }] := by
  refine ⟨((s.sameG_issued k).setStook _ _).advance, ?_, ?_⟩
  · rw [State.pc_advance, State.pc_offer, s.pc_issued]
  · rw [State.stook_advance, ← s.stook_issued k.ix j]
    exact congrArg Stook.offered (sget_sput_same _ _ _ _)

/-- A fence counter rises by one, and the core goes on (R368). -/
theorem State.advance_fence (s : State) (k : CoreId) (c f : Nat) :
    SameG s (((s.issued k.ix).fence f 1).advance k.ix c) k ∧
    (((s.issued k.ix).fence f 1).advance k.ix c).pc k.ix = (s.pc k.ix + 1) % 2 ^ 14 ∧
    (((s.issued k.ix).fence f 1).advance k.ix c).reg .fncValue f = s.reg .fncValue f + 1 ∧
    ∀ g, g ≠ f → (((s.issued k.ix).fence f 1).advance k.ix c).reg .fncValue g = s.reg .fncValue g := by
  have other : Reg.fncValue ≠ .stkCoreStatus := by decide
  refine ⟨(s.sameG_issued k).setReg.advance, ?_, ?_, fun g hg => ?_⟩
  · rw [State.pc_advance, State.pc, State.fld, State.fence, State.reg_setReg_ne _ _ other.symm]
    exact congrArg (fun p => (p + 1) % 2 ^ 14) (s.pc_issued k)
  · rw [State.reg_advance _ _ _ other, State.fence, State.reg_setReg_same, s.reg_issued _ other]
    rfl
  · rw [State.reg_advance _ _ _ other, State.fence, State.reg_setReg_copy _ _ hg, s.reg_issued _ other]

/-- A core that issues and is held stands in WAIT at the same instruction. -/
theorem State.issued_held (s : State) (k : CoreId) (w : Wait) :
    ((s.issued k.ix).holdCore k.ix w).fld F.stkCoreStatusState k.ix = 2 ∧ ((s.issued k.ix).holdCore k.ix w).acres = s.acres ∧
    ((s.issued k.ix).holdCore k.ix w).stooks = s.stooks ∧ ((s.issued k.ix).holdCore k.ix w).pc k.ix = s.pc k.ix :=
  ⟨State.state_holdCore _ _ _, (State.acres_holdCore _ _ _).trans (s.acres_issued _), (State.stooks_holdCore _ _ _).trans (s.stooks_issued _),
    (State.pc_holdCore _ _ _).trans (s.pc_issued k)⟩

end

/-- Settles O28: each instruction issues, and then does its one effect and goes on, or faults, or is held. -/
theorem gleanReaches : Obligations.GleanReaches := by
  refine ⟨fun k rd ra rb c a s ha => ?pages, fun k rd ra rb c s => ⟨fun h ha hb => ⟨fun room => ?own, fun full => ?ownHeld⟩, fun h => ?ownr,
    fun h hp => ⟨fun room => ?chain, fun full => ?chainHeld, ?fsig⟩⟩⟩
  case pages =>
    subst ha
    refine ⟨fun rows unit h hp page => ?rrd, fun h hp page => ?reserved, fun rows unit h ha hb page => ⟨fun none => ?noRegister,
      fun r i acre found _ fault settable w1c gen waits => ?waits, fun r i acre found status fault now => ?now⟩⟩
    case rrd => exact ⟨_, exec_rrd_page h hp page, s.issued_result k c 8 rd _ false⟩
    case reserved => exact ⟨_, exec_rrd_reserved h hp page, s.issued_faulted k c (by decide)⟩
    case noRegister => exact ⟨_, exec_rwr_none h ha hb page none, (s.sameG_issued k).advance, (s.issued_goesOn k).advance⟩
    case waits => exact ⟨_, exec_rwr_some h ha hb page acre found, s.advance_waits k c fault settable w1c gen waits⟩
    case now => exact ⟨_, exec_rwr_some h ha hb page acre found, s.advance_writes k c status fault now⟩
  case own =>
    have run := exec_own h ha hb
    rw [if_neg (Nat.not_le.mpr room)] at run
    obtain ⟨same, pc, writes⟩ := s.advance_own k c (k.st.ix / 17) ((s.core k.ix).ident / 64 % 16) (bits (s.g k.ix ra).toNat 4 4)
      (bits (s.g k.ix ra).toNat 0 4) (BitVec.ofNat 16 (bits (s.g k.ix rb).toNat 16 16)) (BitVec.ofNat 16 (bits (s.g k.ix rb).toNat 0 16))
      ((s.core k.ix).owed + 1)
    refine ⟨_, _, run, same, pc, writes, rfl, rfl, ?_, ?_, ?_⟩
    · exact congrArg (· % 16) (Nat.div_one _)
    · exact toNat_ofNat_bits _ _ _
    · exact (toNat_ofNat_bits _ _ _).trans (congrArg (· % 2 ^ 16) (Nat.div_one _))
  case ownHeld =>
    have run := exec_own h ha hb
    rw [if_pos full] at run
    obtain ⟨state, acres, -, pc⟩ := s.issued_held k .owner
    exact ⟨_, run, state, acres, pc⟩
  case ownr =>
    refine ⟨_, exec_ownr h, (s.issued_goesOn k).setCore.setG.advance, ?_, ?_⟩
    · rw [State.advance, State.core_next, State.results_setG, State.core_setCore, if_pos rfl, s.core_issued]
    · rw [← s.core_issued k.ix k.ix]
      exact (Result.setG (s.sameG_issued k).setCore ((State.logical_setCore _ _ _ _).trans (s.logical_issued k.ix c))).advance
  case chain =>
    have run := exec_chain h hp
    rw [if_neg (Nat.not_le.mpr room)] at run
    exact ⟨_, run, s.advance_offer k c k.st.ix _ _⟩
  case chainHeld =>
    have run := exec_chain h hp
    rw [if_pos full] at run
    obtain ⟨state, -, stooks, -⟩ := s.issued_held k .chain
    exact ⟨_, run, state, stooks⟩
  case fsig => exact ⟨_, exec_fsig h hp, s.advance_fence k c ((s.g k.ix ra).toNat % 2 ^ 14)⟩

end Sys2Proof.Machine
end

section
/-!
PROOF. What changes leave: lists of registers that may change, the register file alone, the memories, and changes made for each number of
a list.
-/
namespace Sys2Proof.Machine

/-! ## Registers and memories -/

section
variable {s t : State} {l : List (Reg × Nat)}

theorem RegsBut.refl (s : State) (l : List (Reg × Nat)) : RegsBut s s l := fun _ _ _ => rfl

theorem RegsBut.setReg (h : RegsBut s t l) {r : Reg} {i : Nat} (hr : (r, i) ∈ l) (v : Word) : RegsBut s (t.setReg r i v) l :=
  fun q j hq => (t.reg_setReg_other v fun e => hq ⟨_, hr, e⟩).trans (h q j hq)

theorem RegsBut.setFld (h : RegsBut s t l) {f : Fld} {i : Nat} (hf : (f.reg, i) ∈ l) (v : Nat) : RegsBut s (t.setFld f i v) l :=
  h.setReg hf _

theorem RegsBut.setPort (h : RegsBut s t l) (p : Nat) (x : PortState) : RegsBut s (t.setPort p x) l :=
  fun q j hq => (t.setPort_get_reg p x q j).trans (h q j hq)

theorem RegsBut.sameRegsBut {r : Reg} {i : Nat} (h : RegsBut s t [(r, i)]) : SameRegsBut s t r i := fun q j hq =>
  h q j fun ⟨x, hx, e⟩ => hq (by rwa [List.mem_singleton.mp hx] at e)

theorem OnlyRegs.refl (s : State) : OnlyRegs s s := rfl

theorem OnlyRegs.setReg (h : OnlyRegs s t) (r : Reg) (i : Nat) (v : Word) : OnlyRegs s (t.setReg r i v) := by
  rw [OnlyRegs, State.setReg, h]

theorem OnlyRegs.setFld (h : OnlyRegs s t) (f : Fld) (i v : Nat) : OnlyRegs s (t.setFld f i v) := h.setReg _ _ _

theorem OnlyRegs.sameMemory (h : OnlyRegs s t) : SameMemory s t := by
  rw [h]
  exact ⟨rfl, rfl⟩

theorem SameMemory.refl (s : State) : SameMemory s s := ⟨rfl, rfl⟩

theorem SameMemory.setFld (h : SameMemory s t) (f : Fld) (i v : Nat) : SameMemory s (t.setFld f i v) :=
  ⟨(t.setFld_mem f i v).trans h.1, (t.setFld_poison f i v).trans h.2⟩

theorem SameMemory.setPort (h : SameMemory s t) (p : Nat) (x : PortState) : SameMemory s (t.setPort p x) :=
  ⟨(t.setPort_mem p x).trans h.1, (t.setPort_poison p x).trans h.2⟩

theorem SameMemory.trans {u : State} (h : SameMemory s t) (g : SameMemory t u) : SameMemory s u := ⟨g.1.trans h.1, g.2.trans h.2⟩

theorem onlyReg_setReg (s : State) (r : Reg) (i : Nat) (v : Word) : OnlyReg s (s.setReg r i v) r i v :=
  ⟨rfl, s.reg_setReg_same r i v, fun _ _ h => s.reg_setReg_other v h⟩

end

/-! ## A change made for each number of a list -/

section
variable {f : State → Nat → State}

theorem State.each_keeps {P : State → Prop} (l : List Nat) (step : ∀ u x, P u → P (f u x)) {s : State} (h : P s) : P (s.each l f) :=
  List.foldlRecOn (motive := P) l f h fun u hu x _ => step u x hu

/-- What the change for a number brings about, and the changes for others keep, holds in the end for every number of the list. -/
theorem State.each_reaches {P : Nat → State → Prop} (here : ∀ u x, P x (f u x)) (keeps : ∀ u x y, P x u → P x (f u y)) {l : List Nat}
    {x : Nat} (hx : x ∈ l) (s : State) : P x (s.each l f) := by
  induction l generalizing s with
  | nil => cases hx
  | cons y l ih =>
    obtain rfl | mem := List.mem_cons.mp hx
    · exact State.each_keeps l (fun u z => keeps u x z) (here s x)
    · exact ih mem (f s y)

end

end Sys2Proof.Machine
end

section
/-!
PROOF. O4: the clear bits of ports, fault log and monitors.
-/
namespace Sys2Proof.Machine

/-! ## Memory blanked -/

theorem sget_filter_key {α : Type} (d : α) (p : Nat → Bool) (m : Sparse α) (k : Nat) :
    sget d (m.filter fun c => p c.1) k = if p k then sget d m k else d := by
  induction m with
  | nil => simp
  | cons e m ih =>
    obtain ⟨j, v⟩ := e
    rw [List.filter_cons, sget_cons]
    split
    next hj => rw [sget_cons, ih]; grind
    next hj => rw [ih]; grind

theorem State.rd_blank (s : State) (a n b : Nat) : (s.blank a n).rd b = if b < a ∨ a + n ≤ b then s.rd b else 0 := by
  refine (sget_filter_key 0 (fun x => decide (x < a) || decide (a + n ≤ x)) s.mem b).trans ?_
  simp only [Bool.or_eq_true, decide_eq_true_eq, State.rd]

/-! ## Monitor points cleared (R464, R467) -/

/-- The registers that a monitor point counts in. -/
def pointRegs : List Reg := [.monCur, .monMinmax, .monCount, .monHist]

/-- A point whose counting registers stand at their cleared values. -/
structure PointClear (s : State) (i : Nat) : Prop where
  cur : s.reg .monCur i = 0
  minmax : s.reg .monMinmax i = Reg.monMinmax.reset
  count : s.reg .monCount i = 0
  hist : ∀ b, b < 16 → s.reg .monHist (16 * i + b) = 0

section
variable (s : State)

/-- A value that a register copy has stays when it is given to any copy of that register. -/
theorem State.reg_setReg_keeps {r : Reg} {j : Nat} {v : Word} (h : s.reg r j = v) (i : Nat) : (s.setReg r i v).reg r j = v := by
  by_cases e : j = i
  · rw [e, State.reg_setReg_same]
  · rw [State.reg_setReg_copy _ _ e, h]

/-- The histogram of a point cleared. -/
def State.clearHist (i : Nat) : State := s.each (List.range 16) fun s b => s.setReg .monHist (16 * i + b) 0

theorem State.clearPoint_eq (i : Nat) : s.clearPoint i =
    (((s.clearHist i).setReg .monCur i 0).setReg .monMinmax i Reg.monMinmax.reset).setReg .monCount i 0 := rfl

theorem State.reg_clearHist_ne {q : Reg} (h : q ≠ .monHist) (i j : Nat) : (s.clearHist i).reg q j = s.reg q j :=
  State.each_keeps (P := fun u => u.reg q j = s.reg q j) _ (fun _ _ hu => (State.reg_setReg_ne _ _ h).trans hu) rfl

theorem State.hist_clearHist (i : Nat) {b : Nat} (hb : b < 16) : (s.clearHist i).reg .monHist (16 * i + b) = 0 :=
  State.each_reaches (P := fun b u => u.reg .monHist (16 * i + b) = 0) (fun u _ => u.reg_setReg_same _ _ _)
    (fun u _ _ h => u.reg_setReg_keeps h _) (List.mem_range.mpr hb) s

theorem State.hist_clearHist_keeps {j : Nat} (h : s.reg .monHist j = 0) (i : Nat) : (s.clearHist i).reg .monHist j = 0 :=
  State.each_keeps (P := fun u => u.reg .monHist j = 0) _ (fun u _ hu => u.reg_setReg_keeps hu _) h

theorem State.reg_clearPoint_ne {q : Reg} (h : q ∉ pointRegs) (i j : Nat) : (s.clearPoint i).reg q j = s.reg q j := by
  simp only [pointRegs, List.mem_cons, List.not_mem_nil, or_false, not_or] at h
  obtain ⟨cur, minmax, count, hist⟩ := h
  rw [State.clearPoint_eq, State.reg_setReg_ne _ _ count, State.reg_setReg_ne _ _ minmax, State.reg_setReg_ne _ _ cur,
    State.reg_clearHist_ne _ hist]

theorem State.hist_clearPoint (i j : Nat) : (s.clearPoint i).reg .monHist j = (s.clearHist i).reg .monHist j := by
  rw [State.clearPoint_eq, State.reg_setReg_ne _ _ (by decide), State.reg_setReg_ne _ _ (by decide), State.reg_setReg_ne _ _ (by decide)]

theorem OnlyRegs.clearPoint {s t : State} (h : OnlyRegs s t) (i : Nat) : OnlyRegs s (t.clearPoint i) := by
  have hist : OnlyRegs s (t.clearHist i) := State.each_keeps (P := OnlyRegs s) _ (fun _ _ hu => hu.setReg _ _ _) h
  rw [State.clearPoint_eq]
  exact ((hist.setReg _ _ _).setReg _ _ _).setReg _ _ _

theorem State.pointClear_clearPoint (i : Nat) : PointClear (s.clearPoint i) i where
  cur := by
    rw [State.clearPoint_eq, State.reg_setReg_ne _ _ (by decide), State.reg_setReg_ne _ _ (by decide), State.reg_setReg_same]
  minmax := by rw [State.clearPoint_eq, State.reg_setReg_ne _ _ (by decide), State.reg_setReg_same]
  count := by rw [State.clearPoint_eq, State.reg_setReg_same]
  hist _ hb := (s.hist_clearPoint i _).trans (s.hist_clearHist i hb)

end

/-- Clearing a point undoes no clearing of another. -/
theorem PointClear.clearPoint {s : State} {i : Nat} (h : PointClear s i) (j : Nat) : PointClear (s.clearPoint j) i where
  cur := by
    rw [State.clearPoint_eq, State.reg_setReg_ne _ _ (by decide), State.reg_setReg_ne _ _ (by decide)]
    exact State.reg_setReg_keeps _ ((s.reg_clearHist_ne (by decide) j i).trans h.cur) j
  minmax := by
    rw [State.clearPoint_eq, State.reg_setReg_ne _ _ (by decide)]
    refine State.reg_setReg_keeps _ ((State.reg_setReg_ne _ _ (by decide)).trans ?_) j
    exact (s.reg_clearHist_ne (by decide) j i).trans h.minmax
  count := by
    rw [State.clearPoint_eq]
    refine State.reg_setReg_keeps _ ((State.reg_setReg_ne _ _ (by decide)).trans ((State.reg_setReg_ne _ _ (by decide)).trans ?_)) j
    exact (s.reg_clearHist_ne (by decide) j i).trans h.count
  hist b hb := (s.hist_clearPoint j _).trans (s.hist_clearHist_keeps (h.hist b hb) j)

section
variable (s : State)

theorem State.onlyRegs_clearPoints : OnlyRegs s s.clearPoints := State.each_keeps (P := OnlyRegs s) _ (fun _ x hu => hu.clearPoint x) rfl

theorem State.reg_clearPoints_ne {q : Reg} (h : q ∉ pointRegs) (j : Nat) : s.clearPoints.reg q j = s.reg q j :=
  State.each_keeps (P := fun u => u.reg q j = s.reg q j) _ (fun u x hu => (u.reg_clearPoint_ne h x j).trans hu) rfl

theorem State.pointClear_clearPoints {i : Nat} (hi : i < 512) : PointClear s.clearPoints i :=
  State.each_reaches (P := fun i u => PointClear u i) State.pointClear_clearPoint (fun _ _ y h => h.clearPoint y) (List.mem_range.mpr hi) s

/-- The histogram registers of the 512 points are those below 8,192. -/
theorem State.hist_clearPoints {j : Nat} (hj : j < 8192) : s.clearPoints.reg .monHist j = 0 := by
  have bucket := (s.pointClear_clearPoints (i := j / 16) (by omega)).hist (j % 16) (by omega)
  rwa [Nat.div_add_mod] at bucket

/-- MON_SEL as a write leaves it. -/
def State.selWritten (i : Nat) (v : Word) : State := s.setReg .monSel i (Reg.written .monSel (s.reg .monSel i) v)

theorem State.monSel_eq (i : Nat) (v : Word) : s.monSel i v =
    if ((s.selWritten i v).fld F.monSelSource i, (s.selWritten i v).fld F.monSelIndex i) ≠ (s.fld F.monSelSource i, s.fld F.monSelIndex i) then
      (s.selWritten i v).clearPoint i
    else s.selWritten i v := rfl

/-- Whether or not the point is cleared, MON_SEL holds what was written. -/
theorem State.sel_monSel (i : Nat) (v : Word) : (s.monSel i v).reg .monSel i = Reg.written .monSel (s.reg .monSel i) v := by
  rw [State.monSel_eq]
  split
  · exact (State.reg_clearPoint_ne _ (by decide) i i).trans (s.reg_setReg_same _ _ _)
  · exact s.reg_setReg_same _ _ _

theorem State.fld_monSel (f : Fld) (hf : f.reg = .monSel) (i : Nat) (v : Word) : (s.monSel i v).fld f i = (s.selWritten i v).fld f i := by
  unfold State.fld
  rw [hf, State.sel_monSel, State.selWritten, State.reg_setReg_same]

end

/-! ## The commands -/

theorem clrResetLimit_clears (s : State) : ∃ t, Completes .clrResetLimit s t ∧ OnlyRegs s t ∧
    t.fld F.fltStatusResetLimit 0 = 0 ∧ t.fld F.fltHangResetsWindow 0 = 0 ∧
    t.fld F.fltHangResets 0 = s.fld F.fltHangResets 0 ∧ t.fld F.fltHangQuarantines 0 = s.fld F.fltHangQuarantines 0 ∧
    t.fld F.fltStatusDieLost 0 = s.fld F.fltStatusDieLost 0 ∧ RegsBut s t [(.fltStatus, 0), (.fltHang, 0)] := by
  refine ⟨s.clrResetLimit, rfl, rfl, ?_, ?_, ?_, ?_, ?_, ?regs⟩
  case regs => exact ((RegsBut.refl s _).setFld (by simp) _).setFld (by simp) _
  all_goals
    simp (disch := decide) only [State.clrResetLimit, State.fld_setFld_ne, State.fld_setFld_same, State.fld_setFld_beside, Nat.zero_mod]

theorem clrLog_clears (s : State) : ∃ t, Completes .clrLog s t ∧ (∀ k, k < 32768 → t.rd (Space.log.base + k) = 0) ∧
    SameBytes s t Space.log.base 32768 ∧ t.fld F.fltLogHeadOverwritten 0 = 0 ∧
    t.fld F.fltLogHeadNextSeq 0 = s.fld F.fltLogHeadNextSeq 0 ∧ SameRegsBut s t .fltLogHead 0 := by
  refine ⟨s.clrLog, rfl, fun k hk => ?_, fun b hb => ?_, ?_, ?_, fun q j h => State.reg_setFld_other _ _ _ h⟩
  · rw [State.clrLog, State.setFld_get_rd, State.rd_blank, if_neg (by omega)]
  · rw [State.clrLog, State.setFld_get_rd, State.rd_blank, if_pos hb]
  · exact State.fld_setFld_same _ _ _ _ (by decide)
  · exact State.fld_setFld_beside _ _ _ _ _ rfl (by decide) (by decide)

theorem monSelWrite_writes (i : Fin 512) (v : Word) (s : State) : ∃ t, Completes (.monSelWrite i v) s t ∧ OnlyRegs s t ∧
    t.reg .monSel i.val = Reg.written .monSel (s.reg .monSel i.val) v ∧
    ((s.fld F.monSelSource i.val, s.fld F.monSelIndex i.val) = (t.fld F.monSelSource i.val, t.fld F.monSelIndex i.val) →
      SameRegsBut s t .monSel i.val) ∧
    ((s.fld F.monSelSource i.val, s.fld F.monSelIndex i.val) ≠ (t.fld F.monSelSource i.val, t.fld F.monSelIndex i.val) →
      PointClear t i.val ∧ ∀ (q : Reg) (j : Nat), q ∉ Reg.monSel :: pointRegs → t.reg q j = s.reg q j) := by
  have written : OnlyReg s (s.selWritten i.val v) .monSel i.val _ := onlyReg_setReg _ _ _ _
  refine ⟨s.monSel i.val v, rfl, ?_, s.sel_monSel _ _, fun same => ?_, fun changed => ?_⟩
  · rw [State.monSel_eq]
    split
    · exact written.1.clearPoint i.val
    · exact written.1
  · rw [s.fld_monSel _ rfl, s.fld_monSel _ rfl] at same
    rw [State.monSel_eq, if_neg (not_not.mpr same.symm)]
    exact written.2.2
  · rw [s.fld_monSel _ rfl, s.fld_monSel _ rfl] at changed
    rw [State.monSel_eq, if_pos changed.symm]
    refine ⟨State.pointClear_clearPoint _ _, fun q j hq => ?_⟩
    obtain ⟨sel, point⟩ := not_or.mp (List.mem_cons.not.mp hq)
    exact (State.reg_clearPoint_ne _ point _ j).trans (s.reg_setReg_ne _ sel)

/-- Settles O4: each command clears what it names, and the frame lemmas of its operations give what stays. -/
theorem clearBits : Obligations.ClearBits := by
  refine ⟨fun p s => ⟨?slack, ?err, ?avail, clrResetLimit_clears s⟩, clrLog_clears, fun s => ?all, fun i v s => ?sel⟩
  case slack => exact ⟨_, rfl, onlyReg_setReg s _ _ _⟩
  case err => exact ⟨_, rfl, onlyReg_setReg s _ _ _⟩
  case avail => exact ⟨_, rfl, onlyReg_setReg s _ _ _⟩
  case all =>
    refine ⟨s.clearPoints, rfl, s.onlyRegs_clearPoints, fun i hi => ?_, fun j hj => s.hist_clearPoints hj, fun q j cur minmax count hist => ?_⟩
    · obtain ⟨cur, minmax, count, -⟩ := s.pointClear_clearPoints hi
      exact ⟨cur, minmax, count⟩
    · exact s.reg_clearPoints_ne (by simp [pointRegs, cur, minmax, count, hist]) j
  case sel =>
    obtain ⟨t, run, only, sel, kept, cleared⟩ := monSelWrite_writes i v s
    refine ⟨t, run, only, sel, kept, fun changed => ?_⟩
    obtain ⟨⟨cur, minmax, count, hist⟩, others⟩ := cleared changed
    exact ⟨cur, minmax, count, hist, others⟩

end Sys2Proof.Machine
end

section
/-!
PROOF. What the shared operations of the Dualjo ports leave: the end of a session, a port that stops, and an entry of the fault log
(R302, R319, R440, R489).
-/
namespace Sys2Proof.Machine

theorem State.port_setPort_same (s : State) (p : Nat) (x : PortState) : (s.setPort p x).port p = x := sget_sput_same _ _ _ _

/-! ## The end of a session and of a port -/

/-- What stopping a port may change: the registers in the list, and the ports. -/
structure PortWork (s t : State) (rs : List Reg) : Prop where
  regs : ∀ q j, q ∉ rs → t.reg q j = s.reg q j
  rest : t = { s with regs := t.regs, ports := t.ports }

section
variable {s t u : State} {rs : List Reg}

theorem PortWork.refl (s : State) (rs : List Reg) : PortWork s s rs := ⟨fun _ _ _ => rfl, rfl⟩

theorem PortWork.trans (h : PortWork s t rs) (g : PortWork t u rs) : PortWork s u rs where
  regs q j hq := (g.regs q j hq).trans (h.regs q j hq)
  rest := by
    have e := g.rest
    rw [h.rest] at e
    exact e

theorem PortWork.setFld (h : PortWork s t rs) {f : Fld} (hf : f.reg ∈ rs) (i v : Nat) : PortWork s (t.setFld f i v) rs :=
  h.trans ⟨fun _ _ hq => t.reg_setFld_ne _ fun e => hq (e ▸ hf), rfl⟩

theorem PortWork.setPort (h : PortWork s t rs) (p : Nat) (x : PortState) : PortWork s (t.setPort p x) rs := h.trans ⟨fun _ _ _ => rfl, rfl⟩

theorem PortWork.fld (h : PortWork s t rs) {f : Fld} (hf : f.reg ∉ rs) (i : Nat) : t.fld f i = s.fld f i := by
  unfold State.fld
  rw [h.regs _ _ hf]

theorem PortWork.sameMemory (h : PortWork s t rs) : SameMemory s t := by
  rw [h.rest]
  exact ⟨rfl, rfl⟩

theorem PortWork.ctxs (h : PortWork s t rs) : t.ctxs = s.ctxs := by rw [h.rest]

theorem PortWork.group (h : PortWork s t rs) : t.group = s.group := by rw [h.rest]

/-- The registers that show whether a port has a session. -/
def sessionRegs : List Reg := [.lnkStatus, .hubStatus, .secSession]

theorem PortWork.syncDjc (h : PortWork s t rs) (hr : Reg.hubStatus ∈ rs) (p : Nat) : PortWork s (t.syncDjc p) rs := by
  unfold State.syncDjc
  dsimp only
  split
  · exact h.setFld hr _ _
  · split
    · exact h.setFld hr _ _
    · exact h

end

section
variable (s : State) (p : Nat)

theorem State.endSession_portWork : PortWork s (s.endSession p) sessionRegs := by
  have shown (i v) : PortWork s (((s.setPort p { s.port p with session := none }).setFld F.lnkStatusEncOn i v).syncDjc p) sessionRegs :=
    (((PortWork.refl s sessionRegs).setPort _ _).setFld (by decide) _ _).syncDjc (by decide) _
  unfold State.endSession
  dsimp only
  split
  · exact .refl s _
  · split
    · exact shown _ _
    · exact ((((shown _ _).setFld (by decide) _ _).setFld (by decide) _ _).setFld (by decide) _ _).setFld (by decide) _ _

@[simp] theorem State.ports_syncDjc : (s.syncDjc p).ports = s.ports := by
  unfold State.syncDjc
  dsimp only
  split
  · rfl
  · split <;> rfl

theorem State.port_endSession : (s.endSession p).port p = { s.port p with session := none } := by
  unfold State.endSession
  split
  next none =>
    rw [Option.isNone_iff_eq_none] at none
    rw [← none]
  next =>
    have gone : (((s.setPort p { s.port p with session := none }).setFld F.lnkStatusEncOn p 0).syncDjc p).port p =
        { s.port p with session := none } := by
      rw [State.port, State.ports_syncDjc]
      exact s.port_setPort_same p _
    dsimp only
    split
    · exact gone
    · simpa using gone

theorem State.stopPort_portWork (st : Nat) : PortWork s (s.stopPort p st) sessionRegs :=
  (((s.endSession_portWork p).setPort _ _).setFld (by decide) _ _).setFld (by decide) _ _

/-- A port that stops reads as DOWN or FAILED without lanes, and has no session. -/
theorem State.stopPort_stops {st : Nat} (h : st < 8) : (s.stopPort p st).fld F.lnkStatusState p = st ∧
    (s.stopPort p st).fld F.lnkStatusLanesUp p = 0 ∧ ((s.stopPort p st).port p).session = none := by
  refine ⟨?_, ?_, ?_⟩
  · simp (disch := decide) only [State.stopPort, State.fld_setFld_beside, State.fld_setFld_same]
    exact Nat.mod_eq_of_lt h
  · exact State.fld_setFld_same _ _ _ _ (by decide)
  · rw [State.stopPort, State.setFld_get_port, State.setFld_get_port, State.port_setPort_same, State.port_endSession]

end

/-! ## The fault log -/

/-- What an entry of the fault log may change: FLT_LOG_HEAD and memory. -/
structure LogWork (s t : State) : Prop where
  regs : ∀ q j, q ≠ .fltLogHead → t.reg q j = s.reg q j
  rest : t = { s with regs := t.regs, mem := t.mem }

section
variable {s t u : State}

theorem LogWork.refl (s : State) : LogWork s s := ⟨fun _ _ _ => rfl, rfl⟩

theorem LogWork.trans (h : LogWork s t) (g : LogWork t u) : LogWork s u where
  regs q j hq := (g.regs q j hq).trans (h.regs q j hq)
  rest := by
    have e := g.rest
    rw [h.rest] at e
    exact e

theorem LogWork.setFld (h : LogWork s t) {f : Fld} (hf : f.reg = .fltLogHead) (i v : Nat) : LogWork s (t.setFld f i v) :=
  h.trans ⟨fun _ _ hq => t.reg_setFld_ne _ (hf ▸ hq), rfl⟩

theorem LogWork.wrN (h : LogWork s t) (a : Nat) (v : List Byte) : LogWork s (t.wrN a v) := h.trans ⟨fun _ _ _ => rfl, rfl⟩

theorem LogWork.fld (h : LogWork s t) {f : Fld} (hf : f.reg ≠ .fltLogHead) (i : Nat) : t.fld f i = s.fld f i := by
  unfold State.fld
  rw [h.regs _ _ hf]

theorem LogWork.ports (h : LogWork s t) : t.ports = s.ports := by rw [h.rest]

theorem LogWork.port (h : LogWork s t) (p : Nat) : t.port p = s.port p := by rw [State.port, h.ports, State.port]

theorem LogWork.ctxs (h : LogWork s t) : t.ctxs = s.ctxs := by rw [h.rest]

end

section
variable (s : State)

/-- The state in which an entry of the fault log is written: OVERWRITTEN counts an entry that stood there. -/
def State.logCounted : State :=
  if (s.rd (logAt (s.fld F.fltLogHeadNextIndex 0) + 7)).toNat = 0 then s else s.bump F.fltLogHeadOverwritten 0 1

theorem State.logCounted_logWork : LogWork s s.logCounted := by
  unfold State.logCounted
  split
  · exact .refl s
  · exact (LogWork.refl s).setFld rfl _ _

variable (code action : Nat) (outside : Bool) (die acre stook unit index : Nat) (c : Option Nat) (us : Nat) (cap : Bool)

theorem State.logFault_eq : ∃ a v, s.logFault code action outside die acre stook unit index c us cap =
    ((s.logCounted.wrN a v).setFld F.fltLogHeadNextSeq 0 (s.fld F.fltLogHeadNextSeq 0 + 1)).setFld F.fltLogHeadNextIndex 0
      (s.fld F.fltLogHeadNextIndex 0 + 1) := ⟨_, _, rfl⟩

theorem State.logFault_logWork : LogWork s (s.logFault code action outside die acre stook unit index c us cap) := by
  obtain ⟨a, v, e⟩ := s.logFault_eq code action outside die acre stook unit index c us cap
  exact e ▸ ((s.logCounted_logWork.wrN a v).setFld rfl _ _).setFld rfl _ _

theorem State.nextSeq_logFault : (s.logFault code action outside die acre stook unit index c us cap).fld F.fltLogHeadNextSeq 0 =
    (s.fld F.fltLogHeadNextSeq 0 + 1) % 2 ^ 32 := by
  obtain ⟨a, v, e⟩ := s.logFault_eq code action outside die acre stook unit index c us cap
  rw [e]
  simp (disch := decide) only [State.fld_setFld_beside, State.fld_setFld_same]

end

end Sys2Proof.Machine
end

section
/-!
PROOF. O6: control writes, training, resets, lane failures and missed deadlines of the Dualjo ports (R302, R308, R309, R311, R318, R319,
R408).
-/
namespace Sys2Proof.Machine

/-! ## LNK_CTRL_p at a frame boundary (R318, R319) -/

/-- What LNK_CTRL_p holds once a write takes effect: ports 16 and 17 hold ENC_REQ as 1 (R318). -/
def ctrlWord (p : Nat) (v : BitVec 32) : Word :=
  BitVec.ofNat 64 (if p < 16 then v.toNat % 16 else v.toNat % 16 / 8 * 8 + v.toNat % 4 + 4)

/-- The state with LNK_CTRL_p set and ENC_ON shown, before the port starts or stops. -/
def State.ctrlSet (s : State) (p : Nat) (v : BitVec 32) : State := (s.setReg .lnkCtrl p (ctrlWord p v)).showEnc p

theorem bits_ctrlWord_en (p : Nat) (v : BitVec 32) : bits (ctrlWord p v).toNat 0 1 = (v.getLsbD 0).toNat := by
  rw [← BitVec.testBit_toNat, ← bits_one_eq_testBit, ctrlWord, BitVec.toNat_ofNat]
  unfold bits
  split <;> omega

theorem bits_ctrlWord_spareEn (p : Nat) (v : BitVec 32) : bits (ctrlWord p v).toNat 3 1 = (v.getLsbD 3).toNat := by
  rw [← BitVec.testBit_toNat, ← bits_one_eq_testBit, ctrlWord, BitVec.toNat_ofNat]
  unfold bits
  split <;> omega

section
variable (s : State) (p : Nat) (v : BitVec 32)

theorem State.applyCtrl_eq : s.applyCtrl p v =
    if (s.ctrlSet p v).flag F.lnkCtrlEn p && !s.flag F.lnkCtrlEn p then (s.ctrlSet p v).setFld F.lnkStatusState p 1
    else if !(s.ctrlSet p v).flag F.lnkCtrlEn p && s.flag F.lnkCtrlEn p then
      if s.flag F.lnkCtrlSched p && !s.groupCtxs.isEmpty then (s.ctrlSet p v).portLost p 0 else (s.ctrlSet p v).stopPort p 0
    else s.ctrlSet p v := rfl

theorem State.onlyRegs_ctrlSet : OnlyRegs s (s.ctrlSet p v) := ((OnlyRegs.refl s).setReg _ _ _).setFld _ _ _

theorem State.regsBut_ctrlSet : RegsBut s (s.ctrlSet p v) [(.lnkCtrl, p), (.lnkStatus, p)] :=
  ((RegsBut.refl s _).setReg (by simp) _).setFld (by simp) _

theorem State.ctrl_ctrlSet : (s.ctrlSet p v).reg .lnkCtrl p = ctrlWord p v :=
  (State.reg_setFld_ne _ _ (by decide)).trans (s.reg_setReg_same _ _ _)

theorem State.en_ctrlSet : (s.ctrlSet p v).fld F.lnkCtrlEn p = (v.getLsbD 0).toNat := by
  rw [State.fld, State.ctrl_ctrlSet, bits_ctrlWord_en]

theorem State.enFlag_ctrlSet : (s.ctrlSet p v).flag F.lnkCtrlEn p = v.getLsbD 0 := by
  rw [State.flag, State.en_ctrlSet]
  cases v.getLsbD 0 <;> rfl

theorem State.spareEn_ctrlSet : (s.ctrlSet p v).fld F.lnkCtrlSpareEn p = (v.getLsbD 3).toNat := by
  rw [State.fld, State.ctrl_ctrlSet, bits_ctrlWord_spareEn]

theorem State.state_ctrlSet : (s.ctrlSet p v).fld F.lnkStatusState p = s.fld F.lnkStatusState p := by
  rw [State.ctrlSet, State.showEnc, State.fld_setFld_beside _ F.lnkStatusEncOn F.lnkStatusState _ _ rfl (by decide) (by decide)]
  unfold State.fld
  rw [State.reg_setReg_ne _ _ (by decide)]

/-- Ports 16 and 17 read ENC_REQ as 1 whatever LNK_CTRL_p holds (R318). -/
theorem State.encReq_shown (h : 16 ≤ p) : s.shown .lnkCtrl p &&& 4 = 4 := by
  have shown : s.shown .lnkCtrl p = (s.reg .lnkCtrl p ||| if 16 ≤ p then 4 else 0) &&& ~~~0 := rfl
  rw [shown, if_pos h]
  ext i
  simp only [BitVec.getElem_and, BitVec.getElem_or, BitVec.getElem_not]
  grind

/-- A write that sets EN where it was 0 starts training. -/
theorem State.applyCtrl_starts (was : s.flag F.lnkCtrlEn p = false) (en : v.getLsbD 0 = true) :
    s.applyCtrl p v = (s.ctrlSet p v).setFld F.lnkStatusState p 1 := by
  rw [State.applyCtrl_eq, State.enFlag_ctrlSet, was, en]
  rfl

/-- A write that leaves EN at 1 neither starts nor stops the port. -/
theorem State.applyCtrl_stays (was : s.flag F.lnkCtrlEn p = true) (en : v.getLsbD 0 = true) : s.applyCtrl p v = s.ctrlSet p v := by
  rw [State.applyCtrl_eq, State.enFlag_ctrlSet, was, en]
  rfl

/-- A write that clears EN stops a port that carries no booked frames. -/
theorem State.applyCtrl_stops (was : s.flag F.lnkCtrlEn p = true) (sched : s.flag F.lnkCtrlSched p = false) (en : v.getLsbD 0 = false) :
    s.applyCtrl p v = (s.ctrlSet p v).stopPort p 0 := by
  rw [State.applyCtrl_eq, State.enFlag_ctrlSet, was, en, sched]
  rfl

/-- A control write waits on a port that runs, and takes effect at once on one that does not (R319). -/
theorem lnkCtrlWrite_up {p : Port} (up : s.portUp p.val = true) :
    Completes (.lnkCtrlWrite p v) s (s.setPort p.val { s.port p.val with ctrlNext := some v }) :=
  congrArg Host.Outcome.next (if_pos up)

theorem lnkCtrlWrite_down {p : Port} (down : s.portUp p.val = false) : Completes (.lnkCtrlWrite p v) s (s.applyCtrl p.val v) :=
  congrArg Host.Outcome.next (if_neg (by simp [down]))

end

/-! ## Resets and lane failures (R302, R308) -/

section
variable (s : State) (p : Nat)

/-- The state of a link reset before it is logged. -/
def State.retraining : State :=
  ((s.bump F.lnkErrLinkResets p 1).setPort p { s.port p with resend := (s.port p).unacked }).setFld F.lnkStatusState p 1

theorem State.resetLink_logWork : LogWork (s.retraining p) (s.resetLink p) := State.logFault_logWork _ _ _ _ _ _ _ _ _ _ _ _

theorem State.resetLink_resets : (s.resetLink p).fld F.lnkStatusState p = 1 ∧ ((s.resetLink p).port p).resend = (s.port p).unacked ∧
    (s.resetLink p).fld F.lnkErrLinkResets p = min (s.fld F.lnkErrLinkResets p + 1) 65535 ∧
    (s.resetLink p).fld F.fltLogHeadNextSeq 0 = (s.fld F.fltLogHeadNextSeq 0 + 1) % 2 ^ 32 ∧ (s.resetLink p).ctxs = s.ctxs := by
  have logged := s.resetLink_logWork p
  refine ⟨?_, ?_, ?_, ?_, logged.ctxs⟩
  · rw [logged.fld (by decide), State.retraining, State.fld_setFld_same _ _ _ _ (by decide)]
    rfl
  · rw [logged.port, State.retraining, State.setFld_get_port, State.port_setPort_same]
  · rw [logged.fld (by decide), State.retraining, State.fld_setFld_ne _ (by decide), State.setPort_get_fld, State.bump_eq,
      State.fld_setFld_same _ _ _ _ (by decide)]
    exact Nat.mod_eq_of_lt (Nat.lt_of_le_of_lt (Nat.min_le_right _ _) (by decide))
  · refine (State.nextSeq_logFault _ _ _ _ _ _ _ _ _ _ _ _).trans ?_
    rw [State.fld_setFld_ne _ (by decide), State.setPort_get_fld, State.bump_eq, State.fld_setFld_ne _ (by decide)]

/-- The state in which the spare has a lane's place, before the failure is logged. -/
def State.spared (lane : Nat) : State :=
  (((s.setFld F.lnkStatusFailedLane p lane).setFld F.lnkStatusSpareInUse p 1).setFld F.lnkStatusState p 3).setBitOf F.lnkStatusLanesUp p lane
    false

theorem State.ports_spared (lane : Nat) : (s.spared p lane).ports = s.ports := by
  rw [State.spared, State.setBitOf_eq, State.setFld_ports, State.setFld_ports, State.setFld_ports, State.setFld_ports]

theorem State.ctxs_spared (lane : Nat) : (s.spared p lane).ctxs = s.ctxs := by
  rw [State.spared, State.setBitOf_eq, State.setFld_ctxs, State.setFld_ctxs, State.setFld_ctxs, State.setFld_ctxs]

theorem State.spared_fields {lane : Nat} (h : lane < 8) : (s.spared p lane).fld F.lnkStatusState p = 3 ∧
    (s.spared p lane).fld F.lnkStatusFailedLane p = lane ∧ (s.spared p lane).flag F.lnkStatusSpareInUse p = true ∧
    ((s.spared p lane).fld F.lnkStatusLanesUp p).testBit lane = false := by
  rw [State.spared, State.setBitOf_eq]
  refine ⟨?_, ?_, ?_, ?_⟩
  · simp (disch := decide) only [State.fld_setFld_beside, State.fld_setFld_same]
    rfl
  · simp (disch := decide) only [State.fld_setFld_beside, State.fld_setFld_same]
    omega
  · simp (disch := decide) only [State.flag, State.fld_setFld_beside, State.fld_setFld_same]
    rfl
  · rw [State.fld_setFld_same _ _ _ _ (by decide), Nat.testBit_mod_two_pow, testBit_putBits_bit, if_pos rfl, Bool.and_false]

variable {p : Port} {lane : Fin 8}

theorem laneFailure_spared (up : s.portUp p.val = true) (width : lane.val < portWidth p.val) (free : s.flag F.lnkStatusSpareInUse p.val = false)
    (en : s.flag F.lnkCtrlSpareEn p.val = true) : ∃ t, Completes (.laneFailure p lane) s t ∧ LogWork (s.spared p.val lane.val) t := by
  refine ⟨(s.spared p.val lane.val).logFault 0x15 0 false 0 0 31 31 p.val none 0 false, congrArg Host.Outcome.next ?_,
    State.logFault_logWork _ _ _ _ _ _ _ _ _ _ _ _⟩
  rw [if_neg (by simp [up, width]), if_neg (by simp [free]), if_pos en]
  rfl

/-- Without a spare for the lane the port is lost (R302). -/
theorem laneFailure_lost (up : s.portUp p.val = true) (width : lane.val < portWidth p.val)
    (none : s.flag F.lnkStatusSpareInUse p.val = false ∧ s.flag F.lnkCtrlSpareEn p.val = false ∨
      s.flag F.lnkStatusSpareInUse p.val = true ∧ s.fld F.lnkStatusFailedLane p.val ≠ lane.val) :
    Completes (.laneFailure p lane) s (s.portLost p.val 4) := by
  refine congrArg Host.Outcome.next ?_
  rw [if_neg (by simp [up, width])]
  obtain ⟨free, en⟩ | ⟨used, other⟩ := none
  · rw [if_neg (by simp [free]), if_neg (by simp [en])]
  · rw [if_pos used, if_neg other]

/-- Outside a group, a port that is lost stops and is logged. -/
theorem State.portLost_logWork (h : s.group = none) (p st : Nat) : LogWork (s.stopPort p st) (s.portLost p st) := by
  unfold State.portLost
  dsimp only
  rw [(s.stopPort_portWork p st).group, h]
  exact State.logFault_logWork _ _ _ _ _ _ _ _ _ _ _ _

theorem State.portLost_fails (h : s.group = none) (p : Nat) : (s.portLost p 4).fld F.lnkStatusState p = 4 ∧
    (s.portLost p 4).fld F.lnkStatusLanesUp p = 0 ∧ ((s.portLost p 4).port p).session = none ∧ (s.portLost p 4).ctxs = s.ctxs := by
  have logged := s.portLost_logWork h p 4
  obtain ⟨state, lanes, session⟩ := s.stopPort_stops p (st := 4) (by decide)
  refine ⟨(logged.fld (by decide) p).trans state, (logged.fld (by decide) p).trans lanes, ?_, logged.ctxs.trans (s.stopPort_portWork p 4).ctxs⟩
  rw [logged.port, session]

end

/-! ## Training (R308, R309) -/

section
variable (s : State) (p : Port) (delay : Nat) (peerPort : Fin 18) (peerRank : Fin 64)

/-- A port that has trained: its delay, its peer, its lanes and that it is up. -/
def State.trained : State :=
  let spare := s.flag F.lnkStatusSpareInUse p.val
  let t := ((s.setFld F.lnkDelayDelay p.val (if p.val < 16 then delay else 0)).setFld F.lnkStatusPeerPort p.val peerPort.val).setFld
    F.lnkStatusPeerRank p.val peerRank.val
  let lanes := 2 ^ portWidth p.val - 1
  (t.setFld F.lnkStatusLanesUp p.val (if spare then putBits lanes (t.fld F.lnkStatusFailedLane p.val) 1 0 else lanes)).setFld F.lnkStatusState p.val
    (if spare then 3 else 2)

theorem linkTrainingComplete_ignored (h : s.fld F.lnkStatusState p.val ≠ 1) : Completes (.linkTrainingComplete p delay peerPort peerRank) s s :=
  congrArg Host.Outcome.next (if_pos (.inl h))

theorem linkTrainingComplete_trained (h : s.fld F.lnkStatusState p.val = 1) (hd : delay ≤ 512) :
    Completes (.linkTrainingComplete p delay peerPort peerRank) s (s.trained p delay peerPort peerRank) :=
  congrArg Host.Outcome.next (if_neg (by omega))

theorem State.trained_fields (hd : delay ≤ 512) :
    (s.trained p delay peerPort peerRank).fld F.lnkStatusState p.val = (if s.flag F.lnkStatusSpareInUse p.val then 3 else 2) ∧
    (s.trained p delay peerPort peerRank).fld F.lnkStatusPeerPort p.val = peerPort.val ∧
    (s.trained p delay peerPort peerRank).fld F.lnkStatusPeerRank p.val = peerRank.val ∧
    (s.trained p delay peerPort peerRank).fld F.lnkDelayDelay p.val = (if p.val < 16 then delay else 0) := by
  refine ⟨?_, ?_, ?_, ?_⟩
  all_goals simp (disch := decide) only [State.trained, State.fld_setFld_ne, State.fld_setFld_beside, State.fld_setFld_same]
  · split <;> rfl
  · exact Nat.mod_eq_of_lt (by omega)
  · exact Nat.mod_eq_of_lt peerRank.isLt
  · exact Nat.mod_eq_of_lt (by split <;> omega)

theorem State.onlyRegs_trained : OnlyRegs s (s.trained p delay peerPort peerRank) :=
  (((((OnlyRegs.refl s).setFld _ _ _).setFld _ _ _).setFld _ _ _).setFld _ _ _).setFld _ _ _

theorem State.regsBut_trained : RegsBut s (s.trained p delay peerPort peerRank) [(.lnkStatus, p.val), (.lnkDelay, p.val)] :=
  (((((RegsBut.refl s _).setFld (by simp) _).setFld (by simp) _).setFld (by simp) _).setFld (by simp) _).setFld (by simp) _

end

/-! ## Items flooded on the ports of a group (R408) -/

/-- Nothing but the control items queued has changed. -/
def OnlySendq (s t : State) : Prop := t = { s with sendq := t.sendq }

theorem OnlySendq.trans {s t u : State} (h : OnlySendq s t) (g : OnlySendq t u) : OnlySendq s u := by
  unfold OnlySendq at h g ⊢
  rw [h] at g
  exact g

/-- The control items queued for a port. -/
def State.queuedFor (s : State) (q : Nat) : List (Nat × Nat × BitVec 240) := s.sendq.filter (·.1 == q)

/-- Whether an item of a kind waits for a port. -/
def State.awaits (s : State) (kind q : Nat) : Bool := s.sendq.any fun y => y.1 == q && y.2.1 == kind

section
variable (s : State)

theorem State.sendItem_onlySendq (p kind body : Nat) : OnlySendq s (s.sendItem p kind body) := by
  unfold State.sendItem
  split <;> rfl

theorem State.sendq_sendItem (p kind body : Nat) : (s.sendItem p kind body).sendq =
    if (s.queuedFor p).length < 16 then s.sendq ++ [(p, kind, BitVec.ofNat 240 body)] else s.sendq := by
  unfold State.sendItem
  split
  next room => exact (if_pos room).symm
  next full => exact (if_neg full).symm

theorem State.flood_onlySendq (g : Group) (except : Option Nat) (kind body : Nat) : OnlySendq s (s.flood g except kind body) :=
  State.each_keeps (P := OnlySendq s) _ (fun u x hu => hu.trans (u.sendItem_onlySendq x kind body)) rfl

theorem State.reg_flood (g : Group) (except : Option Nat) (kind body : Nat) (q : Reg) (j : Nat) :
    (s.flood g except kind body).reg q j = s.reg q j := by
  rw [s.flood_onlySendq g except kind body]
  rfl

variable {kind q : Nat}

theorem State.awaits_sendItem (h : s.awaits kind q = true) (p body : Nat) : (s.sendItem p kind body).awaits kind q = true := by
  rw [State.awaits, State.sendq_sendItem]
  split
  · rw [List.any_append, Bool.or_eq_true]
    exact .inl h
  · exact h

/-- An item sent for a port waits for it, unless 16 others do. -/
theorem State.awaits_or_full (body : Nat) :
    (s.sendItem q kind body).awaits kind q = true ∨ 16 ≤ ((s.sendItem q kind body).queuedFor q).length := by
  rw [State.awaits, State.queuedFor, State.sendq_sendItem]
  split
  · exact .inl (by simp)
  · exact .inr (by rw [← State.queuedFor]; omega)

theorem State.queuedFor_sendItem_le (p body : Nat) : (s.queuedFor q).length ≤ ((s.sendItem p kind body).queuedFor q).length := by
  unfold State.queuedFor
  rw [State.sendq_sendItem]
  split
  · rw [List.filter_append, List.length_append]
    exact Nat.le_add_right _ _
  · exact Nat.le_refl _

/-- The queue of a port changes by an item sent for that port only. -/
theorem State.awaits_or_queuedFor_eq (p body : Nat) :
    (s.sendItem p kind body).awaits kind q = true ∨ (s.sendItem p kind body).queuedFor q = s.queuedFor q := by
  rw [State.awaits, State.queuedFor, State.sendq_sendItem]
  split
  · by_cases e : p = q
    · exact .inl (by simp [e])
    · exact .inr (by simp [e, State.queuedFor])
  · exact .inr rfl

/-- After a flood an item waits for each group port whose queue had room. -/
theorem State.awaits_flood {g : Group} (hq : q ∈ g.ports) (room : (s.queuedFor q).length < 16) (body : Nat) :
    (s.flood g none kind body).awaits kind q = true := by
  have mem : q ∈ g.ports.filter fun p => some p != none := List.mem_filter.mpr ⟨hq, rfl⟩
  have sent : (s.flood g none kind body).awaits kind q = true ∨ 16 ≤ ((s.flood g none kind body).queuedFor q).length :=
    State.each_reaches (P := fun q u => u.awaits kind q = true ∨ 16 ≤ (u.queuedFor q).length) (fun u x => u.awaits_or_full body)
      (fun u _ y h => h.imp (fun w => u.awaits_sendItem w y body) fun full => full.trans (u.queuedFor_sendItem_le y body)) mem s
  have kept : (s.flood g none kind body).awaits kind q = true ∨ (s.flood g none kind body).queuedFor q = s.queuedFor q :=
    State.each_keeps (P := fun u => u.awaits kind q = true ∨ u.queuedFor q = s.queuedFor q) _
      (fun u y h => h.elim (fun w => .inl (u.awaits_sendItem w y body)) fun same =>
        (u.awaits_or_queuedFor_eq y body).imp_right fun e => e.trans same) (.inr rfl)
  refine sent.elim id fun full => kept.elim id fun same => ?_
  rw [same] at full
  omega

end

/-! ## Missed deadlines (R311, R408) -/

section
variable (s : State) (p : Nat)

/-- The state in which a missed deadline is counted. -/
def State.missed : State := s.bump F.lnkSlackDeadlineMiss p 1

theorem State.missed_counts : (s.missed p).fld F.lnkSlackDeadlineMiss p = min (s.fld F.lnkSlackDeadlineMiss p + 1) 65535 :=
  (State.fld_setFld_same _ _ _ _ (by decide)).trans (Nat.mod_eq_of_lt (Nat.lt_of_le_of_lt (Nat.min_le_right _ _) (by decide)))

theorem State.regsBut_missed {l : List (Reg × Nat)} (h : (.lnkSlack, p) ∈ l) : RegsBut s (s.missed p) l := (RegsBut.refl s l).setFld h _

theorem exec_frameDeadlineMiss (p : Port) (c : CtxId) (item : BitVec 240) : exec (.frameDeadlineMiss p c item) s =
    .next (if (s.launch c.val).any (·.group) then
      (s.missed p.val).raiseStall (signed 64 (bits item.toNat 170 64)) (bits item.toNat 169 1 == 1) (bits item.toNat 161 8)
    else s.missed p.val) := by
  have same : (s.missed p.val).launch c.val = s.launch c.val := s.setFld_get_launch _ _ _ _
  rw [← same]
  rfl

end

section
variable (s : State) (g : Group) (x : Stall)

/-- A stall recorded in logical order among those of a group, and shown. -/
def State.stalled : State :=
  ({ s with group := some { g with stalls := (g.stalls ++ [x]).mergeSort stallBefore } } : State).setFld F.hubGroupStatusStalled 0 1

theorem State.group_stalled : (s.stalled g x).group = some { g with stalls := (g.stalls ++ [x]).mergeSort stallBefore } := rfl

theorem State.sendq_stalled : (s.stalled g x).sendq = s.sendq := rfl

theorem State.stalled_shown : (s.stalled g x).fld F.hubGroupStatusStalled 0 = 1 := State.fld_setFld_same _ _ _ _ (by decide)

theorem State.reg_stalled {q : Reg} {j : Nat} (h : q.key j ≠ Reg.hubGroupStatus.key 0) : (s.stalled g x).reg q j = s.reg q j :=
  State.reg_setFld_other _ _ _ h

variable {s g x}

/-- A stall at a hold point of its own is recorded. -/
theorem State.addStall_new (hg : s.group = some g) (new : ∀ y ∈ g.stalls, ¬(y.tau = x.tau ∧ y.late = x.late)) : s.addStall x = s.stalled g x := by
  have fresh : ¬(s.group.any fun g => g.stalls.any fun y => y.tau == x.tau && y.late == x.late) = true := by
    simpa [hg] using new
  rw [State.addStall, if_neg fresh, State.modGroup, hg]
  rfl

/-- A stall that this member detects is flooded on every group port and recorded. -/
theorem State.raiseStall_floods (hg : s.group = some g) (mine : x.mine = true) (since : x.since = s.tick)
    (new : ∀ y ∈ g.stalls, ¬(y.tau = x.tau ∧ y.late = x.late)) :
    ∃ body, s.raiseStall x.tau x.late x.cause = (s.flood g none 6 body).stalled g x := by
  have same : ({ tau := x.tau, late := x.late, cause := x.cause, since := s.tick, mine := true } : Stall) = x := by rw [← since, ← mine]
  unfold State.raiseStall
  rw [hg]
  dsimp only
  rw [same]
  refine ⟨_, State.addStall_new ?_ new⟩
  rw [s.flood_onlySendq]
  exact hg

end

/-- A missed deadline of a group launch: counted, flooded on the group ports and recorded among the stalls. -/
theorem frameDeadlineMiss_floods (p : Port) (c : CtxId) (item : BitVec 240) (s : State) {g : Group} {x : Stall}
    (group : (s.launch c.val).any (·.group) = true) (hg : s.group = some g)
    (hx : x =
      { tau := signed 64 (bits item.toNat 170 64), late := bits item.toNat 169 1 == 1, cause := bits item.toNat 161 8, since := s.tick, mine := true })
    (new : ∀ y ∈ g.stalls, ¬(y.tau = x.tau ∧ y.late = x.late)) :
    ∃ body, Completes (.frameDeadlineMiss p c item) s (((s.missed p.val).flood g none 6 body).stalled g x) := by
  have since : x.since = (s.missed p.val).tick := by rw [hx, State.missed, State.bump_eq, State.tick_setFld _ _ _ _ (by decide)]
  have member : (s.missed p.val).group = some g := (s.setFld_group _ _ _).trans hg
  obtain ⟨body, stalled⟩ := State.raiseStall_floods member (by rw [hx]) since new
  refine ⟨body, ?_⟩
  rw [← stalled, Completes, exec_frameDeadlineMiss, if_pos group, hx]

/-! ## The obligation -/

/-- Settles O6: each command by the lemma about its branch, and what stays by the registers that the branch writes. -/
theorem portControl : Obligations.PortControl := by
  refine ⟨fun p v s => ⟨lnkCtrlWrite_up s v, fun down was en => ?start, fun down was en => ?stay, fun down was sched en => ?stop⟩,
    fun p s => ⟨fun down => ?ignored, fun up => ?reset, fun lane up width => ⟨fun free en => ?spare, fun alone none => ?lost⟩,
      fun delay peerPort peerRank => ⟨linkTrainingComplete_ignored s p delay peerPort peerRank, fun training hd => ?trained⟩,
      fun c item => ⟨fun alone => ?missed, fun g x group hg hx new => ?stall⟩⟩⟩
  case start =>
    have run := lnkCtrlWrite_down s v down
    rw [s.applyCtrl_starts _ v was en] at run
    have kept (f : Fld) (hf : f.reg = .lnkCtrl) :
        ((s.ctrlSet p.val v).setFld F.lnkStatusState p.val 1).fld f p.val = (s.ctrlSet p.val v).fld f p.val :=
      State.fld_setFld_ne _ (by rw [hf]; decide) _ _ _
    refine ⟨_, run, (s.onlyRegs_ctrlSet _ v).setFld _ _ _, State.fld_setFld_same _ _ _ _ (by decide), ?_, ?_,
      State.encReq_shown _ _, (s.regsBut_ctrlSet _ v).setFld (by simp) _⟩
    · rw [kept _ rfl, State.en_ctrlSet, en]
      rfl
    · rw [kept _ rfl, State.spareEn_ctrlSet]
      cases v.getLsbD 3 <;> rfl
  case stay =>
    have run := lnkCtrlWrite_down s v down
    rw [s.applyCtrl_stays _ v was en] at run
    refine ⟨_, run, s.onlyRegs_ctrlSet _ v, s.regsBut_ctrlSet _ v, ?_, s.state_ctrlSet _ v⟩
    rw [State.en_ctrlSet, en]
    rfl
  case stop =>
    have run := lnkCtrlWrite_down s v down
    rw [s.applyCtrl_stops _ v was sched en] at run
    have work := (s.ctrlSet p.val v).stopPort_portWork p.val 0
    obtain ⟨state, lanes, session⟩ := (s.ctrlSet p.val v).stopPort_stops p.val (st := 0) (by decide)
    refine ⟨_, run, (s.onlyRegs_ctrlSet _ v).sameMemory.trans work.sameMemory, state, lanes, session, ?_⟩
    rw [work.fld (by decide), State.en_ctrlSet, en]
    rfl
  case ignored =>
    exact ⟨congrArg Host.Outcome.next (if_neg (by simp [down])), fun lane => congrArg Host.Outcome.next (if_pos (by simp [down]))⟩
  case reset => exact ⟨_, congrArg Host.Outcome.next (if_pos up), s.resetLink_resets p.val⟩
  case spare =>
    obtain ⟨t, run, logged⟩ := laneFailure_spared s up width free en
    obtain ⟨state, failed, used, lanes⟩ := s.spared_fields p.val lane.isLt
    refine ⟨t, run, (logged.fld (by decide) _).trans state, (logged.fld (by decide) _).trans failed, ?_, ?_,
      logged.ports.trans (s.ports_spared _ _), logged.ctxs.trans (s.ctxs_spared _ _)⟩
    · rw [State.flag, logged.fld (by decide)]
      exact used
    · rw [logged.fld (by decide)]
      exact lanes
  case lost => exact ⟨_, laneFailure_lost s up width none, s.portLost_fails alone p.val⟩
  case trained =>
    obtain ⟨state, port, rank, measured⟩ := s.trained_fields p delay peerPort peerRank hd
    exact ⟨_, linkTrainingComplete_trained s p delay peerPort peerRank training hd, state, port, rank, measured,
      s.regsBut_trained p delay peerPort peerRank, s.onlyRegs_trained p delay peerPort peerRank⟩
  case missed =>
    refine ⟨s.missed p.val, ?_, s.missed_counts p.val, (OnlyRegs.refl s).setFld _ _ _, (s.regsBut_missed p.val (by simp)).sameRegsBut⟩
    rw [Completes, exec_frameDeadlineMiss, alone]
    rfl

  case stall =>
    obtain ⟨body, run⟩ := frameDeadlineMiss_floods p c item s group hg hx new
    refine ⟨_, _, run, State.group_stalled _ _ _, List.mergeSort_perm _ _, State.stalled_shown _ _ _, ?_, fun q j hq => ?_, fun q hq room => ?_⟩
    · rw [← s.missed_counts, State.fld, State.reg_stalled _ _ _ fun e => absurd (Reg.key_inj e).1 (by decide), State.reg_flood, State.fld]
    · rw [State.reg_stalled _ _ _ fun e => hq ⟨(.hubGroupStatus, 0), by simp, e⟩, State.reg_flood]
      exact s.regsBut_missed p.val (by simp) q j hq
    · have waiting : (s.missed p.val).queuedFor q = s.sendq.filter (·.1 == q) := by
        rw [State.queuedFor, State.missed, State.bump_eq, State.setFld_sendq]
      rw [State.sendq_stalled]
      exact State.awaits_flood _ hq (waiting ▸ room) body

end Sys2Proof.Machine
end

section
/-!
PROOF. O53, sending: what comes before a frame leaves the sending side of its port alone (R303–R308, R314, R315).
-/
namespace Sys2Proof.Machine

/-- What the work before a frame of a port leaves alone: memories and poison tags, LNK_SEQ_p, the replay buffer, and whether NAK is due. -/
def State.outbox (s : State) (p : Nat) : List Host.Cell × Sparse Bool × Word × List Frame × Bool :=
  (s.mem, s.poison, s.reg .lnkSeq p, (s.port p).replay, (s.port p).nakDue)

section
variable (s : State) (p : Nat)

@[simp] theorem State.outbox_setReg (r : Reg) (i : Nat) (v : Word) (h : r ≠ .lnkSeq) : (s.setReg r i v).outbox p = s.outbox p := by
  unfold State.outbox
  rw [State.reg_setReg_ne _ _ h.symm]
  rfl

@[simp] theorem State.outbox_setFld (f : Fld) (i v : Nat) (h : f.reg ≠ .lnkSeq) : (s.setFld f i v).outbox p = s.outbox p :=
  s.outbox_setReg p _ _ _ h

@[simp] theorem State.outbox_setAcre (n : Nat) (x : Acre) : (s.setAcre n x).outbox p = s.outbox p := id rfl

@[simp] theorem State.outbox_ite (c : Prop) [Decidable c] (t : State) :
    (if c then s else t).outbox p = if c then s.outbox p else t.outbox p := apply_ite (State.outbox · p) _ _ _

theorem State.outbox_setPort {x : PortState} (replay : x.replay = (s.port p).replay) (nak : x.nakDue = (s.port p).nakDue) :
    (s.setPort p x).outbox p = s.outbox p := by
  unfold State.outbox
  rw [State.port_setPort_same, replay, nak]
  rfl

theorem State.outbox_endSession : (s.endSession p).outbox p = s.outbox p := by
  have work := s.endSession_portWork p
  unfold State.outbox
  rw [work.sameMemory.1, work.sameMemory.2, work.regs _ _ (by decide), State.port_endSession]

/-! ## Blocks of the expander -/

@[simp] theorem State.outbox_syncEnt : s.syncEnt.outbox p = s.outbox p := by simp [State.syncEnt]

@[simp] theorem State.outbox_setSource (b : Nat) (v : Source) : (s.setSource b v).outbox p = s.outbox p := by
  unfold State.setSource
  exact State.outbox_syncEnt _ p

@[simp] theorem State.outbox_dropKeys : s.dropKeys.outbox p = s.outbox p :=
  State.each_keeps (P := fun u => u.outbox p = s.outbox p) _ (fun u _ hu => (u.outbox_setAcre p _ _).trans hu) rfl

theorem State.outbox_block {s : State} {b : Nat} {r : BitVec 128 × State} (e : s.block b = some r) : r.2.outbox p = s.outbox p := by
  unfold State.block at e
  dsimp only at e
  split at e
  · cases e
  · split at e
    · cases e
    · cases e
      dsimp only
      split <;> simp

theorem State.outbox_blocks (n : Nat) (l : List Byte) : (s.blocks n l).2.outbox p = s.outbox p := by
  induction n generalizing s l with
  | zero => rfl
  | succ n ih =>
    unfold State.blocks
    split
    · rfl
    · next e => exact (ih _ _).trans (State.outbox_block p e)

theorem State.outbox_takeBlocks {s : State} {n : Nat} {r : List Byte × State} (e : s.takeBlocks n = some r) : r.2.outbox p = s.outbox p := by
  unfold State.takeBlocks at e
  dsimp only at e
  split at e
  · cases e
    exact s.outbox_blocks p _ _
  · cases e

/-! ## Before a frame -/

theorem State.outbox_sendHello : (s.sendHello p).outbox p = s.outbox p := by
  unfold State.sendHello
  split
  · rfl
  · next e =>
      refine Eq.trans ?_ (State.outbox_takeBlocks p e)
      exact State.outbox_setPort _ p rfl rfl

theorem State.outbox_advanceEpoch (seq : Nat) : (s.advanceEpoch p seq).outbox p = s.outbox p := by
  have shown (v : Nat) : (s.setFld F.lnkStatusEpoch p v).outbox p = s.outbox p := s.outbox_setFld p _ _ _ (by decide)
  unfold State.advanceEpoch
  split
  · rfl
  · split
    · rfl
    · dsimp only
      split
      · exact s.outbox_endSession p
      · split
        · exact shown _
        · split
          · exact (State.outbox_setFld _ p _ _ _ (by decide)).trans (shown _)
          · split
            · exact (State.outbox_sendHello _ p).trans (shown _)
            · exact shown _

/-- The control items queued without the one that the frame carries. -/
def State.unqueued (item : Option (Nat × Nat × BitVec 240)) : State := match item with
  | some i => { s with sendq := s.sendq.erase i }
  | none => s

theorem State.outbox_unqueued (item : Option (Nat × Nat × BitVec 240)) : (s.unqueued item).outbox p = s.outbox p := by
  cases item <;> rfl

theorem State.outbox_nextPayload (enc : Bool) : (s.nextPayload p enc).2.2.outbox p = s.outbox p := by
  unfold State.nextPayload
  dsimp only
  split
  · rfl
  · split
    · exact s.outbox_setPort p rfl rfl
    · split <;> rfl

end

/-! ## The fields of a frame (R305, R306) -/

theorem crcStep_lt {poly : Nat} (hp : poly < 2 ^ 32) (r : Nat) (b : Bool) : crcStep poly r b < 2 ^ 32 := by
  have shifted : r * 2 % 2 ^ 32 < 2 ^ 32 := Nat.mod_lt _ (by decide)
  unfold crcStep
  dsimp only
  split
  · exact Nat.xor_lt_two_pow shifted hp
  · exact shifted

/-- CHECK has 32 bits. -/
theorem linkCheck_lt (ctl : BitVec 256) (payload : List Byte) (head : Nat) : linkCheck ctl payload head < 2 ^ 32 :=
  Nat.xor_lt_two_pow (List.foldlRecOn (motive := (· < 2 ^ 32)) _ _ (by decide) fun r _ b _ => crcStep_lt (by decide) r b) (by decide)

/-- Bits [255:160] of a trailer (R305). -/
def headOf (seq ack : Nat) (nak enc empty : Bool) (epoch : Nat) : Nat :=
  bits (seq * 2 ^ 224 + ack * 2 ^ 192 + (if nak then 2 ^ 191 else 0) + (if enc then 2 ^ 190 else 0) + (if empty then 2 ^ 189 else 0) +
    epoch * 2 ^ 176) 160 96

/-- A frame of a control flit, a payload and a head, with its check and tag (R306). -/
def frameOf (ctl : BitVec 256) (payload : List Byte) (head : Nat) (tag : BitVec 128) : Frame :=
  { ctl := ctl, payload := payload, trailer := BitVec.ofNat 256 (head * 2 ^ 160 + linkCheck ctl payload head * 2 ^ 128 + tag.toNat) }

section
variable (ctl : BitVec 256) (payload : List Byte) {head : Nat} (tag : BitVec 128)

theorem trailer_frameOf (h : head < 2 ^ 96) : (frameOf ctl payload head tag).trailer.toNat =
    head * 2 ^ 160 + linkCheck ctl payload head * 2 ^ 128 + tag.toNat := by
  have check := linkCheck_lt ctl payload head
  have low := tag.isLt
  rw [frameOf, BitVec.toNat_ofNat]
  exact Nat.mod_eq_of_lt (by omega)

theorem head_frameOf (h : head < 2 ^ 96) : (frameOf ctl payload head tag).head = head := by
  have check := linkCheck_lt ctl payload head
  have low := tag.isLt
  rw [Frame.head, trailer_frameOf ctl payload tag h, bits]
  omega

theorem check_frameOf (h : head < 2 ^ 96) : (frameOf ctl payload head tag).check = linkCheck ctl payload head := by
  have check := linkCheck_lt ctl payload head
  have low := tag.isLt
  rw [Frame.check, trailer_frameOf ctl payload tag h, bits]
  omega

end

/-- A field of a trailer above its check is a field of its head. -/
theorem bits_trailer (f : Frame) (lo n : Nat) : bits f.trailer.toNat (160 + lo) n = bits f.head lo n := by
  have high : f.trailer.toNat / 2 ^ 160 < 2 ^ 96 := Nat.div_lt_of_lt_mul f.trailer.isLt
  unfold Frame.head bits
  rw [Nat.mod_eq_of_lt high, Nat.div_div_eq_div_mul, Nat.pow_add]

section
variable {seq ack epoch : Nat} {nak enc empty : Bool} {f : Frame}

theorem ite_eq_toNat_mul (b : Bool) (n : Nat) : (if b then n else 0) = b.toNat * n := by cases b <;> simp

theorem headOf_eq (hs : seq < 2 ^ 32) (ha : ack < 2 ^ 32) (he : epoch < 2 ^ 8) : headOf seq ack nak enc empty epoch =
    seq * 2 ^ 64 + ack * 2 ^ 32 + nak.toNat * 2 ^ 31 + enc.toNat * 2 ^ 30 + empty.toNat * 2 ^ 29 + epoch * 2 ^ 16 := by
  have low : nak.toNat ≤ 1 ∧ enc.toNat ≤ 1 ∧ empty.toNat ≤ 1 := ⟨Bool.toNat_le nak, Bool.toNat_le enc, Bool.toNat_le empty⟩
  rw [headOf, bits, ite_eq_toNat_mul, ite_eq_toNat_mul, ite_eq_toNat_mul]
  omega

/-- The number, the acknowledgement and NAK that a head carries. -/
theorem fields_of_headOf (hs : seq < 2 ^ 32) (ha : ack < 2 ^ 32) (he : epoch < 2 ^ 8) (hf : f.head = headOf seq ack nak enc empty epoch) :
    f.seq = seq ∧ f.ack = ack ∧ f.nak = nak := by
  have low : nak.toNat ≤ 1 ∧ enc.toNat ≤ 1 ∧ empty.toNat ≤ 1 := ⟨Bool.toNat_le nak, Bool.toNat_le enc, Bool.toNat_le empty⟩
  rw [headOf_eq hs ha he] at hf
  refine ⟨?_, ?_, ?_⟩
  · rw [Frame.seq, bits_trailer f 64 32, hf, bits]
    omega
  · rw [Frame.ack, bits_trailer f 32 32, hf, bits]
    omega
  · have nakBit : (f.nak).toNat = nak.toNat := by
      rw [Frame.nak, ← BitVec.testBit_toNat, ← bits_one_eq_testBit, bits_trailer f 31 1, hf, bits]
      omega
    exact (by decide : ∀ a b : Bool, a.toNat = b.toNat → a = b) _ _ nakBit

end

/-! ## A new frame -/

/-- A frame sent: it stands in the replay buffer and on the wire, and the next SEQ follows. -/
def State.frameSent (u : State) (p seq : Nat) (f : Frame) : State :=
  (u.setPort p { u.port p with replay := (u.port p).replay ++ [f], nakDue := false, wire := some f }).setFld F.lnkSeqTxSeq p (seq + 1)

theorem State.newFrame_eq (s : State) (p : Nat) (room : (s.port p).replay.length < 64) :
    ∃ (u : State) (ctl : BitVec 256) (payload : List Byte) (tag : BitVec 128) (enc empty : Bool) (epoch : Nat),
    u.outbox p = s.outbox p ∧ epoch < 2 ^ 8 ∧ s.newFrame p = u.frameSent p (s.fld F.lnkSeqTxSeq p) (frameOf ctl payload
      (headOf (s.fld F.lnkSeqTxSeq p) ((u.fld F.lnkSeqRxExpect p + 2 ^ 32 - 1) % 2 ^ 32) (u.port p).nakDue enc empty epoch) tag) := by
  unfold State.newFrame
  extract_lets seq epochal session live item taken ctl load count src ready payload enc epoch head sealed trailer f kept lost src' queued sent
  have outbox : ready.outbox p = s.outbox p := by
    have advanced : epochal.outbox p = s.outbox p := s.outbox_advanceEpoch p seq
    have item_taken : taken.outbox p = epochal.outbox p := epochal.outbox_unqueued p item
    have begun : ready.outbox p = load.2.2.outbox p := load.2.2.outbox_setPort p rfl rfl
    exact begun.trans ((taken.outbox_nextPayload p live).trans (item_taken.trans advanced))
  have replay : (ready.port p).replay = (s.port p).replay := congrArg (·.2.2.2.1) outbox
  have short : kept.length ≤ 64 := by
    simp only [kept, replay, List.length_append, List.length_singleton]
    omega
  have inTime : lost = false := by simp only [lost, decide_eq_false (Nat.not_lt.mpr short), Bool.false_and]
  have whole : kept.drop (kept.length - 64) = kept := by rw [Nat.sub_eq_zero_of_le short, List.drop_zero]
  refine ⟨ready, ctl, sealed.1, sealed.2, enc, load.1.isEmpty, epoch, outbox, bits_lt _ _ _, ?_⟩
  rw [inTime, if_neg Bool.false_ne_true]
  simp only [sent, queued, whole]
  rfl

/-- A frame sent into a replay buffer with room stands there and on the wire, with the next SEQ, the acknowledgement of the last frame received and
its check; memory stays (R303, R305, R306). -/
theorem State.newFrame_sends (s : State) (p : Nat) (room : (s.port p).replay.length < 64) : ∃ f : Frame,
    ((s.newFrame p).port p).wire = some f ∧ ((s.newFrame p).port p).replay = (s.port p).replay ++ [f] ∧ ((s.newFrame p).port p).nakDue = false ∧
    f.seq = s.fld F.lnkSeqTxSeq p ∧ (s.newFrame p).fld F.lnkSeqTxSeq p = (s.fld F.lnkSeqTxSeq p + 1) % 2 ^ 32 ∧
    f.check = linkCheck f.ctl f.payload f.head ∧ f.ack = (s.fld F.lnkSeqRxExpect p + 2 ^ 32 - 1) % 2 ^ 32 ∧ f.nak = (s.port p).nakDue ∧
    SameMemory s (s.newFrame p) := by
  obtain ⟨u, ctl, payload, tag, enc, empty, epoch, outbox, he, sent⟩ := s.newFrame_eq p room
  obtain ⟨mem, poison, seq, replay, nak⟩ : u.mem = s.mem ∧ u.poison = s.poison ∧ u.reg .lnkSeq p = s.reg .lnkSeq p ∧
      (u.port p).replay = (s.port p).replay ∧ (u.port p).nakDue = (s.port p).nakDue := by simpa only [State.outbox, Prod.mk.injEq] using outbox
  have expect : u.fld F.lnkSeqRxExpect p = s.fld F.lnkSeqRxExpect p := congrArg (fun w : Word => bits w.toNat 0 32) seq
  rw [expect, nak] at sent
  generalize hh : headOf _ _ _ _ _ _ = head at sent
  have small : head < 2 ^ 96 := hh ▸ bits_lt _ _ _
  have port : (s.newFrame p).port p = { u.port p with
      replay := (u.port p).replay ++ [frameOf ctl payload head tag], nakDue := false, wire := some (frameOf ctl payload head tag) } := by
    rw [sent, State.frameSent, State.setFld_get_port, State.port_setPort_same]
  obtain ⟨hseq, hack, hnak⟩ := fields_of_headOf (bits_lt _ _ _) (Nat.mod_lt _ (by decide)) he ((head_frameOf ctl payload tag small).trans hh.symm)
  refine ⟨frameOf ctl payload head tag, ?_, ?_, ?_, hseq, ?_, ?_, hack, hnak, ?_⟩
  · rw [port]
  · rw [port, replay]
  · rw [port]
  · rw [sent, State.frameSent, State.fld_setFld_same _ _ _ _ (by decide)]
  · rw [check_frameOf ctl payload tag small, head_frameOf ctl payload tag small]
    rfl
  · rw [sent, State.frameSent, SameMemory, State.setFld_mem, State.setFld_poison]
    exact ⟨mem, poison⟩

end Sys2Proof.Machine
end

section
/-!
PROOF. O53: FRAME_SEND and FRAME_RECEIVE (R303, R305–R308, R311).
-/
namespace Sys2Proof.Machine

/-! ## Sending -/

section
variable (s : State)

theorem frameSend_down {p : Port} (down : s.portUp p.val = false) : Completes (.frameSend p) s s :=
  congrArg Host.Outcome.next (if_pos (by simp [down]))

/-- With no control write waiting, a port that is up sends its next frame. -/
theorem frameSend_up {p : Port} (up : s.portUp p.val = true) (calm : (s.port p.val).ctrlNext = none) :
    Completes (.frameSend p) s (s.sendFrame p.val) := by
  refine congrArg Host.Outcome.next ?_
  rw [if_neg (by simp [up]), calm]

variable (p : Nat)

theorem State.sendFrame_resend (up : s.portUp p = true) {f : Frame} {rest : List Frame} (h : (s.port p).resend = f :: rest) :
    s.sendFrame p = s.resendFrame p f rest := by
  rw [State.sendFrame, if_neg (by simp [up]), h]

theorem State.sendFrame_new (up : s.portUp p = true) (h : (s.port p).resend = []) : s.sendFrame p = s.newFrame p := by
  rw [State.sendFrame, if_neg (by simp [up]), h]

theorem State.resendFrame_eq (f : Frame) (rest : List Frame) : ∃ slack n, s.resendFrame p f rest =
    ((s.setPort p { s.port p with resend := rest, wire := some f, slack := slack }).bump F.lnkSlackSlackUsed p 1).setFld F.lnkSlackMaxSlack p n :=
  ⟨_, _, rfl⟩

/-- A frame resent goes out as it was and takes a slack frame (R308, R311). -/
theorem State.resendFrame_resends (f : Frame) (rest : List Frame) : ((s.resendFrame p f rest).port p).wire = some f ∧
    ((s.resendFrame p f rest).port p).resend = rest ∧
    (s.resendFrame p f rest).fld F.lnkSlackSlackUsed p = min (s.fld F.lnkSlackSlackUsed p + 1) (2 ^ 24 - 1) ∧
    SameMemory s (s.resendFrame p f rest) ∧ SameRegsBut s (s.resendFrame p f rest) .lnkSlack p := by
  obtain ⟨slack, n, e⟩ := s.resendFrame_eq p f rest
  rw [e, State.bump_eq, State.setFld_get_port, State.setFld_get_port, State.port_setPort_same]
  refine ⟨rfl, rfl, ?_, (((SameMemory.refl s).setPort _ _).setFld _ _ _).setFld _ _ _, RegsBut.sameRegsBut ?_⟩
  · rw [State.fld_setFld_beside _ F.lnkSlackMaxSlack F.lnkSlackSlackUsed _ _ rfl (by decide) (by decide),
      State.fld_setFld_same _ _ _ _ (by decide), State.setPort_get_fld]
    exact Nat.mod_eq_of_lt (Nat.lt_of_le_of_lt (Nat.min_le_right _ _) (by decide))
  · exact (((RegsBut.refl s _).setPort _ _).setFld (by simp) _).setFld (by simp) _

end

/-! ## Receiving -/

section
variable (s : State) (p : Nat) (f : Frame)

/-- The state in which an arriving frame is counted (R316). -/
def State.frameCounted : State := s.setPort p { s.port p with received := (s.port p).received + 1 }

variable {s p f}

section
variable (up : s.portUp p = true) (length : f.payload.length = 1984)
include up

theorem State.frameIn_bad (check : linkCheck f.ctl f.payload f.head ≠ f.check) :
    s.frameIn p f = ((s.frameCounted p).bump F.lnkErrCheckFail p 1).nak p := by
  rw [State.frameIn, if_neg (by simp [up])]
  exact if_pos (.inr check)

include length

theorem State.frameIn_other (check : linkCheck f.ctl f.payload f.head = f.check) (seq : f.seq ≠ s.fld F.lnkSeqRxExpect p) :
    s.frameIn p f = if serialAbove f.seq (s.fld F.lnkSeqRxExpect p) then (s.frameCounted p).nak p else s.frameCounted p := by
  rw [State.frameIn, if_neg (by simp [up])]
  exact (if_neg (by simp [length, check])).trans (if_pos seq)

theorem State.frameIn_clear (check : linkCheck f.ctl f.payload f.head = f.check) (seq : f.seq = s.fld F.lnkSeqRxExpect p) (clear : f.enc = false) :
    s.frameIn p f = ((s.frameCounted p).acceptFrame p f).deliver p f f.payload := by
  rw [State.frameIn, if_neg (by simp [up])]
  exact (if_neg (by simp [length, check])).trans ((if_neg (not_not.mpr seq)).trans (if_neg (by simp [clear])))

end

variable (s p f)

theorem State.port_nak : (s.nak p).port p = { s.port p with nakDue := true } := s.port_setPort_same p _

/-- An idle flit, and any on a control port, delivers no item (R304). -/
theorem State.itemIn_idle (ctl : BitVec 256) (h : 16 ≤ p ∨ bits ctl.toNat 248 8 = 0) : s.itemIn p ctl = s := by
  unfold State.itemIn
  dsimp only
  split
  · rfl
  · next fabric =>
    have idle := h.resolve_left fun control => fabric (.inl control)
    simp [idle]

/-- An empty frame with an idle flit delivers nothing; a fabric port's peer has been heard from. -/
theorem State.deliver_empty (payload : List Byte) (empty : f.empty = true) (idle : 16 ≤ p ∨ bits f.ctl.toNat 248 8 = 0) :
    s.deliver p f payload = if p < 16 then s.heardFrom p else s := by
  unfold State.deliver
  dsimp only
  rw [State.itemIn_idle _ _ _ idle, if_pos empty]

/-- The state in which the next frame is expected. -/
def State.expecting : State := s.setFld F.lnkSeqRxExpect p (f.seq + 1)

/-- A port that has taken the ACK of a frame. -/
def PortState.acking (x : PortState) (f : Frame) : PortState :=
  { x with acked := f.ack, session := x.session.map fun x => { x with rxEpoch := if f.enc then f.epoch else x.rxEpoch } }

/-- The state in which a frame's ACK is taken. -/
def State.acking : State := (s.expecting p f).setPort p (((s.expecting p f).port p).acking f)

theorem State.acceptFrame_eq : s.acceptFrame p f =
    if f.nak then ((s.acking p f).bump F.lnkErrRetries p 1).setPort p { (s.acking p f).port p with resend := ((s.acking p f).port p).unacked }
    else s.acking p f := rfl

theorem State.port_acking : (s.acking p f).port p = (s.port p).acking f := by
  rw [State.acking, State.port_setPort_same, State.expecting, State.setFld_get_port]

/-- What an accepted frame leaves: the next one is expected, its ACK is taken, and NAK has what is unacknowledged resent (R305, R308). -/
theorem State.acceptFrame_accepts : ((s.acceptFrame p f).port p).acked = f.ack ∧ (s.acceptFrame p f).fld F.lnkSeqRxExpect p = (f.seq + 1) % 2 ^ 32 ∧
    SameMemory s (s.acceptFrame p f) ∧ RegsBut s (s.acceptFrame p f) [(.lnkSeq, p), (.lnkErr, p)] ∧
    (f.nak = true → ((s.acceptFrame p f).port p).resend = (s.port p).replay.filter fun g => serialAbove g.seq f.ack) := by
  have expects : (s.acking p f).fld F.lnkSeqRxExpect p = (f.seq + 1) % 2 ^ 32 := by
    rw [State.acking, State.setPort_get_fld, State.expecting, State.fld_setFld_same _ _ _ _ (by decide)]
  have regs : RegsBut s (s.acking p f) [(.lnkSeq, p), (.lnkErr, p)] := ((RegsBut.refl s _).setFld (by simp) _).setPort _ _
  have memory : SameMemory s (s.acking p f) := ((SameMemory.refl s).setFld _ _ _).setPort _ _
  rw [State.acceptFrame_eq]
  split
  · rw [State.port_setPort_same, State.setPort_get_fld, State.bump_eq, State.fld_setFld_ne _ (by decide), State.port_acking]
    exact ⟨rfl, expects, (memory.setFld _ _ _).setPort _ _, (regs.setFld (by simp) _).setPort _ _, fun _ => rfl⟩
  · next calm => exact ⟨by rw [State.port_acking]; rfl, expects, memory, regs, fun nak => absurd nak calm⟩

/-- A frame from a member on a fabric port marks the group only (R411). -/
theorem State.heardIf_keeps : ∃ g, (if p < 16 then s.heardFrom p else s) = { s with group := g } := by
  split <;> exact ⟨_, rfl⟩

end

/-- A frame whose check fails is counted, and NAK is due (R306, R307). -/
theorem frameReceive_bad (p : Port) {f : Frame} {s : State} (up : s.portUp p.val = true) (check : linkCheck f.ctl f.payload f.head ≠ f.check) :
    ∃ t, Completes (.frameReceive p f) s t ∧ (t.port p.val).nakDue = true ∧
      t.fld F.lnkErrCheckFail p.val = min (s.fld F.lnkErrCheckFail p.val + 1) 65535 ∧ SameMemory s t ∧ SameRegsBut s t .lnkErr p.val := by
  refine ⟨_, congrArg Host.Outcome.next (State.frameIn_bad up check), ?_, ?_, ?_, RegsBut.sameRegsBut ?_⟩
  · rw [State.port_nak]
  · rw [State.nak, State.setPort_get_fld, State.bump_eq, State.fld_setFld_same _ _ _ _ (by decide), State.frameCounted, State.setPort_get_fld]
    exact Nat.mod_eq_of_lt (Nat.lt_of_le_of_lt (Nat.min_le_right _ _) (by decide))
  · exact (((SameMemory.refl s).setPort _ _).setFld _ _ _).setPort _ _
  · exact (((RegsBut.refl s _).setPort _ _).setFld (by simp) _).setPort _ _

/-- A frame out of order is dropped; one ahead of its turn has NAK sent (R307). -/
theorem frameReceive_other (p : Port) {f : Frame} {s : State} (up : s.portUp p.val = true) (length : f.payload.length = 1984)
    (check : linkCheck f.ctl f.payload f.head = f.check) (seq : f.seq ≠ s.fld F.lnkSeqRxExpect p.val) :
    ∃ t, Completes (.frameReceive p f) s t ∧ t.regs = s.regs ∧ SameMemory s t ∧ t.answers = s.answers ∧
      (serialAbove f.seq (s.fld F.lnkSeqRxExpect p.val) = true → (t.port p.val).nakDue = true) := by
  refine ⟨_, congrArg Host.Outcome.next (State.frameIn_other up length check seq), ?_⟩
  split
  · refine ⟨rfl, ((SameMemory.refl s).setPort _ _).setPort _ _, rfl, fun _ => ?_⟩
    rw [State.port_nak]
  · next behind => exact ⟨rfl, (SameMemory.refl s).setPort _ _, rfl, fun ahead => absurd ahead behind⟩

/-- An empty frame in the clear and in order is accepted (R305, R308). -/
theorem frameReceive_empty (p : Port) {f : Frame} {s : State} (up : s.portUp p.val = true) (length : f.payload.length = 1984)
    (check : linkCheck f.ctl f.payload f.head = f.check) (seq : f.seq = s.fld F.lnkSeqRxExpect p.val) (clear : f.enc = false)
    (empty : f.empty = true) (idle : 16 ≤ p.val ∨ bits f.ctl.toNat 248 8 = 0) :
    ∃ t, Completes (.frameReceive p f) s t ∧ (t.port p.val).acked = f.ack ∧ t.fld F.lnkSeqRxExpect p.val = (f.seq + 1) % 2 ^ 32 ∧
      SameMemory s t ∧ RegsBut s t [(.lnkSeq, p.val), (.lnkErr, p.val)] ∧
      (f.nak = true → (t.port p.val).resend = (s.port p.val).replay.filter fun g => serialAbove g.seq f.ack) := by
  have run : Completes (.frameReceive p f) s _ := congrArg Host.Outcome.next (State.frameIn_clear up length check seq clear)
  rw [State.deliver_empty _ _ _ _ empty idle] at run
  obtain ⟨g, heard⟩ := ((s.frameCounted p.val).acceptFrame p.val f).heardIf_keeps p.val
  rw [heard] at run
  obtain ⟨acked, expects, memory, regs, resent⟩ := (s.frameCounted p.val).acceptFrame_accepts p.val f
  have counted : (s.frameCounted p.val).port p.val = { s.port p.val with received := (s.port p.val).received + 1 } := s.port_setPort_same _ _
  rw [counted] at resent
  exact ⟨_, run, acked, expects, ((SameMemory.refl s).setPort _ _).trans memory, regs, resent⟩

/-- Settles O53: the next frame of a port that is up, and the three ways in which a frame that arrives is taken. -/
theorem frames : Obligations.Frames := by
  refine fun p s => ⟨fun down => ⟨frameSend_down s down, fun f => congrArg Host.Outcome.next (if_pos (by simp [down]))⟩,
    fun up calm => ⟨fun f rest h => ?resend, fun h room => ?new⟩,
    fun f up length => ⟨fun check => frameReceive_bad p up check, fun check seq => frameReceive_other p up length check seq,
      fun check seq clear empty idle => frameReceive_empty p up length check seq clear empty idle⟩⟩
  case resend =>
    have run := frameSend_up s up calm
    rw [s.sendFrame_resend _ up h] at run
    exact ⟨_, run, s.resendFrame_resends p.val f rest⟩
  case new =>
    have run := frameSend_up s up calm
    rw [s.sendFrame_new _ up h] at run
    obtain ⟨f, sent⟩ := s.newFrame_sends p.val room
    exact ⟨_, f, run, sent⟩

end Sys2Proof.Machine
end

section
/-!
PROOF. O49: the generations of a checkpoint are written, completed and mirrored (R338–R341), and their capture asks leave (R451).
-/
namespace Sys2Proof.Machine

/-! ## What work on the directory of the pools leaves -/

/-- Counting the pools sets GRN_POOL alone (R343). -/
theorem State.fld_countPools (s : State) {f : Fld} (h : f.reg ≠ .grnPool) (i : Nat) : s.countPools.fld f i = s.fld f i :=
  State.each_keeps (P := fun u => u.fld f i = s.fld f i) _ (fun u x hu => by
    rw [State.fld_setFld_ne _ h, State.fld_setFld_ne _ h, State.fld_setFld_ne _ h, hu]) rfl

/-- The mirror's BUSY bit stands as it is set before the pools are counted (R341). -/
theorem State.mirrorBusy_countPools (s : State) (d v : Nat) :
    (s.setFld F.grnStatusMirrorBusy d v).countPools.fld F.grnStatusMirrorBusy d = v % 2 :=
  (State.fld_countPools _ (by decide) _).trans (State.fld_setFld_same _ _ _ _ (by decide))

/-- The directory records are now `p`, and nothing but them and the register file has changed. -/
structure PoolsNow (s t : State) (p : List PoolRec) : Prop where
  pools : t.pools = p
  rest : t = { s with pools := t.pools, regs := t.regs }

theorem PoolsNow.intro (s : State) (p : List PoolRec) : PoolsNow s { s with pools := p } p := ⟨rfl, rfl⟩

section
variable {s t : State} {p : List PoolRec} (h : PoolsNow s t p)
include h

theorem PoolsNow.setFld (f : Fld) (i v : Nat) : PoolsNow s (t.setFld f i v) p where
  pools := (t.setFld_pools f i v).trans h.pools
  rest := by
    rw [State.setFld, State.setReg, h.rest]

theorem PoolsNow.countPools : PoolsNow s t.countPools p :=
  State.each_keeps (P := fun u => PoolsNow s u p) _ (fun _ _ hu => ((hu.setFld _ _ _).setFld _ _ _).setFld _ _ _) h

theorem PoolsNow.sameMemory : SameMemory s t := by
  rw [h.rest]
  exact ⟨rfl, rfl⟩

theorem PoolsNow.ctxs : t.ctxs = s.ctxs := by rw [h.rest]

end

/-! ## CHECKPOINT -/

/-- A generation taken leaves a record of its state in the own pool of every die of the launch (R338, R340). -/
theorem State.takeGeneration_takes (s : State) (c : Nat) (l : Launch) (state : Nat) : ∃ p, PoolsNow s (s.takeGeneration c l state) p ∧
    ∀ x ∈ l.homes, ∃ r ∈ p, r.ctx = c ∧ r.die = x ∧ r.state = state ∧ r.mirror = false ∧ r.tau = l.tau ∧ r.saved = s.capture c l true :=
  ⟨_, (PoolsNow.intro s _).countPools, fun _ hx =>
    ⟨_, List.mem_append_right _ (List.mem_map_of_mem hx), rfl, rfl, rfl, rfl, rfl, rfl⟩⟩

theorem LeaveTaken.sameMemory {s t : State} (h : LeaveTaken s t) : SameMemory s t := by
  rw [h.rest]
  exact ⟨rfl, rfl⟩

theorem State.launch_of_ctxs {s t : State} (h : t.ctxs = s.ctxs) (c : Nat) : t.launch c = s.launch c := by
  unfold State.launch State.ctx
  rw [h]

theorem State.modLaunch_sameMemory (s : State) (c : Nat) (f : Launch → Launch) : SameMemory s (s.modLaunch c f) := by
  rw [s.modLaunch_keeps]
  exact ⟨rfl, rfl⟩

theorem State.modLaunch_pools (s : State) (c : Nat) (f : Launch → Launch) : (s.modLaunch c f).pools = s.pools := by
  rw [s.modLaunch_keeps]

section
variable {s : State} {c : CtxId} {l : Launch} (running : s.launch c.val = some l)
include running

/-- Outside the capture ticks of a checkpoint's drain, and once the launch tick has its checkpoint, nothing happens (R338). -/
theorem exec_checkpoint_of_idle (idle : (∀ x ∈ l.drain, x.1 ≠ .ckpt ∨ x.2.2 < 4) ∨ l.ckpt = l.tau) :
    exec (.checkpoint c) s = .next s := by
  have runs : exec (.checkpoint c) s = execCheckpoint c s := rfl
  rw [runs, execCheckpoint, running]
  dsimp only
  split
  · next ch stage drain =>
    have early : stage < 4 ∨ l.ckpt = l.tau := idle.imp_left fun h => (h _ drain).resolve_left fun ne => ne rfl
    rw [if_pos early]
  · rfl

/-- In the capture ticks of a checkpoint's drain the generation waits for the leave of the launch's stooks (R338, R451). -/
theorem exec_checkpoint_of_capture {ch : Option Nat} {stage : Nat} (drain : l.drain = some (.ckpt, ch, stage)) (late : 4 ≤ stage)
    (fresh : l.ckpt ≠ l.tau) : exec (.checkpoint c) s = .next (s.withLeaves c.val (s.captureNeeds l) fun u =>
      (u.takeGeneration c.val l 1).modLaunch c.val fun l => { l with ckpt := l.tau }) := by
  have runs : exec (.checkpoint c) s = execCheckpoint c s := rfl
  rw [runs, execCheckpoint, running]
  dsimp only
  rw [drain]
  dsimp only
  rw [if_neg (by omega)]

/-- With its leave the checkpoint stands in the own pools of the launch's dies, and the launch knows of it. -/
theorem State.checkpoint_written {u t : State} (leave : LeaveTaken s u)
    (ht : t = (u.takeGeneration c.val l 1).modLaunch c.val fun l => { l with ckpt := l.tau }) :
    t.launch c.val = some { l with ckpt := l.tau } ∧ SameMemory s t ∧ ∀ x ∈ l.homes, ∃ r ∈ t.pools, r.ctx = c.val ∧ r.die = x ∧
      r.state = 1 ∧ r.mirror = false ∧ r.tau = l.tau ∧ r.saved = u.capture c.val l true := by
  obtain ⟨p, now, records⟩ := u.takeGeneration_takes c.val l 1
  have stays : (u.takeGeneration c.val l 1).launch c.val = some l := (State.launch_of_ctxs (now.ctxs.trans leave.ctxs) _).trans running
  subst ht
  refine ⟨State.launch_modLaunch_same stays _, (leave.sameMemory.trans now.sameMemory).trans (State.modLaunch_sameMemory _ _ _), ?_⟩
  rw [State.modLaunch_pools, now.pools]
  exact records

end

/-! ## CHECKPOINT_COMPLETE, MIRROR_SEND and MIRROR_COMPLETE -/

/-- CHECKPOINT_COMPLETE (R340). -/
theorem exec_checkpointComplete (c : CtxId) (d : Die) (s : State) : ∃ t, exec (.checkpointComplete c d) s = .next t ∧
    PoolsNow s t (s.pools.map fun r =>
      if r.ctx = c.val ∧ r.die = d.val ∧ r.mirror = false ∧ r.state = 1 then { r with state := 2 } else r) := by
  have runs : exec (.checkpointComplete c d) s = execCheckpointComplete c d s := rfl
  rw [runs, execCheckpointComplete]
  simp only [Bool.and_eq_true, decide_eq_true_eq, Bool.not_eq_true', beq_iff_eq, and_assoc]
  exact ⟨_, rfl, (PoolsNow.intro s _).countPools⟩

section
variable {s : State} {d : Die}

/-- A die whose mirror is free sends the newest record that is COMPLETE to the mirror pool of its eastern neighbour (R341). -/
theorem exec_mirrorSend_of_free {r : PoolRec} (newest : s.toMirror d.val = some r) (free : s.flag F.grnStatusMirrorBusy d.val = false)
    (other : s.nextDie d.val ≠ d.val) : ∃ t b p, exec (.mirrorSend d) s = .next t ∧ t.fld F.grnStatusMirrorBusy d.val = 1 ∧
      PoolsNow s t (p ++ [{ r with die := s.nextDie d.val, mirror := true, state := 1, base := b }]) := by
  have runs : exec (.mirrorSend d) s = execMirrorSend d s := rfl
  rw [runs, execMirrorSend, newest]
  dsimp only
  rw [if_neg (by simp [free, other])]
  exact ⟨_, _, _, rfl, State.mirrorBusy_countPools _ _ 1, ((PoolsNow.intro s _).setFld _ _ _).countPools⟩

/-- A die with nothing to send, with a copy on its way, or without a neighbour sends nothing (R341). -/
theorem exec_mirrorSend_of_rest (rests : s.toMirror d.val = none ∨ s.flag F.grnStatusMirrorBusy d.val = true ∨ s.nextDie d.val = d.val) :
    exec (.mirrorSend d) s = .next s := by
  have runs : exec (.mirrorSend d) s = execMirrorSend d s := rfl
  rw [runs, execMirrorSend]
  split
  · next r newest =>
    have busy : s.flag F.grnStatusMirrorBusy d.val = true ∨ s.nextDie d.val = d.val := rests.resolve_left (by simp [newest])
    rw [if_pos (by simpa using busy)]
  · rfl

/-- Whether a record is that of the generation of `m` in the mirror pool of `east` or in the own pool of `d`. -/
def PoolRec.twins (m : PoolRec) (east d : Nat) (r : PoolRec) : Bool :=
  r.ctx = m.ctx && r.gen = m.gen && r.tau = m.tau && (r.mirror && r.die == east || !r.mirror && r.die == d)

/-- When the copy on its way has landed, both records of its generation become MIRRORED (R341). -/
theorem exec_mirrorComplete {m : PoolRec}
    (sent : s.pools.find? (fun (r : PoolRec) => r.mirror && r.die == s.nextDie d.val && r.state == 1) = some m) :
    ∃ t, exec (.mirrorComplete d) s = .next t ∧ t.fld F.grnStatusMirrorBusy d.val = 0 ∧
      PoolsNow s t (s.pools.map fun r => if m.twins (s.nextDie d.val) d.val r then { r with state := 3 } else r) := by
  have runs : exec (.mirrorComplete d) s = execMirrorComplete d s := rfl
  rw [runs, execMirrorComplete, sent]
  exact ⟨_, rfl, State.mirrorBusy_countPools _ _ 0, ((PoolsNow.intro s _).setFld _ _ _).countPools⟩

end

/-- Settles O49: a checkpoint with its leave takes a generation, and each step of its record on to MIRRORED changes the directory alone. -/
theorem checkpoints : Obligations.Checkpoints := by
  refine fun c d s => ⟨fun l running => ⟨exec_checkpoint_of_idle running, fun ch stage drain late fresh => ⟨?send, ?take⟩⟩, ?complete,
    ?mirror, exec_mirrorSend_of_rest, ?mirrored⟩
  case send =>
    intro u sends
    rw [Completes, exec_checkpoint_of_capture running drain late fresh, State.withLeaves_of_sends sends]
  case take =>
    intro u begins
    obtain ⟨launch, memory, records⟩ := State.checkpoint_written running (State.begins_leaveTaken begins) rfl
    refine ⟨_, _, ?_, launch, rfl, memory, records⟩
    rw [Completes, exec_checkpoint_of_capture running drain late fresh, State.withLeaves_of_begins begins]
  case complete =>
    obtain ⟨t, run, now⟩ := exec_checkpointComplete c d s
    exact ⟨t, run, now.sameMemory, now.ctxs, now.pools⟩
  case mirror =>
    intro r newest free other
    obtain ⟨t, b, p, run, busy, now⟩ := exec_mirrorSend_of_free newest free other
    exact ⟨t, run, busy, now.sameMemory, now.ctxs, b, now.pools ▸ List.mem_append_right p List.mem_cons_self⟩
  case mirrored =>
    intro m sent
    obtain ⟨t, run, free, now⟩ := exec_mirrorComplete sent
    refine ⟨t, run, free, now.sameMemory, now.ctxs, by rw [now.pools, List.length_map], fun r hr ctx gen tau place => ?_⟩
    rw [now.pools]
    have twin : m.twins (s.nextDie d.val) d.val r = true := by simpa [PoolRec.twins, ctx, gen, tau] using place
    exact List.mem_map.mpr ⟨r, hr, if_pos twin⟩

end Sys2Proof.Machine
end

section
/-!
PROOF. O3 and O9: channel resets (R370), and messages that are repeated or come too late (R355, R356).
-/
namespace Sys2Proof.Machine

/-! ## A channel reset -/

section
variable (s : State) (n : Nat)

/-- A channel reset sets MBX_STATUS alone of the registers. -/
theorem State.regsBut_resetChan : RegsBut s (s.resetChan n) [(.mbxStatus, n)] := by
  have last := (RegsBut.refl s [(.mbxStatus, n)]).setFld (f := F.mbxStatusLast) (List.mem_singleton_self _) 0xFFFFFFFF
  intro q j hq
  rw [State.resetChan, State.setChan_get_reg]
  exact last.setFld (f := F.mbxStatusDropped) (List.mem_singleton_self _) 0 q j hq

theorem State.sameMemory_resetChan : SameMemory s (s.resetChan n) := by
  rw [State.resetChan, SameMemory, State.setChan_mem, State.setChan_poison]
  exact ((SameMemory.refl s).setFld F.mbxStatusLast n 0xFFFFFFFF).setFld F.mbxStatusDropped n 0

theorem State.ctxs_resetChan : (s.resetChan n).ctxs = s.ctxs := by
  rw [State.resetChan, State.setChan_ctxs, State.setFld_ctxs, State.setFld_ctxs]

theorem State.last_resetChan : (s.resetChan n).fld F.mbxStatusLast n = 0xFFFFFFFF := by
  rw [State.resetChan, State.setChan_get_fld, State.fld_setFld_beside _ F.mbxStatusDropped F.mbxStatusLast _ _ rfl (by decide) (by decide),
    State.fld_setFld_same _ _ _ _ (by decide)]
  rfl

theorem State.dropped_resetChan : (s.resetChan n).fld F.mbxStatusDropped n = 0 := by
  rw [State.resetChan, State.setChan_get_fld, State.fld_setFld_same _ _ _ _ (by decide)]
  rfl

theorem State.busy_resetChan : (s.resetChan n).fld F.mbxStatusBusy n = s.fld F.mbxStatusBusy n := by
  rw [State.resetChan, State.setChan_get_fld, State.fld_setFld_beside _ F.mbxStatusDropped F.mbxStatusBusy _ _ rfl (by decide) (by decide),
    State.fld_setFld_beside _ F.mbxStatusLast F.mbxStatusBusy _ _ rfl (by decide) (by decide)]

theorem State.history_resetChan : ((s.resetChan n).chan n).history = [] := by
  rw [State.resetChan, State.chan_setChan_same]

variable {s n}

theorem State.channelReset_of_idle (idle : (s.chan n).msg = none) : s.channelReset n = s.resetChan n :=
  if_pos (by rw [idle]; rfl)

theorem State.channelReset_of_held (held : (s.chan n).msg ≠ none) :
    s.channelReset n = s.setChan n { s.chan n with resetAsked := true } :=
  if_neg (by simpa using held)

end

/-- Settles O3: an idle channel is reset at once, and one with a message only notes that a reset is asked. -/
theorem channelReset : Obligations.ChannelReset := by
  intro n s
  by_cases idle : (s.chan n.val).msg = none
  · refine ⟨_, congrArg Host.Outcome.next (State.channelReset_of_idle idle), s.sameMemory_resetChan _, s.ctxs_resetChan _,
      fun _ => ?_, fun held => absurd idle held⟩
    exact ⟨s.last_resetChan _, s.dropped_resetChan _, s.history_resetChan _, s.busy_resetChan _, (s.regsBut_resetChan _).sameRegsBut⟩
  · refine ⟨_, congrArg Host.Outcome.next (State.channelReset_of_held idle), ⟨rfl, rfl⟩, rfl, fun held => absurd held idle, fun _ => ?_⟩
    rw [State.chan_setChan_same]
    exact ⟨rfl, rfl, rfl⟩

/-! ## The commands of the opcodes -/

/-- Each command of an opcode takes up the message of its channel, and what it does besides it does for a group alone. -/
theorem exec_mailbox : ∀ x ∈ mailbox, ∀ (n : Channel) (s : State), ∃ (body : Msg → State → Done) (f : State → State),
    (∀ t, t.group = none → f t = t) ∧ exec (x.1 n) s = .next (f (s.message (s.chan n.val) n.val x.2 body)) := by
  have announce : ∀ t : State, t.group = none → t.announce = t := fun t alone => by rw [State.announce, alone]
  have checked : ∀ t : State, t.group = none → t.groupChecked = t := fun t alone => by rw [State.groupChecked, alone]
  have plain : ∀ t : State, t.group = none → id t = t := fun _ _ => rfl
  simp only [mailbox, List.forall_mem_cons]
  refine ⟨?_, ?_, ?_, ?_, ?_, ?_, fun n s => ⟨_, _, checked, rfl⟩, ?_, ?_, ?_, ?_, ?_, ?_, ?_, fun n s => ⟨_, _, announce, rfl⟩, ?_, ?_, ?_,
    ?_, ?_, ?_, fun _ h => nomatch h⟩
  all_goals exact fun n s => ⟨_, id, plain, rfl⟩

/-- With no group, a command of an opcode completes with what taking up the message comes to, where that is the same for every body. -/
theorem completes_mailbox {x : (Channel → Instr) × Nat} (hx : x ∈ mailbox) {n : Channel} {s t : State} (alone : t.group = none)
    (taken : ∀ body, s.message (s.chan n.val) n.val x.2 body = t) : Completes (x.1 n) s t := by
  obtain ⟨body, f, keeps, run⟩ := exec_mailbox x hx n s
  rw [Completes, run, taken, keeps t alone]

/-! ## A message that does not execute -/

section
variable {s : State} {n op : Nat} {b : List Byte}

/-- A message of another opcode, or one that waits for its end, is left where it is. -/
theorem State.message_of_other (held : (s.chan n).msg = some b) (other : (parseMsg b).opcode ≠ op ∨ (s.chan n).waits = true)
    (body : Msg → State → Done) : s.message (s.chan n) n op body = s := by
  unfold State.message
  rw [held]
  exact if_pos other

section
variable (held : (s.chan n).msg = some b) (fresh : (s.chan n).waits = false) (asks : (parseMsg b).opcode = op)
include held fresh asks

theorem State.message_of_again {slot : List Byte} (found : s.seqCheck n (parseMsg b).seq = .again slot) (body : Msg → State → Done) :
    s.message (s.chan n) n op body = s.post n (answeredAgain slot) := by
  unfold State.message
  simp only [held, found]
  exact if_neg (by simp [fresh, asks])

theorem State.message_of_late (found : s.seqCheck n (parseMsg b).seq = .late) (body : Msg → State → Done) :
    s.message (s.chan n) n op body = s.post n (responseBytes n (parseMsg b).opcode (parseMsg b).seq s.tick stLate stLate 0 []) := by
  unfold State.message
  simp only [held, found]
  exact if_neg (by simp [fresh, asks])

end

end

/-! ## An answer without an execution -/

section
variable {s : State} {n : Nat}

/-- The answer to a message that does not execute: the slot, an idle channel, and LAST, contexts, graphs and streams as before. -/
structure OnlyAnswered (s t : State) (n : Nat) (slot : List Byte) : Prop where
  slot : t.rdN (slotAt n 256) slot.length = slot
  busy : t.fld F.mbxStatusBusy n = 0
  idle : (t.chan n).msg = none
  last : t.fld F.mbxStatusLast n = s.fld F.mbxStatusLast n
  ctxs : t.ctxs = s.ctxs
  graphs : t.graphs = s.graphs
  streams : t.streams = s.streams
  group : t.group = s.group

/-- With no reset waiting, the slot is placed and nothing more. -/
theorem State.post_eq_placed (asked : (s.chan n).resetAsked = false) (slot : List Byte) : s.post n slot = s.placed n slot := by
  rw [State.post_eq, if_neg]
  rw [State.placed, State.chan_setChan_same, Bool.not_eq_true]
  exact asked

theorem State.post_onlyAnswered (asked : (s.chan n).resetAsked = false) (slot : List Byte) : OnlyAnswered s (s.post n slot) n slot := by
  rw [State.post_eq_placed asked]
  obtain ⟨written, idle, busy, -, ctxs, -⟩ := s.placed_answerWork n slot
  refine ⟨written, busy, idle, ?_, ctxs, rfl, rfl, rfl⟩
  rw [State.placed, State.setChan_get_fld, State.fld_setFld_beside _ F.mbxStatusBusy F.mbxStatusLast _ _ rfl (by decide) (by decide),
    State.wrN_get_fld]

theorem answeredAgain_eq (slot : List Byte) : answeredAgain slot = slot.take 2 ++ [1] ++ slot.drop 3 := rfl

theorem length_answeredAgain {slot : List Byte} (h : 3 ≤ slot.length) : (answeredAgain slot).length = slot.length := by
  simp only [answeredAgain_eq, List.length_append, List.length_take, List.length_drop, List.length_singleton]
  omega

/-- Byte 2 of a response is its STATUS (R355). -/
theorem status_responseBytes {status orig : Nat} (hn : n < 256) (ho : orig < 256) (opcode seq t detail : Nat) (payload : List Byte) :
    (responseBytes n opcode seq t status orig detail payload)[2]? = some (BitVec.ofNat 8 status) := by
  have third : (responseBytes n opcode seq t status orig detail payload)[2]? =
    some (BitVec.ofNat 8 ((opcode * 2 ^ 24 + status * 2 ^ 16 + orig * 2 ^ 8 + n) / 256 / 256)) := rfl
  rw [third, Option.some_inj]
  apply BitVec.eq_of_toNat_eq
  simp only [BitVec.toNat_ofNat]
  omega

/-- Byte 2 of the slot that an answer leaves. -/
theorem OnlyAnswered.status {t : State} {slot : List Byte} {v : Byte} (h : OnlyAnswered s t n slot) (byte : slot[2]? = some v) :
    t.rd (slotAt n 258) = v := by
  obtain ⟨inside, rfl⟩ := List.getElem?_eq_some_iff.mp byte
  have read := congrArg (·[2]?) h.slot
  have address : slotAt n 258 = slotAt n 256 + 2 := rfl
  simpa [State.rdN, inside, address] using read

end

/-- Settles O9: what the sequence check does not let execute is answered from the history or with LATE, and the answer alone is posted. -/
theorem messageRepeats : Obligations.MessageRepeats := by
  refine ⟨fun x hx n b s alone held fresh asked asks => ⟨fun slot found long => ?again, fun found => ?late⟩,
    fun x hx n b s alone held other => completes_mailbox hx alone (State.message_of_other held other)⟩
  case again =>
    obtain ⟨written, busy, idle, last, ctxs, graphs, streams, group⟩ := State.post_onlyAnswered asked (answeredAgain slot)
    refine ⟨_, completes_mailbox hx (group.trans alone) (State.message_of_again held fresh asks found), ?_, busy, idle, last, ctxs, graphs, streams⟩
    rwa [length_answeredAgain long] at written
  case late =>
    have answer := State.post_onlyAnswered asked (responseBytes n.val (parseMsg b).opcode (parseMsg b).seq s.tick stLate stLate 0 [])
    have status := answer.status (status_responseBytes (by omega) (by decide) _ _ _ _ _)
    obtain ⟨-, busy, idle, last, ctxs, graphs, streams, group⟩ := answer
    exact ⟨_, completes_mailbox hx (group.trans alone) (State.message_of_late held fresh asks found), status, busy, idle, last, ctxs, graphs,
      streams⟩

end Sys2Proof.Machine
end

section
/-!
PROOF. O7: REGISTER_WRITE, at once or at the next boundary (R13, R108, R111, R201, R237, R262, R345).
-/
namespace Sys2Proof.Machine

/-! ## The command -/

section
variable {page : Page} {addr : Nat} {r : Reg} {i : Nat}

/-- The value that a write gives to a register: the lower half for one of 32 bits. -/
def Reg.taken (r : Reg) (v : Word) : Word := if r.bytes = 8 then v else (v.setWidth 32).setWidth 64

theorem exec_registerWrite_none (none : regAt (pageRows page).1 (pageRows page).2 addr = none) (v : Word) (s : State) :
    exec (.registerWrite page addr v) s = .next s := by
  have run : exec (.registerWrite page addr v) s = execRegisterWrite page addr v s := rfl
  rw [run, execRegisterWrite, none]

theorem exec_registerWrite_unit (unit : page ≠ .window) (found : regAt (pageRows page).1 (pageRows page).2 addr = some (r, i)) (v : Word)
    (s : State) : exec (.registerWrite page addr v) s = .next (s.unitWrite r i (r.taken v)) := by
  have run : exec (.registerWrite page addr v) s = execRegisterWrite page addr v s := rfl
  rw [run, execRegisterWrite, found]
  cases page with
  | window => exact absurd rfl unit
  | _ => rfl

theorem exec_registerWrite_window (found : regAt rowsWindow 0 addr = some (r, i)) (v : Word) (s : State) :
    exec (.registerWrite .window addr v) s = .next (s.windowWrite r i (r.taken v)) := by
  have run : exec (.registerWrite .window addr v) s = execRegisterWrite .window addr v s := rfl
  rw [run, execRegisterWrite, pageRows, found]
  rfl

end

/-! ## What a write of a unit page changes -/

section
variable (s : State) (r : Reg) (i : Nat) (v : Word)

theorem State.onlyRegs_cleared : OnlyRegs s (s.cleared r i v) := by
  unfold State.cleared
  split
  · exact OnlyRegs.refl s
  · exact (OnlyRegs.refl s).setReg _ _ _

theorem State.regsBut_cleared : RegsBut s (s.cleared r i v) [(r, i)] := by
  unfold State.cleared
  split
  · exact RegsBut.refl s _
  · exact (RegsBut.refl s _).setReg (List.mem_singleton_self _) _

/-- The registers that show at once what a write to another one does: LANE_RUN for SHF_CTRL, STATE for a core's fault (R111, R262). -/
def shownBy (r : Reg) (i : Nat) : List (Reg × Nat) :=
  if r = .shfCtrl then [(.shfStatus, i)] else if r = .stkCoreFault then [(.stkCoreStatus, i)] else []

variable {s} {t : State}

theorem OnlyRegs.settle (h : OnlyRegs s t) : OnlyRegs s (t.settle r i v) := by
  unfold State.settle
  dsimp only
  split
  · exact (h.setReg _ _ _).setFld _ _ _
  · exact h.setReg _ _ _

theorem RegsBut.cons {x : Reg × Nat} (h : RegsBut s t [x]) (l : List (Reg × Nat)) : RegsBut s t (x :: l) :=
  fun q j hq => h q j fun ⟨y, hy, e⟩ => hq ⟨y, List.mem_cons.mpr (.inl (List.mem_singleton.mp hy)), e⟩

theorem RegsBut.settle (h : RegsBut s t [(r, i)]) : RegsBut s (t.settle r i v) ((r, i) :: shownBy r i) := by
  have set := (h.cons (shownBy r i)).setReg List.mem_cons_self ((t.reg r i &&& ~~~r.settable) ||| (v &&& r.settable))
  unfold State.settle
  dsimp only
  split
  · next ctrl =>
    subst ctrl
    exact set.setFld (f := F.shfStatusLaneRun) (List.mem_cons_of_mem _ (List.mem_singleton_self _)) _
  · exact set

/-- LANE_RUN as it follows RUN and LANE_EN, but for a lane held for want of a key (R109, R111). -/
theorem State.laneRun_showLanes (s : State) (e : Nat) : (s.showLanes e).fld F.shfStatusLaneRun e =
    if (s.showLanes e).flag F.shfCtrlRun e && !s.flag F.shfStatusNoiseHeld e then (s.showLanes e).fld F.shfCtrlLaneEn e else 0 := by
  have ctrl : ∀ f : Fld, f.reg = .shfCtrl → (s.showLanes e).fld f e = s.fld f e := fun f hf =>
    State.fld_setFld_ne _ (f := F.shfStatusLaneRun) (by rw [hf]; decide) _ _ _
  rw [State.flag, ctrl F.shfCtrlRun rfl, ctrl F.shfCtrlLaneEn rfl, State.showLanes, State.fld_setFld_same _ _ _ _ (by decide), State.flag]
  split
  · exact Nat.mod_eq_of_lt (bits_lt _ _ _)
  · rfl

theorem State.settle_ctrl (s : State) (i : Nat) (v : Word) : s.settle .shfCtrl i v = (s.setReg .shfCtrl i
    ((s.reg .shfCtrl i &&& ~~~Reg.settable .shfCtrl) ||| (v &&& Reg.settable .shfCtrl))).showLanes i := by
  unfold State.settle
  exact if_pos rfl

end

/-! ## The ways that a write of a unit page goes -/

section
variable {s : State} {r : Reg} {i : Nat} (v : Word)

/-- The bit that says whether a write is one of an enabled generator (R201). -/
def State.genWrite (s : State) (r : Reg) (i : Nat) : Bool := r.ofGen && s.flag F.hrwGenCtrlEn (i / r.copies)

/-- The registers of a generator have no W1C bits. -/
theorem Reg.w1c_of_ofGen (h : r.ofGen = true) : r.w1c = 0 := by
  unfold Reg.ofGen at h
  split at h
  case h_5 => cases h
  all_goals rfl

theorem State.genWrite_cleared : (s.cleared r i v).genWrite r i = s.genWrite r i := by
  cases gen : r.ofGen with
  | false => rw [State.genWrite, State.genWrite, gen, Bool.false_and, Bool.false_and]
  | true => rw [State.cleared, if_pos (Reg.w1c_of_ofGen gen)]

theorem Reg.ne_coreFault_of_settable (h : r.settable ≠ 0) : r ≠ .stkCoreFault := by
  rintro rfl
  exact h rfl

/-- A write that a boundary holds back clears its W1C bits and is staged (R108, R201, R237). -/
theorem State.unitWrite_of_boundary (settable : r.settable ≠ 0) (waits : (s.genWrite r i || s.writeWaits r i) = true) :
    s.unitWrite r i v = { s.cleared r i v with staged := s.staged ++ [⟨r, i, v, s.genWrite r i⟩] } := by
  have staged : (s.cleared r i v).staged = s.staged := by rw [s.onlyRegs_cleared r i v]
  have gen := s.genWrite_cleared (r := r) (i := i) v
  unfold State.genWrite at gen waits
  rw [s.unitWrite_cleared v (Reg.ne_coreFault_of_settable settable), if_neg settable, gen, staged]
  unfold State.genWrite
  cases token : r.ofGen && s.flag F.hrwGenCtrlEn (i / r.copies) with
  | true => rw [if_pos rfl]
  | false =>
    rw [token, Bool.false_or] at waits
    rw [if_neg Bool.false_ne_true, if_pos waits]

/-- A write that no boundary holds back clears its W1C bits and settles the others. -/
theorem State.unitWrite_of_settles (settable : r.settable ≠ 0) (gen : s.genWrite r i = false) (now : s.writeWaits r i = false) :
    s.unitWrite r i v = (s.cleared r i v).settle r i v := by
  have token := (s.genWrite_cleared (r := r) (i := i) v).trans gen
  unfold State.genWrite at token
  rw [s.unitWrite_cleared v (Reg.ne_coreFault_of_settable settable), if_neg settable, token, now, if_neg Bool.false_ne_true,
    if_neg Bool.false_ne_true]

/-- A write of a register without settable bits clears its W1C bits. -/
theorem State.unitWrite_of_clears (fault : r ≠ .stkCoreFault) (none : r.settable = 0) : s.unitWrite r i v = s.cleared r i v := by
  rw [s.unitWrite_cleared v fault, if_pos none]

/-- A core that has faulted with its fault register cleared is IDLE (R262). -/
theorem State.unitWrite_coreFault : s.unitWrite .stkCoreFault i v =
    if v.getLsbD 4 ∧ s.fld F.stkCoreStatusState i = 3 then (s.cleared .stkCoreFault i v).setFld F.stkCoreStatusState i 0
    else s.cleared .stkCoreFault i v := by
  have state : (s.cleared .stkCoreFault i v).fld F.stkCoreStatusState i = s.fld F.stkCoreStatusState i := by
    unfold State.fld
    rw [State.reg_cleared_ne _ _ _ _ (by decide)]
  rw [← state]
  simp only [State.unitWrite]
  rw [if_pos (show Reg.settable .stkCoreFault = 0 from rfl)]
  simp only [true_and]
  rfl

end

/-! ## A write that acts at once -/

/-- What a write of a unit page that no boundary holds back does: W1C bits clear, settable bits take the value, and of the other registers only
those change that show it. -/
structure ActsAtOnce (s t : State) (r : Reg) (i : Nat) (w : Word) : Prop where
  only : OnlyRegs s t
  reg : t.reg r i = ((s.reg r i &&& ~~~(w &&& r.w1c) &&& ~~~r.settable) ||| (w &&& r.settable))
  regs : RegsBut s t ((r, i) :: shownBy r i)
  lanes : r = .shfCtrl → t.fld F.shfStatusLaneRun i =
    if t.flag F.shfCtrlRun i && !s.flag F.shfStatusNoiseHeld i then t.fld F.shfCtrlLaneEn i else 0
  core : r = .stkCoreFault → w.getLsbD 4 = true → s.fld F.stkCoreStatusState i = 3 → t.fld F.stkCoreStatusState i = 0

section
variable {s : State} {r : Reg} {i : Nat} (v : Word)

/-- Without settable bits the value of a register is what clearing leaves. -/
theorem State.reg_cleared_of_unsettable (none : r.settable = 0) : (s.cleared r i v).reg r i =
    ((s.reg r i &&& ~~~(v &&& r.w1c) &&& ~~~r.settable) ||| (v &&& r.settable)) := by
  rw [s.reg_cleared, none, and_zero_word, and_not_zero]
  exact BitVec.or_zero.symm

theorem State.unitWrite_coreFault_acts : ActsAtOnce s (s.unitWrite .stkCoreFault i v) .stkCoreFault i v := by
  have only := s.onlyRegs_cleared .stkCoreFault i v
  have regs := (s.regsBut_cleared .stkCoreFault i v).cons (shownBy .stkCoreFault i)
  have value := State.reg_cleared_of_unsettable (s := s) (i := i) v (show Reg.settable .stkCoreFault = 0 from rfl)
  rw [State.unitWrite_coreFault]
  split
  · refine ⟨only.setFld _ _ _, (State.reg_setFld_ne _ _ (by decide)).trans value, ?_, nofun, fun _ _ _ => ?_⟩
    · exact regs.setFld (f := F.stkCoreStatusState) (List.mem_cons_of_mem _ (List.mem_singleton_self _)) _
    · exact State.fld_setFld_same _ _ _ _ (by decide)
  · next stays => exact ⟨only, value, regs, nofun, fun _ valid state => absurd ⟨valid, state⟩ stays⟩

theorem State.unitWrite_settles_acts (settable : r.settable ≠ 0) (gen : s.genWrite r i = false) (now : s.writeWaits r i = false) :
    ActsAtOnce s (s.unitWrite r i v) r i v := by
  rw [State.unitWrite_of_settles v settable gen now]
  refine ⟨(s.onlyRegs_cleared r i v).settle r i v, ?_, (s.regsBut_cleared r i v).settle r i v, ?_,
    fun fault => absurd fault (Reg.ne_coreFault_of_settable settable)⟩
  · rw [State.reg_settle, s.reg_cleared]
  · rintro rfl
    have held : ∀ x, ((s.cleared .shfCtrl i v).setReg .shfCtrl i x).flag F.shfStatusNoiseHeld i = s.flag F.shfStatusNoiseHeld i := fun x => by
      unfold State.flag State.fld
      rw [State.reg_setReg_ne _ _ (by decide), s.reg_cleared_ne _ _ _ (by decide)]
    rw [State.settle_ctrl, State.laneRun_showLanes, held]

theorem State.unitWrite_acts (now : r.settable = 0 ∨ s.genWrite r i = false ∧ s.writeWaits r i = false) :
    ActsAtOnce s (s.unitWrite r i v) r i v := by
  by_cases fault : r = .stkCoreFault
  · subst fault
    exact State.unitWrite_coreFault_acts v
  · by_cases none : r.settable = 0
    · rw [State.unitWrite_of_clears v fault none]
      exact ⟨s.onlyRegs_cleared r i v, State.reg_cleared_of_unsettable v none, (s.regsBut_cleared r i v).cons _,
        fun ctrl => absurd none (by rw [ctrl]; decide), fun h => absurd h fault⟩
    · obtain ⟨gen, free⟩ := now.resolve_left none
      exact State.unitWrite_settles_acts v none gen free

end

/-! ## Plain registers of the window -/

/-- Registers of the window that do no more than hold what is written, with their addresses. -/
def plainRegs : List (Reg × Nat) := [(.hubWatchdog, 0x20), (.pwrCfg, 0x500008), (.cfgAperture, 0x800030)]

theorem regAt_plainRegs : ∀ x ∈ plainRegs, regAt rowsWindow 0 x.2 = some (x.1, 0) ∧ x.1.bytes = 4 := by decide +kernel

theorem State.windowWrite_plain (s : State) (v : Word) : ∀ x ∈ plainRegs, s.windowWrite x.1 0 v = s.setReg x.1 0 (x.1.written (s.reg x.1 0) v) := by
  simp only [plainRegs, List.forall_mem_cons]
  exact ⟨rfl, rfl, rfl, fun _ h => nomatch h⟩

/-- Settles O7: a write of a unit page acts at once or is staged, and one of a plain register of the window sets that register. -/
theorem registerWrites : Obligations.RegisterWrites := by
  intro page addr v s
  refine ⟨fun none => exec_registerWrite_none none v s, ?unit, fun x hx => ?window⟩
  case unit =>
    rintro r i w token unit found rfl rfl
    have run := exec_registerWrite_unit unit found v s
    refine ⟨fun now => ?_, fun settable waits => ?_⟩
    · obtain ⟨only, reg, regs, lanes, core⟩ := State.unitWrite_acts (r.taken v) now
      exact ⟨_, run, only, reg, regs, lanes, core⟩
    · rw [State.unitWrite_of_boundary _ settable waits] at run
      refine ⟨_, run, ?_, s.reg_cleared r i _, (s.regsBut_cleared r i _).sameRegsBut⟩
      rw [s.onlyRegs_cleared r i]
      rfl
  case window =>
    obtain ⟨found, bytes⟩ := regAt_plainRegs x hx
    have run := exec_registerWrite_window found v s
    rw [State.windowWrite_plain s _ x hx, Reg.taken, if_neg (by rw [bytes]; decide)] at run
    exact ⟨_, run, onlyReg_setReg _ _ _ _⟩

end Sys2Proof.Machine
end

section
/-!
PROOF. O2: host access packets read and write the window (R345–R349), a whole message is taken (R353, R354), and a request that breaks its form
is answered (R10, R11).
-/
namespace Sys2Proof.Machine

/-! ## Bytes and numbers -/

/-- The bytes of a number spell it again, as far as they reach. -/
theorem leNat_leBytes (n v : Nat) : leNat (leBytes n v) = v % 256 ^ n := by
  induction n generalizing v with
  | zero => rw [leBytes, leNat, Nat.pow_zero, Nat.mod_one]
  | succ n ih =>
    have low : (BitVec.ofNat 8 v).toNat = v % 256 := BitVec.toNat_ofNat _ _
    rw [leBytes, leNat, ih, low, Nat.pow_succ', Nat.mod_mul]

/-- The bytes of a word of 32 bits, read whole. -/
theorem bytesAt_leBytes_word (v : BitVec 32) : bytesAt (leBytes 4 v.toNat) 0 4 = v.toNat := by
  rw [bytesAt, List.drop_zero, List.take_of_length_le (leBytes_length _ _).le, leNat_leBytes]
  exact Nat.mod_eq_of_lt v.isLt

/-! ## What serves a control port -/

/-- What serving a control port hangs on (R429, R489), which no write to the window below touches. -/
def State.line (s : State) : Bool × List Nat × Sparse PortState := (s.powered, s.barnLost, s.ports)

theorem State.serves_of_line {s t : State} (h : t.line = s.line) (port : Nat) : t.serves port = s.serves port := by
  obtain ⟨powered, lost, ports⟩ : _ ∧ _ ∧ _ := by simpa only [State.line, Prod.mk.injEq] using h
  unfold State.serves State.port
  rw [powered, lost, ports]

section
variable (s : State)

@[simp] theorem State.line_setReg (r : Reg) (i : Nat) (v : Word) : (s.setReg r i v).line = s.line := id rfl
@[simp] theorem State.line_setFld (f : Fld) (i v : Nat) : (s.setFld f i v).line = s.line := id rfl
@[simp] theorem State.line_wrN (a : Nat) (v : List Byte) : (s.wrN a v).line = s.line := id rfl

theorem State.line_setSource (b : Nat) (v : Source) : (s.setSource b v).line = s.line := by
  unfold State.setSource State.syncEnt
  simp only [State.line_setReg]
  rfl

/-- A write of PWR_CEILING sets registers alone. -/
theorem State.line_ceilingWrite (v : Nat) : (s.ceilingWrite v).line = s.line :=
  (State.line_setFld _ _ _ _).trans (State.each_keeps (P := fun u => u.line = s.line) _ (fun _ _ hu => (State.line_setFld _ _ _ _).trans hu) rfl)

/-- A write of ENT_TEST sets registers and the sources. -/
theorem State.line_entTestWrite (v : Word) : (s.entTestWrite v).line = s.line := by
  unfold State.entTestWrite
  split
  · rfl
  · refine State.each_keeps (P := fun u => u.line = s.line) _ (fun u b hu => ?_) (State.line_setReg _ _ _ _)
    dsimp only
    split
    · exact hu
    · split
      · exact (State.line_setSource _ _ _).trans hu
      · split
        · exact (State.line_setSource _ _ _).trans hu
        · exact hu

end

/-! ## The two packets -/

section
variable {s : State} {port : ControlPort} (tag : BitVec 16) {a n : Nat} {data : List Byte}

theorem exec_hostRead_dropped (serves : s.serves port.val = false) : exec (.hostRead port tag a n) s = .next s :=
  congrArg Host.Outcome.next (if_neg (by rw [serves]; exact Bool.false_ne_true))

theorem exec_hostWrite_dropped (serves : s.serves port.val = false) : exec (.hostWrite port tag a data) s = .next s :=
  congrArg Host.Outcome.next (if_neg (by rw [serves]; exact Bool.false_ne_true))

variable (serves : s.serves port.val = true)
include serves

theorem exec_hostRead_formed (form : requestForm a n = true) :
    exec (.hostRead port tag a n) s = .next (s.answer port.val tag a (some (s.windowBytes a n))) :=
  congrArg Host.Outcome.next ((if_pos serves).trans (if_pos form))

theorem exec_hostRead_stray (form : requestForm a n = false) :
    exec (.hostRead port tag a n) s = .next ((s.openBytes n).2.answer port.val tag a (some (s.openBytes n).1)) :=
  congrArg Host.Outcome.next ((if_pos serves).trans (if_neg (by rw [form]; exact Bool.false_ne_true)))

theorem exec_hostWrite_stray (form : writeForm a data = false) :
    exec (.hostWrite port tag a data) s = .next (s.strayWrite port.val tag a data.length) :=
  congrArg Host.Outcome.next ((if_pos serves).trans (if_neg (by rw [form]; exact Bool.false_ne_true)))

/-- A WRITE in its form takes effect, and its WRITE_ACK leaves where the effect leaves the port serving. -/
theorem exec_hostWrite_formed (form : writeForm a data = true) {t : State} (effect : s.applyWrite port.val a data = t)
    (line : t.line = s.line) : exec (.hostWrite port tag a data) s = .next (t.answer port.val tag a none) := by
  have acked : s.hostWrite port.val tag a data = t.answer port.val tag a none := by
    unfold State.hostWrite
    rw [effect]
    exact if_pos ((State.serves_of_line line _).trans serves)
  exact congrArg Host.Outcome.next (((if_pos serves).trans (if_pos form)).trans acked)

end

/-! ## The staging window -/

section
variable {a n : Nat} (staging : 0x1000000 ≤ a)
include staging

/-- A write into the staging window reaches no message slot. -/
theorem slotsHit_staging (n : Nat) : slotsHit a n = [] := by
  rw [slotsHit, List.filter_eq_nil_iff]
  intro c hc
  have := List.mem_range.mp hc
  simp only [Bool.and_eq_true, decide_eq_true_eq]
  omega

theorem writeForm_staging {data : List Byte} (form : requestForm a data.length = true) : writeForm a data = true := by
  rw [writeForm, form, slotsHit_staging staging]
  rfl

theorem State.applyWrite_staging (s : State) (port : Nat) (data : List Byte) :
    s.applyWrite port a data = s.wrN (stagingAt (a - 0x1000000)) data := if_pos staging

/-- A read in the staging window gives the staged bytes (R346, R348). -/
theorem State.windowBytes_staging (s : State) (form : requestForm a n = true) :
    s.windowBytes a n = s.rdN (stagingAt (a - 0x1000000)) n := by
  have inside : a + n ≤ 2 ^ 26 := by
    simp only [requestForm, Bool.and_eq_true, decide_eq_true_eq] at form
    omega
  unfold State.windowBytes State.rdN
  refine List.map_congr_left fun k hk => ?_
  have := List.mem_range.mp hk
  have place : stagingAt (a + k - 0x1000000) = stagingAt (a - 0x1000000) + k := by
    unfold stagingAt
    omega
  rw [State.windowByte, if_pos (by omega), place, State.rd]

end

/-! ## Message slots -/

theorem step_mul_le (m d : Nat) : (if m = 0 then 0 else d / m) * m ≤ d := by
  split
  · rw [Nat.zero_mul]
    exact Nat.zero_le d
  · exact Nat.div_mul_le_self d m

/-- A byte of a page that lies in a copy of a row's register, by the numbers of the copy. -/
theorem RegRow.at?_eq_some {w : RegRow} {off : Nat} {c : Nat × Nat} (h : w.at? off = some c) :
    ∃ o i, o < w.outN ∧ i < w.inN ∧ c.2 < w.reg.bytes ∧ off = w.base + o * w.outStep + i * w.inStep + c.2 := by
  obtain ⟨above, h⟩ := Option.ite_none_left_eq_some.mp h
  obtain ⟨⟨ho, hi, hk⟩, copy⟩ := Option.ite_none_right_eq_some.mp h
  cases copy
  refine ⟨_, _, ho, hi, hk, ?_⟩
  have outer := step_mul_le w.outStep (off - w.base)
  have inner := step_mul_le w.inStep (off - w.base - (if w.outStep = 0 then 0 else (off - w.base) / w.outStep) * w.outStep)
  dsimp only
  omega

/-- A row that has no copy in the message slots of the window. -/
def RegRow.offSlots (w : RegRow) : Bool :=
  decide (w.base + (w.outN - 1) * w.outStep + (w.inN - 1) * w.inStep + w.reg.bytes ≤ 0x100000) || decide (0x180000 ≤ w.base) ||
    (w.outStep == 0 && w.inStep == 4096 && decide (0x100 ≤ w.base % 4096) && decide (w.base % 4096 + w.reg.bytes ≤ 4096))

theorem offSlots_rowsWindow : ∀ w ∈ rowsWindow, w.offSlots = true := by decide +kernel

theorem RegRow.at?_slot {w : RegRow} (h : w.offSlots = true) {c k : Nat} (hc : c < 128) (hk : k < 256) : w.at? (0x100000 + 4096 * c + k) = none := by
  rw [Option.eq_none_iff_forall_not_mem]
  intro x hx
  obtain ⟨o, i, ho, hi, hb, place⟩ := RegRow.at?_eq_some hx
  have outer : o * w.outStep ≤ (w.outN - 1) * w.outStep := Nat.mul_le_mul_right _ (by omega)
  have inner : i * w.inStep ≤ (w.inN - 1) * w.inStep := Nat.mul_le_mul_right _ (by omega)
  simp only [RegRow.offSlots, Bool.or_eq_true, Bool.and_eq_true, decide_eq_true_eq, beq_iff_eq] at h
  obtain (below | above) | ⟨⟨⟨out, inStep⟩, start⟩, fits⟩ := h
  · omega
  · omega
  · rw [out, inStep] at place
    omega

/-- No register of the window lies in a message slot (R353). -/
theorem regAt_slot {c k : Nat} (hc : c < 128) (hk : k < 256) : regAt rowsWindow 0 (0x100000 + 4096 * c + k) = none := by
  have none : byteAt rowsWindow 0 (0x100000 + 4096 * c + k) = none := by
    rw [byteAt, List.findSome?_eq_none_iff]
    intro w hw
    rw [RegRow.at?_slot (offSlots_rowsWindow w hw) hc hk]
    rfl
  rw [regAt, none]
  rfl

/-- A write from the start of a slot, no longer than one, reaches that slot alone. -/
theorem slotsHit_slot {c n : Nat} (hc : c < 128) (bytes : 0 < n) (short : n ≤ 256) : slotsHit (0x100000 + 4096 * c) n = [c] := by
  have here : slotsHit (0x100000 + 4096 * c) n = (List.range 128).filter (· == c) := List.filter_congr fun x _ => by
    rw [Bool.eq_iff_iff]
    simp only [Bool.and_eq_true, decide_eq_true_eq, beq_iff_eq]
    omega
  rw [here, List.filter_beq, List.count_eq_one_of_mem List.nodup_range (List.mem_range.mpr hc)]
  rfl

/-! ## Registers under the bytes of a write -/

section
variable {s : State} {a : Nat} {data : List Byte}

/-- Bytes that lie in no register of the window reach none. -/
theorem State.windowRegs_of_none (none : ∀ k, k < data.length → regAt rowsWindow 0 (a + k) = none) : s.windowRegs a data = s := by
  refine List.foldlRecOn (motive := fun u => u = s) _ _ rfl fun u hu k hk => ?_
  rw [none k (List.mem_range.mp hk)]
  exact hu

/-- A write in the register part of the window that reaches no message slot is one to the registers that it covers. -/
theorem State.applyWrite_regs (port : Nat) (bytes : 0 < data.length) (inside : a + data.length ≤ 0x1000000) (slots : slotsHit a data.length = []) :
    s.applyWrite port a data = s.windowRegs a data := by
  have whole : data.take (0x1000000 - a) = data := List.take_of_length_le (by omega)
  have rest : data.drop (0x1000000 - a) = [] := List.drop_eq_nil_of_le (by omega)
  rw [State.applyWrite, if_neg (by omega), slots, List.foldl_nil, whole, rest, State.wrN_nil]

/-- An address at which the window has a register of 32 bits, and no other in that word. -/
structure LoneWord (r : Reg) (a : Nat) : Prop where
  form : requestForm a 4 = true
  inside : a + 4 ≤ 0x1000000
  slots : slotsHit a 4 = []
  found : (List.range 4).map (fun k => regAt rowsWindow 0 (a + k)) = [some (r, 0), none, none, none]
  bytes : r.bytes = 4

/-- A write of a word to a register alone in it is a write to that register. -/
theorem State.windowRegs_word {r : Reg} (lone : LoneWord r a) (v : BitVec 32) :
    s.windowRegs a (leBytes 4 v.toNat) = s.windowWrite r 0 (v.setWidth 64) := by
  obtain ⟨first, second, third, fourth⟩ : regAt rowsWindow 0 (a + 0) = some (r, 0) ∧ regAt rowsWindow 0 (a + 1) = none ∧
      regAt rowsWindow 0 (a + 2) = none ∧ regAt rowsWindow 0 (a + 3) = none := by simpa [List.range_succ] using lone.found
  have bytes : List.range (leBytes 4 v.toNat).length = [0, 1, 2, 3] := by
    rw [leBytes_length]
    rfl
  rw [State.windowRegs, bytes]
  simp only [List.foldl_cons, List.foldl_nil, first, second, third, fourth, lone.bytes, bytesAt_leBytes_word, BitVec.ofNat_toNat]

end

/-! ## A word written -/

/-- HOST_WRITE of a register of 32 bits is a write to it, and the WRITE_ACK (R13, R346). -/
theorem exec_hostWrite_word {s : State} {port : ControlPort} (tag : BitVec 16) {r : Reg} {a : Nat} (serves : s.serves port.val = true)
    (lone : LoneWord r a) (v : BitVec 32) (line : (s.windowWrite r 0 (v.setWidth 64)).line = s.line) :
    exec (.hostWrite port tag a (leBytes 4 v.toNat)) s = .next ((s.windowWrite r 0 (v.setWidth 64)).answer port.val tag a none) := by
  have length : (leBytes 4 v.toNat).length = 4 := leBytes_length _ _
  have form : writeForm a (leBytes 4 v.toNat) = true := by
    rw [writeForm, length, lone.form, lone.slots]
    rfl
  refine exec_hostWrite_formed tag serves form ?_ line
  rw [State.applyWrite_regs port.val (by omega) (by have := lone.inside; omega) (by rw [length, lone.slots]), State.windowRegs_word lone]

/-- The plain registers, and those whose writes act, as words of the window. -/
theorem loneWord_regs : ∀ x ∈ plainRegs ++ [(.pwrCeiling, 0x500000), (.entTest, 0x600028)], LoneWord x.1 x.2 := by
  have words : ∀ x ∈ plainRegs ++ [(.pwrCeiling, 0x500000), (.entTest, 0x600028)], requestForm x.2 4 = true ∧ x.2 + 4 ≤ 0x1000000 ∧
      slotsHit x.2 4 = [] ∧ (List.range 4).map (fun k => regAt rowsWindow 0 (x.2 + k)) = [some (x.1, 0), none, none, none] ∧ x.1.bytes = 4 := by
    decide +kernel
  intro x hx
  obtain ⟨form, inside, slots, found, bytes⟩ := words x hx
  exact ⟨form, inside, slots, found, bytes⟩

/-! ## A message taken -/

section
variable {s : State} {port c : Nat} {slot : List Byte}

/-- A slot filled with a message, that message in progress on its channel, and BUSY set. -/
def State.filled (s : State) (c : Nat) (slot : List Byte) : State :=
  ((s.wrN (slotAt c 0) slot).setFld F.mbxStatusBusy c 1).setChan c { s.chan c with msg := some (padTo 256 slot), waits := false }

theorem State.arrive_of_idle (idle : (s.chan c).msg = none) (short : bytesAt slot 16 1 ≤ 224) : s.arrive c slot = s.filled c slot := by
  unfold State.arrive
  dsimp only
  rw [if_neg (by omega), idle]
  rfl

/-- A READY module takes up a message on an idle channel, and keeps the control port that carried it (R353, R354). -/
theorem State.takeMessage_of_idle (ready : s.flag F.hubStatusReady 0 = true) (idle : (s.chan c).msg = none) (short : bytesAt slot 16 1 ≤ 224) :
    s.takeMessage port c slot = (s.filled c slot).setChan c { (s.filled c slot).chan c with port := port } := by
  unfold State.takeMessage
  rw [ready, idle, State.arrive_of_idle idle short]
  rfl

/-- A write into a slot from its start is the message that it carries. -/
theorem State.applyWrite_slot {s : State} (port : Nat) (hc : c < 128) (bytes : 0 < slot.length) (short : slot.length ≤ 256) :
    s.applyWrite port (0x100000 + 4096 * c) slot = s.takeMessage port c slot := by
  have message : slot.take 256 = slot := List.take_of_length_le short
  have whole : slot.take (0x1000000 - (0x100000 + 4096 * c)) = slot := List.take_of_length_le (by omega)
  have rest : slot.drop (0x1000000 - (0x100000 + 4096 * c)) = [] := List.drop_eq_nil_of_le (by omega)
  rw [State.applyWrite, if_neg (by omega), slotsHit_slot hc bytes short, List.foldl_cons, List.foldl_nil, message, whole, rest]
  exact State.windowRegs_of_none fun k hk => regAt_slot hc (by omega)

end

/-! ## A WRITE that breaks its form -/

/-- What a WRITE that breaks its form touches beside its answer: memory bytes, draws and registers of a list. -/
structure Stray (s t : State) (l : List (Reg × Nat)) : Prop where
  only : t = { s with regs := t.regs, mem := t.mem, free := t.free }
  regs : RegsBut s t l

section
variable {s t : State} {l : List (Reg × Nat)} (h : Stray s t l)
include h

theorem Stray.wrN (a : Nat) (v : List Byte) : Stray s (t.wrN a v) l where
  only := by rw [State.wrN, h.only]
  regs q j hq := (t.wrN_get_reg a v q j).trans (h.regs q j hq)

theorem Stray.drawReg {x : Reg × Nat} (hx : x ∈ l) (v : Word) : Stray s (t.draw.2.setReg x.1 x.2 v) l where
  only := by rw [State.draw, State.setReg, h.only]
  regs := RegsBut.setReg (t := t.draw.2) h.regs hx v

theorem Stray.foldl {α : Type} (xs : List α) (f : State → α → State) (keeps : ∀ u x, x ∈ xs → Stray s u l → Stray s (f u x) l) :
    Stray s (xs.foldl f t) l :=
  List.foldlRecOn xs f h fun u hu x hx => keeps u x hx hu

end

/-- A WRITE that breaks its form reaches staged bytes, message slots and stream words, and is answered (R10, R11; log 125). -/
theorem State.strayWrite_stray (s : State) (port : Nat) (tag : BitVec 16) (a n : Nat) :
    ∃ u, s.strayWrite port tag a n = u.answer port tag a none ∧ Stray s u (streamWords a n) := by
  have drawn : Stray s (s.openBytes n).2 (streamWords a n) := ⟨rfl, fun _ _ _ => rfl⟩
  refine ⟨_, rfl, (drawn.foldl _ _ fun u k _ hu => ?bytes).foldl _ _ fun u x hx hu => hu.drawReg hx _⟩
  case bytes =>
    dsimp only
    split
    · exact hu.wrN _ _
    · split
      · exact hu.wrN _ _
      · exact hu

/-! ## The obligation -/

section
variable {s : State} {port : ControlPort} (tag : BitVec 16) (serves : s.serves port.val = true)
include serves

theorem hostWrite_staging {a : Nat} {data : List Byte} (form : requestForm a data.length = true) (staging : 0x1000000 ≤ a) :
    Completes (.hostWrite port tag a data) s ((s.wrN (stagingAt (a - 0x1000000)) data).answer port.val tag a none) ∧
    Wrote s (s.wrN (stagingAt (a - 0x1000000)) data) (stagingAt (a - 0x1000000)) data := by
  refine ⟨?_, s.rdN_wrN _ _, fun b hb => s.rd_wrN_out _ _ b hb⟩
  exact exec_hostWrite_formed tag serves (writeForm_staging staging form) (s.applyWrite_staging staging _ _) (s.line_wrN _ _)

theorem hostWrite_message {n : Channel} {data : List Byte} (form : requestForm (0x100000 + 4096 * n.val) data.length = true)
    (short : data.length ≤ 256) (message : wholeMessage (0x100000 + 4096 * n.val) n.val data = true) (payload : bytesAt data 16 1 ≤ 224)
    (ready : s.flag F.hubStatusReady 0 = true) (idle : (s.chan n.val).msg = none) :
    ∃ t, Completes (.hostWrite port tag (0x100000 + 4096 * n.val) data) s t ∧ t.rdN (slotAt n.val 0) data.length = data ∧
      (t.chan n.val).msg = some (padTo 256 data) ∧ (t.chan n.val).port = port.val ∧ t.fld F.mbxStatusBusy n.val = 1 ∧
      t.answers = s.answers ++ [{ port := port.val, tag := tag, addr := 0x100000 + 4096 * n.val, data := none }] ∧
      t.ctxs = s.ctxs ∧ t.graphs = s.graphs ∧ t.streams = s.streams := by
  have bytes : 0 < data.length := by
    simp only [requestForm, Bool.and_eq_true, decide_eq_true_eq] at form
    omega
  have whole : writeForm (0x100000 + 4096 * n.val) data = true := by
    rw [writeForm, form, slotsHit_slot n.isLt bytes short, List.all_cons, message]
    rfl
  have taken := State.takeMessage_of_idle (port := port.val) ready idle payload
  have effect := (State.applyWrite_slot port.val n.isLt bytes short).trans taken
  refine ⟨_, exec_hostWrite_formed tag serves whole effect rfl, s.rdN_wrN _ _, ?msg, ?port, ?busy, rfl, rfl, rfl, rfl⟩
  case msg =>
    refine (congrArg Chan.msg (State.chan_setChan_same _ _ _)).trans ?_
    exact congrArg Chan.msg (State.chan_setChan_same _ _ _)
  case port => exact congrArg Chan.port (State.chan_setChan_same _ _ _)
  case busy => exact State.fld_setFld_same (s.wrN _ _) F.mbxStatusBusy n.val 1 (by decide)

theorem hostWrite_plain (v : BitVec 32) : ∀ x ∈ plainRegs, ∃ t, Completes (.hostWrite port tag x.2 (leBytes 4 v.toNat)) s t ∧
    t = { s with regs := t.regs, answers := s.answers ++ [{ port := port.val, tag := tag, addr := x.2, data := none }] } ∧
    t.reg x.1 0 = x.1.written (s.reg x.1 0) (v.setWidth 64) ∧ SameRegsBut s t x.1 0 := by
  intro x hx
  have set := s.windowWrite_plain (v.setWidth 64) x hx
  have run := exec_hostWrite_word tag serves (loneWord_regs x (List.mem_append_left _ hx)) v (by rw [set, State.line_setReg])
  rw [set] at run
  obtain ⟨-, value, others⟩ := onlyReg_setReg s x.1 0 (x.1.written (s.reg x.1 0) (v.setWidth 64))
  exact ⟨_, run, rfl, value, others⟩

/-- A HOST_WRITE of PWR_CEILING or ENT_TEST does what their own commands do, and is answered. -/
theorem hostWrite_acting (v : BitVec 32) : ∀ x ∈ [(Instr.pwrCeilingWrite v, 0x500000), (.entTestWrite v, 0x600028)], ∃ t, Completes x.1 s t ∧
    Completes (.hostWrite port tag x.2 (leBytes 4 v.toNat)) s (t.answer port.val tag x.2 none) := by
  have value : (v.setWidth 64).toNat = v.toNat := BitVec.toNat_setWidth_of_le (by decide)
  have ceiling : s.windowWrite .pwrCeiling 0 (v.setWidth 64) = s.ceilingWrite v.toNat := congrArg s.ceilingWrite value
  have test : s.windowWrite .entTest 0 (v.setWidth 64) = s.entTestWrite (v.setWidth 64) := rfl
  simp only [List.forall_mem_cons]
  refine ⟨⟨_, rfl, ?ceiling⟩, ⟨_, rfl, ?test⟩, fun _ h => nomatch h⟩
  case ceiling =>
    rw [Completes, ← ceiling]
    exact exec_hostWrite_word tag serves (loneWord_regs (.pwrCeiling, _) (by decide)) v (ceiling ▸ s.line_ceilingWrite _)
  case test => exact exec_hostWrite_word tag serves (loneWord_regs (.entTest, _) (by decide)) v (test ▸ s.line_entTestWrite _)

end

/-- Settles O2: a request in its form takes effect on the part of the window that it addresses, and every request on a port that serves is
answered. -/
theorem hostAccess : Obligations.HostAccess := by
  refine ⟨fun port tag a data s form staging serves => hostWrite_staging tag serves form staging,
    fun port tag n data s form short message payload serves ready idle => hostWrite_message tag serves form short message payload ready idle,
    fun port tag v s serves => ⟨hostWrite_plain tag serves v, hostWrite_acting tag serves v⟩,
    fun port tag a len s form serves => ⟨exec_hostRead_formed tag serves form, fun staging => s.windowBytes_staging staging form⟩,
    fun port tag a len data s => ⟨fun drops => ⟨exec_hostRead_dropped tag drops, exec_hostWrite_dropped tag drops⟩, fun serves form => ?read,
      fun serves form => ?write⟩⟩
  case read => exact ⟨_, _, exec_hostRead_stray tag serves form, leBytes_length _ _, rfl⟩
  case write =>
    obtain ⟨u, run, stray⟩ := s.strayWrite_stray port.val tag a data.length
    refine ⟨_, (exec_hostWrite_stray tag serves form).trans (congrArg _ run), ?_, stray.regs⟩
    rw [State.answer, stray.only]

end Sys2Proof.Machine
end
